-- ==== Sys2Proof/Word.lean ====
section
/-! DEFINITION. The word types, the canonical sparse map in which every table, memory and register
space is held, and bit and byte helpers on lists of bytes. -/

namespace Sys2Proof

/-- A byte as the part holds it. -/
abbrev Byte := BitVec 8

/-- A 32-bit register word (R10: registers are 32 bits). -/
abbrev Word := BitVec 32

/-- A sparse table: key and value pairs, keys strictly rising, no pair equal to the default of
its key.  Equal tables are then equal lists. -/
abbrev SMap (α : Type) := List (Nat × α)

namespace SMap

/-- The value at key `k`; an unlisted key reads as its default `d k`. -/
def get {α : Type} (d : Nat → α) : SMap α → Nat → α
  | [], k => d k
  | (k', v) :: m, k => if k = k' then v else get d m k

/-- Insert a pair (never the default value) at its place in the order. -/
def insert {α : Type} (k : Nat) (v : α) : SMap α → SMap α
  | [] => [(k, v)]
  | (k', v') :: m =>
    if k < k' then (k, v) :: (k', v') :: m
    else if k = k' then (k, v) :: m
    else (k', v') :: insert k v m

/-- Remove the pair of key `k`, so that `k` reads as its default again. -/
def erase {α : Type} (k : Nat) : SMap α → SMap α
  | [] => []
  | (k', v') :: m => if k = k' then erase k m else (k', v') :: erase k m

/-- Write `v` at key `k`; writing the default removes the pair. -/
def set {α : Type} [DecidableEq α] (d : Nat → α) (m : SMap α) (k : Nat) (v : α) : SMap α :=
  if v = d k then erase k m else insert k v m

/-- Keys strictly rising, all of them above `lo`, and no pair equal to its default. -/
def wfFrom {α : Type} [DecidableEq α] (d : Nat → α) : Nat → SMap α → Bool
  | _, [] => true
  | lo, (k, v) :: m => decide (lo ≤ k) && decide (v ≠ d k) && wfFrom d (k + 1) m

/-- The canonical form. -/
def wf {α : Type} [DecidableEq α] (d : Nat → α) (m : SMap α) : Bool := wfFrom d 0 m

end SMap

/-- The natural number that the big-endian bytes spell, most significant byte first. -/
def beNat : List Byte → Nat
  | [] => 0
  | b :: bs => b.toNat * 256 ^ bs.length + beNat bs

/-- The natural number that the little-endian bytes spell, least significant byte first. -/
def leNat : List Byte → Nat
  | [] => 0
  | b :: bs => b.toNat + 256 * leNat bs

/-- The `n` little-endian bytes of `v`. -/
def leBytes : Nat → Nat → List Byte
  | 0, _ => []
  | n + 1, v => BitVec.ofNat 8 v :: leBytes n (v / 256)

/-- The `n` big-endian bytes of `v`. -/
def beBytes (n v : Nat) : List Byte := (leBytes n v).reverse

/-- `n` bytes of `bs` from byte `i`, zeros beyond its end. -/
def slice (bs : List Byte) (i n : Nat) : List Byte :=
  let t := (bs.drop i).take n
  t ++ List.replicate (n - t.length) 0#8

/-- Bits `i` to `j` of a big-endian header, bit 0 the most significant bit of byte 0 (R10).  Bits beyond the end
of a truncated header read 0 (the model's choice, log entry 190). -/
def hbits (bs : List Byte) (i j : Nat) : Nat :=
  let first := i / 8
  let n := j / 8 - first + 1
  (beNat (slice bs first n) / 2 ^ (7 - j % 8)) % 2 ^ (j - i + 1)

/-- `bs` with the bytes from `i` on replaced by `v`. -/
def patch (bs : List Byte) (i : Nat) (v : List Byte) : List Byte :=
  bs.take i ++ v ++ bs.drop (i + v.length)

/-- Bit `i` of a natural number. -/
def nbit (v i : Nat) : Nat := v / 2 ^ i % 2

/-- The field of `v` from bit `lo` up to bit `hi`. -/
def nfield (v hi lo : Nat) : Nat := v / 2 ^ lo % 2 ^ (hi - lo + 1)

/-- The two's complement reading of the low `w` bits of `v`. -/
def toSigned (w v : Nat) : Int :=
  let u := v % 2 ^ w
  if u < 2 ^ (w - 1) then (u : Int) else (u : Int) - (2 ^ w : Nat)

/-- The `w`-bit two's complement spelling of `i`, wrapping. -/
def ofSigned (w : Nat) (i : Int) : Nat := (i % ((2 ^ w : Nat) : Int)).toNat

/-- `i` held between `lo` and `hi`. -/
def clampInt (lo hi i : Int) : Int := if i < lo then lo else if hi < i then hi else i

/-- The number of 1 bits among the low `n` bits of `v`. -/
def popcount : Nat → Nat → Nat
  | 0, _ => 0
  | n + 1, v => v % 2 + popcount n (v / 2)

/-- `v` rounded up to whole multiples of `k`, counted in units of `k`. -/
def ceilDiv (v k : Nat) : Nat := (v + k - 1) / k

end Sys2Proof
end

