-- ==== Sys2Proof/Syntax.lean ====
section
/-! DEFINITION. The commands of the block, one constructor per row of the opcode table, with the
operands each carries: addresses, values, frames, and the facts of the outside world (readings,
answers of modules, check results) that the command reports. -/

namespace Sys2Proof

/-- An agent that reaches BAR0 (R395): 0 PCIe, 1 Rill, 2 SPC, 3 TAP. -/
abbrev Agent := Fin 4

/-- A port, named by its first lane (R11). -/
abbrev PortIx := Fin 1024

/-- A virtual channel (R11). -/
abbrev Vc := Fin 8

/-- A Basin (R11). -/
abbrev BasinIx := Fin 50

/-- What the sweep of one ring read (R324): the ring entry's index, and each local maximum of its monitor, refined:
heater code, lowest first, and power in 0.01 dBm. -/
structure RingFind where
  ring : Fin 2048
  peaks : List (BitVec 12 × BitVec 16)
  deriving DecidableEq, Repr


/-- What decoding a codeword of stacked memory found (R281); `miscorrected` is what 5 or more byte
errors may give (R281), with the data that the decoder returned. -/
inductive CwFind where
  | corrected
  | address
  | failed
  | miscorrected (data : List (BitVec 8))
  deriving DecidableEq, Repr

/-- Two-operand operations of the scalar class (R237: integer, logic, shift, compare). -/
inductive SaluBin where
  | add | sub | mul | and_ | or_ | xor_ | shl | shr | sar | eq | ne | lt | ltu
  deriving DecidableEq, Repr

/-- Operations of SALU: `imm` takes EXT, sign-extended, in place of register B. -/
inductive SaluOp where
  | bin (op : SaluBin) (imm : Bool)
  | not_
  | movi
  deriving DecidableEq, Repr

/-- Operations of SBR but for the return of an invocation: branches and a call by EXT, and the branch to register A,
which returns from a call. -/
inductive SbrOp where
  | jump | ifZero | ifNonzero | call | back
  deriving DecidableEq, Repr

/-- The atomics of R285. -/
inductive AtomicOp where
  | fadd | faddf | swap | cas | fmin | fmax
  deriving DecidableEq, Repr

/-- Operations of SMEM: sizes 1, 2, 4 and 8 bytes. -/
inductive SmemOp where
  | load (size : Fin 4) (signed : Bool)
  | store (size : Fin 4)
  | atomic (op : AtomicOp) (wide : Bool)
  deriving DecidableEq, Repr

/-- Operations of VFP. -/
inductive VfpOp where
  | add | sub | mul | fma | min | max | eq | lt | le | sqrt | div
  deriving DecidableEq, Repr

/-- Operations on integer lanes. -/
inductive VintBin where
  | add | sub | mul | and_ | or_ | xor_ | shl | shr | sar | min | max | minu | maxu | eq | lt | ltu
  deriving DecidableEq, Repr

/-- An operation of VINT with its lane size: 8, 16, 32 or 64 bits. -/
structure VintOp where
  op : VintBin
  lane : Fin 4
  deriving DecidableEq, Repr

/-- Operations of VMEM: gather and scatter by lanes of 4 or 8 bytes; the memory-side add of one register. -/
inductive VmemOp where
  | load | store
  | gather (wide : Bool)
  | scatter (wide : Bool)
  | add (fmt : Fin 16)
  deriving DecidableEq, Repr

/-- Operations of VPERM. -/
inductive VpermOp where
  | broadcast | permute | extract | insert | hadd | hmin
  deriving DecidableEq, Repr

/-- Operations of SYNC. -/
inductive SyncOp where
  | fence | wait | barrier
  deriving DecidableEq, Repr

/-- The scalar registers from which a matrix instruction takes addresses, strides and counts (R246). -/
structure MtxRegs where
  tile : Fin 32
  tileStride : Fin 32
  a : Fin 32
  aStride : Fin 32
  b : Fin 32
  bStride : Fin 32
  dst : Fin 32
  dstStride : Fin 32
  count : Fin 32
  deriving DecidableEq, Repr

/-- A core of a Basin (R227). -/
abbrev CoreIx := Fin 24

/-- A codeword that arrived with errors (R347): each symbol that differs from the one sent, by its place in the order
of transmission, with what was added to it; and whether it carries a symbol of the frame that the command brings. -/
structure CwRx where
  errors : List (Fin 544 × BitVec 10)
  hit : Bool
  deriving DecidableEq, Repr

/-- The codewords that arrived on one lane of a port (R347, R370): how many without error, and the others. -/
structure LaneFec where
  lane : Fin 8
  clean : Nat
  bad : List CwRx
  deriving DecidableEq, Repr

/-- An application that a module advertises (R366): its code, whether its host interface is the C2M one of R343, its
host lanes, and the host lanes at which it may start, bit 0 for the first. -/
structure ModuleApp where
  code : Fin 16
  c2m : Bool
  lanes : Fin 9
  starts : BitVec 8
  deriving DecidableEq, Repr

/-- What a module advertises (R366, R367): CMIS major revision, maximum power in 0.25 W units, applications. -/
structure ModuleFacts where
  major : BitVec 4
  power : BitVec 8
  apps : List ModuleApp
  deriving DecidableEq, Repr

/-- What a module reports when it is read (R366): its state machine, the data path state of its host lanes, lowest
first, and its flag bytes. -/
structure ModuleRead where
  state : BitVec 3
  paths : List (BitVec 4)
  flags : List (BitVec 8)
  deriving DecidableEq, Repr

/-- A module cage (R342). -/
abbrev CageIx := Fin 128

/-- A pin's settings in a channel's PHY (R295): read strobe delay and write delay, from −32 to +31 steps of 1/64 UI, and
read reference and write voltage, from 45 % to 76 % of VDDQ. -/
structure PinSet where
  rdDelay : Fin 64 := 32
  rdRef : Fin 32 := 0
  wrDelay : Fin 64 := 32
  wrRef : Fin 32 := 0
  deriving DecidableEq, Repr

/-- What a margin procedure measured on one channel (R295): smallest widths and heights, the worst pin, whether the
verification found an error, and by pin the centre that a FULL one found. -/
structure MarginRead where
  rdW : BitVec 8
  rdH : BitVec 8
  wrW : BitVec 8
  wrH : BitVec 8
  pin : Fin 64
  errors : Bool
  pins : List PinSet
  deriving DecidableEq, Repr

/-- What an Annealer run read (R469): the shifts of ring-oscillator monitors, the canary slack of islands (an unlisted
monitor or island gave no reading), the SCAN results, and the regulators that did not acknowledge (R541). -/
structure AnnealFacts where
  ro : List (Fin 256 × BitVec 16)
  slack : List (Fin 197 × BitVec 16)
  scans : List (Fin 512 × MarginRead)
  noAck : List (Fin 11)
  deriving DecidableEq, Repr

/-- What start-up met outside the logic: the margin results of step 8 (the common one, and those that
differ), arrays that passed step 9, what the Annealer read in step 12, and the regulators that did not
acknowledge in step 7. -/
structure StartFacts where
  margin : MarginRead
  margins : List (Fin 512 × MarginRead)
  arraysOk : BitVec 50
  anneal : AnnealFacts
  noAck : List (Fin 11)
  deriving DecidableEq, Repr

/-- What the PCIe configuration space of the endpoint holds that can change (R396): bus mastering enabled, the maximum
payload and read request sizes in bytes, and the uncorrectable and correctable status of its error reporting. -/
structure PcieCfg where
  busMaster : Bool := false
  payload : Nat := 128
  readReq : Nat := 512
  uncorrectable : BitVec 32 := 0
  correctable : BitVec 32 := 0
  deriving DecidableEq, Repr

/-- Where a service request comes from (R427, R430): a mailbox, or the front of the fabric queue. -/
inductive SvcSrc where
  | mailbox (m : Fin 8)
  | fabric
  deriving DecidableEq, Repr

/-- The commands of the KDS-5120 (spec/opcode_table.json). -/
inductive Instr where
  /-- LINK_FRAME_RX (R350): A frame arrives whole on a port; the part decodes FEC, checks the link CRC, counts liveness and passes the frame to link control or to the ingress pipeline. -/
  | linkFrameRx (port : PortIx) (bytes : List (BitVec 8)) (fec : List LaneFec)
  /-- CREDIT_RX (R352): A CREDIT link control frame arrives and the sender sets S from the cumulative count, clamping it to C. -/
  | creditRx (port : PortIx)
  /-- CENSUS_RX (R45): A CENSUS marker arrives; the receiver compares counts and repairs leaked credit or records a fault. -/
  | censusRx (port : PortIx)
  /-- DOWN_RX (R356): A DOWN frame from the peer makes the port leave UP with reason 7. -/
  | downRx (port : PortIx)
  /-- ADVERT_RX (R358): A peer ADVERT is judged; it is acknowledged, or refused with a DOWN frame. -/
  | advertRx (port : PortIx)
  /-- ADVACK_RX (R359): An ADVACK of the part's current ADVERT arrives, which completes the exchange. -/
  | advackRx (port : PortIx)
  /-- LINK_LC_RSV (R351): A link control frame of reserved type arrives and is discarded and counted. -/
  | linkLcRsv (port : PortIx)
  /-- CREDIT_TX (R352): The receiver sends a CREDIT frame after 16 cells returned, after 200 ns of unsent advance, after 10 µs, or after a census repair. -/
  | creditTx (port : PortIx) (vc : Vc)
  /-- CENSUS_TX (R354): The census period of a VC expires and the sender inserts a CENSUS marker that carries its consumed count. -/
  | censusTx (port : PortIx) (vc : Vc)
  /-- ADVERT_TX (R359): In state ADVERT the port sends its ADVERT every 10 µs. -/
  | advertTx (port : PortIx)
  /-- TX_FRAME_DONE (R352): The last block of a sent frame leaves; the consumed count advances and the replica is released. -/
  | txFrameDone (port : PortIx) (bad : List (Fin 37))
  /-- PORT_ENABLE (R359): A write of PORTCFG.EN = 1 moves the port from DISABLED to DOWN and starts bring-up. -/
  | portEnable (agent : Agent) (port : PortIx)
  /-- PORT_DISABLE (R356): A write of PORTCFG.EN = 0 makes the port leave UP with reason 1 and go to DISABLED, emptying the retrain count. -/
  | portDisable (agent : Agent) (port : PortIx)
  /-- BRINGUP_ATTEMPT (R359): A bring-up attempt starts after the 100 ms hold-off, once the port account is empty, or ends in DOWN with reason 11. -/
  | bringupAttempt (port : PortIx)
  /-- SIGNAL_ACQUIRED (R359): Every lane of the port shows SIGNAL and the port moves to ALIGN. -/
  | signalAcquired (port : PortIx) (eyes : List (BitVec 8 × BitVec 8))
  /-- ALIGN_ACHIEVED (R359): Locks have held with errors in limit for 1 ms and the port moves to ADVERT. -/
  | alignAchieved (port : PortIx) (skew : List (BitVec 8))
  /-- BRINGUP_TIMEOUT (R359): A bring-up stage runs out of time and the port returns to DOWN with reason 2, 3, 4 or 5. -/
  | bringupTimeout (port : PortIx) (locked : Bool)
  /-- LANE_LOS (R356): Loss of signal on a lane makes its port leave UP with reason 2. -/
  | laneLos (lane : PortIx)
  /-- LOCK_LOSS (R356): Loss of block or marker lock makes the port leave UP with reason 3. -/
  | lockLoss (lane : PortIx)
  /-- UCW_INTERVAL (R369): A fixed 1 ms interval ends; uncorrectable codewords above UCW_LIMIT take the port down, and a non-zero count draws a health penalty. -/
  | ucwInterval (port : PortIx) (idle : List LaneFec)
  /-- RETRAIN_ENTRY_EXPIRE (R361): An entry into DOWN passes out of the 10 s retrain window. -/
  | retrainEntryExpire (port : PortIx)
  /-- PORT_RETRAIN (R369): PORTCTL.RETRAIN makes the port leave UP with reason 9. -/
  | portRetrain (agent : Agent) (port : PortIx)
  /-- PORT_CLEAR_FAIL (R361): PORTCTL.CLEAR_FAIL moves a FAILED port to DOWN and empties its retrain count. -/
  | portClearFail (agent : Agent) (port : PortIx)
  /-- LANECFG_WRITE (R362): A LANECFG write sets loopback or PRBS, which puts the port in TEST, or sets polarity; it is refused while EN is 1. -/
  | lanecfgWrite (agent : Agent) (lane : PortIx) (value : BitVec 32)
  /-- GROUP_RETURN_RELEASE (R121): The substitute has sent its queue up to the recorded tail, so the returning member's queue may send. -/
  | groupReturnRelease (port : PortIx) (queue : Fin 64)
  /-- CAGE_INSERT (R367): ModPrsL is asserted and presence debounce starts. -/
  | cageInsert (cage : CageIx)
  /-- CAGE_DEBOUNCE (R367): The 50 ms debounce ends; the cage enters RESET and pulses ResetL. -/
  | cageDebounce (cage : CageIx)
  /-- CAGE_REMOVE (R367): Module removal makes every port of the octet leave UP with reason 10, and the cage becomes EMPTY. -/
  | cageRemove (cage : CageIx)
  /-- MODULE_READY (R367): ModuleReady is seen; the part reads identity and power class and stages applications, or refuses the module. -/
  | moduleReady (cage : CageIx) (facts : ModuleFacts)
  /-- DATAPATH_READY (R367): Data paths are activated and the cage becomes READY, so that enabled ports start bring-up. -/
  | datapathReady (cage : CageIx)
  /-- CMIS_TIMEOUT (R367): A two-wire transaction is not acknowledged in 10 ms; it is retried, or the cage goes to FAULT and the module is reset. -/
  | cmisTimeout (cage : CageIx) (acked : Fin 8)
  /-- CMIS_MONITOR_POLL (R367): Every 1 s the part reads the module monitors. -/
  | cmisMonitorPoll (cage : CageIx) (read : ModuleRead)
  /-- CAGE_INTL (R367): An assertion of IntL makes the part read the module flags. -/
  | cageIntl (cage : CageIx) (cleared : Bool) (read : ModuleRead)
  /-- CAGE_EN_WRITE (R369): A CAGECFG.EN write holds ResetL asserted, or releases the cage for management. -/
  | cageEnWrite (agent : Agent) (cage : CageIx) (value : BitVec 32)
  /-- CAGEACC_GO (R368): The host requests a module memory access, which is checked and queued for the SPC. -/
  | cageaccGo (agent : Agent) (cage : CageIx) (value : BitVec 32)
  /-- CAGEACC_DONE (R368): The module access ends and CAGEACCST reports OK or its code. -/
  | cageaccDone (cage : CageIx) (ack : Bool) (data : List (BitVec 8))
  /-- INGRESS_PACKET (R88): A packet takes a lookup slot and is parsed, header-checked, looked up, learned from, coloured and offered to the Cistern. -/
  | ingressPacket (pipe : Fin 32) (late : Bool)
  /-- WEIR_ETH_DEBIT (R150): When an Ethernet frame ends, its policer buckets are debited by its stored bytes. -/
  | weirEthDebit (port : PortIx)
  /-- LEARN_INSERT (R98): The table writer takes a new-sender insert and places it with relocation, in the stash, or refuses it. -/
  | learnInsert (pipe : Fin 32)
  /-- LEARN_MOVE (R104): The table writer takes a move request and updates the results, or damps the move at MOVE_LIMIT. -/
  | learnMove (pipe : Fin 32)
  /-- AGE_SWEEP_VISIT (R106): The sweeper visits an entry, clears its hit bit, resets MOVES, and ages or removes it. -/
  | ageSweepVisit
  /-- FLUSH (R108): FWDLRN.FLUSH GO starts removing learned entries in SCOPE. -/
  | flush (agent : Agent) (scope : Fin 4) (arg : BitVec 16)
  /-- FLUSH_DONE (R108): The flush has visited every entry and FLUSH_BUSY clears. -/
  | flushDone
  /-- MC_REPLICATE (R126): The replicator walks a descriptor chain and writes, omits or skips each leaf, managing the walk reference. -/
  | mcReplicate
  /-- EPOCH_COPY (R111): A COPY starts copying the active bank into the free bank, and STATE becomes COPYING. -/
  | epochCopy (agent : Agent)
  /-- EPOCH_COPY_DONE (R111): The bank copy completes and STATE returns to STABLE. -/
  | epochCopyDone
  /-- EPOCH_DRAIN_EXPIRE (R111): No packet has named OLD for DRAIN_US, so OLD becomes FREE and STATE becomes STABLE. -/
  | epochDrainExpire
  /-- EPOCH_FREE_NOW (R111): FWDEPOCH.CTRL.FREE_NOW frees OLD at once. -/
  | epochFreeNow (agent : Agent)
  /-- SKIP_COUNTER_CLEAR (R128): A direct write of 0 clears a descriptor skip counter; a non-zero value is rejected. -/
  | skipCounterClear (agent : Agent) (desc : BitVec 16) (nolink : Bool) (value : BitVec 32)
  /-- SCHED_SELECT (R148): A port scheduler picks the next eligible queue by strict rank and then DRR, and starts the head packet. -/
  | schedSelect (port : PortIx)
  /-- LAUNCH_DUE (R155): Device time reaches the launch time of the head of a LAUNCH queue, which becomes eligible. -/
  | launchDue (port : PortIx) (queue : Fin 64)
  /-- QUEUE_STALL (R33): A queue's stall clock expires; its packets are dropped, cells released, the event logged and the port reported. -/
  | queueStall (port : PortIx) (queue : Fin 64)
  /-- CISTERN_SWEEP (R47): A sweep walk completes; orphan cells are freed, and free cells reached or low reference counts are reported as faults. -/
  | cisternSweep
  /-- RESULT_HANDOFF (R130): The result writer obtains VC5 pool cells, after waiting if need be, and hands a RESULT, RECORD or completion record. -/
  | resultHandoff
  /-- ORIGIN_POOL_GRANT (R130): A packet that the SPC or the time block originates obtains origin pool cells, after waiting if need be. -/
  | originPoolGrant (launch : Option (BitVec 64))
  /-- COL_MATCH (R172): The matcher takes one chunk header and drops, falls back, instantiates or accepts it by the ordered checks. -/
  | colMatch
  /-- BSN_ACCUMULATE (R174): A Basin accumulate item folds a delivered chunk into its slot images, or issues spill stores and adds, and frees the chunk's credit. -/
  | bsnAccumulate (basin : BasinIx)
  /-- MARKER_AT_BASIN (R52): A fence or close marker reaches a Basin, which then counts the member as skipped or closes incomplete indices. -/
  | markerAtBasin (basin : BasinIx)
  /-- BSN_FINISH (R174): A finish item rounds a complete index once into OFMT and stages its result. -/
  | bsnFinish (basin : BasinIx) (bad : Bool)
  /-- KERNEL_INVOKE (R233): The dispatcher starts a kernel invocation for a finished UPDATE index once CONC and the array allow. -/
  | kernelInvoke (basin : BasinIx)
  /-- KERNEL_RETURN (R233): An invocation returns; status 0 hands its output as the RESULT, and any other outcome faults. -/
  | kernelReturn (basin : BasinIx) (core : CoreIx) (ecc budget : Bool)
  /-- CTX_DEADLINE (R176): A context's deadline expires; the matcher stops accepting and places close markers, or a NORES context goes to DONE. -/
  | ctxDeadline (ctx : Fin 16384)
  /-- CTX_COMPLETE (R178): A CLOSING context has finished all work and goes to DONE, building and handing its completion record. -/
  | ctxComplete (ctx : Fin 16384)
  /-- CTX_LINGER_EXPIRE (R171): LINGER_US has passed in DONE; the position returns to IDLE with W11 advanced by WIN. -/
  | ctxLingerExpire (ctx : Fin 16384)
  /-- SLOT_RELEASE_MSG (R53): The ledger processes a Basin release message and frees or returns the context's slot bytes and arrival blocks. -/
  | slotReleaseMsg
  /-- SLOT_LEDGER_CHECK (R53): Every 1 ms the SPC compares the ledger with the Basins, reclaiming or retiring slot bytes. -/
  | slotLedgerCheck
  /-- COLQ_TAIL_WRITE (R188): A write of a command queue's TAIL submits its commands for processing. -/
  | colqTailWrite (agent : Agent) (queue : Fin 256) (tail : BitVec 32)
  /-- COMM_ADMIT (R190): The command creates a communicator from staging, with its window entries, member map and any reservations. -/
  | commAdmit (queue : Fin 256)
  /-- COMM_TEARDOWN (R192): The command sets the communicator TEARING, moves its entries to DRAINING and optionally aborts open contexts. -/
  | commTeardown (queue : Fin 256)
  /-- CTX_ALLOC (R190): The command opens the position for a CSEQ with the staged parameters. -/
  | ctxAlloc (queue : Fin 256)
  /-- CTX_ABORT (R190): The command closes an OPEN or NORES context as ABORTED. -/
  | ctxAbort (queue : Fin 256)
  /-- MEMBER_FENCE (R175): The command fences or unfences a member of a communicator. -/
  | memberFence (queue : Fin 256)
  /-- TEMPLATE_SET (R190): The command replaces the TEMPLATE and grows RESERVED position reservations, all or none. -/
  | templateSet (queue : Fin 256)
  /-- COL_CMD_INVALID (R190): A command entry with an unknown opcode completes rejected with REJ_RANGE. -/
  | colCmdInvalid (queue : Fin 256)
  /-- TEARDOWN_RELEASE (R192): The communicator's last chunk and FALLBACK packet have left, so the Basins send release messages. -/
  | teardownRelease (comm : Fin 4096)
  /-- TEARDOWN_DONE (R192): Every release has been processed; the communicator's resources return to their pools and TORN_DONE is set. -/
  | teardownDone (comm : Fin 4096)
  /-- INSN_SALU (R237): A scalar integer or logic instruction executes. -/
  | insnSalu (basin : BasinIx) (core : CoreIx) (op : Option SaluOp)
  /-- INSN_SBR (R237): A branch or call instruction executes. -/
  | insnSbr (basin : BasinIx) (core : CoreIx) (op : Option SbrOp)
  /-- INSN_SMEM (R237): A scalar load or store executes, faulting on alignment or bounds; `ecc`: a load from private or
  shared SRAM found uncorrectable data. -/
  | insnSmem (basin : BasinIx) (core : CoreIx) (op : Option SmemOp) (ecc : Bool)
  /-- INSN_VFP (R237): A vector FP32 arithmetic instruction executes. -/
  | insnVfp (basin : BasinIx) (core : CoreIx) (op : Option VfpOp)
  /-- INSN_VINT (R237): A vector integer or bitwise instruction executes. -/
  | insnVint (basin : BasinIx) (core : CoreIx) (op : Option VintOp)
  /-- INSN_VMEM (R237): A vector load, store, gather or scatter executes; `ecc` as for INSN_SMEM. -/
  | insnVmem (basin : BasinIx) (core : CoreIx) (op : Option VmemOp) (ecc : Bool)
  /-- INSN_VCVT (R239): A convert instruction converts a portion of elements between formats. -/
  | insnVcvt (basin : BasinIx) (core : CoreIx)
  /-- INSN_VPERM (R237): A lane move, broadcast or horizontal reduction executes. -/
  | insnVperm (basin : BasinIx) (core : CoreIx) (op : Option VpermOp)
  /-- INSN_SYNC (R238): A fence, access wait or barrier instruction executes. -/
  | insnSync (basin : BasinIx) (core : CoreIx) (op : Option SyncOp)
  /-- INSN_VXA (R237): A firmware exact-accumulate instruction executes. -/
  | insnVxa (basin : BasinIx) (core : CoreIx)
  /-- INSN_SYS (R237): A firmware dispatcher or bridge control instruction executes. -/
  | insnSys (basin : BasinIx) (core : CoreIx)
  /-- MLOAD (R246): The matrix array is taken and its stationary tile loaded, or its accumulators cleared.  Here and in
  the other matrix instructions `legal` says that OP is one of the class and that no reserved field is set. -/
  | mload (basin : BasinIx) (core : CoreIx) (legal : Bool) (fmt : Fin 16) (choice : Fin 3) (regs : MtxRegs)
  /-- MSTREAM (R246): Rows or steps are streamed through the loaded array. -/
  | mstream (basin : BasinIx) (core : CoreIx) (legal : Bool) (acc : Bool) (regs : MtxRegs)
  /-- MDRAIN (R246): The OS accumulator rows are written to the destination. -/
  | mdrain (basin : BasinIx) (core : CoreIx) (legal : Bool) (acc : Bool) (regs : MtxRegs)
  /-- MFILL (R246): The array loads, streams one fill, writes and releases, as one instruction. -/
  | mfill (basin : BasinIx) (core : CoreIx) (legal : Bool) (fmt : Fin 16) (choice : Fin 3) (acc : Bool) (regs : MtxRegs)
  /-- MWAIT (R246): The core waits for the array to finish and reads its status. -/
  | mwait (basin : BasinIx) (core : CoreIx) (legal : Bool)
  /-- MREL (R246): Array ownership is released. -/
  | mrel (basin : BasinIx) (core : CoreIx) (legal : Bool)
  /-- MATRIX_DONE (R247): An asynchronous matrix operation completes. -/
  | matrixDone (basin : BasinIx) (fault : Bool)
  /-- DMA_START (R287): A DMA descriptor is checked whole and queued, returning a ticket. -/
  | dmaStart (basin : BasinIx) (core : CoreIx)
  /-- DMA_POLL (R287): The status of a DMA ticket is read. -/
  | dmaPoll (basin : BasinIx) (core : CoreIx)
  /-- DMA_WAIT (R287): The core waits for a DMA ticket to be done. -/
  | dmaWait (basin : BasinIx) (core : CoreIx)
  /-- DMA_DONE (R287): A DMA descriptor completes and its writes become visible. -/
  | dmaDone (basin : BasinIx) (ecc : Bool)
  /-- ARRAY_SELFTEST (R249): BSN.ATEST.GO, or start-up, starts the array self-test and the array goes to TESTING. -/
  | arraySelftest (agent : Agent) (basin : BasinIx) (startup : Bool)
  /-- ARRAY_SELFTEST_DONE (R248): The self-test ends and the array becomes READY or DISABLED, and a disabled array is added to the Cullet list. -/
  | arraySelftestDone (basin : BasinIx) (equal : Bool)
  /-- ARRAY_RETIRE (R250): BSN.ATEST.RETIRE disables the array and aborts the contexts that use it. -/
  | arrayRetire (agent : Agent) (basin : BasinIx)
  /-- BSN_CLK_TARGET (R268): A BSN.CLK.TARGET write requests a new Basin clock code. -/
  | bsnClkTarget (agent : Agent) (basin : BasinIx) (value : BitVec 32)
  /-- BSN_CLK_CHANGE (R268): A Basin clock change completes with voltage ordered first, and issue resumes at the new code. -/
  | bsnClkChange (basin : BasinIx)
  /-- KL_LOAD (R263): The kernel loader checks a staged user kernel against the allow-list and starts copying it. -/
  | klLoad (agent : Agent) (slot : Fin 256)
  /-- KL_LOAD_DONE (R263): The kernel load ends with its code in all Basins, or with a rejection code. -/
  | klLoadDone
  /-- KL_UNLOAD (R263): An unused kernel slot is unloaded and the code store compacted. -/
  | klUnload (agent : Agent) (slot : Fin 256)
  /-- RING_INJECT (R254): A packet enters a ring when the bubble rule and the arbiter allow. -/
  | ringInject (stop : Fin 66) (ring cls : Fin 2)
  /-- RING_DELIVER (R253): A ring packet is taken off at its destination stop. -/
  | ringDeliver (stop : Fin 66) (ring cls : Fin 2)
  /-- MEM_READ (R281): A channel performs a read, decoding and correcting or poisoning each codeword. -/
  | memRead (chan : Fin 512) (ix : Nat) (facts : List (Fin 64 × CwFind))
  /-- MEM_WRITE (R276): A channel performs a whole or partial write. -/
  | memWrite (chan : Fin 512) (ix : Nat) (facts : List (Fin 64 × CwFind))
  /-- MEM_ADD (R284): A channel performs a memory-side add request. -/
  | memAdd (chan : Fin 512) (ix : Nat) (facts : List (Fin 64 × CwFind))
  /-- MEM_FADD (R285): An integer fetch-and-add atomic executes. -/
  | memFadd (chan : Fin 512) (ix : Nat) (facts : List (Fin 64 × CwFind))
  /-- MEM_FADDF (R285): An FP32 fetch-and-add atomic executes. -/
  | memFaddf (chan : Fin 512) (ix : Nat) (facts : List (Fin 64 × CwFind))
  /-- MEM_SWAP (R285): A swap atomic executes. -/
  | memSwap (chan : Fin 512) (ix : Nat) (facts : List (Fin 64 × CwFind))
  /-- MEM_CAS (R285): A compare-and-swap atomic executes. -/
  | memCas (chan : Fin 512) (ix : Nat) (facts : List (Fin 64 × CwFind))
  /-- MEM_FMIN (R285): A signed minimum atomic executes. -/
  | memFmin (chan : Fin 512) (ix : Nat) (facts : List (Fin 64 × CwFind))
  /-- MEM_FMAX (R285): A signed maximum atomic executes. -/
  | memFmax (chan : Fin 512) (ix : Nat) (facts : List (Fin 64 × CwFind))
  /-- SCRUB_LINE (R288): The patrol scrubber reads a line and corrects what it finds. -/
  | scrubLine (chan : Fin 512) (facts : List (Fin 64 × CwFind))
  /-- ROW_REMAP_DONE (R290): The row copy is verified, the remap entry switches and held requests are released. -/
  | rowRemapDone (chan : Fin 512) (bank : Fin 64) (row : Fin 4096) (fail : Bool) (facts : List (Fin 64 × CwFind))
  /-- REPAIR_REQUEST (R299): MEMCFG.REPAIR GO requests a remap of a named row. -/
  | repairRequest (agent : Agent) (chan : Fin 512) (bank : Fin 64) (row : Fin 4096)
  /-- MAPREQ_GO (R299): MEMCFG.MAPREQ requests a map-out by host. -/
  | mapreqGo (agent : Agent) (channel : Bool) (chan : Fin 512) (bank : Fin 64)
  /-- MAPOUT_START (R292): No valid window overlaps the affected range, so the map-out starts; a channel map-out completes at once. -/
  | mapoutStart
  /-- BANK_MAPOUT_DONE (R294): The donor copy ends; BANKMAP, F, tail and capacity are updated and the bank is MAPPED_OUT. -/
  | bankMapoutDone
  /-- MARGIN_FULL (R295): A FULL margin freezes and drains the channel and sweeps its PHY settings. -/
  | marginFull (agent : Agent) (chan : Fin 512)
  /-- MARGIN_SCAN (R295): A SCAN measures the read eye on live traffic. -/
  | marginScan (agent : Agent) (chan : Fin 512)
  /-- MARGIN_DONE (R296): A margin ends with PASS, LOW or FAIL, and a FAIL requests a channel map-out. -/
  | marginDone (chan : Fin 512) (rdW rdH wrW wrH : BitVec 8) (pin : Fin 64) (errors : Bool) (pins : List PinSet)
  /-- ARB_GRANT (R298): An arbiter decision grants the highest-priority raised requester, round robin, once the current grant ends. -/
  | arbGrant (inst : Fin 777)
  /-- ARB_STARVE (R298): A requester waits STARVE_CLK clocks without a grant and sets its STARVE bit. -/
  | arbStarve (inst : Fin 777) (req : Fin 32)
  /-- APERTURE_READ (R300): A host read through the stacked-memory aperture is served or rejected. -/
  | apertureRead (agent : Agent) (offset : Fin 16777216) (len : Fin 4097)
  /-- APERTURE_WRITE (R300): A host write through the aperture is performed or rejected. -/
  | apertureWrite (agent : Agent) (offset : Fin 16777216) (data : List (BitVec 8))
  /-- GLASS_BOUNDARY (R318): A plane reaches a slot boundary; SOAs gate off, the mesh switches and the SOAs relight after 6 ns. -/
  | glassBoundary (plane : Fin 8)
  /-- GLASS_SWITCH (R320): An armed bank switch acts: the banks exchange roles and T_START restarts. -/
  | glassSwitch
  /-- GLASS_DRIVE_LOADED (R316): The idle bank's drive memory load completes and IDLE_READY is set. -/
  | glassDriveLoaded
  /-- GLASS_REALIGN_RESUME (R321): The planes resume at entry 0 from the first cycle start after the step. -/
  | glassRealignResume
  /-- GLASS_SEARCH (R324): GLCFG.SEARCH starts the resonance search of one fibre or of all fibres. -/
  | glassSearch (agent : Agent) (all : Bool) (fib : Fin 64)
  /-- GLASS_SEARCH_DONE (R324): Every ring has a final search state and the controller reaches READY. -/
  | glassSearchDone (finds : List RingFind)
  /-- NOLIGHT_RETRY (R324): Every 1 s a NOLIGHT ring and the rings after it are searched again. -/
  | nolightRetry
  /-- RING_LOCK_STEP (R325): Every 25 µs a locked ring corrects its heater from the monitor. -/
  | ringLockStep (ring : Fin 2048) (mon : BitVec 16)
  /-- RING_UNLOCK (R325): The monitor stays 3 dB low for 100 µs and a local search starts. -/
  | ringUnlock (ring : Fin 2048) (mon : BitVec 16)
  /-- RING_RELOCK (R325): The local search ends and the ring is LOCKED again, or a full search starts. -/
  | ringRelock (ring : Fin 2048) (heater : Option (BitVec 12)) (mon : BitVec 16)
  /-- GLASS_IN_LOS (R325): Input power falls below P_IN_LOS; the drop ring goes to HOLD and its paths go dark. -/
  | glassInLos (fibre : Fin 64) (lane : Fin 8) (power : BitVec 16)
  /-- GLASS_IN_RESTORE (R325): Input power returns and the held ring resumes LOCKED. -/
  | glassInRestore (fibre : Fin 64) (lane : Fin 8) (power : BitVec 16)
  /-- GLASS_POWER_UPDATE (R326): Every 1 ms the input and output power readings are updated. -/
  | glassPowerUpdate (inputs : List (Fin 512 × BitVec 16)) (outputs : List (Fin 576 × BitVec 16))
  /-- GLASS_BIAS_STEP (R328): Every 10 ms the IC and IB bias terms move by one code toward their targets. -/
  | glassBiasStep
  /-- GLASS_HEADROOM_LOW (R329): A plane's headroom stays below HR_MIG for 1 s; an automatic migration starts, or the condition is logged. -/
  | glassHeadroomLow (plane : Fin 9)
  /-- GLASS_OUT_LOW (R329): An output stays below target by OUT_LOW for 10 ms and is reported. -/
  | glassOutLow (output : Fin 576)
  /-- GLASS_MIG_GO (R331): GLMIG.CTRL GO starts the migration of a working plane to the spare. -/
  | glassMigGo (agent : Agent) (plane : Fin 9)
  /-- GLASS_MIG_ARMED (R331): After 20 ms of arming, the controller chooses the takeover boundary. -/
  | glassMigArmed
  /-- GLASS_MIG_DONE (R331): 1 ms after takeover the spare rings are locked and MIG_DONE is raised. -/
  | glassMigDone
  /-- GLASS_RETURN (R332): GLMIG.CTRL RETURN moves the served plane back at its next boundary 10 µs ahead. -/
  | glassReturn (agent : Agent)
  /-- TIME_LATCH (R374): TIME.LATCH.GO copies device time into the NOW registers. -/
  | timeLatch (agent : Agent)
  /-- TIME_SET (R375): TIME.CMD.SET steps device time to the SET value. -/
  | timeSet (agent : Agent)
  /-- TIME_ADJ (R375): TIME.CMD.ADJ steps device time by ADJ_NS. -/
  | timeAdj (agent : Agent)
  /-- TIME_FREQ_WRITE (R372): A write of TIME.FREQ in source FREE sets FREQ_ADJ. -/
  | timeFreqWrite (agent : Agent) (freq : BitVec 32)
  /-- TIME_SRC_WRITE (R376): A change of TIME.CTL.SRC resets the servo to ACQUIRE or FREE. -/
  | timeSrcWrite (agent : Agent) (ctl : BitVec 32)
  /-- HOST_SAMPLE (R376): A write of TIME.OFFS_FRAC in source HOST takes a servo sample. -/
  | hostSample (agent : Agent) (frac : BitVec 16)
  /-- SERVO_HOLDOVER (R377): No sample arrives for HOLD_MS and the servo enters HOLDOVER. -/
  | servoHoldover
  /-- PTP_SYNC_RX (R380): A Sync message on the slave port is timestamped and handed to the SPC. -/
  | ptpSyncRx
  /-- PTP_FOLLOW_UP_RX (R380): A Follow_Up for a two-step Sync is received. -/
  | ptpFollowUpRx
  /-- PTP_DELAY_REQ_RX (R384): A Delay_Req on a MASTER port is timestamped and answered with a Delay_Resp. -/
  | ptpDelayReqRx
  /-- PTP_DELAY_RESP_RX (R385): A Delay_Resp completes an exchange and the SPC writes an offset sample. -/
  | ptpDelayRespRx
  /-- PTP_ANNOUNCE_RX (R380): An Announce on the slave port is recorded for re-announcement. -/
  | ptpAnnounceRx
  /-- TIME_MSG_UNSUP (R380): An unsupported, wrong-domain, malformed or wrong-port TIME packet is dropped and counted. -/
  | timeMsgUnsup
  /-- PTP_SYNC_TX (R384): At each Sync interval a MASTER port sends a one-step Sync with its timestamp inserted. -/
  | ptpSyncTx (port : PortIx)
  /-- PTP_DELAY_REQ_TX (R384): The slave port sends a Delay_Req with its timestamp inserted. -/
  | ptpDelayReqTx
  /-- PTP_ANNOUNCE_TX (R380): Once a second each MASTER port sends an Announce. -/
  | ptpAnnounceTx (port : PortIx)
  /-- PPS_OUT_EDGE (R386): Device time reaches a whole second plus the offset and PPS_OUT rises. -/
  | ppsOutEdge
  /-- PPS_OUT_FALL (R386): WIDTH_US after the edge PPS_OUT falls. -/
  | ppsOutFall
  /-- PPS_IN_EDGE (R387): A PPS_IN edge is timestamped, or ignored as a glitch, and gives a sample in source PPS. -/
  | ppsInEdge
  /-- TXN_TIME_FIRE (R388): Device time reaches T of a transaction armed in mode TIME and its commit runs. -/
  | txnTimeFire
  /-- REGISTER_WRITE (R403): A write to a register or entry that has no row of its own is validated and applied, or rejected whole and recorded. -/
  | registerWrite (agent : Agent) (addr : BitVec 28) (value : BitVec 32) (be : BitVec 4)
  /-- FLR (R399): A Function Level Reset clears the endpoint's configuration, MSI-X state and outstanding PCIe requests. -/
  | flr
  /-- TXN_CLAIM (R408): TXCTL CLAIM moves a FREE slot to OPEN for the agent. -/
  | txnClaim (agent : Agent) (slot : Fin 16) (part : BitVec 16)
  /-- TXN_VALIDATE (R409): TXCTL VALIDATE starts validation of the staged records and takes ownership of their units. -/
  | txnValidate (agent : Agent) (slot : Fin 16)
  /-- TXN_VALIDATE_DONE (R409): Validation ends with the slot VALID, or FAILED with its code and record. -/
  | txnValidateDone (slot : Fin 16)
  /-- TXN_COMMIT_NOW (R412): COMMIT with MODE NOW schedules the transaction to apply within 1 µs. -/
  | txnCommitNow (agent : Agent) (slot : Fin 16)
  /-- TXN_COMMIT_FLIP (R412): COMMIT with MODE FLIP arms the transaction for the next route-epoch flip. -/
  | txnCommitFlip (agent : Agent) (slot : Fin 16)
  /-- TXN_COMMIT_TIME (R412): COMMIT with MODE TIME arms the transaction for device time T. -/
  | txnCommitTime (agent : Agent) (slot : Fin 16)
  /-- TXN_APPLY (R414): In its commit clock a transaction passes the commit check and applies all its writes, or fails. -/
  | txnApply (slot : Fin 16)
  /-- TXN_RELEASE (R408): TXCTL RELEASE frees the slot, abandoning an uncommitted transaction. -/
  | txnRelease (agent : Agent) (slot : Fin 16)
  /-- IREARM (R417): MGMT.IREARM signals a vector again if it is still pending. -/
  | irearm (agent : Agent) (vector : Fin 64)
  /-- MSIX_UNMASK (R417): Unmasking a vector whose pending bit is set sends its message. -/
  | msixUnmask (agent : Agent) (vector : Fin 64)
  /-- RILL_READ (R422): A Rill READ addressed to this part is performed and answered. -/
  | rillRead (frame : Option (List (BitVec 8)))
  /-- RILL_WRITE (R422): A Rill WRITE is performed and answered, or performed without answer when broadcast. -/
  | rillWrite (frame : Option (List (BitVec 8)))
  /-- RILL_PING (R422): A Rill PING is answered. -/
  | rillPing (frame : Option (List (BitVec 8)))
  /-- RILL_ENUM (R423): An ENUM gives an unaddressed part whose TOK_IN is asserted its address, and TOK_OUT is asserted. -/
  | rillEnum (frame : Option (List (BitVec 8))) (token lock : Bool)
  /-- RILL_CLEAR (R423): A CLEAR sets the address to 0 and deasserts TOK_OUT. -/
  | rillClear (frame : Option (List (BitVec 8)))
  /-- RILL_REPEAT (R421): A frame not consumed by this part is repeated downstream. -/
  | rillRepeat (frame : Option (List (BitVec 8)))
  /-- RILL_CHECK_ERR (R421): A Rill frame with a bad check is discarded and counted. -/
  | rillCheckErr (frame : Option (List (BitVec 8))) (lock : Bool)
  /-- RILL_OVERRUN (R421): A Rill frame that finds the repeat buffer full is discarded and counted. -/
  | rillOverrun (frame : List (BitVec 8))
  /-- FABRIC_REQUEST (R430): A CTRL packet for a spine FUNC enters the SPC fabric queue, or is dropped when the queue is full. -/
  | fabricRequest
  /-- INFO (R431): The INFO service returns the part's identity, firmware versions, mode and uptime. -/
  | info (src : SvcSrc)
  /-- ECHO (R429): The ECHO service returns the request body unchanged. -/
  | echo (src : SvcSrc)
  /-- SVC_UNKNOWN (R428): A request with an unknown SVC, bad length or wrong path is answered with its code. -/
  | svcUnknown (src : SvcSrc)
  /-- LAUNCH (R449): The LAUNCH service reports the state of one context key. -/
  | launch (src : SvcSrc)
  /-- HEALTH_READ (R454): The HEALTH_READ service returns leaf, Basin, fibre or stack health records. -/
  | healthRead (src : SvcSrc)
  /-- FENCE (R453): The FENCE service fences a leaf by management, entering the budget unless RESTORE is set. -/
  | fence (mb : Fin 8)
  /-- UNFENCE (R442): The UNFENCE service clears a leaf's fence and optionally resets its score. -/
  | unfence (mb : Fin 8)
  /-- FENCE_CONFIRM (R444): The FENCE_CONFIRM service applies a held recommendation as a fence. -/
  | fenceConfirm (mb : Fin 8)
  /-- PTP_DEFAULTDS (R431): The PTP_DEFAULTDS service stages the Announce dataset fields. -/
  | ptpDefaultds (mb : Fin 8)
  /-- ANNEAL_RUN (R477): The ANNEAL_RUN service starts an Annealer run and answers when it ends. -/
  | annealRun (mb : Fin 8)
  /-- ANNEAL_READ (R477): The ANNEAL_READ service returns Annealer history records. -/
  | annealRead (mb : Fin 8)
  /-- STORE (R486): The STORE service writes a new settings bank and allow-list copy to NVM. -/
  | store (mb : Fin 8)
  /-- FW_OVERRIDE (R495): The FW_OVERRIDE service records or clears an override for an untested firmware pair and commits the held configuration. -/
  | fwOverride (mb : Fin 8)
  /-- LOG_COPY (R525): The LOG_COPY service copies the newest log entries into an NVM slot. -/
  | logCopy (mb : Fin 8)
  /-- LEAF_SUSPECT (R437): A leaf has shown no liveness for SUSPECT_US and becomes SUSPECT. -/
  | leafSuspect (leaf : Fin 1024)
  /-- HARD_LINK_DOWN (R438): A leaf enters hard link-down, on a FAILED port or at HARD_MS expiry, and an automatic fence decision is made. -/
  | hardLinkDown (leaf : Fin 1024)
  /-- SCORE_RECOVER (R440): RECOVER_S passes without a penalty and the score rises by one, which may withdraw a recommendation. -/
  | scoreRecover (leaf : Fin 1024)
  /-- FENCE_WINDOW_EXPIRE (R443): A fence entry leaves the budget window and IN_WINDOW falls. -/
  | fenceWindowExpire
  /-- SLUICE_FREEZE (R451): FREEZE written 1 starts the block's drain. -/
  | sluiceFreeze (agent : Agent) (page : Fin 4096)
  /-- SLUICE_DRAINED (R452): The drain condition holds and the block becomes FROZEN. -/
  | sluiceDrained (page : Fin 4096)
  /-- SLUICE_TIMEOUT (R452): TIMEOUT_MS passes in DRAINING; the block's work is flushed and it becomes FROZEN. -/
  | sluiceTimeout (page : Fin 4096)
  /-- SLUICE_UNFREEZE (R452): FREEZE written 0 returns a frozen block to service with its unfreeze action. -/
  | sluiceUnfreeze (agent : Agent) (page : Fin 4096)
  /-- DROOP_TRIP (R461): A droop detector trips and the island's clock halves within 2 cycles. -/
  | droopTrip (island : Fin 197)
  /-- STRETCH_END (R461): 16 cycles after the last trip clears, the island returns to its set frequency. -/
  | stretchEnd (island : Fin 197)
  /-- THERM_SENSOR_SAMPLE (R462): The temperature sensors convert, and die limits for HBM, photonic and switch dies are applied. -/
  | thermSensorSample (readings : List (Fin 122 × BitVec 16))
  /-- THERM_EVAL (R463): Every 10 µs each Basin's thermal limit TL is lowered, raised or held, and issue pauses at 105 °C. -/
  | thermEval
  /-- THERMAL_TRIP (R468): A reading of 115 °C or a stack flag asserts THERM_TRIP_L and stops the part. -/
  | thermalTrip (sensor : Fin 122) (reading : BitVec 16) (flag : Bool)
  /-- PWR_READING_UPDATE (R458): Every 100 µs the domain power readings are updated. -/
  | pwrReadingUpdate (readings : List (Fin 11 × BitVec 16))
  /-- PWR_CAP_EVAL (R467): Every 100 µs the power limit PL is moved against CAP_W. -/
  | pwrCapEval
  /-- CAP_FAIL (R467): Power stays above CAP_W for 10 ms with PL at 0 and CAP_FAIL is set. -/
  | capFail
  /-- PWR_DOM_READ (R478): A read of PWR.DOM returns the readings and clears PMAX. -/
  | pwrDomRead (agent : Agent) (domain : Fin 11)
  /-- THERM_SENS_READ (R478): A read of THERM.SENS returns the readings and clears TMAX. -/
  | thermSensRead (agent : Agent) (sensor : Fin 128)
  /-- ANNEAL_SCHEDULED (R470): PERIOD_H expires and an Annealer run starts. -/
  | annealScheduled
  /-- ANNEAL_RUN_DONE (R470): An Annealer run finishes its plan, applies it if set, and appends its history record. -/
  | annealRunDone (facts : AnnealFacts)
  /-- PM_ALERT (R541): An assertion of PM_ALERT_L is logged. -/
  | pmAlert
  /-- COLD_RESET (R498): Power-up or COLD_RST_L clears every block and runs the full start-up. -/
  | coldReset
  /-- WARM_RESET (R498): WARM_RST_L or GLOBAL.RESET KIND WARM clears the blocks listed for WARM and runs start-up. -/
  | warmReset (agent : Option Agent)
  /-- DATA_RESET (R498): GLOBAL.RESET KIND DATA clears the data blocks and runs steps 10, 13 and 14. -/
  | dataReset (agent : Agent)
  /-- SPC_RESET (R498): GLOBAL.RESET KIND SPC restarts the SPC firmware only. -/
  | spcReset (agent : Agent)
  /-- BROWNOUT (R544): A rail stays below its minimum for 100 µs and the part holds in WARM reset until it recovers. -/
  | brownout
  /-- STARTUP_RUN (R499): Start-up reaches RUN: computed fields are written and data ports leave reset. -/
  | startupRun (facts : StartFacts)
  /-- NVM_RETIRE (R490): NVM.RETIRE retires a lane and appends it to the Cullet list. -/
  | nvmRetire (agent : Agent) (lane : Fin 1024)
  /-- NVM_WRITE_DONE (R482): An NVM append or region write reaches NVM. -/
  | nvmWriteDone
  /-- FLASH_READ (R497): BOOT.FLCTL READ fills the flash buffer. -/
  | flashRead (agent : Agent) (len : BitVec 13)
  /-- FLASH_PROGRAM (R497): BOOT.FLCTL PROGRAM writes the buffer to flash. -/
  | flashProgram (agent : Agent) (len : BitVec 13)
  /-- FLASH_ERASE (R497): BOOT.FLCTL ERASE clears a 64 KiB flash sector. -/
  | flashErase (agent : Agent)
  /-- FLASH_OP_DONE (R497): A flash operation ends and FLSTAT reports OK or its code. -/
  | flashOpDone (answered : Bool)
  /-- EVSEL_WRITE (R505): A write of EVSEL selects an event and clears its counter and WRAP bit. -/
  | evselWrite (agent : Agent) (page : Fin 4096) (n : Fin 8) (value : BitVec 32)
  /-- COUNTER_LO_READ (R506): A read of COUNT_LO latches COUNT_HI for the agent's next read. -/
  | counterLoRead (agent : Agent) (page : Fin 4096) (n : Fin 8) (next : Option (Fin 1024))
  /-- SNAP_GO (R510): SNAP.CTRL.GO takes a snapshot, or arms the reader for a timed trigger. -/
  | snapGo (agent : Agent)
  /-- SNAP_STOP (R528): SNAP.CTRL.STOP disarms the reader. -/
  | snapStop (agent : Agent)
  /-- SNAP_TRIGGER (R511): An armed trigger time is reached and a snapshot is taken and optionally cleared, or missed while the reader is busy. -/
  | snapTrigger
  /-- SNAP_COPY_DONE (R515): The snapshot copy completes with its header written, or fails. -/
  | snapCopyDone (ok : Bool)
  /-- SAMPLE_RING_WRITE (R517): The ring writer writes a waiting sample record. -/
  | sampleRingWrite (pipe : Fin 32)
  /-- LOG_WRITE (R519): The log writer takes one queued entry, stamps it and writes it, or discards it. -/
  | logWrite
  /-- LOG_CLEAR (R523): LOG.CTRL.CLEAR sets RPTR to WPTR. -/
  | logClear (agent : Agent)
  /-- LOG_MODE_WRITE (R523): A change of LOG.CFG.MODE to STOP sets RPTR to the oldest entry held. -/
  | logModeWrite (agent : Agent) (mode : Bool)
  /-- LOG_RPTR_WRITE (R523): A write of LOG.RPTR advances the read pointer, or is refused if it would pass WPTR. -/
  | logRptrWrite (agent : Agent) (value : BitVec 32)
  /-- REFCLK_LOSS (R547): A reference input is lost; PLLs switch to the other input, and octet ports go down. -/
  | refclkLoss (b : Bool)
  /-- REFCLK_RETURN (R547): A reference input has been within limits for 10 ms and is present again. -/
  | refclkReturn (b : Bool)
  /-- PERST (R551): PERST_L resets the PCIe endpoint only. -/
  | perst
  /-- TAP_IDCODE (R553): The IDCODE instruction selects the identification register. -/
  | tapIdcode
  /-- TAP_SAMPLE_PRELOAD (R553): SAMPLE/PRELOAD selects the boundary register. -/
  | tapSamplePreload (cells : Option (BitVec 1689))
  /-- TAP_EXTEST (R553): EXTEST drives the pins from the boundary register and stops the sideband interfaces. -/
  | tapExtest (cells : Option (BitVec 1689))
  /-- TAP_BYPASS (R553): BYPASS, or any unlisted code, selects the 1-bit bypass register. -/
  | tapBypass (code : BitVec 8)
  /-- TAP_REGACC (R554): Update-DR of REGACC starts one 32-bit BAR0 access as the TAP agent. -/
  | tapRegacc (write : Bool) (addr : BitVec 26) (value : BitVec 32)
  /-- CMIS_STATE_TIME_EXPIRE (R367): The module's advertised power-up time, or its data path time (at most 60 s), runs out without ModuleReady or data path activation, and the cage goes to FAULT. -/
  | cmisStateTimeExpire (cage : CageIx) (ms : BitVec 16)
  /-- BROWNOUT_RECOVERY (R544): A rail that caused a brown-out has been back within tolerance for 1 ms, so the part leaves its held WARM reset, runs start-up as after WARM and sets BOARDSTAT.BROWNOUT. -/
  | brownoutRecovery
  /-- SPC_RESTART_DONE (R498): The SPC restart of an SPC reset completes within 2 s, and automatic fence decisions, the Annealer, CMIS polling and servo supervision resume. -/
  | spcRestartDone
  /-- PCIE_LINK_CHANGE (R426): The PCIe link trains, retrains or goes down, and MGMT.PCIESTAT WIDTH and GEN change, with WIDTH 0 when the link is down. -/
  | pcieLinkChange (width : Fin 9) (gen : Fin 6) (cfg : Option PcieCfg)
  deriving DecidableEq, Repr

end Sys2Proof
end

