-- ==== Sys2Proof/Machine/Events.lean ====
section
/-! DEFINITION. The event numbers of R509 and R521, and on which pages each may be selected. -/

namespace Sys2Proof.Machine.Ev

/-- Counts core clocks; allowed on every page (R509). -/
def CORE_CLK : Nat := 0x0001
/-- Log code RESET (R521). -/
def RESET : Nat := 0x0002
/-- Log code STATE (R521). -/
def STATE : Nat := 0x0003
/-- Log code RETIRE (R521). -/
def RETIRE : Nat := 0x0004
/-- Log code NVM_WRITE (R521). -/
def NVM_WRITE : Nat := 0x0005
/-- Log code SNAP_FAIL (R521). -/
def SNAP_FAIL : Nat := 0x0006
def BOOKS_CREDIT_REPAIR : Nat := 0x0101
def BOOKS_CREDIT_FAULT : Nat := 0x0102
def BOOKS_CELL_ORPHAN : Nat := 0x0103
def BOOKS_CELL_FAULT : Nat := 0x0104
def BOOKS_REF_FAULT : Nat := 0x0105
def BOOKS_TOKEN_CLAMP : Nat := 0x0106
def BOOKS_COUNT_FAULT : Nat := 0x0107
def BOOKS_SLOT_RECLAIM : Nat := 0x0108
def BOOKS_SLOT_FAULT : Nat := 0x0109
def HDR_1 : Nat := 0x0201
def HDR_2 : Nat := 0x0202
def HDR_3 : Nat := 0x0203
def HDR_4 : Nat := 0x0204
def HDR_5 : Nat := 0x0205
def HDR_6 : Nat := 0x0206
def HDR_7 : Nat := 0x0207
def HDR_8 : Nat := 0x0208
def HDR_9 : Nat := 0x0209
def HDR_10 : Nat := 0x020a
def FEC_CW : Nat := 0x0210
def FEC_CW_CORR : Nat := 0x0211
def FEC_CW_UNCORR : Nat := 0x0212
def FEC_SYM_CORR : Nat := 0x0213
def FEC_FRAME_DISCARD : Nat := 0x0214
def LINK_CHECK_ERR : Nat := 0x0215
def LINK_LC_RSV : Nat := 0x0216
def LINK_CREDIT_TX : Nat := 0x0217
def LINK_CREDIT_RX : Nat := 0x0218
def LINK_UP : Nat := 0x0219
def LINK_DOWN : Nat := 0x021a
def LINK_FAILED : Nat := 0x021b
def LINK_ADV_REFUSED : Nat := 0x021c
def LINK_TX_LOST : Nat := 0x021d
def CENSUS_REPAIR : Nat := 0x021e
def CENSUS_FAULT : Nat := 0x021f
def CMIS_RETRY : Nat := 0x0220
def CMIS_FAULT : Nat := 0x0221
def CAGE_INSERT : Nat := 0x0222
def CAGE_REMOVE : Nat := 0x0223
def RX_FRAME : Nat := 0x0228
def RX_BYTES : Nat := 0x0229
def TX_FRAME : Nat := 0x022a
def TX_BYTES : Nat := 0x022b
def SAMPLE_TAKEN : Nat := 0x022c
def SAMPLE_LOST : Nat := 0x022d
def GRP_SPRAY : Nat := 0x0301
def GRP_PIN : Nat := 0x0302
def GRP_SUBST : Nat := 0x0303
def GRP_SPLICE : Nat := 0x0304
def GROUP_MISWIRE : Nat := 0x0305
def LOOKUP_HIT : Nat := 0x0401
def LOOKUP_MISS : Nat := 0x0402
def STASH_HIT : Nat := 0x0403
def FWD_NOROUTE : Nat := 0x0404
def FWD_MISS : Nat := 0x0405
def FWD_DROP : Nat := 0x0406
def FWD_REFLECT : Nat := 0x0407
def FWD_NOLINK : Nat := 0x0408
def FWD_FENCED : Nat := 0x0409
def FWD_EPOCH : Nat := 0x040a
def LEARN_INSERT : Nat := 0x0410
def LEARN_MOVE : Nat := 0x0411
def LEARN_DROPPED : Nat := 0x0412
def LEARN_REFUSED : Nat := 0x0413
def LEARN_MOVE_DAMPED : Nat := 0x0414
def LEARN_STATIC_CONFLICT : Nat := 0x0415
def AGE_REMOVED : Nat := 0x0416
def MC_REPLICA : Nat := 0x0418
def MC_SKIP_FENCE : Nat := 0x0419
def MC_SKIP_NOLINK : Nat := 0x041a
def EPOCH_FLIP : Nat := 0x041c
def EPOCH_FREED : Nat := 0x041d
def CIS_DROP_POOL : Nat := 0x0501
def CIS_DROP_PORT : Nat := 0x0502
def CIS_DROP_QUEUE : Nat := 0x0503
def CIS_DROP_RED_G : Nat := 0x0504
def CIS_DROP_RED_Y : Nat := 0x0505
def CIS_DROP_RED_R : Nat := 0x0506
def CIS_STALL : Nat := 0x0507
def CIS_STALL_DROP : Nat := 0x0508
def CIS_VC5_WAIT : Nat := 0x0509
def CIS_ORIG_WAIT : Nat := 0x050a
def SCHED_TX : Nat := 0x050b
def CIS_DROP_NOCELL : Nat := 0x050c
def WEIR_GREEN : Nat := 0x0601
def WEIR_YELLOW : Nat := 0x0602
def WEIR_RED : Nat := 0x0603
def WEIR_DISCARD : Nat := 0x0604
def COL_ACCEPT : Nat := 0x0701
def COL_DUP : Nat := 0x0702
def COL_LATE : Nat := 0x0703
def COL_FENCED : Nat := 0x0704
def COL_MISMATCH : Nat := 0x0705
def COL_NOCOMM : Nat := 0x0706
def COL_TORN : Nat := 0x0707
def COL_DISABLED : Nat := 0x0708
def COL_FB_WINDOW : Nat := 0x0709
def COL_FB_NORES : Nat := 0x070a
def COL_OPEN : Nat := 0x070b
def COL_NORES : Nat := 0x070c
def COL_RESULT : Nat := 0x070d
def COL_COMPLETE : Nat := 0x070e
def COL_PARTIAL : Nat := 0x070f
def COL_TIMEOUT : Nat := 0x0710
def COL_ABORT : Nat := 0x0711
def COL_SDC : Nat := 0x0712
def COL_CMD_OK : Nat := 0x0713
def COL_CMD_REJ : Nat := 0x0714
def COL_DELIVERY_SKIP : Nat := 0x0715
def NUM_NAN_IN : Nat := 0x0801
def NUM_NAN_OUT : Nat := 0x0802
def NUM_SAT : Nat := 0x0803
def NUM_INF_OUT : Nat := 0x0804
def NUM_SR_UP : Nat := 0x0805
def NUM_SR_TOTAL : Nat := 0x0806
def BSN_ITEM_ACC : Nat := 0x0807
def BSN_ITEM_FIN : Nat := 0x0808
def BSN_KINVOKE : Nat := 0x0809
def BSN_KFAULT : Nat := 0x080a
def BSN_MTX_ROWS : Nat := 0x080b
def BSN_RING_INJ : Nat := 0x080c
def BSN_RING_HOLD : Nat := 0x080d
def BSN_ARRAY_FAIL : Nat := 0x080e
def BSN_TAG : Nat := 0x080f
def BSN_TAG_SKIP : Nat := 0x0810
def BSN_CLK_CHANGE : Nat := 0x0811
def BSN_CYCLES : Nat := 0x0812
def MEM_CE : Nat := 0x0901
def MEM_UE : Nat := 0x0902
def MEM_POISON_RD : Nat := 0x0903
def MEM_ADDR_FAULT : Nat := 0x0904
def MEM_REMAP : Nat := 0x0905
def MEM_REREMAP : Nat := 0x0906
def MEM_SPARE_RETIRE : Nat := 0x0907
def MEM_BANK_MAPOUT : Nat := 0x0908
def MEM_CH_MAPOUT : Nat := 0x0909
def MEM_DISCARD : Nat := 0x090a
def MEM_SCRUB_LINE : Nat := 0x090b
def MEM_ADD : Nat := 0x090c
def MEM_ATOMIC : Nat := 0x090d
def MEM_HOLD : Nat := 0x090e
def ARB_GRANT : Nat := 0x090f
def ARB_STARVE : Nat := 0x0910
def GLASS_BOUNDARY : Nat := 0x0a01
def GLASS_PATH_DARK : Nat := 0x0a02
def GLASS_SW : Nat := 0x0a03
def GLASS_SW_LATE : Nat := 0x0a04
def GLASS_REALIGN : Nat := 0x0a05
def GLASS_UNLOCK : Nat := 0x0a06
def GLASS_RELOCK : Nat := 0x0a07
def GLASS_IN_LOW : Nat := 0x0a08
def GLASS_IN_LOS : Nat := 0x0a09
def GLASS_OUT_LOW : Nat := 0x0a0a
def GLASS_HEADROOM_LOW : Nat := 0x0a0b
def GLASS_SPARE_BUSY : Nat := 0x0a0c
def GLASS_SPARE_LOW : Nat := 0x0a0d
def GLASS_MIG : Nat := 0x0a0e
def GLASS_RETURN : Nat := 0x0a0f
def TIME_SYNC_TX : Nat := 0x0b01
def TIME_SYNC_RX : Nat := 0x0b02
def TIME_DREQ_TX : Nat := 0x0b03
def TIME_DREQ_RX : Nat := 0x0b04
def TIME_MSG_UNSUP : Nat := 0x0b05
def TIME_SAMPLE : Nat := 0x0b06
def TIME_SAMPLE_DROP : Nat := 0x0b07
def TIME_STEP : Nat := 0x0b08
def TIME_HOLDOVER : Nat := 0x0b09
def TIME_PPS_IN : Nat := 0x0b0a
def TIME_PPS_GLITCH : Nat := 0x0b0b
def TIME_TRIG_LATE : Nat := 0x0b0c
def TIME_LAUNCH_LATE : Nat := 0x0b0d
def MGMT_REJECT : Nat := 0x0c01
def TXN_VALID : Nat := 0x0c02
def TXN_FAILED : Nat := 0x0c03
def TXN_APPLIED : Nat := 0x0c04
def TXN_COMMIT_FAIL : Nat := 0x0c05
def TXN_LOCKED : Nat := 0x0c06
def RILL_CHECK_ERR : Nat := 0x0c07
def RILL_BCAST_BAD : Nat := 0x0c08
def RILL_OVERRUN : Nat := 0x0c09
def RILL_REQ : Nat := 0x0c0a
def RILL_INTR_TX : Nat := 0x0c0b
def SPC_REQ : Nat := 0x0c0c
def SPC_FAB_DROP : Nat := 0x0c0d
def HLTH_SUSPECT : Nat := 0x0c10
def HLTH_FENCE : Nat := 0x0c11
def HLTH_UNFENCE : Nat := 0x0c12
def HLTH_REC : Nat := 0x0c13
def HLTH_REC_WITHDRAWN : Nat := 0x0c14
def HLTH_FENCED_RX : Nat := 0x0c15
def SLUICE_FREEZE : Nat := 0x0c16
def SLUICE_FLUSH : Nat := 0x0c17
def SLUICE_DROP : Nat := 0x0c18
def PWR_STRETCH : Nat := 0x0d01
def THERM_THROT : Nat := 0x0d02
def THERM_EMERG : Nat := 0x0d03
def THERM_HOLD : Nat := 0x0d04
def THERM_MEM_THROT : Nat := 0x0d05
def PWR_CAP : Nat := 0x0d06
def ANN_RUN : Nat := 0x0d07
def LOG_WRITE : Nat := 0x0d10
def LOG_LOST : Nat := 0x0d11
def LOG_COPY : Nat := 0x0d12
def SNAP_TAKEN : Nat := 0x0d13
def SNAP_MISSED : Nat := 0x0d14

/-- The event numbers that the table of R509 lists, as ranges. -/
def listed : List (Nat × Nat) := [(0x101, 0x109), (0x201, 0x20a), (0x210, 0x216), (0x217, 0x21f), (0x220, 0x223), (0x228, 0x22d), (0x301, 0x305), (0x401, 0x40a), (0x410, 0x416), (0x501, 0x50c), (0x601, 0x604), (0x701, 0x715), (0x801, 0x812), (0x901, 0x910), (0xa01, 0xa0f), (0xb01, 0xb0d), (0xc01, 0xc0d), (0xc10, 0xc18), (0xd01, 0xd07), (0xd10, 0xd14), (0x418, 0x41a), (0x41c, 0x41d)]

/-- Events of other kinds that lane pages may select (R509, the table's last column). -/
def onLane : List (Nat × Nat) := [(0x101, 0x102), (0x305, 0x305), (0x404, 0x40a), (0x501, 0x508),
  (0x50b, 0x50c), (0x601, 0x603), (0x701, 0x708), (0xb01, 0xb05), (0xc15, 0xc15)]

/-- Whether `v` lies in one of the ranges. -/
def within (rs : List (Nat × Nat)) (v : Nat) : Bool :=
  rs.any fun r => decide (r.1 ≤ v) && decide (v ≤ r.2)

/-- Whether R509 lets a page of kind `kind` at index `page` select event `ev`. -/
def allowed (kind page ev : Nat) : Bool :=
  ev == 0 || ev == CORE_CLK ||
  (within listed ev &&
    (ev / 256 == kind || (kind == 2 && within onLane ev) ||
      ((ev == 0x90f || ev == 0x910) && (kind == 8 || page == 0xc00))))

end Sys2Proof.Machine.Ev
end

