-- ==== Sys2Proof/Config.lean ====
section
/-! DEFINITION. What a part's factory fixes, and the free values: the spec leaves each of them
open, so nothing in the model can see what it is. -/

namespace Sys2Proof.Config

/-- Whether the part is a KDS-5120-M (R3, R5: a fused attribute). -/
opaque gradeM : Bool

/-- STEPPING of IDENT (R6: fused), 4 bits. -/
opaque stepping : BitVec 4

/-- The value of GRADE (R6). -/
def grade : Nat := if gradeM then 2 else 1

/-- Which of the Basins still left the factory's choice number `i` takes (R4: any six Basins). -/
opaque absentPick : Nat → Nat

/-- One choice of the factory: a Basin moves from those left to those without a usable array. -/
def pickBasin (p : List Nat × List Nat) (i : Nat) : List Nat × List Nat :=
  let b := p.2.getD (absentPick i % p.2.length) 0
  (b :: p.1, p.2.erase b)

/-- The six Basins without a usable array in an M part (R3, R4: fused). -/
def absentBasins : List Nat := ((List.range 6).foldl pickBasin ([], List.range 50)).1

/-- Whether BASIN[b] has no usable matrix array from the factory. -/
def arrayAbsent (b : Nat) : Bool := gradeM && absentBasins.contains b

/-- The EUI-64 of the factory identity (R380, R421). -/
opaque eui64 : BitVec 64

/-- The seed of the sampling LFSR of a port (R516), 24 bits. -/
opaque sampleSeed : Nat → BitVec 24

/-- The seed of an ingress pipeline's LFSR, of the factory identity (R141). -/
opaque redSeed : Nat → BitVec 16

/-- The bytes of the factory identity in NVM (R481). -/
opaque factoryByte : Nat → BitVec 8

/-- The heater code that a lock loop's correction number `n` gives (R325: the loop corrects the
heater from the monitor; the amount is the part's own). -/
opaque heaterStep : Nat → BitVec 12

/-- Factory codes of 0.1 mA of input correction per dB (R328). -/
opaque icPerDb : Nat

/-- Gain slope of an SOA in thousandths of a dB per mA, as a step of its own loop measures it by draw `n` (R328: how
the slope follows from the step is not given). -/
opaque gainSlope : Nat → Nat → Nat

/-- The factory voltage table VF in mV, by frequency code (R459). -/
opaque basinVf : Nat → BitVec 12

/-- The days until HR_MIG that the Annealer projects for a plane from its records, by draw `n` (R473: no method is
given). -/
opaque daysToMig : Nat → Nat → Nat

/-- The factory minimum of the gain slope of an SOA, same unit (R328). -/
opaque gainSlopeMin : Nat → Nat

/-- Choice `i` that the compiler makes for a pattern's 64 bytes: which open output an unused input takes, and the half of
the mesh through which a loop of paths goes (R309: the compiler is the controller's own). -/
opaque meshChoice : List Nat → Nat → Nat

/-- The drive value of plane `p` for state `v` of its interferometer `i`: calibration number `n` found it, the
factory set it with `n` = 0 (R309, R324 step 3). -/
opaque driveValue : Nat → Nat → Nat → Nat → Nat

/-- The half of its period in which a ring's dither lies above its heater code (R325). -/
opaque ditherHalf : Nat → Nat

/-- The tuning slope of a ring in MHz per heater code, of the factory identity (R324). -/
opaque tuneSlope : Nat → Nat

/-- What a byte of stacked memory holds after map-out number `g` left it undefined (R294). -/
opaque memFree : Nat → Nat → BitVec 8

/-- First arrival block of the context with index `c` at its instantiation number `n` (R181: the part
places it wherever it chooses), 19 bits. -/
opaque arrivalPlace : Nat → Nat → BitVec 19

/-- What a byte of shared SRAM granted to invocation number `g` holds before it is written: the local address
`a` (R232 gives no contents). -/
opaque sramFree : Nat → Nat → BitVec 8

/-- A value that no rule fixes: draw `n`, lane `i` (a shift by the width or more). -/
opaque freeBits : Nat → Nat → BitVec 64

/-- The seed of the tagging LFSR of core `k` of a Basin (R269), 24 bits. -/
opaque tagSeed : Nat → Nat → BitVec 24

/-- Stage times and stall causes of tag record `n`, word `w` (R270: clocks, which the model does not keep). -/
opaque tagClocks : Nat → Nat → BitVec 16

/-- Factory values of the transmit equalisation start (R485): byte `i` of the LANE_EQ layout. -/
opaque laneEq : Nat → BitVec 8

/-- Factory start-up value of IB of output `i` (R485), 10 bits. -/
opaque glassIb : Nat → BitVec 10

/-- New equalisation start values that Annealer run `n` computes from a lane's adapted receive settings
(R473: the computation is not given): byte `i` of the LANE_EQ layout. -/
opaque eqPlan : Nat → Nat → BitVec 8

/-- What the flash beside the part holds at power-up (R492). -/
opaque flashByte : Nat → BitVec 8

/-- Bit errors that the PRBS checker of a lane finds in one core clock, at draw `n` (R362: what the lane's signal
carries). -/
opaque prbsErrors : Nat → Nat → Nat

/-- How many bytes the flash, as it reports its size (R497), holds above the 32 MiB that the board designer
provides at least (R492). -/
opaque flashExtra : Nat

end Sys2Proof.Config
end

