-- ==== Sys2Proof/Machine/State.lean ====
section
/-! DEFINITION. The state of the KDS-5120 as plain data, the reasons a step can stop, and the state
right after reset.  Every register of R557 and every word of a table window of R560 that holds a
value of its own lies in `bar`, keyed by its BAR0 byte address; what a register or window only
shows of other state (occupancies, pending vectors, ownership) is computed when it is read. -/

namespace Sys2Proof.Machine

/-- The access types of R13. -/
inductive Acc where
  | rw | ro | w1c | wo | rsv
  deriving DecidableEq, Repr

/-- A field of a register or table entry: its bits, access, reset value, the values a write may
give it (no list: every value), and whether only a transaction changes it (R561). -/
structure Fld where
  hi : Nat
  lo : Nat
  acc : Acc
  reset : Nat
  ranges : List (Nat × Nat)
  txn : Bool
  deriving DecidableEq, Repr

/-- A register, or `count` like registers `stride` bytes apart, at an offset in its page or entry. -/
structure RegDef where
  off : Nat
  stride : Nat
  count : Nat
  flds : List Fld
  deriving DecidableEq, Repr

/-- Pages of one layout: first index, number, PAGE_KIND (R402), block-specific registers. -/
structure PageDef where
  first : Nat
  count : Nat
  kind : Nat
  regs : List RegDef
  deriving DecidableEq, Repr

/-- Who may write a table window (R560). -/
inductive WinMode where
  | direct | txnOnly | cmdOnly | none
  deriving DecidableEq, Repr

/-- A table window: base address, bytes of an entry, entries, write mode, words of an entry. -/
structure WinDef where
  base : Nat
  entry : Nat
  count : Nat
  mode : WinMode
  words : List RegDef
  deriving DecidableEq, Repr

/-- A named field: the BAR0 byte address of its word and its bits. -/
structure FRef where
  addr : Nat
  hi : Nat
  lo : Nat
  deriving DecidableEq, Repr

/-- An entry of the event log as R520 lays it out. -/
structure LogEntry where
  seq : Nat := 0
  sec : Nat := 0
  ns : Nat := 0
  frac : Nat := 0
  code : Nat := 0
  page : Nat := 0
  flags : Nat := 0
  inst : Nat := 0
  d1 : Nat := 0
  d2 : Nat := 0
  deriving DecidableEq, Repr

/-- An occurrence waiting in the log writer's input queue (R519). -/
structure LogReq where
  code : Nat
  page : Nat
  inst : Nat
  d1 : Nat
  d2 : Nat
  /-- The core clock in which it was reported. -/
  at_ : Nat
  deriving DecidableEq, Repr

/-- What a counter held before the EVSEL write of this core clock: EVSEL, CNT and its WRAP bit (R505, R511). -/
structure FreshSel where
  sel : Nat
  cnt : Nat
  wrapped : Bool
  deriving DecidableEq, Repr

/-- A read of a word of a register page that this core clock answers as it ends (R506, R511): agent, address, and whether
its data return to the agent; else they go to the Rill frame or the TAP access that waits for them. -/
structure CntRead where
  agent : Nat
  addr : Nat
  back : Bool
  deriving DecidableEq, Repr

/-- A header sample record (R518). -/
structure SampleRec where
  seq : Nat := 0
  sec : Nat := 0
  ns : Nat := 0
  port : Nat := 0
  vc : Nat := 0
  proto : Nat := 0
  outcome : Nat := 0
  len : Nat := 0
  caplen : Nat := 0
  capture : List Byte := []
  deriving DecidableEq, Repr

/-- A snapshot taken at T_SNAP and being copied to host memory (R511 to R515). -/
structure SnapImage where
  late : Bool
  cleared : Bool
  sec : Nat
  ns : Nat
  frac : Nat
  sect : Nat
  trig : Nat
  addr : Nat
  sel : SMap Nat
  cnt : SMap Nat
  wrap : SMap Nat
  portOcc : List (Nat × Nat)
  queueOcc : List (Nat × Nat)
  contexts : SMap Word
  deriving DecidableEq, Repr

/-- What leaves the part at its balls and receptacles (R1), in the order it leaves. -/
inductive Emit where
  /-- A frame of protocol 01, 10 or 11 starts on a port. -/
  | frame (port : Nat) (bytes : List Byte)
  /-- A link control frame of R351 starts on a port. -/
  | linkControl (port : Nat) (bytes : List Byte)
  /-- An MSI-X message: vector, address and data of its table entry (R417). -/
  | msix (vector addr data : Nat)
  /-- A Rill frame leaves on RILL_TX. -/
  | rill (bytes : List Byte)
  /-- A read returns data to an agent. -/
  | readData (agent addr data : Nat)
  /-- An aperture or other read completes as poisoned (R282). -/
  | readPoison (agent addr : Nat)
  /-- The central reader writes a snapshot to host memory (R515). -/
  | snapshot (image : SnapImage) (seq : Nat)
  /-- A pin takes a level. -/
  | pin (name : String) (level : Bool)
  /-- A two-wire management access to a module (R368). -/
  | cmis (cage : Nat) (write : Bool) (bank page offset : Nat) (bytes : List Byte)
  /-- A byte written to the two-wire switch of a master, at its 7-bit address (R365). -/
  | twoWire (master addr value : Nat)
  /-- A received signal retransmitted by far-end loopback (R362). -/
  | looped (port : Nat) (bytes : List Byte)
  /-- A voltage setpoint in mV written to the regulator of a domain (R541). -/
  | setpoint (domain mv : Nat)
  /-- What a data register of the test access port shifts out at TDO: its width, and its bits, the first out lowest
  (R553). -/
  | tdo (width value : Nat)
  /-- The balls that the boundary register drives under EXTEST, by row and column, with their levels (R553). -/
  | driven (balls : List (Nat × Nat × Bool))
  /-- The transmitters of the lanes go to electrical idle (R468). -/
  | lanesIdle
  /-- An access to the flash device (R497). -/
  | flash (op addr : Nat) (bytes : List Byte)
  deriving DecidableEq, Repr

/-- The records the part keeps about itself, which change nothing in how it works (chapter 17):
counters, the event log, header samples, and what has left the part. -/
structure ObsSt where
  /-- EVSEL[n] of page p at key 8p + n: bit 31 EN, bits 15 to 0 EVENT. -/
  sel : SMap Nat := []
  /-- CNT[n] of page p at key 8p + n, 48 bits. -/
  cnt : SMap Nat := []
  /-- WRAP of page p at key p, 8 bits; and those of its bits that were set in this core clock (R507). -/
  wrap : SMap Nat := []
  wrapNow : SMap Nat := []
  /-- Counters whose EVSEL was written in this core clock, which count from the next. -/
  fresh : SMap (Option FreshSel) := []
  /-- Reads of this core clock that its end answers, oldest first (R511). -/
  reads : List CntRead := []
  /-- The COUNT_HI latch of agent a on page p at key 4096a + p: counter and high word (R506). -/
  latch : SMap (Option (Nat × Nat)) := []
  /-- The log writer's input queue, oldest first, at most 64 (R519). -/
  logQ : List LogReq := []
  /-- An entry was discarded since the last one written. -/
  lostBefore : Bool := false
  /-- The event log, by entry number; unlisted entries are all zero. -/
  log : SMap LogEntry := []
  /-- Entries held in the log, 0 to 16,384. -/
  logHeld : Nat := 0
  /-- Core clocks, plus 1, of the last entry that the writer took, of the last advance of RPTR that ended fullness, and of
  the last CLEAR (R519, R524). -/
  logAt : Nat := 0
  roomAt : Nat := 0
  clearAt : Nat := 0
  /-- Samples waiting at ingress pipelines, oldest first: pipeline and record (R517). -/
  sampleQ : List (Nat × SampleRec) := []
  /-- The sample ring, by record number. -/
  samples : SMap SampleRec := []
  /-- Sample records written since reset, and the core clock plus 1 of the last. -/
  sampleSeq : Nat := 0
  sampleAt : Nat := 0
  /-- A snapshot that the end of this core clock takes, LATE or not (R511). -/
  snapEnd : Option Bool := none
  /-- The snapshot in copy, and the snapshots completed since reset, of which SNAP.SEQ shows 32 bits (R513). -/
  snap : Option SnapImage := none
  snapCount : Nat := 0
  /-- Device time, in nanoseconds, of the next trigger of the armed reader. -/
  snapNext : Nat := 0
  /-- A step carried device time past that trigger (R510). -/
  snapLate : Bool := false
  /-- The vectors pending after the last command, one bit each (R417). -/
  vpend : Nat := 0
  /-- What has left the part, newest first. -/
  out : List Emit := []
  deriving DecidableEq, Repr


/-- One TIME packet waiting at the time block, with its receive timestamp (R383). -/
structure TimeRx where
  port : Nat
  bytes : List Byte
  sec : Nat
  ns : Nat
  frac : Nat
  /-- Steps of device time made before the timestamp was taken (R379). -/
  epoch : Nat
  /-- The Cistern packet whose cells the port account holds until the time block consumes it (R130). -/
  pkt : Option Nat := none
  deriving DecidableEq, Repr

/-- A timestamp of device time in units of 2^-16 ns, and the number of steps made before it. -/
structure Stamp where
  t : Nat := 0
  epoch : Nat := 0
  deriving DecidableEq, Repr

/-- The core clock count, device time (R371, R372) and the time block (chapter 12). -/
structure TimeSt where
  /-- Core clocks of 0.625 ns since power-up; every duration is counted in these (R373). -/
  core : Nat := 0
  /-- Core clock at which the last reset that cleared the core ended. -/
  resetAt : Nat := 0
  /-- Device time: whole seconds, nanoseconds and the 16 fraction bits that R371 gives it. -/
  sec : Nat := 0
  ns : Nat := 0
  frac : Nat := 0
  /-- The 40 further fraction bits (R372). -/
  sub : Nat := 0
  /-- Steps made since reset, not saturating. -/
  steps : Nat := 0
  /-- The servo's integral term in 2^-40 ppb (R377). -/
  acc : Int := 0
  /-- Consecutive samples within LOCK_NS (R378). -/
  lockRun : Nat := 0
  /-- Core clock of the last sample, or of the entry to ACQUIRE. -/
  lastSample : Nat := 0
  /-- Core clock of the last step by host command (R375, R379). -/
  hostStepAt : Option Nat := none
  /-- The core clock of the last step, and device time before the first step of that clock, in 2^-56 ns (R374). -/
  preStep : Option (Nat × Nat) := none
  /-- TIME packets that wait for the time block, oldest first (R383). -/
  rxQ : List TimeRx := []
  /-- The Sync last accepted on the slave port: sequenceId, origin time and correction in 2^-16 ns,
  receive stamp, and whether its Follow_Up is still awaited. -/
  syncSeq : Nat := 0
  syncT1 : Int := 0
  syncT2 : Stamp := {}
  syncWait : Bool := false
  syncValid : Bool := false
  /-- The outstanding Delay_Req of the slave port: sequenceId and transmit stamp. -/
  dreqSeq : Option Nat := none
  dreqT3 : Stamp := {}
  /-- Next sequenceIds by port: Sync, Announce; and of the slave's Delay_Req. -/
  seqSync : SMap Nat := []
  seqAnn : SMap Nat := []
  seqDreq : Nat := 0
  /-- Core clock of the last Sync and Announce sent by port, plus 1; 0 none. -/
  lastSyncTx : SMap Nat := []
  lastAnnTx : SMap Nat := []
  /-- Transmit timestamps handed to SPC firmware, newest first: port, sequenceId, stamp (R384). -/
  txStamps : List (Nat × Nat × Nat) := []
  /-- The message of the latest Announce accepted on the slave port (R380). -/
  announce : List Byte := []
  /-- The staged defaultDS of PTP_DEFAULTDS, 16 bytes, in force and staged (R431). -/
  dds : List Byte := List.replicate 16 0#8
  ddsStaged : Option (List Byte) := none
  /-- Samples that arrived in this core clock, oldest first: offset in 2^-16 ns and epoch (R377, R379). -/
  samples : List (Int × Nat) := []
  /-- PPS_OUT edges that device time has reached, a step among them, as a count of whole seconds; the runs of edges sent, by
  their first and last number, newest first; core clock of the rise (R386). -/
  ppsLastSec : Nat := 0
  ppsSent : List (Nat × Nat) := []
  ppsHighSince : Option Nat := none
  /-- Core clock of the last accepted PPS_IN edge (R387). -/
  ppsInLast : Option Nat := none
  deriving DecidableEq, Repr


/-- What a write stream of the NVM writer carries (R482). -/
inductive NvmKind where
  | cullet | remap | history | store | boot | logCopy
  deriving DecidableEq, Repr

/-- A write waiting for the NVM writer: where, which bytes, and the value its log entry names. -/
structure NvmWrite where
  kind : NvmKind
  off : Nat
  bytes : List Byte
  tag : Nat
  /-- The mailbox whose service ends with this write. -/
  mailbox : Option Nat := none
  deriving DecidableEq, Repr

/-- The NVM and its writer, and the firmware flash interface (chapter 16). -/
structure NvmSt where
  /-- The 8 MiB by byte offset (R481). -/
  bytes : SMap Byte := []
  /-- Record appends waiting, oldest first, and larger writes waiting (R482). -/
  appends : List NvmWrite := []
  streams : List NvmWrite := []
  /-- Retirements that found the Cullet list full: volatile (R488). -/
  volatileCullet : List (Nat × Nat) := []
  /-- The active half of the remap area and its SEQ (R491). -/
  remapHalf : Nat := 0
  remapSeq : Nat := 0
  /-- Working copies of the settings (R486): transmit equalisation by lane × 16 + byte, and the Glass
  IB start-up values by output; unlisted: the factory's. -/
  laneEq : SMap Byte := []
  glassIb : SMap Nat := []
  /-- The firmware flash beside the part (R492), by byte address. -/
  flash : SMap Byte := []
  /-- The flash operation in progress: OP, address, bytes (R497). -/
  flOp : Option (Nat × Nat × Nat) := none
  deriving DecidableEq, Repr


/-- What an interferometer of a mesh is driven to (R309). -/
inductive Mzi where
  | bar
  | cross
  | split
  deriving DecidableEq, Repr

/-- How a plane of the Glass mesh stands in its schedule (R317, R318). -/
structure PlaneSt where
  /-- The schedule entry of the slot in progress; none while the plane runs no slot. -/
  entry : Option Nat := none
  /-- Device time in ns of the boundary that ends the slot. -/
  next : Nat := 0
  /-- The outputs whose SOA is on in the slot, one bit each. -/
  lit : Nat := 0
  /-- The outputs lit in some slot since the last power update, and since the last bias step (R326, R328). -/
  litPower : Nat := 0
  litBias : Nat := 0
  /-- Core clock since which the plane's headroom has been below HR_MIG (R329). -/
  lowSince : Option Nat := none
  /-- The low headroom has been logged (R329: once per plane). -/
  lowLogged : Bool := false
  /-- The present slot began, or the plane went dark, under FREEZE (R452). -/
  frozenIn : Bool := false
  /-- Core clock at which the slot in progress ends on its own count after a step of device time (R321). -/
  ends : Option Nat := none
  /-- The slot bias of each output that is lit, in 0.1 mA (R318 event 3, R327). -/
  bias : List (Nat × Nat) := []
  /-- The states of the 352 interferometers, stage by stage; none listed until a pattern is first applied: all BAR (R309). -/
  mesh : List Mzi := []
  deriving DecidableEq, Repr

/-- The lock loop of a ring (R325): core clock, plus 1, of its last correction, the monitor's locked level, and the
core clock, plus 1, since which the monitor has been 3 dB or more below it (0 not). -/
structure RingLock where
  stepped : Nat := 0
  level : Option Int := none
  low : Nat := 0
  deriving DecidableEq, Repr

/-- A BAR0 read that waits for the HOST requester of the Glass bus (R334, R340): agent, address and core clock. -/
structure GlassRead where
  agent : Nat
  addr : Nat
  since : Nat
  deriving DecidableEq, Repr

/-- A bank switch that a commit armed (R319, R320): bank, T_SW and device time of the commit, ns. -/
structure SwitchSt where
  bank : Nat
  tsw : Nat
  armedNs : Int
  /-- Device time just after the last step that carried it past T_SW (R321). -/
  stepped : Option Nat := none
  deriving DecidableEq, Repr

/-- The Glass controller (chapter 10), beside its registers and windows. -/
structure GlassSt where
  /-- The nine planes, by number (R308). -/
  planes : SMap PlaneSt := []
  /-- The bank switch that is armed (R319). -/
  armed : Option SwitchSt := none
  /-- Whether the drive memory of bank 0 and of bank 1 matches its tables (R316), and the device
  time in ns at which the idle bank's load completed, moved with every step of device time. -/
  loaded0 : Bool := false
  loaded1 : Bool := false
  readyNs : Int := 0
  /-- A drive load of the idle bank is in progress, and the core clock at which it was asked for. -/
  loading : Bool := false
  loadAt : Nat := 0
  /-- T_START of the running schedule, in ns of device time; GLSTAT reports its SEC modulo 2^32 (R319, R320). -/
  startNs : Nat := 0
  /-- A realignment holds every SOA off until this device time in ns (R321). -/
  realign : Option Nat := none
  /-- Fibres being searched (R324), one bit each, and the core clock at which a search was last asked for. -/
  searching : Nat := 0
  searchAt : Nat := 0
  /-- Core clock of the last retry of NOLIGHT rings. -/
  lastRetry : Nat := 0
  /-- Heater offset of a spare ring from its working partner's, measured at search (R325). -/
  offset : SMap Int := []
  /-- Migration: core clock at which arming began, chosen boundary B in ns, core clock of takeover. -/
  armingAt : Nat := 0
  takeover : Option Nat := none
  servingAt : Option Nat := none
  /-- Return: chosen boundary in ns; core clock of the last return (R332). -/
  returnNs : Option Nat := none
  /-- Core clock at which a return was asked for that MIG has not armed on the Glass bus (R334). -/
  returnAsk : Option Nat := none
  returnedAt : Option Nat := none
  /-- Core clock since which an output has been below target by OUT_LOW (R329), by output; 0 none. -/
  outLow : SMap Nat := []
  /-- Inputs reported below P_IN_LOW and outputs reported low, so that each is reported once. -/
  inLowSeen : SMap Bool := []
  outLowSeen : SMap Bool := []
  /-- Core clocks of the last power update and of the last bias step. -/
  lastPower : Nat := 0
  lastBias : Nat := 0
  /-- The lock loops, by ring entry (R325). -/
  locks : SMap RingLock := []
  /-- The target power in force of each output, taken up at a gain step (R338). -/
  target : SMap Int := []
  /-- The gain slope of each SOA that its own loop steps measured; 0 before the first (R328). -/
  slope : SMap Nat := []
  /-- The last reading of each fibre tap, as a monitor word (R308). -/
  fibreTap : SMap Nat := []
  /-- The number, plus 1, of the calibration that found each plane's drive values; 0 the factory's (R309, R324). -/
  cal : SMap Nat := []
  /-- The inputs of each plane that had light at that calibration, one bit each. -/
  calLit : SMap Nat := []
  /-- The plane whose lane's SOA terms and drive path the spare holds (R331 event 2). -/
  spareTerms : Option Nat := none
  /-- Reads that wait for the HOST requester, oldest first. -/
  reads : List GlassRead := []
  deriving DecidableEq, Repr


/-- What a transaction slot holds beside its registers (R405 to R415). -/
structure SlotSt where
  /-- The units it owns, each by the BAR0 address at which it starts (R410, R411). -/
  units : List Nat := []
  /-- The endpoint keys it owns, and those of them that its validation placed (R114). -/
  keys : List Nat := []
  placed : List Nat := []
  /-- A COMMIT in mode NOW was accepted and its commit clock has not come. -/
  nowPending : Bool := false
  /-- A RELEASE waits for that commit, or in ARMED for the end of its core clock (R408, R415). -/
  releaseAfter : Bool := false
  /-- Number of the accepted COMMIT, in order of acceptance (R388). -/
  order : Nat := 0
  /-- T was past at COMMIT, or a step carried device time past it (R389, R412). -/
  late : Bool := false
  /-- Records that its validation has checked (R409). -/
  checked : Nat := 0
  deriving DecidableEq, Repr

/-- A fabric request waiting for the SPC (R430): arrival port, packet, and the Cistern packet whose cells the
port account holds until the SPC consumes it (R130). -/
structure FabReq where
  port : Nat
  bytes : List Byte
  pkt : Option Nat := none
  deriving DecidableEq, Repr

/-- A Rill READ whose words are being read (R422): the frame, the words that came, whether one is awaited, and the code of
the first that was refused. -/
structure RillRead where
  frame : List Byte
  got : List Nat := []
  waits : Bool := false
  code : Nat := 0
  deriving DecidableEq, Repr

/-- The TAP's instruction and data registers (R553, R554). -/
structure TapSt where
  ir : Nat := 1
  boundary : BitVec 1689 := 0#1689
  extest : Bool := false
  addr : Nat := 0
  data : Nat := 0
  status : Nat := 3
  deriving DecidableEq, Repr

/-- The management paths (chapter 13). -/
structure MgmtSt where
  /-- The transaction slots, by number (R405). -/
  slots : SMap SlotSt := []
  /-- COMMITs accepted so far, which number them (R388). -/
  commits : Nat := 0
  /-- The slot that the validator served last, and the core clock at which its present turn began (R409). -/
  validTurn : Nat := 15
  validAt : Nat := 0
  /-- Arrived and about to enter the fabric queue; and the queue, at most 64. -/
  fabIn : List FabReq := []
  fabQ : List FabReq := []
  /-- Core clock until which a Rill response is sent; frames from upstream then wait, at most four
  (R421). -/
  rillUntil : Nat := 0
  rillBuf : List (List Byte) := []
  /-- The READ that the part is performing (R422). -/
  rillPend : Option RillRead := none
  /-- What the endpoint's configuration space holds (R396). -/
  pcie : PcieCfg := {}
  /-- The test access port (R553). -/
  tap : TapSt := {}
  /-- Bytes of mailbox m's request buffer written since its last GO, and as they stood at that GO
  (R428). -/
  mbWritten : SMap Nat := []
  mbLen : SMap Nat := []
  /-- The mailbox whose LOG_COPY the end of this core clock starts (R525). -/
  copyFor : Option Nat := none
  /-- The path that the SPC looks at first: a mailbox, or 8 for the fabric queue (R427). -/
  svcTurn : Nat := 0
  /-- Core clock of the last reset that cleared the SPC (R431). -/
  spcSince : Nat := 0
  /-- The SPC restarts after an SPC reset (R498). -/
  spcDown : Bool := false
  deriving DecidableEq, Repr


/-- What a packet's cells are charged to (R130). -/
inductive Account where
  | port (p vc : Nat)
  | lossy
  | vc5
  | origin
  deriving DecidableEq, Repr

/-- The five states of a Cistern cell (R46). -/
inductive CellState where
  | free | prefetched | allocated | releasing | retired
  deriving DecidableEq, Repr

/-- A Cistern cell: its state, an uncorrectable error found in it, the walk that was under way when
it was allocated, and whether the last walk missed it (R47). -/
structure Cell where
  st : CellState := .free
  bad : Bool := false
  walk : Nat := 0
  missed : Bool := false
  deriving DecidableEq, Repr

/-- What the time block inserts into a packet as it is sent, and keeps of its sending (R383). -/
inductive PtpTx where
  | none | sync | delayReq | delayResp | announce
  deriving DecidableEq, Repr

/-- A packet in the Cistern. -/
structure Pkt where
  bytes : List Byte
  acct : Account
  cells : List Nat
  inPort : Option Nat := none
  /-- The bank every lookup of the packet uses (R65). -/
  bank : Nat := 0
  /-- Weir colour: 0 green, 1 yellow, 2 red (R150). -/
  colour : Nat := 0
  /-- Reference count (R48). -/
  refs : Nat := 0
  /-- Launch time as its 64 bits: SEC [31:0], 2 bits of 0, NS (R155, R390). -/
  launch : Option Nat := none
  ptp : PtpTx := .none
  deriving DecidableEq, Repr

/-- An entry of an egress queue: a number of its own, and the packet it references. -/
structure QEnt where
  seq : Nat
  pkt : Nat
  deriving DecidableEq, Repr

/-- The level of a token bucket in 1/12800 byte (a rate of 1 Mb/s brings one such unit per core
clock) and the core clock of its last credit (R50). -/
structure Bucket where
  level : Int := 838860800
  at_ : Nat := 0
  deriving DecidableEq, Repr

/-- An egress queue (R145 to R157). -/
structure QueueSt where
  /-- Entries, oldest first; deficit counter and shaper of R148. -/
  ents : List QEnt := []
  deficit : Nat := 0
  shaper : Bucket := {}
  /-- Declared stalled: arrivals are dropped until S rises (R33). -/
  stalled : Bool := false
  /-- VC of the head that the stall dropped: a credit update that raises its S ends the stall. -/
  stallVc : Nat := 0
  /-- Core clock since which the head has been blocked for credit (R157). -/
  blockedSince : Option Nat := none
  blockedHead : Nat := 0
  /-- Entries of the substitute that must leave before this queue may send (R121). -/
  wait : List Nat := []
  deriving DecidableEq, Repr

/-- A policer's two buckets (R50, R150), the core clock plus 1 at which it last coloured a packet, and that
packet's pipeline (R152). -/
structure PolicerSt where
  c : Bucket := {}
  p : Bucket := {}
  usedAt : Nat := 0
  usedBy : Nat := 0
  deriving DecidableEq, Repr

/-- A port's scheduler (R148): cursor and port shaper. -/
structure SchedSt where
  cursor : Nat := 0
  shaper : Bucket := {}
  deriving DecidableEq, Repr

/-- A packet waiting for the replicator (R126): packet, first descriptor, and the arrival leaf that an
Ethernet walk omits. -/
structure McItem where
  pkt : Nat
  desc : Nat
  inLeaf : Option Nat
  deriving DecidableEq, Repr

/-- A packet that the SPC or the time block wants to send (R130): bytes, egress port where the
originator names one, what the time block inserts; whether its wait has been counted. -/
structure OrigReq where
  bytes : List Byte
  port : Option Nat := none
  ptp : PtpTx := .none
  waited : Bool := false
  deriving DecidableEq, Repr

/-- What was released in a core clock, which admission counts only from the next one (R143): the clock, cells of the
lossy pool, cells by queue (key 64p + q), and cells of VC7 entries by port. -/
structure Freed where
  clock : Nat := 0
  cells : List Nat := []
  lossy : Nat := 0
  vc5 : Nat := 0
  origin : Nat := 0
  queue : SMap Nat := []
  port : SMap Nat := []
  deriving DecidableEq, Repr

/-- The Cistern, its queues, schedulers and the Weir (chapter 5). -/
structure CisSt where
  /-- Cells that are not FREE and sound, by cell number. -/
  cells : SMap Cell := []
  /-- The packets that hold cells, by number, and the next number; and the next number of a queue entry. -/
  pkts : SMap (Option Pkt) := []
  nextPkt : Nat := 0
  nextSeq : Nat := 0
  /-- QUEUE[p][q] at key 64p + q. -/
  queues : SMap QueueSt := []
  /-- The schedulers by port (R148), and the policers by number (R150). -/
  sched : SMap SchedSt := []
  policers : SMap PolicerSt := []
  /-- Ethernet debits waiting for their frame's end: arrival port, policer, colour, bytes (R150). -/
  ethDebits : List (Nat × Nat × Nat × Nat) := []
  /-- Packets that wait for the replicator, oldest first (R126). -/
  mcQ : List McItem := []
  /-- VC4 chunks waiting for the matcher, in arrival order (R172). -/
  chunkQ : List Nat := []
  /-- Packets of the SPC and the time block that wait for the origin pool, oldest first (R130). -/
  origQ : List OrigReq := []
  /-- Generation of the walk under way (R47). -/
  walk : Nat := 0
  /-- What the present core clock has released (R143). -/
  freed : Freed := {}
  /-- Core clock at which the pipelines' LFSRs were seeded (R141). -/
  seedAt : Nat := 0
  deriving DecidableEq, Repr



/-- A frame of protocol 01, 10 or 11 in a pipeline's input buffer: arrival port, bytes without the
link check, whether header sampling selected it, and device time at its arrival. -/
structure RxFrame where
  port : Nat
  bytes : List Byte
  sampled : Bool := false
  sec : Nat := 0
  ns : Nat := 0
  frac : Nat := 0
  /-- Steps of device time made before the timestamp was taken (R379). -/
  epoch : Nat := 0
  deriving DecidableEq, Repr

/-- A learn request (R100): key, arrival result, and whether the source search found the key. -/
structure LearnReq where
  key : Nat
  res : Nat
  move : Bool
  deriving DecidableEq, Repr

/-- Forwarding and learning, beside its registers and tables (chapter 4). -/
structure FwdSt where
  /-- Input buffer, learn queue and last 256 requested keys of each pipeline. -/
  inBuf : SMap (List RxFrame) := []
  learnQ : SMap (List LearnReq) := []
  recent : SMap (List Nat) := []
  /-- The next entry the sweeper visits, and the core clock of its last visit (R106). -/
  sweepPos : Nat := 0
  sweepAt : Nat := 0
  /-- The first refused insert of the sweep period is logged; keys of entries whose damped move is logged. -/
  refusedLogged : Bool := false
  damped : List Nat := []
  /-- VC7 frames that a pipeline dropped because they could not be looked up within the rate (R19). -/
  lateDrops : SMap Nat := []
  /-- Core clock of the flip or of the last packet that named OLD (R111). -/
  drainFrom : Nat := 0
  /-- Slot last chosen by spraying, at key 64 × group + VC × 8 + CLASS (R117); unlisted: slot 7. -/
  lastSpray : SMap Nat := []
  /-- The ports whose liveness ended with no live member left in their group (R120), with the group. -/
  lastDown : List (Nat × Nat) := []
  deriving DecidableEq, Repr



/-- One VC of a link, as sender and as receiver (R43, R352): cumulative cells since the port entered
UP. -/
structure VcSt where
  /-- Cells of frames started, and of frames whose last block is sent. -/
  started : Nat := 0
  consumed : Nat := 0
  /-- S of R43. -/
  credits : Nat := 0
  /-- Cells received, and cells returned to the peer (R43). -/
  received : Nat := 0
  returned : Nat := 0
  /-- `returned` and the core clock at the last CREDIT sent. -/
  sentCount : Nat := 0
  sentAt : Nat := 0
  /-- Core clock of the first advance since that CREDIT. -/
  unsentSince : Option Nat := none
  /-- A census repair wants a CREDIT at once. -/
  force : Bool := false
  /-- Census markers sent in this UP period (R354). -/
  markers : Nat := 0
  deriving DecidableEq, Repr

/-- A port's link (R344, R350 to R362), beside its registers. -/
structure PortSt where
  /-- The VCs of the link (R43). -/
  vcs : SMap VcSt := []
  /-- The frame being sent: queue entry, packet, VC and cells. -/
  tx : Option (QEnt × Nat × Nat) := none
  /-- The queue chosen for the next frame while one is being sent (R148). -/
  next : Option Nat := none
  /-- Whether that queue was strict at the decision (R149). -/
  nextStrict : Bool := false
  /-- Data frames received before UP. -/
  early : List RxFrame := []
  /-- Bring-up attempts made, the SEQ of the ADVERT (R357). -/
  attempt : Nat := 0
  /-- Whether an attempt has started since the port was enabled (R359). -/
  tried : Bool := false
  /-- Core clock at which the present state of PORTSTAT was entered. -/
  since : Nat := 0
  /-- Core clock of the last entry into DOWN. -/
  downAt : Nat := 0
  /-- The exchange: a peer ADVERT acknowledged; an ADVACK, data or CREDIT received. -/
  acked : Bool := false
  answered : Bool := false
  /-- Body of the peer's accepted ADVERT, and of the part's own current one. -/
  peerBody : List Byte := []
  ownBody : List Byte := []
  /-- ADVERTs sent in this state ADVERT, and core clock of the last. -/
  advAt : Option Nat := none
  /-- Core clocks of the entries into DOWN that the retrain budget counts (R361). -/
  entries : List Nat := []
  /-- Headroom words W0 to W2 in force, and as last advertised (R132, R138); none: the reset entry. -/
  headActive : Option (Nat × Nat × Nat) := none
  headAdv : Option (Nat × Nat × Nat) := none
  /-- Uncorrectable codewords in the present 1 ms interval. -/
  ucw : Nat := 0
  /-- Core clock at which a lock was last lost, or the codewords last exceeded UCW_LIMIT, in state ALIGN (R359). -/
  badAt : Option Nat := none
  /-- GROUP_MISWIRE has been logged in this bring-up (R364). -/
  miswired : Bool := false
  /-- Intervals of 1 ms ended since reset (R369). -/
  ucwAt : Nat := 0
  /-- The sampling LFSR (R516); none: the seed. -/
  lfsr : Option Nat := none
  deriving DecidableEq, Repr

/-- A link control frame received on a port (R351). -/
structure LcFrame where
  port : Nat
  bytes : List Byte
  deriving DecidableEq, Repr


/-- A module memory access of the host in progress (R368). -/
structure CageReq where
  write : Bool
  offset : Nat
  len : Nat
  deriving DecidableEq, Repr

/-- A two-wire transaction with a module (R366): a write or a read, where, and the bytes written. -/
structure CmisTxn where
  write : Bool
  bank : Nat
  page : Nat
  off : Nat
  bytes : List Byte
  deriving DecidableEq, Repr

/-- A module cage (R365 to R368), beside its registers. -/
structure CageSt where
  /-- Core clock at which ModPrsL was asserted. -/
  insertedAt : Option Nat := none
  /-- Core clock at which the present CSTATE was entered. -/
  since : Nat := 0
  /-- Transactions issued that nothing has shown to be acknowledged, oldest first, and the retries made of the oldest. -/
  sent : List CmisTxn := []
  retries : Nat := 0
  /-- What the module advertises, as read at MODULE_READY, and whether its revision and power class suit (R365). -/
  apps : List ModuleApp := []
  suits : Bool := false
  /-- Core clock of the last FAULT, and whether a second within 60 s holds the cage in FAULT. -/
  faultAt : Option Nat := none
  stuck : Bool := false
  /-- Core clock of the last poll of the monitors (R368). -/
  polledAt : Nat := 0
  /-- The module's state machine, and the data path state of each host lane, as last read (R366). -/
  modState : Nat := 0
  paths : List Nat := []
  /-- Staged control set 0: the application code of each host lane and the first lane of its data path; none for a
  lane of no port, whose transmit output is disabled (R366). -/
  staged : List (Option (Nat × Nat)) := []
  /-- The flag bytes as last read, and the flag masks set. -/
  flags : List Byte := []
  masks : List Byte := []
  /-- The host access in progress (R368). -/
  req : Option CageReq := none
  deriving DecidableEq, Repr


/-- Who issued a memory request: a core (its access number), a DMA descriptor (which piece of its source, or 0 where it
writes), the spill path for an index of a context, or for a piece of its spill image, the host through the aperture
(R297), a register read of the Rill chain or the TAP that reaches the aperture (R395), or the Basins' firmware for the
hyperparameter block of an instantiation, by context and number of the instance (R259). -/
inductive MemSrc where
  | core (basin core tag : Nat)
  | dma (basin ticket piece : Nat)
  | spill (basin ctx cidx : Nat)
  | image (basin ctx cidx piece : Nat)
  | host (agent : Nat)
  | reg (agent : Nat)
  | hyper (ctx inst : Nat)
  deriving DecidableEq, Repr

/-- What a memory request does (R276, R284, R285); `wide` says 64 bits, else 32. -/
inductive MemOp where
  | read
  | write
  | add (fmt : Nat)
  | fadd (wide : Bool)
  | faddf
  | swap (wide : Bool)
  | cas (wide : Bool)
  | fmin
  | fmax
  deriving DecidableEq, Repr

/-- A request within one page: source, operation, logical address, bytes touched, data with it; and
where its answer goes in a core (`reg`). -/
structure MemReq where
  src : MemSrc
  op : MemOp
  addr : Nat
  len : Nat
  data : List Byte := []
  /-- It is held behind a row that is being copied. -/
  held : Bool := false
  /-- Of a request whose first lines have been performed: that it is so, the bytes read, and whether any was
  uncorrectable. -/
  begun : Bool := false
  got : List Byte := []
  bad : Bool := false
  deriving DecidableEq, Repr

/-- An answer on its way to a Basin stop: data, and whether it is marked uncorrectable. -/
structure MemRsp where
  src : MemSrc
  data : List Byte
  bad : Bool
  deriving DecidableEq, Repr

/-- What a ring packet carries (R253). -/
inductive RingBody where
  | req (gch : Nat) (r : MemReq)
  | rsp (r : MemRsp)
  deriving DecidableEq, Repr

/-- A packet waiting to enter a ring, or on it: ring (0 clockwise), class (0 REQ), the stop at which
it stands, its destination, and its origin. -/
structure RingPkt where
  ring : Nat
  cls : Nat
  at_ : Nat
  dst : Nat
  src : Nat
  body : RingBody
  deriving DecidableEq, Repr

/-- An arbiter instance (R298): the outstanding grant, its owner or the last one, units used, and by
requester the core clock, plus 1, since which its request has waited. -/
structure ArbSt where
  busy : Bool := false
  owner : Nat := 0
  used : Nat := 0
  /-- BURST of the owner as the decision found it, and the core clock from which it has effect. -/
  limit : Nat := 0
  since : Nat := 0
  waits : SMap Nat := []
  /-- Core clock, plus 1, at which the last freeze ended. -/
  thaw : Nat := 0
  /-- Core clock at which FREEZE was set. -/
  frozenAt : Option Nat := none
  deriving DecidableEq, Repr

/-- Corrections of a row within the scrub period (R288, R289): codewords corrected, the codeword
numbers (line × 8 + codeword), and the order of the oldest. -/
structure RowCe where
  chan : Nat
  bank : Nat
  row : Nat
  count : Nat
  words : List Nat
  deriving DecidableEq, Repr

/-- A row being copied to a spare (R290). -/
structure Repair where
  chan : Nat
  bank : Nat
  row : Nat
  spare : Nat
  /-- Core clock of the trigger. -/
  since : Nat := 0
  /-- Lines read so far, and the codewords of them that were uncorrectable. -/
  lines : Nat := 0
  bad : List Nat := []
  deriving DecidableEq, Repr

/-- The stacks and what serves them (chapter 9), beside their registers and windows. -/
structure MemSt where
  /-- Bytes by physical place: ((channel × 64 + bank) × 4128 + row) × 4096 + byte, spare k at row
  4096 + k. -/
  bytes : SMap Byte := []
  /-- How often a map-out left a bank's contents undefined (R294), by channel × 64 + bank. -/
  gen : SMap Nat := []
  /-- Poisoned codewords, by physical place divided by 64 (R281). -/
  poison : SMap Bool := []
  /-- Requests waiting at a stop, by arbiter instance × 32 + requester. -/
  stopQ : SMap (List RingPkt) := []
  /-- Packets on the rings, in the order in which they entered. -/
  ring : List RingPkt := []
  /-- Transit packets forwarded in a row on an output link while an injection was eligible there, by stop × 2 + ring. -/
  transit : SMap Nat := []
  /-- Requests at a channel, oldest first. -/
  chanQ : SMap (List MemReq) := []
  /-- By channel, the core clock plus 1 at which its last request started (R466). -/
  startAt : SMap Nat := []
  /-- The arbiter instances, by number (R297, R298); and the words of arbiters and histogram bases (R223) that this core clock
  has changed, by address, as they stood at its start. -/
  arb : SMap ArbSt := []
  cfgOld : SMap (Option Nat) := []
  /-- The correction table of a channel, oldest first, at most 256 rows. -/
  rowCe : SMap (List RowCe) := []
  /-- Address faults of a channel in the scrub period. -/
  addrFaults : SMap Nat := []
  /-- The next line of each channel's scrubber, and core clock of the start of its period. -/
  scrubPos : SMap Nat := []
  scrubAt : SMap Nat := []
  /-- Rows being copied to spares (R290). -/
  repairs : List Repair := []
  /-- Channels in a margin procedure (1 FULL, 2 SCAN), and those that failed one since training. -/
  margining : SMap Nat := []
  untrained : List Nat := []
  /-- The slot that a running bank map-out empties, the rows it has copied, and the core clock of its last copy. -/
  mapSlot : Nat := 0
  copied : Nat := 0
  copyAt : Nat := 0
  /-- Lines read of the row that it copies, and the codewords of them that were uncorrectable. -/
  copyLines : Nat := 0
  copyBad : List Nat := []
  /-- The settings of a channel's pins, pin 0 first. -/
  phy : SMap (List PinSet) := []
  /-- REASON of R488 of the map-out requested. -/
  mapReason : Nat := 0
  /-- Map-outs that have left contents undefined. -/
  genCtr : Nat := 0
  deriving DecidableEq, Repr



/-- Values of elements, exact (chapter 7): a special, or a signed rational `n/d` (a zero keeps its
sign). -/
inductive Num where
  | nan
  | inf (neg : Bool)
  | fin (neg : Bool) (n d : Nat)
  deriving DecidableEq, Repr

/-- An accumulator image (R212): nothing yet; the bits of a FAST image; an EXACT image (values A_0 to A_3
and the status bits); or the extreme kept by MIN and MAX. -/
inductive Image where
  | empty
  | fast (code : Nat)
  | exact (a0 a1 a2 a3 : Int) (nan pinf ninf nzAll : Bool)
  | extreme (x : Num)
  deriving DecidableEq, Repr

/-- What a conversion gives: the code, and what the accounts of R220 and R226 need of it. -/
structure Rounded where
  code : Nat
  nan : Bool := false
  inf : Bool := false
  sat : Bool := false
  srTotal : Bool := false
  srUp : Bool := false
  deriving DecidableEq, Repr

/-- A chunk index on a Basin (R174): the members accumulated, its images, spill requests outstanding,
and whether it is finished or discarded. -/
structure IdxSt where
  arrived : List Nat := []
  images : List Image := []
  out : Nat := 0
  /-- A contribution has gone to the spill image. -/
  spilled : Bool := false
  /-- The image of a complete index is being read, its pieces that came, and whether any was uncorrectable. -/
  reading : Bool := false
  got : SMap (List Byte) := []
  bad : Bool := false
  done : Bool := false
  deriving DecidableEq, Repr

/-- A result staged for hand-off: payload, each element's conversion with its block's scale code, the Basin
that made it, and whether an index skipped a member (PARTIAL). -/
structure Staged where
  bytes : List Byte
  elems : List (Rounded × Nat) := []
  basin : Nat := 0
  partial_ : Bool := false
  deriving DecidableEq, Repr

/-- A collective context beside its entry (R170 to R176, R181). -/
structure CtxSt where
  /-- 0 FREE, 1 IDLE, 2 OPEN, 3 NORES, 4 CLOSING, 5 DONE: the state but for its communicator's teardown. -/
  phase : Nat := 0
  /-- Arrival bits, by CIDX × 2,048 + CONTRIB, RECORDs at + 1,024. -/
  arr : SMap Bool := []
  /-- Members fenced for the context, and by Basin those whose marker it has taken. -/
  fenced : List Nat := []
  skipAt : SMap (List Nat) := []
  /-- STATUS that a close other than completion brings; Basins that have taken the close marker. -/
  close : Option Nat := none
  closedAt : List Nat := []
  /-- Core clocks of the opening and of the entry to DONE (R170). -/
  openAt : Nat := 0
  doneAt : Nat := 0
  /-- Chunk indices, by CIDX × 2 + half (half 1: the second Basin of a pair). -/
  idx : SMap IdxSt := []
  /-- Complete indices; contributions accumulated; records handed. -/
  complete : Nat := 0
  accd : Nat := 0
  recordsSent : Nat := 0
  /-- First finished result of a pair, by CIDX. -/
  pairs : SMap (Option Staged) := []
  /-- The base H of the histogram (R223), taken at instantiation; and whether a NaN or a saturation was handed (R220). -/
  h : Int := 0
  nan : Bool := false
  sat : Bool := false
  /-- An UPDATE index was held, its skipped member not permitted by APPLY_PARTIAL (R187). -/
  held : Bool := false
  /-- Slot bytes by Basin and arrival blocks of the context itself (ONDEMAND, or beyond its position's). -/
  slots : List (Nat × Nat) := []
  blocks : Nat := 0
  /-- The hyperparameter block held from instantiation (R259). -/
  hyper : List Byte := []
  hyperBad : Bool := false
  /-- Its read has not been answered. -/
  hyperWait : Bool := false
  /-- Instantiations of the position so far. -/
  instances : Nat := 0
  deriving DecidableEq, Repr

/-- Slot bytes that the ledger, or a Basin, holds reserved: Basin, context (or 16,384 + communicator for
its positions), bytes. -/
structure SlotRec where
  basin : Nat
  owner : Nat
  bytes : Nat
  deriving DecidableEq, Repr

/-- A communicator beside its entry: what its positions hold reserved (RESERVED mode), members fenced by
command, and a teardown whose release messages have been sent: the slot bytes and arrival blocks whose messages the
ledger has processed, which stay reserved until event 5 of R192. -/
structure CommSt where
  posSlots : List (Nat × Nat) := []
  posBlocks : Nat := 0
  fenced : List Nat := []
  releasing : Bool := false
  torn : List SlotRec := []
  tornBlocks : Nat := 0
  deriving DecidableEq, Repr

/-- What stands on the path to a Basin (R52, R176, R229). -/
inductive BasinItem where
  | chunk (pkt ctx cidx half : Nat)
  | fence (ctx member : Nat)
  | close (ctx : Nat)
  deriving DecidableEq, Repr

/-- A packet staged for the result writer: RESULT (SUB 0x8), RECORD (0xB) or completion record (0x9). -/
structure ColOut where
  ctx : Nat
  sub : Nat
  cidx : Nat
  body : Staged
  /-- Its wait for the pool has been counted. -/
  waited : Bool := false
  deriving DecidableEq, Repr

/-- A finished UPDATE index waiting for its kernel: reduced values as FP32 codes, and the index's images as slot memory
holds them (R212). -/
structure KernelItem where
  ctx : Nat
  cidx : Nat
  vals : List Nat
  partial_ : Bool
  imgs : List Byte := []
  deriving DecidableEq, Repr

/-- The collective engine (chapter 6). -/
structure ColSt where
  /-- The contexts by index, and the communicators by index (R170). -/
  ctxs : SMap CtxSt := []
  comms : SMap CommSt := []
  /-- The path to each Basin, oldest first; finish items; kernel items. -/
  path : SMap (List BasinItem) := []
  finQ : SMap (List (Nat × Nat × Nat)) := []
  kernQ : SMap (List KernelItem) := []
  /-- Results waiting for VC5 pool cells, oldest first. -/
  outQ : List ColOut := []
  /-- The ledger of R53, what the Basins hold, and release messages on their way: bytes, and arrival
  blocks that go with the message. -/
  ledger : List SlotRec := []
  held : List SlotRec := []
  releaseQ : List (SlotRec × Nat) := []
  /-- Ledger records that the last check found free at their Basin. -/
  suspects : List SlotRec := []
  /-- Slot bytes retired from a Basin's pool. -/
  retired : SMap Nat := []
  /-- Core clock of the last check of the ledger (R53). -/
  lastCheck : Nat := 0
  /-- Arrival blocks in use. -/
  blocksUsed : Nat := 0
  /-- The queue at which the round robin of R188 looks first. -/
  cursor : Nat := 0
  deriving DecidableEq, Repr



/-- Where the answer of an outstanding access of a core goes: an integer register with its size and sign, a
vector register whole or lane by lane, an atomic's register, a piece of a built-in kernel's state block or of a
DMA descriptor, or nowhere (a store, an add). -/
inductive Pend where
  | field (piece : Nat)
  | desc (piece : Nat)
  | scalar (reg bytes : Nat) (signed : Bool)
  | vector (reg mask : Nat)
  | lane (reg lane bytes : Nat)
  | none
  deriving DecidableEq, Repr

/-- An outstanding access of a core: its number, where its answer goes, and the instruction and local address that made
it. -/
structure Access where
  tag : Nat
  pend : Pend
  pc : Nat := 0
  addr : Nat := 0
  deriving DecidableEq, Repr

/-- A kernel invocation on a core (R229 to R234): its index, the values it reduces and the index's images, where its
grants begin in the slot pool, and the output and scratch bytes it may write. -/
structure Inv where
  ctx : Nat
  cidx : Nat
  kernel : Nat
  vals : List Nat
  partial_ : Bool
  imgs : List Byte := []
  base : Nat := 0
  out : SMap Byte := []
  /-- By local address of a byte that the invocation wrote, whether its low and high four bits belong to an element that a
  convert instruction saturated (bits 0 and 1), or made of a NaN (bits 2 and 3). -/
  marks : SMap Nat := []
  scratch : SMap Byte := []
  /-- Of a built-in kernel: the pieces of its state block that came, and its result once made. -/
  got : SMap (List Byte) := []
  made : Option (List Byte × List (Rounded × Nat)) := none
  /-- Number of the invocation, which distinguishes the free contents of its grants. -/
  gen : Nat
  deriving DecidableEq, Repr

/-- A tagged instruction that is followed until it retires (R269, R270): words W0 to W7 but for SEQ and T_RET,
and the tag of the access awaited. -/
structure Follow where
  cls : Nat
  op : Nat
  pc : Nat
  addr : Nat
  tag : Nat
  deriving DecidableEq, Repr

/-- A vector core (R227): registers, private data, the invocation it runs, and what is outstanding. -/
structure CoreSt where
  inv : Option Inv := none
  /-- Integer, vector and mask registers (R227). -/
  s : SMap Nat := []
  v : SMap Nat := []
  k : SMap Nat := []
  /-- Marks of vector registers, by register × 2: four-bit places of elements that a convert instruction saturated, and at
  register × 2 + 1 of those it made of a NaN. -/
  marks : SMap Nat := []
  /-- The same of scalar registers. -/
  sMarks : SMap Nat := []
  /-- The program counter, and the private SRAM (R227). -/
  pc : Nat := 0
  priv : SMap Byte := []
  /-- Instructions issued by the invocation (R234). -/
  issued : Nat := 0
  /-- Outstanding accesses by their number, and the next number. -/
  pend : List Access := []
  nextTag : Nat := 0
  /-- Pieces that came of the descriptor which a START reads from stacked memory. -/
  desc : SMap (List Byte) := []
  /-- It has arrived at the barrier. -/
  atBarrier : Bool := false
  /-- The tagging LFSR (R269); none: its seed. -/
  lfsr : Option Nat := none
  /-- The tagged instruction that is followed (R269). -/
  follow : Option Follow := none
  deriving DecidableEq, Repr

/-- A matrix operation in progress (R246): what it does (0 load, 1 stream, 2 drain, 3 fill), local addresses and
byte strides of the stationary tile, the streamed rows (in OS: of Aᵀ and of B) and the destination. -/
structure MtxJob where
  kind : Nat
  fmt : Nat
  choice : Nat
  tile : Nat
  tileStride : Nat
  a : Nat
  aStride : Nat
  b : Nat
  bStride : Nat
  dst : Nat
  dstStride : Nat
  count : Nat
  acc : Bool
  deriving DecidableEq, Repr

/-- A matrix array (R243 to R248): the core that owns it, format and stationary choice (0 WS, 1 IS, 2 OS), the
stationary tile and the accumulators by rows of element codes, the operation in progress, and whether the
last one faulted. -/
structure ArraySt where
  owner : Option Nat := none
  fmt : Nat := 0
  choice : Nat := 0
  tile : List (List Nat) := []
  acc : List (List Nat) := []
  job : Option MtxJob := none
  faulted : Bool := false
  /-- The core whose MWAIT waits for the operation in progress. -/
  waiter : Option Nat := none
  deriving DecidableEq, Repr

/-- A DMA descriptor of R286. -/
structure Desc where
  src : Nat
  dst : Nat
  rows : Nat
  cols : Nat
  sstride : Nat
  dstride : Nat
  op : Nat
  esize : Nat
  deriving DecidableEq, Repr

/-- A descriptor in a Basin's DMA queue: its ticket and core; 0 queued, 1 its source is read, 2 its destination is
written; requests outstanding, the pieces read, and whether any was uncorrectable. -/
structure DmaItem where
  ticket : Nat
  core : Nat
  desc : Desc
  phase : Nat := 0
  out : Nat := 0
  got : SMap (List Byte) := []
  bad : Bool := false
  deriving DecidableEq, Repr

/-- A Basin's DMA engine: the queue, the next ticket, and by ticket the status once ended (1 done,
2 faulted). -/
structure DmaSt where
  q : List DmaItem := []
  next : Nat := 1
  status : SMap Nat := []
  deriving DecidableEq, Repr

/-- The Basins' programs (chapter 8), beside their pages: cores by Basin × 24 + core. -/
structure BsnSt where
  /-- Vector cores by Basin × 24 + core (R227), matrix arrays and DMA engines by Basin (R243, R286). -/
  cores : SMap CoreSt := []
  arrays : SMap ArraySt := []
  dma : SMap DmaSt := []
  /-- Loaded user kernels by slot: the image (R261). -/
  kernels : SMap (List Byte) := []
  /-- The slot whose load is under way. -/
  loading : Option Nat := none
  /-- Invocations started. -/
  invs : Nat := 0
  /-- Basins whose clock change is under way, one key each (R268). -/
  clkBusy : SMap Bool := []
  /-- Basins whose issue is paused by temperature (R463). -/
  paused : SMap Bool := []
  deriving DecidableEq, Repr



/-- A leaf as the health service sees it (R434 to R444). -/
structure LeafSt where
  /-- 0 UNKNOWN, 1 ALIVE, 2 SUSPECT, 3 FENCED. -/
  state : Nat := 0
  score : Nat := 255
  /-- Core clock of the last liveness. -/
  seen : Option Nat := none
  /-- CAUSE of the recommendation held, or of the fence; and whether it was confirmed. -/
  rec_ : Option Nat := none
  cause : Nat := 0
  confirmed : Bool := false
  /-- A liveness frame has come since the fence. -/
  fencedRx : Bool := false
  /-- The fall to WARN is logged. -/
  warned : Bool := false
  /-- Hard link-down, and a score at or below FENCE, as last judged. -/
  hard : Bool := false
  low : Bool := false
  /-- Core clock of the last penalty or point of recovery. -/
  paidAt : Nat := 0
  /-- Core clock at which the last port of the leaf left UP. -/
  downAt : Option Nat := none
  /-- Core clock of the last unfence (R445). -/
  freedAt : Option Nat := none
  deriving DecidableEq, Repr

/-- What is recorded against a Basin (R450): mismatches with their core clock and partner, ECC faults. -/
structure BasinHealth where
  pairs : List (Nat × Nat) := []
  suspect : Bool := false
  ecc : Nat := 0
  deriving DecidableEq, Repr

/-- The health service (chapter 14), beside its registers. -/
structure HlthSt where
  /-- The leaves, by number (R434). -/
  leaves : SMap LeafSt := []
  /-- Core clocks of the fences in the window. -/
  window : List Nat := []
  /-- What is recorded against each Basin (R450). -/
  basins : SMap BasinHealth := []
  /-- Uncorrectable errors by stack, and by channel. -/
  stackUe : SMap Nat := []
  chanUe : SMap Nat := []
  /-- Core clock at which a page's FREEZE was written, plus 1 (R451). -/
  freezeAt : SMap Nat := []
  /-- The leaf of each port by association, plus 1 (R434). -/
  portLeaf : SMap Nat := []
  /-- The automatic decisions of this core clock, in the order in which their causes began: leaf and cause (R443, R445). -/
  due : List (Nat × Nat) := []
  deriving DecidableEq, Repr



/-- An Annealer run in progress (R470): KIND of R476, whether its plan is applied, the mailbox that awaits
it, and the highest readings since its start by die: switch, port, compute, HBM, photonic. -/
structure AnnRun where
  kind : Nat
  apply : Bool
  mailbox : Option Nat := none
  temps : List Int := []
  /-- Core clock of its start. -/
  since : Nat := 0
  deriving DecidableEq, Repr

/-- A ramp of a Basin's regulator (R459): where and in which core clock it began, and where it ends, in 1/160 mV. -/
structure Ramp where
  start : Nat
  since : Nat
  target : Nat
  deriving DecidableEq, Repr

/-- Power, temperature and ageing (chapter 15), beside their registers. -/
structure PwrSt where
  /-- The thermal trip latch (R468). -/
  trip : Bool := false
  /-- Core clocks of the last sample, evaluation, power reading and cap evaluation. -/
  sampledAt : Nat := 0
  evalAt : Nat := 0
  readAt : Nat := 0
  capAt : Nat := 0
  /-- Sensors, and domains at 128 + d, with a reading since their highest was read. -/
  seen : SMap Bool := []
  /-- By Basin, the core clock plus 1 since which it has been cool, and of its last rise of TL (R463). -/
  coolSince : SMap Nat := []
  roseAt : SMap Nat := []
  /-- By island, the core clocks plus 1 of the trip that began its stretch and of the last trip (R461); and the stretches
  that have ended, first core clock and core clock of the end, newest first. -/
  stretch : SMap Nat := []
  tripAt : SMap Nat := []
  slow : SMap (List (Nat × Nat)) := []
  /-- Core clock since which P has been below CAP_W − 20 W, and above CAP_W with PL at 0 (R467). -/
  lowSince : Option Nat := none
  overSince : Option Nat := none
  capFailed : Bool := false
  /-- Dies at or above T_WARN (0 switch, 1 + n port), the photonic die at T_PIC, and stacks at 85 °C, at
  T_MEM and at 100 °C (R466). -/
  warn : SMap Bool := []
  pic : Bool := false
  hot85 : SMap Bool := []
  memThr : SMap Bool := []
  memCrit : SMap Bool := []
  /-- The Annealer: its run, the core clock of the last end. -/
  run : Option AnnRun := none
  runEnd : Nat := 0
  /-- A scheduled run fell due while another ran (R475). -/
  runDue : Bool := false
  /-- Powered hours of the newest record, and the core clock from which more are counted (R476). -/
  onBase : Nat := 0
  onSince : Nat := 0
  /-- The last ramp of each Basin's regulator. -/
  ramps : SMap (Option Ramp) := []
  /-- Days until HR_MIG by plane, as the last run that found its headroom falling projected them (R473). -/
  days : SMap Nat := []
  deriving DecidableEq, Repr

/-- Resets, reference clocks and what start-up awaits (chapters 16 and 18). -/
structure BoardSt where
  /-- The type of the reset whose start-up has not run: 0 COLD, 1 WARM, 2 DATA (R498). -/
  starting : Option Nat := some 0
  /-- Held in WARM reset by a brown-out (R544). -/
  held : Bool := false
  /-- Presence of REFCLK_A and REFCLK_B as judged by R547. -/
  refA : Bool := true
  refB : Bool := true
  /-- t0 of R499 has come: since the reset was released both inputs have been judged present (R551). -/
  t0 : Bool := true
  /-- Lanes whose PRBS checker runs (R362). -/
  prbs : List Nat := []
  deriving DecidableEq, Repr



/-- The part. -/
structure State where
  /-- Register and table words by BAR0 byte address; an unlisted word holds its reset value. -/
  bar : SMap Word := []
  /-- Status bits that were set in this core clock, by word address: a write of 1 does not clear them (R221, R417). -/
  setNow : SMap Nat := []
  obs : ObsSt := {}
  time : TimeSt := {}
  nvm : NvmSt := {}
  glass : GlassSt := {}
  mgmt : MgmtSt := {}
  cis : CisSt := {}
  fwd : FwdSt := {}
  mem : MemSt := {}
  col : ColSt := {}
  bsn : BsnSt := {}
  hlth : HlthSt := {}
  /-- Links by first lane, and link control frames received and waiting, oldest first. -/
  ports : SMap PortSt := []
  lcQ : List LcFrame := []
  /-- The module cages by number (R365). -/
  cages : SMap CageSt := []
  pwr : PwrSt := {}
  board : BoardSt := {}
  /-- The model's own counter of free values drawn; every value of it is possible. -/
  freeCtr : Nat := 0
  /-- The commands waiting, first in first out. -/
  pending : List Instr := []
  deriving DecidableEq, Repr

/-- Why the part stops.  No command of the table stops the part: what the spec leaves out of reach
of a command leaves the state as it is. -/
inductive Fault where
  /-- Raised by no meaning: the block has no fault that stops it (safe). -/
  | none
  deriving DecidableEq, Repr

/-- Why the model refuses a command. -/
inductive Refusal where
  /-- Raised by an arm of `exec` whose command has no meaning yet (safe: nothing is claimed). -/
  | notModelled (mnemonic : String)
  deriving DecidableEq, Repr

/-- The part right after a COLD reset, before start-up has run (R498, R499): every register at its
reset value, every queue and table empty, the clock at zero. -/
def State.reset : State := {}

end Sys2Proof.Machine
end

