-- ==== Sys2Proof/Machine/Layout.lean ====
section
/-! DEFINITION. The BAR0 layout: the register pages of R557, the table windows of R560, and every
field of their registers and entries, with its access type (R13), reset value and range, as the
chapters' register tables give them; and the named field references by which the rest of the model
reads and writes them. -/

namespace Sys2Proof.Machine
namespace Layout

/-- CAP of the Global page (R7). -/
def capGlobal : RegDef := ⟨0x8, 4, 1, [⟨31, 22, .rsv, 0x0, [], false⟩,
      ⟨21, 16, .ro, 0x0, [], false⟩,
      ⟨15, 14, .rsv, 0x0, [], false⟩,
      ⟨13, 8, .ro, 0x0, [], false⟩,
      ⟨7, 6, .rsv, 0x0, [], false⟩,
      ⟨5, 0, .ro, 0x32, [], false⟩]⟩

/-- The common layout of every register page (R401). -/
def commonRegs : List RegDef := [
  ⟨0x0, 4, 1, [⟨31, 16, .ro, 0x5120, [], false⟩,
      ⟨15, 12, .ro, 0x0, [], false⟩,
      ⟨11, 8, .ro, 0x0, [], false⟩,
      ⟨7, 0, .ro, 0x0, [], false⟩]⟩,
  ⟨0x4, 4, 1, [⟨31, 24, .ro, 0x1, [], false⟩,
      ⟨23, 16, .ro, 0x0, [], false⟩,
      ⟨15, 0, .rsv, 0x0, [], false⟩]⟩,
  ⟨0x8, 4, 1, [⟨31, 0, .ro, 0x0, [], false⟩]⟩,
  ⟨0xc, 4, 1, [⟨31, 16, .rsv, 0x0, [], false⟩,
      ⟨15, 0, .ro, 0x0, [], false⟩]⟩,
  ⟨0x10, 4, 1, [⟨31, 1, .rsv, 0x0, [], false⟩,
      ⟨0, 0, .rw, 0x0, [], false⟩]⟩,
  ⟨0x14, 4, 1, [⟨31, 31, .ro, 0x0, [], false⟩,
      ⟨30, 30, .ro, 0x0, [], false⟩,
      ⟨29, 29, .ro, 0x0, [], false⟩,
      ⟨28, 0, .rsv, 0x0, [], false⟩]⟩,
  ⟨0x18, 4, 1, [⟨31, 31, .w1c, 0x0, [], false⟩,
      ⟨30, 30, .w1c, 0x0, [], false⟩,
      ⟨29, 26, .rsv, 0x0, [], false⟩,
      ⟨25, 24, .ro, 0x0, [], false⟩,
      ⟨23, 16, .rsv, 0x0, [], false⟩,
      ⟨15, 0, .ro, 0x0, [], false⟩]⟩,
  ⟨0x1c, 4, 1, [⟨31, 12, .rsv, 0x0, [], false⟩,
      ⟨11, 0, .ro, 0x0, [], false⟩]⟩,
  ⟨0x20, 4, 1, [⟨31, 0, .ro, 0x0, [], false⟩]⟩,
  ⟨0x30, 4, 1, [⟨31, 3, .rsv, 0x0, [], false⟩,
      ⟨2, 2, .ro, 0x0, [], false⟩,
      ⟨1, 1, .ro, 0x0, [], false⟩,
      ⟨0, 0, .ro, 0x0, [], false⟩]⟩,
  ⟨0x34, 4, 1, [⟨31, 3, .rsv, 0x0, [], false⟩,
      ⟨2, 0, .rw, 0x1, [], false⟩]⟩,
  ⟨0x38, 4, 1, [⟨31, 6, .rsv, 0x0, [], false⟩,
      ⟨5, 0, .rw, 0x0, [], false⟩]⟩,
  ⟨0x40, 4, 1, [⟨31, 31, .ro, 0x0, [], false⟩,
      ⟨30, 6, .rsv, 0x0, [], false⟩,
      ⟨5, 4, .ro, 0x0, [], false⟩,
      ⟨3, 0, .ro, 0x0, [], false⟩]⟩,
  ⟨0x80, 8, 8, [⟨31, 0, .ro, 0x0, [], false⟩]⟩,
  ⟨0x84, 8, 8, [⟨31, 16, .rsv, 0x0, [], false⟩,
      ⟨15, 0, .ro, 0x0, [], false⟩]⟩,
  ⟨0xc0, 4, 8, [⟨31, 31, .rw, 0x0, [], false⟩,
      ⟨30, 16, .rsv, 0x0, [], false⟩,
      ⟨15, 0, .rw, 0x0, [], false⟩]⟩,
  ⟨0xe0, 4, 1, [⟨31, 8, .rsv, 0x0, [], false⟩,
      ⟨7, 0, .w1c, 0x0, [], false⟩]⟩]

/-- The block-specific registers of a GLOBAL page (R54, R55, R501, R555). -/
def regs_GLOBAL : List RegDef := [
  ⟨0x140, 4, 1, [⟨31, 9, .rsv, 0x0, [], false⟩,
      ⟨8, 8, .w1c, 0x0, [], false⟩,
      ⟨7, 7, .w1c, 0x0, [], false⟩,
      ⟨6, 6, .w1c, 0x0, [], false⟩,
      ⟨5, 5, .w1c, 0x0, [], false⟩,
      ⟨4, 4, .w1c, 0x0, [], false⟩,
      ⟨3, 3, .w1c, 0x0, [], false⟩,
      ⟨2, 2, .w1c, 0x0, [], false⟩,
      ⟨1, 1, .w1c, 0x0, [], false⟩,
      ⟨0, 0, .w1c, 0x0, [], false⟩]⟩,
  ⟨0x144, 4, 1, [⟨31, 9, .rsv, 0x0, [], false⟩,
      ⟨8, 0, .rw, 0x0, [], false⟩]⟩,
  ⟨0x160, 4, 1, [⟨31, 24, .wo, 0x0, [(165, 165)], false⟩,
      ⟨23, 2, .rsv, 0x0, [], false⟩,
      ⟨1, 0, .wo, 0x0, [(0, 2)], false⟩]⟩,
  ⟨0x170, 4, 1, [⟨31, 11, .rsv, 0x0, [], false⟩,
      ⟨10, 7, .ro, 0x0, [], false⟩,
      ⟨6, 6, .w1c, 0x0, [], false⟩,
      ⟨5, 5, .w1c, 0x0, [], false⟩,
      ⟨4, 4, .ro, 0x0, [], false⟩,
      ⟨3, 3, .ro, 0x0, [], false⟩,
      ⟨2, 2, .w1c, 0x0, [], false⟩,
      ⟨1, 1, .w1c, 0x0, [], false⟩,
      ⟨0, 0, .ro, 0x0, [], false⟩]⟩]

/-- The block-specific registers of a LANE page (R345, R355, R369, R393, R529). -/
def regs_LANE : List RegDef := [
  ⟨0x100, 4, 1, [⟨31, 31, .rw, 0x0, [], false⟩,
      ⟨30, 26, .rsv, 0x0, [], false⟩,
      ⟨25, 24, .rw, 0x0, [(0, 1)], true⟩,
      ⟨23, 20, .rsv, 0x0, [], false⟩,
      ⟨19, 16, .rw, 0x1, [(0, 4)], true⟩,
      ⟨15, 11, .rsv, 0x0, [], false⟩,
      ⟨10, 10, .rw, 0x0, [], true⟩,
      ⟨9, 0, .rsv, 0x0, [], false⟩]⟩,
  ⟨0x104, 4, 1, [⟨31, 29, .ro, 0x0, [], false⟩,
      ⟨28, 24, .rsv, 0x0, [], false⟩,
      ⟨23, 20, .ro, 0x0, [], false⟩,
      ⟨19, 16, .ro, 0x0, [], false⟩,
      ⟨15, 0, .rsv, 0x0, [], false⟩]⟩,
  ⟨0x108, 4, 1, [⟨31, 31, .ro, 0x0, [], false⟩,
      ⟨30, 29, .ro, 0x0, [], false⟩,
      ⟨28, 10, .rsv, 0x0, [], false⟩,
      ⟨9, 0, .ro, 0x0, [], false⟩]⟩,
  ⟨0x10c, 4, 1, [⟨31, 31, .wo, 0x0, [], false⟩,
      ⟨30, 30, .wo, 0x0, [], false⟩,
      ⟨29, 0, .rsv, 0x0, [], false⟩]⟩,
  ⟨0x110, 4, 1, [⟨31, 20, .rsv, 0x0, [], false⟩,
      ⟨19, 16, .rw, 0x3, [(1, 15)], false⟩,
      ⟨15, 0, .rw, 0x10, [(1, 65535)], false⟩]⟩,
  ⟨0x120, 4, 1, [⟨31, 24, .ro, 0x0, [], false⟩,
      ⟨23, 16, .rsv, 0x0, [], false⟩,
      ⟨15, 0, .ro, 0x0, [], false⟩]⟩,
  ⟨0x124, 4, 1, [⟨31, 24, .ro, 0x0, [], false⟩,
      ⟨23, 16, .ro, 0x0, [], false⟩,
      ⟨15, 8, .ro, 0x0, [], false⟩,
      ⟨7, 0, .ro, 0x0, [], false⟩]⟩,
  ⟨0x128, 4, 1, [⟨31, 24, .ro, 0x0, [], false⟩,
      ⟨23, 16, .ro, 0x0, [], false⟩,
      ⟨15, 8, .ro, 0x0, [], false⟩,
      ⟨7, 0, .ro, 0x0, [], false⟩]⟩,
  ⟨0x180, 4, 1, [⟨31, 30, .rw, 0x0, [(0, 2)], false⟩,
      ⟨29, 27, .rw, 0x0, [(0, 2)], false⟩,
      ⟨26, 26, .rw, 0x0, [], false⟩,
      ⟨25, 25, .rw, 0x0, [], false⟩,
      ⟨24, 0, .rsv, 0x0, [], false⟩]⟩,
  ⟨0x184, 4, 1, [⟨31, 31, .ro, 0x0, [], false⟩,
      ⟨30, 30, .ro, 0x0, [], false⟩,
      ⟨29, 24, .rsv, 0x0, [], false⟩,
      ⟨23, 16, .ro, 0x0, [], false⟩,
      ⟨15, 8, .ro, 0x0, [], false⟩,
      ⟨7, 0, .ro, 0x0, [], false⟩]⟩,
  ⟨0x188, 4, 1, [⟨31, 0, .ro, 0x0, [], false⟩]⟩,
  ⟨0x1c0, 4, 1, [⟨31, 31, .ro, 0x0, [], false⟩,
      ⟨30, 30, .ro, 0x0, [], false⟩,
      ⟨29, 27, .ro, 0x0, [], false⟩,
      ⟨26, 24, .rsv, 0x0, [], false⟩,
      ⟨23, 16, .ro, 0x0, [], false⟩,
      ⟨15, 0, .rsv, 0x0, [], false⟩]⟩,
  ⟨0x1c4, 4, 1, [⟨31, 31, .rw, 0x1, [], false⟩,
      ⟨30, 8, .rsv, 0x0, [], false⟩,
      ⟨7, 0, .rw, 0x78, [(1, 255)], false⟩]⟩,
  ⟨0x1c8, 4, 1, [⟨31, 31, .wo, 0x0, [], false⟩,
      ⟨30, 30, .wo, 0x0, [], false⟩,
      ⟨29, 23, .wo, 0x0, [], false⟩,
      ⟨22, 16, .rsv, 0x0, [], false⟩,
      ⟨15, 8, .wo, 0x0, [], false⟩,
      ⟨7, 0, .wo, 0x0, [], false⟩]⟩,
  ⟨0x1cc, 4, 1, [⟨31, 8, .rsv, 0x0, [], false⟩,
      ⟨7, 0, .rw, 0x0, [], false⟩]⟩,
  ⟨0x1d0, 4, 1, [⟨31, 31, .ro, 0x0, [], false⟩,
      ⟨30, 30, .w1c, 0x0, [], false⟩,
      ⟨29, 29, .ro, 0x0, [], false⟩,
      ⟨28, 16, .rsv, 0x0, [], false⟩,
      ⟨15, 0, .ro, 0x0, [], false⟩]⟩,
  ⟨0x200, 4, 32, [⟨31, 0, .rw, 0x0, [], false⟩]⟩,
  ⟨0x140, 4, 1, [⟨31, 31, .rw, 0x0, [], false⟩,
      ⟨30, 27, .rsv, 0x0, [], false⟩,
      ⟨26, 24, .rw, 0x3, [], false⟩,
      ⟨23, 16, .rw, 0x0, [], false⟩,
      ⟨15, 13, .rw, 0x0, [], false⟩,
      ⟨12, 0, .rsv, 0x0, [], false⟩]⟩,
  ⟨0x144, 4, 1, [⟨31, 0, .rw, 0x0, [], false⟩]⟩,
  ⟨0x148, 4, 1, [⟨31, 16, .rw, 0x0, [], false⟩,
      ⟨15, 0, .rw, 0x0, [], false⟩]⟩,
  ⟨0x14c, 4, 1, [⟨31, 0, .ro, 0x0, [], false⟩]⟩,
  ⟨0x150, 4, 1, [⟨31, 31, .rw, 0x0, [], false⟩,
      ⟨30, 29, .rsv, 0x0, [], false⟩,
      ⟨28, 24, .rw, 0x10, [(4, 24)], false⟩,
      ⟨23, 16, .rw, 0xff, [], false⟩,
      ⟨15, 0, .rsv, 0x0, [], false⟩]⟩,
  ⟨0x130, 4, 1, [⟨31, 0, .ro, 0x0, [], false⟩]⟩,
  ⟨0x134, 4, 1, [⟨31, 19, .rsv, 0x0, [], false⟩,
      ⟨18, 16, .ro, 0x0, [], false⟩,
      ⟨15, 0, .ro, 0x0, [], false⟩]⟩]

/-- The block-specific registers of a GROUP page (R363). -/
def regs_GROUP : List RegDef := [
  ⟨0x100, 4, 1, [⟨31, 31, .rw, 0x0, [], false⟩,
      ⟨30, 20, .rsv, 0x0, [], false⟩,
      ⟨19, 16, .rw, 0x0, [], false⟩,
      ⟨15, 10, .rsv, 0x0, [], false⟩,
      ⟨9, 0, .rw, 0x0, [], false⟩]⟩,
  ⟨0x104, 4, 8, [⟨31, 31, .rw, 0x0, [], false⟩,
      ⟨30, 10, .rsv, 0x0, [], false⟩,
      ⟨9, 0, .rw, 0x0, [], false⟩]⟩,
  ⟨0x124, 4, 1, [⟨31, 16, .rsv, 0x0, [], false⟩,
      ⟨15, 8, .ro, 0x0, [], false⟩,
      ⟨7, 0, .ro, 0x0, [], false⟩]⟩]

/-- The block-specific registers of a FWDID page (R62, R81, R93). -/
def regs_FWDID : List RegDef := [
  ⟨0x100, 4, 1, [⟨31, 31, .rw, 0x0, [], false⟩,
      ⟨30, 10, .rsv, 0x0, [], false⟩,
      ⟨9, 0, .rw, 0x0, [], false⟩]⟩,
  ⟨0x104, 4, 1, [⟨31, 14, .rsv, 0x0, [], false⟩,
      ⟨13, 0, .rw, 0x2400, [(1518, 9216)], false⟩]⟩,
  ⟨0x108, 4, 1, [⟨31, 27, .rsv, 0x0, [], false⟩,
      ⟨26, 16, .rw, 0x0, [], true⟩,
      ⟨15, 11, .rsv, 0x0, [], false⟩,
      ⟨10, 0, .rw, 0x0, [], true⟩]⟩]

/-- The block-specific registers of a FWDCFG page (R105). -/
def regs_FWDCFG : List RegDef := [
  ⟨0x100, 4, 1, [⟨31, 20, .rsv, 0x0, [], false⟩,
      ⟨19, 16, .rw, 0x8, [(1, 15)], false⟩,
      ⟨15, 14, .rsv, 0x0, [], false⟩,
      ⟨13, 8, .rw, 0x10, [(1, 32)], false⟩,
      ⟨7, 3, .rsv, 0x0, [], false⟩,
      ⟨2, 2, .rw, 0x0, [], true⟩,
      ⟨1, 1, .rw, 0x0, [], false⟩,
      ⟨0, 0, .rw, 0x1, [], false⟩]⟩,
  ⟨0x104, 4, 1, [⟨31, 31, .rw, 0x0, [], true⟩,
      ⟨30, 16, .rsv, 0x0, [], false⟩,
      ⟨15, 0, .rw, 0x0, [], true⟩]⟩,
  ⟨0x108, 4, 1, [⟨31, 0, .ro, 0x4b445331, [], false⟩]⟩,
  ⟨0x10c, 4, 1, [⟨31, 0, .ro, 0x7d2ae60f, [], false⟩]⟩,
  ⟨0x110, 4, 1, [⟨31, 0, .rw, 0x31c80d55, [], true⟩]⟩]

/-- The block-specific registers of a FWDEPOCH page (R115). -/
def regs_FWDEPOCH : List RegDef := [
  ⟨0x100, 4, 1, [⟨31, 3, .rsv, 0x0, [], false⟩,
      ⟨2, 2, .wo, 0x0, [], false⟩,
      ⟨1, 1, .wo, 0x0, [], false⟩,
      ⟨0, 0, .wo, 0x0, [], true⟩]⟩,
  ⟨0x104, 4, 1, [⟨31, 16, .ro, 0x0, [], false⟩,
      ⟨15, 4, .rsv, 0x0, [], false⟩,
      ⟨3, 2, .ro, 0x0, [], false⟩,
      ⟨1, 1, .rsv, 0x0, [], false⟩,
      ⟨0, 0, .ro, 0x0, [], false⟩]⟩,
  ⟨0x108, 4, 1, [⟨31, 24, .rsv, 0x0, [], false⟩,
      ⟨23, 0, .rw, 0x3e8, [(10, 1000000)], false⟩]⟩]

/-- The block-specific registers of a FWDLRN page (R108). -/
def regs_FWDLRN : List RegDef := [
  ⟨0x100, 4, 1, [⟨31, 16, .rsv, 0x0, [], false⟩,
      ⟨15, 0, .rw, 0x64, [], false⟩]⟩,
  ⟨0x104, 4, 1, [⟨31, 31, .wo, 0x0, [], false⟩,
      ⟨30, 29, .wo, 0x0, [], false⟩,
      ⟨28, 16, .rsv, 0x0, [], false⟩,
      ⟨15, 0, .wo, 0x0, [], false⟩]⟩,
  ⟨0x108, 4, 1, [⟨31, 31, .ro, 0x0, [], false⟩,
      ⟨30, 23, .rsv, 0x0, [], false⟩,
      ⟨22, 16, .ro, 0x0, [], false⟩,
      ⟨15, 0, .rsv, 0x0, [], false⟩]⟩,
  ⟨0x10c, 4, 1, [⟨31, 21, .rsv, 0x0, [], false⟩,
      ⟨20, 0, .ro, 0x0, [], false⟩]⟩]

/-- The block-specific registers of a FWDFENCE page (R127). -/
def regs_FWDFENCE : List RegDef := [
  ⟨0x100, 4, 32, [⟨31, 0, .ro, 0x0, [], false⟩]⟩]

/-- The block-specific registers of a CISCFG page (R158). -/
def regs_CISCFG : List RegDef := [
  ⟨0x100, 4, 1, [⟨31, 20, .rsv, 0x0, [], false⟩,
      ⟨19, 0, .rw, 0x20000, [(4096, 524288)], true⟩]⟩,
  ⟨0x104, 4, 1, [⟨31, 16, .rsv, 0x0, [], false⟩,
      ⟨15, 0, .rw, 0x800, [(256, 65535)], true⟩]⟩,
  ⟨0x108, 4, 1, [⟨31, 31, .ro, 0x0, [], false⟩,
      ⟨30, 21, .rsv, 0x0, [], false⟩,
      ⟨20, 0, .ro, 0x0, [], false⟩]⟩,
  ⟨0x10c, 4, 1, [⟨31, 24, .rsv, 0x0, [], false⟩,
      ⟨23, 0, .rw, 0xc350, [(1000, 10000000)], false⟩]⟩,
  ⟨0x110, 4, 1, [⟨31, 21, .rsv, 0x0, [], false⟩,
      ⟨20, 0, .ro, 0x0, [], false⟩]⟩,
  ⟨0x114, 4, 1, [⟨31, 21, .rsv, 0x0, [], false⟩,
      ⟨20, 0, .ro, 0x0, [], false⟩]⟩]

/-- The block-specific registers of a RED page (R142). -/
def regs_RED : List RegDef := [
  ⟨0x100, 8, 48, [⟨31, 20, .rsv, 0x0, [], false⟩,
      ⟨19, 0, .rw, 0x0, [], false⟩]⟩,
  ⟨0x104, 8, 48, [⟨31, 28, .rsv, 0x0, [], false⟩,
      ⟨27, 20, .rw, 0x0, [], false⟩,
      ⟨19, 0, .rw, 0x0, [], false⟩]⟩]

/-- The block-specific registers of a WEIR page (R159). -/
def regs_WEIR : List RegDef := [
]

/-- The block-specific registers of a COLCFG page (R193). -/
def regs_COLCFG : List RegDef := [
  ⟨0x100, 4, 1, [⟨31, 1, .rsv, 0x0, [], false⟩,
      ⟨0, 0, .rw, 0x0, [], false⟩]⟩,
  ⟨0x104, 4, 1, [⟨31, 24, .rsv, 0x0, [], false⟩,
      ⟨23, 0, .rw, 0x3e8, [(10, 1000000)], false⟩]⟩,
  ⟨0x108, 4, 1, [⟨31, 31, .rsv, 0x0, [], false⟩,
      ⟨30, 16, .ro, 0x0, [], false⟩,
      ⟨15, 13, .rsv, 0x0, [], false⟩,
      ⟨12, 0, .ro, 0x0, [], false⟩]⟩,
  ⟨0x10c, 4, 1, [⟨31, 20, .rsv, 0x0, [], false⟩,
      ⟨19, 0, .ro, 0x0, [], false⟩]⟩,
  ⟨0x110, 4, 1, [⟨31, 19, .rsv, 0x0, [], false⟩,
      ⟨18, 0, .ro, 0x0, [], false⟩]⟩,
  ⟨0x114, 4, 1, [⟨31, 4, .rsv, 0x0, [], false⟩,
      ⟨3, 3, .w1c, 0x0, [], false⟩,
      ⟨2, 2, .w1c, 0x0, [], false⟩,
      ⟨1, 1, .w1c, 0x0, [], false⟩,
      ⟨0, 0, .w1c, 0x0, [], false⟩]⟩,
  ⟨0x118, 4, 1, [⟨31, 4, .rsv, 0x0, [], false⟩,
      ⟨3, 0, .rw, 0x1, [], false⟩]⟩]

/-- The block-specific registers of a COLQ page (R194). -/
def regs_COLQ : List RegDef := [
  ⟨0x100, 16, 128, [⟨31, 31, .rw, 0x0, [], false⟩,
      ⟨30, 16, .rsv, 0x0, [], false⟩,
      ⟨15, 0, .rw, 0x0, [], false⟩]⟩,
  ⟨0x104, 16, 128, [⟨31, 6, .rsv, 0x0, [], false⟩,
      ⟨5, 0, .rw, 0x0, [], false⟩]⟩,
  ⟨0x108, 16, 128, [⟨31, 6, .rsv, 0x0, [], false⟩,
      ⟨5, 0, .ro, 0x0, [], false⟩]⟩,
  ⟨0x10c, 16, 128, [⟨31, 16, .rsv, 0x0, [], false⟩,
      ⟨15, 0, .ro, 0x0, [], false⟩]⟩]

/-- The block-specific registers of a COLNUM page (R224). -/
def regs_COLNUM : List RegDef := [
  ⟨0x100, 4, 1, [⟨31, 3, .rsv, 0x0, [], false⟩,
      ⟨2, 2, .w1c, 0x0, [], false⟩,
      ⟨1, 1, .w1c, 0x0, [], false⟩,
      ⟨0, 0, .w1c, 0x0, [], false⟩]⟩,
  ⟨0x104, 4, 1, [⟨31, 3, .rsv, 0x0, [], false⟩,
      ⟨2, 0, .rw, 0x0, [], false⟩]⟩,
  ⟨0x108, 4, 1, [⟨31, 0, .ro, 0x0, [], false⟩]⟩]

/-- The block-specific registers of a BASIN page (R271). -/
def regs_BASIN : List RegDef := [
  ⟨0x100, 4, 1, [⟨31, 14, .rsv, 0x0, [], false⟩,
      ⟨13, 8, .ro, 0x1c, [], false⟩,
      ⟨7, 6, .rsv, 0x0, [], false⟩,
      ⟨5, 0, .rw, 0x1c, [(0, 48)], false⟩]⟩,
  ⟨0x104, 4, 1, [⟨31, 3, .rsv, 0x0, [], false⟩,
      ⟨2, 0, .ro, 0x0, [], false⟩]⟩,
  ⟨0x108, 4, 1, [⟨31, 7, .rsv, 0x0, [], false⟩,
      ⟨6, 0, .rw, 0x60, [(0, 96)], false⟩]⟩,
  ⟨0x10c, 4, 1, [⟨31, 23, .rsv, 0x0, [], false⟩,
      ⟨22, 0, .ro, 0x0, [], false⟩]⟩,
  ⟨0x110, 4, 1, [⟨31, 0, .rw, 0x1000000, [(1, 4294967295)], false⟩]⟩,
  ⟨0x114, 4, 1, [⟨31, 2, .rsv, 0x0, [], false⟩,
      ⟨1, 1, .wo, 0x0, [], false⟩,
      ⟨0, 0, .wo, 0x0, [], false⟩]⟩,
  ⟨0x118, 4, 1, [⟨31, 31, .w1c, 0x0, [], false⟩,
      ⟨30, 27, .ro, 0x0, [], false⟩,
      ⟨26, 22, .ro, 0x0, [], false⟩,
      ⟨21, 14, .rsv, 0x0, [], false⟩,
      ⟨13, 0, .ro, 0x0, [], false⟩]⟩,
  ⟨0x11c, 4, 1, [⟨31, 16, .ro, 0x0, [], false⟩,
      ⟨15, 0, .ro, 0x0, [], false⟩]⟩,
  ⟨0x120, 4, 1, [⟨31, 0, .ro, 0x0, [], false⟩]⟩,
  ⟨0x124, 4, 1, [⟨31, 16, .rsv, 0x0, [], false⟩,
      ⟨15, 0, .ro, 0x0, [], false⟩]⟩,
  ⟨0x128, 4, 1, [⟨31, 31, .rw, 0x0, [], false⟩,
      ⟨30, 5, .rsv, 0x0, [], false⟩,
      ⟨4, 0, .rw, 0x10, [(4, 24)], false⟩]⟩,
  ⟨0x12c, 4, 1, [⟨31, 16, .ro, 0x0, [], false⟩,
      ⟨15, 8, .rsv, 0x0, [], false⟩,
      ⟨7, 0, .ro, 0x0, [], false⟩]⟩]

/-- The block-specific registers of a MEMCFG page (R299). -/
def regs_MEMCFG : List RegDef := [
  ⟨0x100, 4, 1, [⟨31, 16, .ro, 0x0, [], false⟩,
      ⟨15, 10, .rsv, 0x0, [], false⟩,
      ⟨9, 0, .ro, 0x0, [], false⟩]⟩,
  ⟨0x104, 4, 1, [⟨31, 23, .rsv, 0x0, [], false⟩,
      ⟨22, 8, .ro, 0x0, [], false⟩,
      ⟨7, 7, .rsv, 0x0, [], false⟩,
      ⟨6, 0, .ro, 0x0, [], false⟩]⟩,
  ⟨0x108, 4, 1, [⟨31, 16, .rsv, 0x0, [], false⟩,
      ⟨15, 8, .rw, 0x4, [(1, 255)], false⟩,
      ⟨7, 0, .rw, 0x18, [(0, 168)], false⟩]⟩,
  ⟨0x10c, 4, 1, [⟨31, 16, .rsv, 0x0, [], false⟩,
      ⟨15, 8, .rw, 0x3, [(1, 255)], false⟩,
      ⟨7, 0, .rw, 0x8, [(1, 64)], false⟩]⟩,
  ⟨0x110, 4, 1, [⟨31, 31, .ro, 0x0, [], false⟩,
      ⟨30, 30, .ro, 0x0, [], false⟩,
      ⟨29, 29, .ro, 0x0, [], false⟩,
      ⟨28, 20, .ro, 0x0, [], false⟩,
      ⟨19, 14, .ro, 0x0, [], false⟩,
      ⟨13, 0, .rsv, 0x0, [], false⟩]⟩,
  ⟨0x114, 4, 1, [⟨31, 16, .rsv, 0x0, [], false⟩,
      ⟨15, 0, .ro, 0x0, [], false⟩]⟩,
  ⟨0x118, 4, 1, [⟨31, 31, .wo, 0x0, [], false⟩,
      ⟨30, 30, .wo, 0x0, [], false⟩,
      ⟨29, 29, .rsv, 0x0, [], false⟩,
      ⟨28, 20, .wo, 0x0, [], false⟩,
      ⟨19, 14, .wo, 0x0, [], false⟩,
      ⟨13, 0, .rsv, 0x0, [], false⟩]⟩,
  ⟨0x11c, 4, 1, [⟨31, 31, .wo, 0x0, [], false⟩,
      ⟨30, 27, .rsv, 0x0, [], false⟩,
      ⟨26, 18, .wo, 0x0, [], false⟩,
      ⟨17, 12, .wo, 0x0, [], false⟩,
      ⟨11, 0, .wo, 0x0, [], false⟩]⟩,
  ⟨0x120, 4, 1, [⟨31, 31, .wo, 0x0, [], false⟩,
      ⟨30, 30, .wo, 0x0, [], false⟩,
      ⟨29, 9, .rsv, 0x0, [], false⟩,
      ⟨8, 0, .wo, 0x0, [], false⟩]⟩,
  ⟨0x124, 4, 1, [⟨31, 15, .rsv, 0x0, [], false⟩,
      ⟨14, 0, .rw, 0x0, [], false⟩]⟩,
  ⟨0x128, 4, 1, [⟨31, 9, .rsv, 0x0, [], false⟩,
      ⟨8, 0, .w1c, 0x0, [], false⟩]⟩,
  ⟨0x12c, 4, 1, [⟨31, 9, .rsv, 0x0, [], false⟩,
      ⟨8, 0, .rw, 0x1fd, [], false⟩]⟩]

/-- The block-specific registers of a HBM page (R299). -/
def regs_HBM : List RegDef := [
  ⟨0x100, 4, 1, [⟨31, 31, .ro, 0x0, [], false⟩,
      ⟨30, 24, .rsv, 0x0, [], false⟩,
      ⟨23, 16, .ro, 0x0, [], false⟩,
      ⟨15, 6, .rsv, 0x0, [], false⟩,
      ⟨5, 0, .ro, 0x0, [], false⟩]⟩]

/-- The block-specific registers of a GLASS page (R335). -/
def regs_GLASS : List RegDef := [
  ⟨0x100, 4, 1, [⟨31, 1, .rsv, 0x0, [], false⟩,
      ⟨0, 0, .rw, 0x1, [], false⟩]⟩,
  ⟨0x104, 4, 1, [⟨31, 16, .rsv, 0x0, [], false⟩,
      ⟨15, 8, .rw, 0x14, [(10, 60)], false⟩,
      ⟨7, 0, .rw, 0xa, [(5, 60)], false⟩]⟩,
  ⟨0x108, 4, 1, [⟨31, 16, .rw, 0x0, [(64736, 65535), (0, 400)], false⟩,
      ⟨15, 0, .rw, 0xfa24, [(63036, 64636)], false⟩]⟩,
  ⟨0x10c, 4, 1, [⟨31, 16, .rsv, 0x0, [], false⟩,
      ⟨15, 0, .rw, 0xfce0, [], false⟩]⟩,
  ⟨0x110, 4, 1, [⟨31, 10, .rsv, 0x0, [], false⟩,
      ⟨9, 0, .rw, 0x2ee, [(1, 800)], false⟩]⟩,
  ⟨0x114, 4, 1, [⟨31, 20, .rsv, 0x0, [], false⟩,
      ⟨19, 10, .rw, 0x78, [], false⟩,
      ⟨9, 0, .rw, 0x3c, [], false⟩]⟩,
  ⟨0x118, 4, 1, [⟨31, 11, .rsv, 0x0, [], false⟩,
      ⟨10, 0, .w1c, 0x0, [], false⟩]⟩,
  ⟨0x11c, 4, 1, [⟨31, 11, .rsv, 0x0, [], false⟩,
      ⟨10, 0, .rw, 0x7fe, [], false⟩]⟩,
  ⟨0x120, 4, 1, [⟨31, 31, .wo, 0x0, [], true⟩,
      ⟨30, 1, .rsv, 0x0, [], false⟩,
      ⟨0, 0, .wo, 0x0, [], true⟩]⟩,
  ⟨0x124, 4, 1, [⟨31, 0, .rw, 0x0, [], true⟩]⟩,
  ⟨0x128, 4, 1, [⟨31, 30, .rsv, 0x0, [], false⟩,
      ⟨29, 0, .rw, 0x0, [], true⟩]⟩,
  ⟨0x130, 4, 1, [⟨31, 30, .ro, 0x0, [], false⟩,
      ⟨29, 29, .ro, 0x0, [], false⟩,
      ⟨28, 28, .ro, 0x0, [], false⟩,
      ⟨27, 27, .ro, 0x0, [], false⟩,
      ⟨26, 1, .rsv, 0x0, [], false⟩,
      ⟨0, 0, .ro, 0x0, [], false⟩]⟩,
  ⟨0x134, 4, 1, [⟨31, 0, .ro, 0x0, [], false⟩]⟩,
  ⟨0x138, 4, 1, [⟨31, 0, .ro, 0x0, [], false⟩]⟩,
  ⟨0x13c, 4, 1, [⟨31, 30, .rsv, 0x0, [], false⟩,
      ⟨29, 0, .ro, 0x0, [], false⟩]⟩,
  ⟨0x140, 4, 1, [⟨31, 0, .ro, 0x0, [], false⟩]⟩,
  ⟨0x144, 4, 1, [⟨31, 30, .rsv, 0x0, [], false⟩,
      ⟨29, 0, .ro, 0x0, [], false⟩]⟩,
  ⟨0x150, 4, 2, [⟨31, 8, .rsv, 0x0, [], false⟩,
      ⟨7, 0, .rw, 0x0, [], true⟩]⟩,
  ⟨0x160, 4, 1, [⟨31, 31, .wo, 0x0, [], false⟩,
      ⟨30, 30, .wo, 0x0, [], false⟩,
      ⟨29, 3, .rsv, 0x0, [], false⟩,
      ⟨2, 0, .wo, 0x0, [], false⟩]⟩,
  ⟨0x164, 4, 1, [⟨31, 30, .ro, 0x0, [], false⟩,
      ⟨29, 3, .rsv, 0x0, [], false⟩,
      ⟨2, 0, .ro, 0x0, [], false⟩]⟩,
  ⟨0x170, 4, 1, [⟨31, 31, .wo, 0x0, [], false⟩,
      ⟨30, 7, .rsv, 0x0, [], false⟩,
      ⟨6, 6, .wo, 0x0, [], false⟩,
      ⟨5, 0, .wo, 0x0, [], false⟩]⟩]

/-- The block-specific registers of a PLANE page (R336). -/
def regs_PLANE : List RegDef := [
  ⟨0x100, 4, 1, [⟨31, 29, .ro, 0x0, [], false⟩,
      ⟨28, 22, .rsv, 0x0, [], false⟩,
      ⟨21, 16, .ro, 0x0, [], false⟩,
      ⟨15, 0, .ro, 0x0, [], false⟩]⟩]

/-- The block-specific registers of a TIME page (R392). -/
def regs_TIME : List RegDef := [
  ⟨0x100, 4, 1, [⟨31, 30, .rw, 0x0, [], false⟩,
      ⟨29, 29, .rw, 0x1, [], false⟩,
      ⟨28, 28, .rw, 0x0, [], false⟩,
      ⟨27, 27, .rw, 0x1, [], false⟩,
      ⟨26, 26, .rsv, 0x0, [], false⟩,
      ⟨25, 16, .rw, 0x0, [], false⟩,
      ⟨15, 8, .rw, 0x0, [(0, 127)], false⟩,
      ⟨7, 0, .rsv, 0x0, [], false⟩]⟩,
  ⟨0x104, 4, 1, [⟨31, 30, .ro, 0x0, [], false⟩,
      ⟨29, 16, .rsv, 0x0, [], false⟩,
      ⟨15, 0, .ro, 0x0, [], false⟩]⟩,
  ⟨0x108, 4, 1, [⟨31, 1, .rsv, 0x0, [], false⟩,
      ⟨0, 0, .wo, 0x0, [], false⟩]⟩,
  ⟨0x10c, 4, 1, [⟨31, 0, .ro, 0x0, [], false⟩]⟩,
  ⟨0x110, 4, 1, [⟨31, 0, .ro, 0x0, [], false⟩]⟩,
  ⟨0x114, 4, 1, [⟨31, 30, .rsv, 0x0, [], false⟩,
      ⟨29, 0, .ro, 0x0, [], false⟩]⟩,
  ⟨0x118, 4, 1, [⟨31, 16, .rsv, 0x0, [], false⟩,
      ⟨15, 0, .ro, 0x0, [], false⟩]⟩,
  ⟨0x120, 4, 1, [⟨31, 16, .rsv, 0x0, [], false⟩,
      ⟨15, 0, .rw, 0x0, [], false⟩]⟩,
  ⟨0x124, 4, 1, [⟨31, 0, .rw, 0x0, [], false⟩]⟩,
  ⟨0x128, 4, 1, [⟨31, 30, .rsv, 0x0, [], false⟩,
      ⟨29, 0, .rw, 0x0, [(0, 999999999)], false⟩]⟩,
  ⟨0x12c, 4, 1, [⟨31, 31, .wo, 0x0, [], false⟩,
      ⟨30, 30, .wo, 0x0, [], false⟩,
      ⟨29, 0, .rsv, 0x0, [], false⟩]⟩,
  ⟨0x130, 4, 1, [⟨31, 0, .rw, 0x0, [], false⟩]⟩,
  ⟨0x134, 4, 1, [⟨31, 0, .rw, 0x0, [], false⟩]⟩,
  ⟨0x138, 4, 1, [⟨31, 0, .rw, 0x0, [], false⟩]⟩,
  ⟨0x13c, 4, 1, [⟨31, 16, .rsv, 0x0, [], false⟩,
      ⟨15, 0, .rw, 0x0, [], false⟩]⟩,
  ⟨0x140, 4, 1, [⟨31, 13, .rsv, 0x0, [], false⟩,
      ⟨12, 8, .rw, 0x3, [(0, 16)], false⟩,
      ⟨7, 5, .rsv, 0x0, [], false⟩,
      ⟨4, 0, .rw, 0x6, [(0, 24)], false⟩]⟩,
  ⟨0x144, 4, 1, [⟨31, 0, .rw, 0x3e8, [(10, 1000000000)], false⟩]⟩,
  ⟨0x148, 4, 1, [⟨31, 20, .rsv, 0x0, [], false⟩,
      ⟨19, 0, .rw, 0x2710, [(1, 500000)], false⟩]⟩,
  ⟨0x14c, 4, 1, [⟨31, 16, .rw, 0xa, [(1, 65535)], false⟩,
      ⟨15, 0, .rw, 0x7d0, [(10, 65535)], false⟩]⟩,
  ⟨0x150, 4, 1, [⟨31, 0, .ro, 0x0, [], false⟩]⟩,
  ⟨0x154, 4, 1, [⟨31, 12, .rw, 0x2710, [(1, 500000)], false⟩,
      ⟨11, 0, .rsv, 0x0, [], false⟩]⟩,
  ⟨0x158, 4, 1, [⟨31, 0, .rw, 0x0, [(4293967296, 4294967295), (0, 1000000)], false⟩]⟩,
  ⟨0x15c, 4, 1, [⟨31, 16, .ro, 0x0, [], false⟩,
      ⟨15, 0, .rw, 0x0, [], false⟩]⟩,
  ⟨0x160, 4, 1, [⟨31, 0, .ro, 0x0, [], false⟩]⟩,
  ⟨0x164, 4, 1, [⟨31, 30, .rsv, 0x0, [], false⟩,
      ⟨29, 0, .ro, 0x0, [], false⟩]⟩,
  ⟨0x168, 4, 1, [⟨31, 16, .rsv, 0x0, [], false⟩,
      ⟨15, 0, .ro, 0x0, [], false⟩]⟩,
  ⟨0x16c, 4, 1, [⟨31, 31, .rw, 0x0, [], false⟩,
      ⟨30, 0, .rw, 0x0, [], false⟩]⟩]

/-- The block-specific registers of a MGMT page (R426). -/
def regs_MGMT : List RegDef := [
  ⟨0x100, 4, 1, [⟨31, 31, .w1c, 0x0, [], false⟩,
      ⟨30, 30, .w1c, 0x0, [], false⟩,
      ⟨29, 26, .rsv, 0x0, [], false⟩,
      ⟨25, 24, .ro, 0x0, [], false⟩,
      ⟨23, 16, .rsv, 0x0, [], false⟩,
      ⟨15, 0, .ro, 0x0, [], false⟩]⟩,
  ⟨0x104, 4, 1, [⟨31, 28, .rsv, 0x0, [], false⟩,
      ⟨27, 0, .ro, 0x0, [], false⟩]⟩,
  ⟨0x108, 4, 1, [⟨31, 0, .ro, 0x0, [], false⟩]⟩,
  ⟨0x10c, 4, 1, [⟨31, 1, .rsv, 0x0, [], false⟩,
      ⟨0, 0, .ro, 0x0, [], false⟩]⟩,
  ⟨0x110, 4, 1, [⟨31, 0, .ro, 0x0, [], false⟩]⟩,
  ⟨0x114, 4, 1, [⟨31, 0, .ro, 0x0, [], false⟩]⟩,
  ⟨0x118, 4, 1, [⟨31, 6, .rsv, 0x0, [], false⟩,
      ⟨5, 0, .wo, 0x0, [], false⟩]⟩,
  ⟨0x11c, 4, 1, [⟨31, 8, .rsv, 0x0, [], false⟩,
      ⟨7, 4, .ro, 0x0, [], false⟩,
      ⟨3, 0, .ro, 0x0, [], false⟩]⟩,
  ⟨0x140, 4, 64, [⟨31, 31, .ro, 0x0, [], false⟩,
      ⟨30, 16, .rsv, 0x0, [], false⟩,
      ⟨15, 0, .ro, 0x0, [], false⟩]⟩]

/-- The block-specific registers of a TXN page (R416). -/
def regs_TXN : List RegDef := [
  ⟨0x100, 32, 16, [⟨31, 31, .wo, 0x0, [], false⟩,
      ⟨30, 28, .wo, 0x0, [(0, 3)], false⟩,
      ⟨27, 26, .wo, 0x0, [(0, 2)], false⟩,
      ⟨25, 16, .rsv, 0x0, [], false⟩,
      ⟨15, 0, .wo, 0x0, [], false⟩]⟩,
  ⟨0x104, 32, 16, [⟨31, 28, .ro, 0x0, [], false⟩,
      ⟨27, 26, .ro, 0x0, [], false⟩,
      ⟨25, 24, .ro, 0x0, [], false⟩,
      ⟨23, 16, .rsv, 0x0, [], false⟩,
      ⟨15, 0, .ro, 0x0, [], false⟩]⟩,
  ⟨0x108, 32, 16, [⟨31, 17, .rsv, 0x0, [], false⟩,
      ⟨16, 0, .rw, 0x0, [(0, 65536)], false⟩]⟩,
  ⟨0x10c, 32, 16, [⟨31, 16, .rsv, 0x0, [], false⟩,
      ⟨15, 0, .rw, 0x0, [], false⟩]⟩,
  ⟨0x110, 32, 16, [⟨31, 0, .rw, 0x0, [], false⟩]⟩,
  ⟨0x114, 32, 16, [⟨31, 30, .rsv, 0x0, [], false⟩,
      ⟨29, 0, .rw, 0x0, [], false⟩]⟩,
  ⟨0x118, 32, 16, [⟨31, 31, .ro, 0x0, [], false⟩,
      ⟨30, 16, .rsv, 0x0, [], false⟩,
      ⟨15, 0, .ro, 0x0, [], false⟩]⟩,
  ⟨0x11c, 32, 16, [⟨31, 16, .rsv, 0x0, [], false⟩,
      ⟨15, 0, .ro, 0x0, [], false⟩]⟩,
  ⟨0x300, 4, 1, [⟨31, 16, .rsv, 0x0, [], false⟩,
      ⟨15, 0, .w1c, 0x0, [], false⟩]⟩,
  ⟨0x304, 4, 1, [⟨31, 16, .rsv, 0x0, [], false⟩,
      ⟨15, 0, .rw, 0xffff, [], false⟩]⟩]

/-- The block-specific registers of a RILL page (R425). -/
def regs_RILL : List RegDef := [
  ⟨0x100, 4, 1, [⟨31, 31, .ro, 0x0, [], false⟩,
      ⟨30, 30, .ro, 0x0, [], false⟩,
      ⟨29, 29, .ro, 0x0, [], false⟩,
      ⟨28, 6, .rsv, 0x0, [], false⟩,
      ⟨5, 0, .ro, 0x0, [], false⟩]⟩,
  ⟨0x104, 4, 1, [⟨31, 1, .rsv, 0x0, [], false⟩,
      ⟨0, 0, .rw, 0x1, [], false⟩]⟩]

/-- The block-specific registers of a MB page (R432). -/
def regs_MB : List RegDef := [
  ⟨0x100, 16, 8, [⟨31, 31, .wo, 0x0, [], false⟩,
      ⟨30, 0, .rsv, 0x0, [], false⟩]⟩,
  ⟨0x104, 16, 8, [⟨31, 31, .ro, 0x0, [], false⟩,
      ⟨30, 30, .w1c, 0x0, [], false⟩,
      ⟨29, 29, .ro, 0x0, [], false⟩,
      ⟨28, 26, .rsv, 0x0, [], false⟩,
      ⟨25, 24, .ro, 0x0, [], false⟩,
      ⟨23, 16, .rsv, 0x0, [], false⟩,
      ⟨15, 0, .ro, 0x0, [], false⟩]⟩,
  ⟨0x108, 16, 8, [⟨31, 0, .rsv, 0x0, [], false⟩]⟩,
  ⟨0x200, 4, 1, [⟨31, 8, .rsv, 0x0, [], false⟩,
      ⟨7, 0, .w1c, 0x0, [], false⟩]⟩,
  ⟨0x204, 4, 1, [⟨31, 8, .rsv, 0x0, [], false⟩,
      ⟨7, 0, .rw, 0x0, [], false⟩]⟩,
  ⟨0x10c, 16, 8, [⟨31, 0, .rsv, 0x0, [], false⟩]⟩]

/-- The block-specific registers of a HLTH page (R455). -/
def regs_HLTH : List RegDef := [
  ⟨0x100, 4, 1, [⟨31, 16, .rw, 0x1f4, [(50, 65535)], false⟩,
      ⟨15, 0, .rw, 0x1f4, [(10, 60000)], false⟩]⟩,
  ⟨0x104, 4, 1, [⟨31, 16, .rsv, 0x0, [], false⟩,
      ⟨15, 8, .rw, 0xa, [(1, 255)], false⟩,
      ⟨7, 0, .rw, 0x8, [], false⟩]⟩,
  ⟨0x108, 4, 1, [⟨31, 24, .rsv, 0x0, [], false⟩,
      ⟨23, 16, .rw, 0x40, [], false⟩,
      ⟨15, 8, .rw, 0xa0, [], false⟩,
      ⟨7, 0, .rw, 0x1, [(1, 255)], false⟩]⟩,
  ⟨0x10c, 4, 1, [⟨31, 2, .rsv, 0x0, [], false⟩,
      ⟨1, 1, .rw, 0x1, [], false⟩,
      ⟨0, 0, .rw, 0x1, [], false⟩]⟩,
  ⟨0x110, 4, 1, [⟨31, 24, .ro, 0x0, [], false⟩,
      ⟨23, 23, .ro, 0x0, [], false⟩,
      ⟨22, 11, .rsv, 0x0, [], false⟩,
      ⟨10, 0, .ro, 0x0, [], false⟩]⟩,
  ⟨0x114, 4, 1, [⟨31, 31, .ro, 0x0, [], false⟩,
      ⟨30, 30, .ro, 0x0, [], false⟩,
      ⟨29, 28, .ro, 0x0, [], false⟩,
      ⟨27, 10, .rsv, 0x0, [], false⟩,
      ⟨9, 0, .ro, 0x0, [], false⟩]⟩,
  ⟨0x118, 4, 1, [⟨31, 16, .rsv, 0x0, [], false⟩,
      ⟨15, 0, .rw, 0x64, [(1, 60000)], false⟩]⟩,
  ⟨0x11c, 4, 1, [⟨31, 11, .rsv, 0x0, [], false⟩,
      ⟨10, 0, .w1c, 0x0, [], false⟩]⟩,
  ⟨0x120, 4, 1, [⟨31, 11, .rsv, 0x0, [], false⟩,
      ⟨10, 0, .rw, 0x3ef, [], false⟩]⟩]

/-- The block-specific registers of a MSIX page (R418). -/
def regs_MSIX : List RegDef := [
  ⟨0x400, 16, 64, [⟨31, 2, .rw, 0x0, [], false⟩,
      ⟨1, 0, .ro, 0x0, [], false⟩]⟩,
  ⟨0x404, 16, 64, [⟨31, 0, .rw, 0x0, [], false⟩]⟩,
  ⟨0x408, 16, 64, [⟨31, 0, .rw, 0x0, [], false⟩]⟩,
  ⟨0x40c, 16, 64, [⟨31, 1, .ro, 0x0, [], false⟩,
      ⟨0, 0, .rw, 0x1, [], false⟩]⟩,
  ⟨0x800, 4, 2, [⟨31, 0, .ro, 0x0, [], false⟩]⟩]

/-- The block-specific registers of a LOG page (R527). -/
def regs_LOG : List RegDef := [
  ⟨0x100, 4, 1, [⟨31, 1, .rsv, 0x0, [], false⟩,
      ⟨0, 0, .rw, 0x0, [], false⟩]⟩,
  ⟨0x104, 4, 1, [⟨31, 31, .wo, 0x0, [], false⟩,
      ⟨30, 0, .rsv, 0x0, [], false⟩]⟩,
  ⟨0x108, 4, 1, [⟨31, 14, .rsv, 0x0, [], false⟩,
      ⟨13, 0, .ro, 0x0, [], false⟩]⟩,
  ⟨0x10c, 4, 1, [⟨31, 14, .rsv, 0x0, [], false⟩,
      ⟨13, 0, .rw, 0x0, [], false⟩]⟩,
  ⟨0x110, 4, 1, [⟨31, 31, .ro, 0x0, [], false⟩,
      ⟨30, 15, .rsv, 0x0, [], false⟩,
      ⟨14, 0, .ro, 0x0, [], false⟩]⟩,
  ⟨0x114, 4, 1, [⟨31, 0, .ro, 0x0, [], false⟩]⟩]

/-- The block-specific registers of a NVM page (R502). -/
def regs_NVM : List RegDef := [
  ⟨0x100, 4, 1, [⟨31, 31, .ro, 0x0, [], false⟩,
      ⟨30, 30, .ro, 0x0, [], false⟩,
      ⟨29, 29, .ro, 0x0, [], false⟩,
      ⟨28, 28, .ro, 0x0, [], false⟩,
      ⟨27, 27, .ro, 0x0, [], false⟩,
      ⟨26, 26, .ro, 0x0, [], false⟩,
      ⟨25, 25, .ro, 0x0, [], false⟩,
      ⟨24, 0, .rsv, 0x0, [], false⟩]⟩,
  ⟨0x104, 4, 1, [⟨31, 0, .ro, 0x0, [], false⟩]⟩,
  ⟨0x108, 4, 1, [⟨31, 0, .ro, 0x0, [], false⟩]⟩,
  ⟨0x10c, 4, 1, [⟨31, 16, .ro, 0x0, [], false⟩,
      ⟨15, 0, .ro, 0x0, [], false⟩]⟩,
  ⟨0x110, 4, 1, [⟨31, 31, .wo, 0x0, [], false⟩,
      ⟨30, 10, .rsv, 0x0, [], false⟩,
      ⟨9, 0, .wo, 0x0, [], false⟩]⟩]

/-- The block-specific registers of a BOOT page (R503). -/
def regs_BOOT : List RegDef := [
  ⟨0x100, 4, 1, [⟨31, 28, .ro, 0x0, [], false⟩,
      ⟨27, 26, .ro, 0x0, [], false⟩,
      ⟨25, 25, .ro, 0x0, [], false⟩,
      ⟨24, 22, .ro, 0x0, [], false⟩,
      ⟨21, 0, .rsv, 0x0, [], false⟩]⟩,
  ⟨0x104, 4, 1, [⟨31, 0, .ro, 0x0, [], false⟩]⟩,
  ⟨0x108, 4, 1, [⟨31, 0, .ro, 0x0, [], false⟩]⟩,
  ⟨0x10c, 4, 1, [⟨31, 4, .rsv, 0x0, [], false⟩,
      ⟨3, 3, .ro, 0x0, [], false⟩,
      ⟨2, 2, .ro, 0x0, [], false⟩,
      ⟨1, 1, .ro, 0x0, [], false⟩,
      ⟨0, 0, .ro, 0x0, [], false⟩]⟩,
  ⟨0x110, 4, 1, [⟨31, 30, .ro, 0x0, [], false⟩,
      ⟨29, 16, .rsv, 0x0, [], false⟩,
      ⟨15, 0, .ro, 0x0, [], false⟩]⟩,
  ⟨0x114, 4, 1, [⟨31, 16, .rsv, 0x0, [], false⟩,
      ⟨15, 0, .ro, 0x0, [], false⟩]⟩,
  ⟨0x120, 4, 1, [⟨31, 31, .wo, 0x0, [], false⟩,
      ⟨30, 29, .wo, 0x0, [(0, 2)], false⟩,
      ⟨28, 13, .rsv, 0x0, [], false⟩,
      ⟨12, 0, .wo, 0x0, [], false⟩]⟩,
  ⟨0x124, 4, 1, [⟨31, 0, .rw, 0x0, [], false⟩]⟩,
  ⟨0x128, 4, 1, [⟨31, 31, .ro, 0x0, [], false⟩,
      ⟨30, 30, .w1c, 0x0, [], false⟩,
      ⟨29, 29, .ro, 0x0, [], false⟩,
      ⟨28, 16, .rsv, 0x0, [], false⟩,
      ⟨15, 0, .ro, 0x0, [], false⟩]⟩,
  ⟨0x12c, 4, 1, [⟨31, 2, .rsv, 0x0, [], false⟩,
      ⟨1, 1, .w1c, 0x0, [], false⟩,
      ⟨0, 0, .w1c, 0x0, [], false⟩]⟩,
  ⟨0x130, 4, 1, [⟨31, 2, .rsv, 0x0, [], false⟩,
      ⟨1, 0, .rw, 0x3, [], false⟩]⟩]

/-- The block-specific registers of a SNAP page (R528). -/
def regs_SNAP : List RegDef := [
  ⟨0x100, 4, 1, [⟨31, 30, .rw, 0x0, [(0, 2)], false⟩,
      ⟨29, 29, .rw, 0x0, [], false⟩,
      ⟨28, 3, .rsv, 0x0, [], false⟩,
      ⟨2, 0, .rw, 0x1, [(1, 7)], false⟩]⟩,
  ⟨0x104, 4, 1, [⟨31, 0, .rw, 0x3e8, [(100, 10000000)], false⟩]⟩,
  ⟨0x108, 4, 1, [⟨31, 0, .rw, 0x0, [], false⟩]⟩,
  ⟨0x10c, 4, 1, [⟨31, 30, .rsv, 0x0, [], false⟩,
      ⟨29, 0, .rw, 0x0, [(0, 999999999)], false⟩]⟩,
  ⟨0x110, 4, 1, [⟨31, 0, .rw, 0x0, [], false⟩]⟩,
  ⟨0x114, 4, 1, [⟨31, 0, .rw, 0x0, [], false⟩]⟩,
  ⟨0x118, 4, 1, [⟨31, 31, .wo, 0x0, [], false⟩,
      ⟨30, 30, .wo, 0x0, [], false⟩,
      ⟨29, 0, .rsv, 0x0, [], false⟩]⟩,
  ⟨0x11c, 4, 1, [⟨31, 31, .ro, 0x0, [], false⟩,
      ⟨30, 30, .ro, 0x0, [], false⟩,
      ⟨29, 16, .rsv, 0x0, [], false⟩,
      ⟨15, 0, .ro, 0x0, [], false⟩]⟩,
  ⟨0x120, 4, 1, [⟨31, 0, .ro, 0x0, [], false⟩]⟩,
  ⟨0x124, 4, 1, [⟨31, 3, .rsv, 0x0, [], false⟩,
      ⟨2, 0, .w1c, 0x0, [], false⟩]⟩,
  ⟨0x128, 4, 1, [⟨31, 3, .rsv, 0x0, [], false⟩,
      ⟨2, 0, .rw, 0x6, [], false⟩]⟩,
  ⟨0x140, 4, 1, [⟨31, 12, .rsv, 0x0, [], false⟩,
      ⟨11, 0, .ro, 0x0, [], false⟩]⟩]

/-- The block-specific registers of a THERM page (R478). -/
def regs_THERM : List RegDef := [
  ⟨0x100, 4, 1, [⟨31, 24, .rw, 0x64, [(80, 104)], false⟩,
      ⟨23, 16, .rw, 0x5f, [(70, 103)], false⟩,
      ⟨15, 12, .rw, 0x5, [(1, 15)], false⟩,
      ⟨11, 6, .rsv, 0x0, [], false⟩,
      ⟨5, 0, .rw, 0x8, [(1, 48)], false⟩]⟩,
  ⟨0x104, 4, 1, [⟨31, 24, .rw, 0x64, [(70, 110)], false⟩,
      ⟨23, 16, .rw, 0x5f, [(85, 99)], false⟩,
      ⟨15, 8, .rw, 0x5a, [(60, 100)], false⟩,
      ⟨7, 0, .rsv, 0x0, [], false⟩]⟩,
  ⟨0x108, 4, 1, [⟨31, 16, .rsv, 0x0, [], false⟩,
      ⟨15, 0, .rw, 0x640, [(600, 1600)], false⟩]⟩,
  ⟨0x10c, 4, 1, [⟨31, 16, .rsv, 0x0, [], false⟩,
      ⟨15, 0, .ro, 0x0, [], false⟩]⟩,
  ⟨0x110, 4, 1, [⟨31, 7, .rsv, 0x0, [], false⟩,
      ⟨6, 0, .w1c, 0x0, [], false⟩]⟩,
  ⟨0x114, 4, 1, [⟨31, 7, .rsv, 0x0, [], false⟩,
      ⟨6, 0, .rw, 0x3e, [], false⟩]⟩,
  ⟨0x180, 4, 11, [⟨31, 16, .ro, 0x0, [], false⟩,
      ⟨15, 0, .ro, 0x0, [], false⟩]⟩,
  ⟨0x200, 4, 128, [⟨31, 16, .ro, 0x0, [], false⟩,
      ⟨15, 0, .ro, 0x0, [], false⟩]⟩,
  ⟨0x400, 4, 50, [⟨31, 29, .ro, 0x0, [], false⟩,
      ⟨28, 28, .ro, 0x0, [], false⟩,
      ⟨27, 24, .rsv, 0x0, [], false⟩,
      ⟨23, 18, .ro, 0x30, [], false⟩,
      ⟨17, 12, .ro, 0x30, [], false⟩,
      ⟨11, 6, .ro, 0x0, [], false⟩,
      ⟨5, 0, .ro, 0x1c, [], false⟩]⟩]

/-- The block-specific registers of a ANN page (R479). -/
def regs_ANN : List RegDef := [
  ⟨0x100, 4, 1, [⟨31, 31, .rw, 0x1, [], false⟩,
      ⟨30, 24, .rsv, 0x0, [], false⟩,
      ⟨23, 16, .rw, 0x18, [(0, 168)], false⟩,
      ⟨15, 10, .rw, 0x6, [(2, 40)], false⟩,
      ⟨9, 4, .rw, 0x32, [(10, 63)], false⟩,
      ⟨3, 0, .rsv, 0x0, [], false⟩]⟩,
  ⟨0x104, 4, 1, [⟨31, 8, .rsv, 0x0, [], false⟩,
      ⟨7, 0, .rw, 0xc, [(4, 100)], false⟩]⟩,
  ⟨0x108, 4, 1, [⟨31, 31, .ro, 0x0, [], false⟩,
      ⟨30, 0, .ro, 0x0, [], false⟩]⟩,
  ⟨0x10c, 4, 1, [⟨31, 5, .rsv, 0x0, [], false⟩,
      ⟨4, 0, .w1c, 0x0, [], false⟩]⟩,
  ⟨0x110, 4, 1, [⟨31, 5, .rsv, 0x0, [], false⟩,
      ⟨4, 0, .rw, 0x1e, [], false⟩]⟩,
  ⟨0x200, 4, 50, [⟨31, 14, .rsv, 0x0, [], false⟩,
      ⟨13, 8, .ro, 0x0, [], false⟩,
      ⟨7, 6, .rsv, 0x0, [], false⟩,
      ⟨5, 0, .ro, 0x0, [], false⟩]⟩,
  ⟨0x300, 4, 11, [⟨31, 6, .rsv, 0x0, [], false⟩,
      ⟨5, 0, .ro, 0x0, [], false⟩]⟩]

/-- The register pages of R557: first page index, number of pages, PAGE_KIND, registers. -/
def pages : List PageDef := [
  ⟨0x0, 1, 0x1, regs_GLOBAL⟩,
  ⟨0x100, 1024, 0x2, regs_LANE⟩,
  ⟨0x500, 256, 0x3, regs_GROUP⟩,
  ⟨0x600, 1, 0x4, regs_FWDID⟩,
  ⟨0x601, 1, 0x4, regs_FWDCFG⟩,
  ⟨0x602, 1, 0x4, regs_FWDEPOCH⟩,
  ⟨0x603, 1, 0x4, regs_FWDLRN⟩,
  ⟨0x604, 1, 0x4, regs_FWDFENCE⟩,
  ⟨0x700, 1, 0x5, regs_CISCFG⟩,
  ⟨0x701, 1, 0x5, regs_RED⟩,
  ⟨0x800, 1, 0x6, regs_WEIR⟩,
  ⟨0x900, 1, 0x7, regs_COLCFG⟩,
  ⟨0x901, 2, 0x7, regs_COLQ⟩,
  ⟨0x903, 1, 0x7, regs_COLNUM⟩,
  ⟨0xa00, 50, 0x8, regs_BASIN⟩,
  ⟨0xb00, 1, 0x9, regs_MEMCFG⟩,
  ⟨0xb10, 16, 0x9, regs_HBM⟩,
  ⟨0xc00, 1, 0xa, regs_GLASS⟩,
  ⟨0xc10, 9, 0xa, regs_PLANE⟩,
  ⟨0xd00, 1, 0xb, regs_TIME⟩,
  ⟨0xe00, 1, 0xc, regs_MGMT⟩,
  ⟨0xe01, 1, 0xc, regs_TXN⟩,
  ⟨0xe03, 1, 0xc, regs_RILL⟩,
  ⟨0xe05, 1, 0xc, regs_MB⟩,
  ⟨0xe06, 1, 0xc, regs_HLTH⟩,
  ⟨0xe08, 1, 0xc, regs_MSIX⟩,
  ⟨0xf00, 1, 0xd, regs_LOG⟩,
  ⟨0xf01, 1, 0xd, regs_NVM⟩,
  ⟨0xf02, 1, 0xd, regs_BOOT⟩,
  ⟨0xf03, 1, 0xd, regs_SNAP⟩,
  ⟨0xf04, 1, 0xd, regs_THERM⟩,
  ⟨0xf05, 1, 0xd, regs_ANN⟩]

/-- The entry words of the EP window (R94, R128). -/
def words_EP : List RegDef := [
  ⟨0x0, 4, 1, [⟨31, 0, .ro, 0x0, [], false⟩]⟩,
  ⟨0x4, 4, 1, [⟨31, 0, .ro, 0x0, [], false⟩]⟩,
  ⟨0x8, 4, 1, [⟨31, 31, .ro, 0x0, [], false⟩,
      ⟨30, 30, .ro, 0x0, [], false⟩,
      ⟨29, 29, .ro, 0x0, [], false⟩,
      ⟨28, 28, .ro, 0x0, [], false⟩,
      ⟨27, 24, .ro, 0x0, [], false⟩,
      ⟨23, 0, .ro, 0x0, [], false⟩]⟩,
  ⟨0xc, 4, 1, [⟨31, 31, .ro, 0x0, [], false⟩,
      ⟨30, 24, .rsv, 0x0, [], false⟩,
      ⟨23, 0, .ro, 0x0, [], false⟩]⟩]

/-- The entry words of the STASH window (R94, R128). -/
def words_STASH : List RegDef := [
  ⟨0x0, 4, 1, [⟨31, 0, .ro, 0x0, [], false⟩]⟩,
  ⟨0x4, 4, 1, [⟨31, 0, .ro, 0x0, [], false⟩]⟩,
  ⟨0x8, 4, 1, [⟨31, 31, .ro, 0x0, [], false⟩,
      ⟨30, 30, .ro, 0x0, [], false⟩,
      ⟨29, 29, .ro, 0x0, [], false⟩,
      ⟨28, 28, .ro, 0x0, [], false⟩,
      ⟨27, 24, .ro, 0x0, [], false⟩,
      ⟨23, 0, .ro, 0x0, [], false⟩]⟩,
  ⟨0xc, 4, 1, [⟨31, 31, .ro, 0x0, [], false⟩,
      ⟨30, 24, .rsv, 0x0, [], false⟩,
      ⟨23, 0, .ro, 0x0, [], false⟩]⟩]

/-- The entry words of the LROUTE window (R128, R90). -/
def words_LROUTE : List RegDef := [
  ⟨0x0, 4, 1, [⟨31, 24, .rsv, 0x0, [], false⟩,
      ⟨23, 0, .rw, 0x0, [], false⟩]⟩]

/-- The entry words of the CHIP window (R128, R90). -/
def words_CHIP : List RegDef := [
  ⟨0x0, 4, 1, [⟨31, 24, .rsv, 0x0, [], false⟩,
      ⟨23, 0, .rw, 0x0, [], false⟩]⟩]

/-- The entry words of the MDESC window (R123, R128). -/
def words_MDESC : List RegDef := [
  ⟨0x0, 4, 1, [⟨31, 31, .rw, 0x0, [], false⟩,
      ⟨30, 30, .rw, 0x0, [], false⟩,
      ⟨29, 29, .rw, 0x0, [], false⟩,
      ⟨28, 26, .rsv, 0x0, [], false⟩,
      ⟨25, 16, .rw, 0x0, [], false⟩,
      ⟨15, 0, .rw, 0x0, [], false⟩]⟩,
  ⟨0x4, 4, 1, [⟨31, 4, .rsv, 0x0, [], false⟩,
      ⟨3, 0, .rw, 0x0, [], false⟩]⟩,
  ⟨0x8, 4, 1, [⟨31, 0, .rw, 0x0, [], false⟩]⟩,
  ⟨0xc, 4, 1, [⟨31, 0, .rw, 0x0, [], false⟩]⟩]

/-- The entry words of the SKIP window (R128). -/
def words_SKIP : List RegDef := [
  ⟨0x0, 4, 1, [⟨31, 0, .rw, 0x0, [], false⟩]⟩,
  ⟨0x4, 4, 1, [⟨31, 0, .rw, 0x0, [], false⟩]⟩]

/-- The entry words of the PIN window (R119, R128). -/
def words_PIN : List RegDef := [
  ⟨0x0, 4, 1, [⟨31, 0, .rw, 0x0, [], false⟩]⟩]

/-- The entry words of the QUEUE window (R145, R159). -/
def words_QUEUE : List RegDef := [
  ⟨0x0, 4, 1, [⟨31, 31, .rw, 0x1, [], false⟩,
      ⟨30, 30, .rw, 0x0, [], false⟩,
      ⟨29, 28, .rw, 0x0, [], false⟩,
      ⟨27, 27, .rw, 0x0, [], false⟩,
      ⟨26, 24, .rw, 0x0, [], false⟩,
      ⟨23, 20, .rw, 0x0, [], false⟩,
      ⟨19, 0, .rw, 0x2800, [(10240, 1048575)], false⟩]⟩,
  ⟨0x4, 4, 1, [⟨31, 20, .rsv, 0x0, [], false⟩,
      ⟨19, 0, .rw, 0x4000, [], false⟩]⟩,
  ⟨0x8, 4, 1, [⟨31, 24, .rsv, 0x0, [], false⟩,
      ⟨23, 0, .rw, 0x10000, [(9220, 16777215)], false⟩]⟩,
  ⟨0xc, 4, 1, [⟨31, 22, .rsv, 0x0, [], false⟩,
      ⟨21, 0, .rw, 0x0, [(0, 1600000)], false⟩]⟩]

/-- The entry words of the QMAP window (R144, R159). -/
def words_QMAP : List RegDef := [
  ⟨0x0, 4, 1, [⟨31, 0, .rw, 0x0, [], false⟩]⟩]

/-- The entry words of the PORTENT window (R154, R159). -/
def words_PORTENT : List RegDef := [
  ⟨0x0, 4, 1, [⟨31, 22, .rsv, 0x0, [], false⟩,
      ⟨21, 0, .rw, 0x0, [], false⟩]⟩,
  ⟨0x4, 4, 1, [⟨31, 24, .rsv, 0x0, [], false⟩,
      ⟨23, 0, .rw, 0x10000, [(9220, 16777215)], false⟩]⟩,
  ⟨0x8, 4, 1, [⟨31, 20, .rsv, 0x0, [], false⟩,
      ⟨19, 0, .rw, 0x8000, [], false⟩]⟩,
  ⟨0xc, 4, 1, [⟨31, 0, .rsv, 0x0, [], false⟩]⟩]

/-- The entry words of the HEAD window (R138, R159). -/
def words_HEAD : List RegDef := [
  ⟨0x0, 4, 1, [⟨31, 12, .rsv, 0x0, [], false⟩,
      ⟨11, 0, .rw, 0x240, [(64, 4095)], false⟩]⟩,
  ⟨0x4, 4, 1, [⟨31, 24, .rw, 0x20, [], false⟩,
      ⟨23, 16, .rw, 0x20, [], false⟩,
      ⟨15, 8, .rw, 0x2, [], false⟩,
      ⟨7, 0, .rw, 0x11, [], false⟩]⟩,
  ⟨0x8, 4, 1, [⟨31, 16, .rsv, 0x0, [], false⟩,
      ⟨15, 8, .rw, 0x11, [], false⟩,
      ⟨7, 0, .rw, 0x20, [], false⟩]⟩,
  ⟨0xc, 4, 1, [⟨31, 0, .rsv, 0x0, [], false⟩]⟩]

/-- The entry words of the PACC window (R159). -/
def words_PACC : List RegDef := [
  ⟨0x0, 4, 8, [⟨31, 20, .ro, 0x0, [], false⟩,
      ⟨19, 0, .ro, 0x0, [], false⟩]⟩]

/-- The entry words of the QOCC window (R159). -/
def words_QOCC : List RegDef := [
  ⟨0x0, 4, 1, [⟨31, 20, .ro, 0x0, [], false⟩,
      ⟨19, 0, .ro, 0x0, [], false⟩]⟩]

/-- The entry words of the POLICER window (R151, R159). -/
def words_POLICER : List RegDef := [
  ⟨0x0, 4, 1, [⟨31, 22, .rsv, 0x0, [], false⟩,
      ⟨21, 0, .rw, 0x186a00, [(0, 1600000)], false⟩]⟩,
  ⟨0x4, 4, 1, [⟨31, 22, .rsv, 0x0, [], false⟩,
      ⟨21, 0, .rw, 0x186a00, [(0, 1600000)], false⟩]⟩,
  ⟨0x8, 4, 1, [⟨31, 24, .rsv, 0x0, [], false⟩,
      ⟨23, 0, .rw, 0x10000, [(9220, 16777215)], false⟩]⟩,
  ⟨0xc, 4, 1, [⟨31, 24, .rsv, 0x0, [], false⟩,
      ⟨23, 0, .rw, 0x10000, [(9220, 16777215)], false⟩]⟩]

/-- The entry words of the ATTACH window (R151, R159). -/
def words_ATTACH : List RegDef := [
  ⟨0x0, 4, 1, [⟨31, 31, .rw, 0x0, [], false⟩,
      ⟨30, 28, .rsv, 0x0, [], false⟩,
      ⟨27, 16, .rw, 0x0, [], false⟩,
      ⟨15, 15, .rw, 0x0, [], false⟩,
      ⟨14, 12, .rsv, 0x0, [], false⟩,
      ⟨11, 0, .rw, 0x0, [], false⟩]⟩]

/-- The entry words of the COMM window (R162, R164, R195). -/
def words_COMM : List RegDef := [
  ⟨0x0, 4, 1, [⟨31, 16, .ro, 0x0, [], false⟩,
      ⟨15, 0, .ro, 0x0, [], false⟩]⟩,
  ⟨0x4, 4, 1, [⟨31, 31, .ro, 0x0, [], false⟩,
      ⟨30, 30, .ro, 0x0, [], false⟩,
      ⟨29, 29, .ro, 0x0, [], false⟩,
      ⟨28, 26, .ro, 0x0, [], false⟩,
      ⟨25, 23, .ro, 0x0, [], false⟩,
      ⟨22, 11, .rsv, 0x0, [], false⟩,
      ⟨10, 0, .ro, 0x0, [], false⟩]⟩,
  ⟨0x8, 4, 1, [⟨31, 16, .ro, 0x0, [], false⟩,
      ⟨15, 14, .rsv, 0x0, [], false⟩,
      ⟨13, 0, .ro, 0x0, [], false⟩]⟩,
  ⟨0xc, 4, 1, [⟨31, 14, .ro, 0x0, [], false⟩,
      ⟨13, 9, .rsv, 0x0, [], false⟩,
      ⟨8, 0, .ro, 0x0, [], false⟩]⟩,
  ⟨0x10, 4, 1, [⟨31, 20, .rsv, 0x0, [], false⟩,
      ⟨19, 0, .ro, 0x0, [], false⟩]⟩,
  ⟨0x14, 4, 1, [⟨31, 0, .ro, 0x0, [], false⟩]⟩,
  ⟨0x18, 4, 1, [⟨31, 29, .ro, 0x0, [], false⟩,
      ⟨28, 26, .ro, 0x0, [], false⟩,
      ⟨25, 25, .ro, 0x0, [], false⟩,
      ⟨24, 24, .ro, 0x0, [], false⟩,
      ⟨23, 23, .ro, 0x0, [], false⟩,
      ⟨22, 22, .ro, 0x0, [], false⟩,
      ⟨21, 21, .ro, 0x0, [], false⟩,
      ⟨20, 20, .ro, 0x0, [], false⟩,
      ⟨19, 19, .ro, 0x0, [], false⟩,
      ⟨18, 16, .rsv, 0x0, [], false⟩,
      ⟨15, 12, .ro, 0x0, [], false⟩,
      ⟨11, 8, .ro, 0x0, [], false⟩,
      ⟨7, 0, .rsv, 0x0, [], false⟩]⟩,
  ⟨0x1c, 4, 1, [⟨31, 0, .ro, 0x0, [], false⟩]⟩,
  ⟨0x20, 4, 1, [⟨31, 29, .rsv, 0x0, [], false⟩,
      ⟨28, 16, .ro, 0x0, [], false⟩,
      ⟨15, 13, .rsv, 0x0, [], false⟩,
      ⟨12, 0, .ro, 0x0, [], false⟩]⟩,
  ⟨0x24, 4, 1, [⟨31, 0, .ro, 0x0, [], false⟩]⟩,
  ⟨0x28, 4, 1, [⟨31, 18, .rsv, 0x0, [], false⟩,
      ⟨17, 0, .ro, 0x0, [], false⟩]⟩,
  ⟨0x2c, 4, 1, [⟨31, 0, .ro, 0x0, [], false⟩]⟩,
  ⟨0x30, 4, 1, [⟨31, 27, .rsv, 0x0, [], false⟩,
      ⟨26, 0, .ro, 0x0, [], false⟩]⟩,
  ⟨0x34, 4, 1, [⟨31, 27, .rsv, 0x0, [], false⟩,
      ⟨26, 0, .ro, 0x0, [], false⟩]⟩,
  ⟨0x38, 4, 1, [⟨31, 16, .ro, 0x0, [], false⟩,
      ⟨15, 0, .ro, 0x0, [], false⟩]⟩,
  ⟨0x3c, 4, 1, [⟨31, 0, .ro, 0x0, [], false⟩]⟩]

/-- The entry words of the MEMB window (R163, R195). -/
def words_MEMB : List RegDef := [
  ⟨0x0, 4, 1, [⟨31, 31, .ro, 0x0, [], false⟩,
      ⟨30, 26, .rsv, 0x0, [], false⟩,
      ⟨25, 16, .ro, 0x0, [], false⟩,
      ⟨15, 0, .ro, 0x0, [], false⟩]⟩]

/-- The entry words of the COLCMD window (R189, R195), one entry for each queue: 64 commands, the staged parameter block
(R164), and staged communicator fields and map entries, whose reserved bits COMM_ADMIT judges (R190). -/
def words_COLCMD : List RegDef := [
  ⟨0x0, 64, 64, [⟨31, 24, .rw, 0x0, [], false⟩,
      ⟨23, 23, .ro, 0x0, [], false⟩,
      ⟨22, 22, .ro, 0x0, [], false⟩,
      ⟨21, 16, .rsv, 0x0, [], false⟩,
      ⟨15, 0, .ro, 0x0, [], false⟩]⟩,
  ⟨0x4, 64, 64, [⟨31, 16, .rw, 0x0, [], false⟩,
      ⟨15, 0, .rw, 0x0, [], false⟩]⟩,
  ⟨0x8, 64, 64, [⟨31, 0, .rw, 0x0, [], false⟩]⟩,
  ⟨0xc, 64, 64, [⟨31, 0, .ro, 0x0, [], false⟩]⟩,
  ⟨0x10, 64, 64, [⟨31, 0, .rsv, 0x0, [], false⟩]⟩,
  ⟨0x14, 64, 64, [⟨31, 0, .rsv, 0x0, [], false⟩]⟩,
  ⟨0x18, 64, 64, [⟨31, 0, .rsv, 0x0, [], false⟩]⟩,
  ⟨0x1c, 64, 64, [⟨31, 0, .rsv, 0x0, [], false⟩]⟩,
  ⟨0x20, 64, 64, [⟨31, 0, .rsv, 0x0, [], false⟩]⟩,
  ⟨0x24, 64, 64, [⟨31, 0, .rsv, 0x0, [], false⟩]⟩,
  ⟨0x28, 64, 64, [⟨31, 0, .rsv, 0x0, [], false⟩]⟩,
  ⟨0x2c, 64, 64, [⟨31, 0, .rsv, 0x0, [], false⟩]⟩,
  ⟨0x30, 64, 64, [⟨31, 0, .rsv, 0x0, [], false⟩]⟩,
  ⟨0x34, 64, 64, [⟨31, 0, .rsv, 0x0, [], false⟩]⟩,
  ⟨0x38, 64, 64, [⟨31, 0, .rsv, 0x0, [], false⟩]⟩,
  ⟨0x3c, 64, 64, [⟨31, 0, .rsv, 0x0, [], false⟩]⟩,
  ⟨0x1000, 4, 1, [⟨31, 29, .rw, 0x0, [], false⟩,
      ⟨28, 26, .rw, 0x0, [], false⟩,
      ⟨25, 25, .rw, 0x0, [], false⟩,
      ⟨24, 24, .rw, 0x0, [], false⟩,
      ⟨23, 23, .rw, 0x0, [], false⟩,
      ⟨22, 22, .rw, 0x0, [], false⟩,
      ⟨21, 21, .rw, 0x0, [], false⟩,
      ⟨20, 20, .rw, 0x0, [], false⟩,
      ⟨19, 19, .rw, 0x0, [], false⟩,
      ⟨18, 16, .rsv, 0x0, [], false⟩,
      ⟨15, 12, .rw, 0x0, [], false⟩,
      ⟨11, 8, .rw, 0x0, [], false⟩,
      ⟨7, 0, .rsv, 0x0, [], false⟩]⟩,
  ⟨0x1004, 4, 1, [⟨31, 0, .rw, 0x0, [], false⟩]⟩,
  ⟨0x1008, 4, 1, [⟨31, 29, .rsv, 0x0, [], false⟩,
      ⟨28, 16, .rw, 0x0, [], false⟩,
      ⟨15, 13, .rsv, 0x0, [], false⟩,
      ⟨12, 0, .rw, 0x0, [], false⟩]⟩,
  ⟨0x100c, 4, 1, [⟨31, 0, .rw, 0x0, [], false⟩]⟩,
  ⟨0x1010, 4, 1, [⟨31, 18, .rsv, 0x0, [], false⟩,
      ⟨17, 0, .rw, 0x0, [], false⟩]⟩,
  ⟨0x1014, 4, 1, [⟨31, 0, .rw, 0x0, [], false⟩]⟩,
  ⟨0x1018, 4, 1, [⟨31, 27, .rsv, 0x0, [], false⟩,
      ⟨26, 0, .rw, 0x0, [], false⟩]⟩,
  ⟨0x101c, 4, 1, [⟨31, 27, .rsv, 0x0, [], false⟩,
      ⟨26, 0, .rw, 0x0, [], false⟩]⟩,
  ⟨0x1020, 4, 1, [⟨31, 16, .rw, 0x0, [], false⟩,
      ⟨15, 0, .rw, 0x0, [], false⟩]⟩,
  ⟨0x1024, 4, 1, [⟨31, 0, .rw, 0x0, [], false⟩]⟩,
  ⟨0x1028, 4, 2038, [⟨31, 0, .rw, 0x0, [], false⟩]⟩]

/-- The entry words of the HISTB window (R225). -/
def words_HISTB : List RegDef := [
  ⟨0x0, 4, 1, [⟨31, 31, .rw, 0x1, [], false⟩,
      ⟨30, 8, .rsv, 0x0, [], false⟩,
      ⟨7, 0, .rw, 0x0, [], false⟩]⟩]

/-- The entry words of the CTX window (R181, R195). -/
def words_CTX : List RegDef := [
  ⟨0x0, 4, 1, [⟨31, 29, .ro, 0x0, [], false⟩,
      ⟨28, 26, .ro, 0x0, [], false⟩,
      ⟨25, 25, .ro, 0x0, [], false⟩,
      ⟨24, 24, .ro, 0x0, [], false⟩,
      ⟨23, 23, .ro, 0x0, [], false⟩,
      ⟨22, 22, .ro, 0x0, [], false⟩,
      ⟨21, 21, .ro, 0x0, [], false⟩,
      ⟨20, 20, .ro, 0x0, [], false⟩,
      ⟨19, 19, .ro, 0x0, [], false⟩,
      ⟨18, 16, .rsv, 0x0, [], false⟩,
      ⟨15, 12, .ro, 0x0, [], false⟩,
      ⟨11, 8, .ro, 0x0, [], false⟩,
      ⟨7, 0, .rsv, 0x0, [], false⟩]⟩,
  ⟨0x4, 4, 1, [⟨31, 0, .ro, 0x0, [], false⟩]⟩,
  ⟨0x8, 4, 1, [⟨31, 29, .rsv, 0x0, [], false⟩,
      ⟨28, 16, .ro, 0x0, [], false⟩,
      ⟨15, 13, .rsv, 0x0, [], false⟩,
      ⟨12, 0, .ro, 0x0, [], false⟩]⟩,
  ⟨0xc, 4, 1, [⟨31, 0, .ro, 0x0, [], false⟩]⟩,
  ⟨0x10, 4, 1, [⟨31, 18, .rsv, 0x0, [], false⟩,
      ⟨17, 0, .ro, 0x0, [], false⟩]⟩,
  ⟨0x14, 4, 1, [⟨31, 0, .ro, 0x0, [], false⟩]⟩,
  ⟨0x18, 4, 1, [⟨31, 27, .rsv, 0x0, [], false⟩,
      ⟨26, 0, .ro, 0x0, [], false⟩]⟩,
  ⟨0x1c, 4, 1, [⟨31, 27, .rsv, 0x0, [], false⟩,
      ⟨26, 0, .ro, 0x0, [], false⟩]⟩,
  ⟨0x20, 4, 1, [⟨31, 16, .ro, 0x0, [], false⟩,
      ⟨15, 0, .ro, 0x0, [], false⟩]⟩,
  ⟨0x24, 4, 1, [⟨31, 0, .ro, 0x0, [], false⟩]⟩,
  ⟨0x28, 4, 1, [⟨31, 28, .ro, 0x0, [], false⟩,
      ⟨27, 12, .rsv, 0x0, [], false⟩,
      ⟨11, 0, .ro, 0x0, [], false⟩]⟩,
  ⟨0x2c, 4, 1, [⟨31, 0, .ro, 0x0, [], false⟩]⟩,
  ⟨0x68, 4, 1, [⟨31, 19, .rsv, 0x0, [], false⟩,
      ⟨18, 0, .ro, 0x0, [], false⟩]⟩,
  ⟨0x6c, 4, 1, [⟨31, 0, .ro, 0x0, [], false⟩]⟩,
  ⟨0x70, 4, 1, [⟨31, 24, .ro, 0x0, [], false⟩,
      ⟨23, 16, .rsv, 0x0, [], false⟩,
      ⟨15, 0, .ro, 0x0, [], false⟩]⟩,
  ⟨0x74, 4, 3, [⟨31, 0, .rsv, 0x0, [], false⟩]⟩,
  ⟨0x80, 4, 32, [⟨31, 0, .ro, 0x0, [], false⟩]⟩,
  ⟨0x100, 4, 32, [⟨31, 0, .ro, 0x0, [], false⟩]⟩,
  ⟨0x180, 4, 52, [⟨31, 0, .ro, 0x0, [], false⟩]⟩,
  ⟨0x250, 4, 108, [⟨31, 0, .rsv, 0x0, [], false⟩]⟩,
  ⟨0x30, 4, 10, [⟨31, 0, .ro, 0x0, [], false⟩]⟩,
  ⟨0x58, 4, 4, [⟨31, 0, .ro, 0x0, [], false⟩]⟩]

/-- The entry words of the PWIN window (R257, R273). -/
def words_PWIN : List RegDef := [
  ⟨0x0, 4, 1, [⟨31, 31, .rw, 0x0, [], false⟩,
      ⟨30, 30, .rw, 0x0, [], false⟩,
      ⟨29, 16, .rsv, 0x0, [], false⟩,
      ⟨15, 0, .rw, 0x0, [], false⟩]⟩,
  ⟨0x4, 4, 1, [⟨31, 27, .rsv, 0x0, [], false⟩,
      ⟨26, 0, .rw, 0x0, [], false⟩]⟩,
  ⟨0x8, 4, 1, [⟨31, 28, .rsv, 0x0, [], false⟩,
      ⟨27, 0, .rw, 0x0, [], false⟩]⟩,
  ⟨0xc, 4, 1, [⟨31, 0, .rsv, 0x0, [], false⟩]⟩]

/-- The entry words of the ALLOW window (R262, R273). -/
def words_ALLOW : List RegDef := [
  ⟨0x0, 4, 1, [⟨31, 31, .rw, 0x0, [], false⟩,
      ⟨30, 0, .rsv, 0x0, [], false⟩]⟩,
  ⟨0x4, 4, 7, [⟨31, 0, .rsv, 0x0, [], false⟩]⟩,
  ⟨0x20, 4, 8, [⟨31, 0, .rw, 0x0, [], false⟩]⟩]

/-- The entry words of the KSTAGE window (R261, R273). -/
def words_KSTAGE : List RegDef := [
  ⟨0x0, 4, 1, [⟨31, 0, .rw, 0x0, [], false⟩]⟩]

/-- The entry words of the KL window (R272, R273). -/
def words_KL : List RegDef := [
  ⟨0x0, 4, 1, [⟨31, 31, .wo, 0x0, [], false⟩,
      ⟨30, 29, .wo, 0x0, [(0, 1)], false⟩,
      ⟨28, 8, .rsv, 0x0, [], false⟩,
      ⟨7, 0, .wo, 0x0, [], false⟩]⟩,
  ⟨0x4, 4, 1, [⟨31, 16, .rsv, 0x0, [], false⟩,
      ⟨15, 0, .rw, 0x0, [(72, 32768)], false⟩]⟩,
  ⟨0x8, 4, 1, [⟨31, 31, .ro, 0x0, [], false⟩,
      ⟨30, 30, .w1c, 0x0, [], false⟩,
      ⟨29, 29, .ro, 0x0, [], false⟩,
      ⟨28, 16, .rsv, 0x0, [], false⟩,
      ⟨15, 0, .ro, 0x0, [], false⟩]⟩,
  ⟨0x10, 4, 8, [⟨31, 0, .ro, 0x0, [], false⟩]⟩,
  ⟨0x30, 4, 1, [⟨31, 20, .rsv, 0x0, [], false⟩,
      ⟨19, 0, .ro, 0x80000, [], false⟩]⟩]

/-- The entry words of the TAGBUF window (R270, R273). -/
def words_TAGBUF : List RegDef := [
  ⟨0x0, 4, 8, [⟨31, 0, .ro, 0x0, [], false⟩]⟩]

/-- The entry words of the CHAN window (R301). -/
def words_CHAN : List RegDef := [
  ⟨0x0, 4, 1, [⟨31, 29, .ro, 0x0, [], false⟩,
      ⟨28, 19, .ro, 0x0, [], false⟩,
      ⟨18, 10, .ro, 0x0, [], false⟩,
      ⟨9, 7, .ro, 0x0, [], false⟩,
      ⟨6, 0, .ro, 0x0, [], false⟩]⟩,
  ⟨0x40, 4, 16, [⟨31, 0, .ro, 0x0, [], false⟩]⟩]

/-- The entry words of the BANK window (R301). -/
def words_BANK : List RegDef := [
  ⟨0x0, 4, 1, [⟨31, 30, .ro, 0x0, [], false⟩,
      ⟨29, 12, .ro, 0x0, [], false⟩,
      ⟨11, 0, .ro, 0x0, [], false⟩]⟩,
  ⟨0x4, 4, 1, [⟨31, 0, .ro, 0x0, [], false⟩]⟩,
  ⟨0x80, 4, 32, [⟨31, 31, .ro, 0x0, [], false⟩,
      ⟨30, 12, .ro, 0x0, [], false⟩,
      ⟨11, 0, .ro, 0x0, [], false⟩]⟩]

/-- The entry words of the MARGIN window (R301). -/
def words_MARGIN : List RegDef := [
  ⟨0x0, 4, 1, [⟨31, 24, .ro, 0x0, [], false⟩,
      ⟨23, 16, .ro, 0x0, [], false⟩,
      ⟨15, 8, .ro, 0x0, [], false⟩,
      ⟨7, 0, .ro, 0x0, [], false⟩]⟩,
  ⟨0x4, 4, 1, [⟨31, 30, .ro, 0x0, [], false⟩,
      ⟨29, 28, .ro, 0x0, [], false⟩,
      ⟨27, 22, .ro, 0x0, [], false⟩,
      ⟨21, 0, .ro, 0x0, [], false⟩]⟩,
  ⟨0x8, 4, 1, [⟨31, 0, .ro, 0x0, [], false⟩]⟩,
  ⟨0xc, 4, 1, [⟨31, 0, .ro, 0x0, [], false⟩]⟩]

/-- The entry words of the ARB window (R302, R301). -/
def words_ARB : List RegDef := [
  ⟨0x0, 4, 1, [⟨31, 31, .rw, 0x0, [], false⟩,
      ⟨30, 24, .rsv, 0x0, [], false⟩,
      ⟨23, 0, .rw, 0x10000, [(1, 16777215)], false⟩]⟩,
  ⟨0x4, 4, 1, [⟨31, 31, .ro, 0x0, [], false⟩,
      ⟨30, 30, .ro, 0x0, [], false⟩,
      ⟨29, 5, .rsv, 0x0, [], false⟩,
      ⟨4, 0, .ro, 0x0, [], false⟩]⟩,
  ⟨0x8, 4, 1, [⟨31, 0, .w1c, 0x0, [], false⟩]⟩,
  ⟨0xc, 4, 1, [⟨31, 0, .ro, 0x0, [], false⟩]⟩,
  ⟨0x10, 4, 32, [⟨31, 18, .rsv, 0x0, [], false⟩,
      ⟨17, 16, .rw, 0x0, [], false⟩,
      ⟨15, 8, .rsv, 0x0, [], false⟩,
      ⟨7, 0, .rw, 0x0, [(1, 255)], false⟩]⟩,
  ⟨0x90, 4, 28, [⟨31, 0, .rsv, 0x0, [], false⟩]⟩]

/-- The entry words of the GSCHED window (R313, R340). -/
def words_GSCHED : List RegDef := [
  ⟨0x0, 4, 1, [⟨31, 31, .rw, 0x0, [], false⟩,
      ⟨30, 30, .rw, 0x0, [], false⟩,
      ⟨29, 28, .rsv, 0x0, [], false⟩,
      ⟨27, 16, .rw, 0x0, [], false⟩,
      ⟨15, 0, .rsv, 0x0, [], false⟩]⟩,
  ⟨0x4, 4, 1, [⟨31, 19, .rsv, 0x0, [], false⟩,
      ⟨18, 0, .rw, 0x0, [(64, 500000)], false⟩]⟩]

/-- The entry words of the GPAT window (R310, R340). -/
def words_GPAT : List RegDef := [
  ⟨0x0, 4, 16, [⟨31, 31, .rw, 0x0, [], false⟩,
      ⟨30, 30, .rsv, 0x0, [], false⟩,
      ⟨29, 24, .rw, 0x0, [], false⟩,
      ⟨23, 23, .rw, 0x0, [], false⟩,
      ⟨22, 22, .rsv, 0x0, [], false⟩,
      ⟨21, 16, .rw, 0x0, [], false⟩,
      ⟨15, 15, .rw, 0x0, [], false⟩,
      ⟨14, 14, .rsv, 0x0, [], false⟩,
      ⟨13, 8, .rw, 0x0, [], false⟩,
      ⟨7, 7, .rw, 0x0, [], false⟩,
      ⟨6, 6, .rsv, 0x0, [], false⟩,
      ⟨5, 0, .rw, 0x0, [], false⟩]⟩]

/-- The entry words of the RING window (R337, R340). -/
def words_RING : List RegDef := [
  ⟨0x0, 4, 1, [⟨31, 29, .ro, 0x0, [], false⟩,
      ⟨28, 12, .rsv, 0x0, [], false⟩,
      ⟨11, 0, .ro, 0x0, [], false⟩]⟩,
  ⟨0x4, 4, 1, [⟨31, 16, .ro, 0x0, [], false⟩,
      ⟨15, 0, .ro, 0x0, [], false⟩]⟩,
  ⟨0x8, 4, 2, [⟨31, 0, .rsv, 0x0, [], false⟩]⟩]

/-- The entry words of the SOA window (R338, R340). -/
def words_SOA : List RegDef := [
  ⟨0x0, 4, 1, [⟨31, 26, .rsv, 0x0, [], false⟩,
      ⟨25, 16, .ro, 0x0, [], false⟩,
      ⟨15, 10, .rsv, 0x0, [], false⟩,
      ⟨9, 0, .ro, 0x0, [], false⟩]⟩,
  ⟨0x4, 4, 1, [⟨31, 16, .ro, 0x0, [], false⟩,
      ⟨15, 0, .ro, 0x0, [], false⟩]⟩,
  ⟨0x8, 4, 1, [⟨31, 16, .rsv, 0x0, [], false⟩,
      ⟨15, 0, .rw, 0x64, [(65336, 65535), (0, 400)], false⟩]⟩,
  ⟨0xc, 4, 1, [⟨31, 0, .rsv, 0x0, [], false⟩]⟩]

/-- The entry words of the GIN window (R339, R340). -/
def words_GIN : List RegDef := [
  ⟨0x0, 4, 1, [⟨31, 16, .ro, 0x0, [], false⟩,
      ⟨15, 10, .rsv, 0x0, [], false⟩,
      ⟨9, 0, .ro, 0x0, [], false⟩]⟩,
  ⟨0x4, 4, 3, [⟨31, 0, .rsv, 0x0, [], false⟩]⟩]

/-- The entry words of the MBUF window (R427, R432). -/
def words_MBUF : List RegDef := [
  ⟨0x0, 4, 1, [⟨31, 0, .rw, 0x0, [], false⟩]⟩]

/-- The entry words of the FLBUF window (R497). -/
def words_FLBUF : List RegDef := [
  ⟨0x0, 4, 1, [⟨31, 0, .rw, 0x0, [], false⟩]⟩]

/-- The entry words of the TXSTG window (R405). -/
def words_TXSTG : List RegDef := [
  ⟨0x0, 4, 1, [⟨31, 0, .rw, 0x0, [], false⟩]⟩]

/-- The table windows of R560 that hold words: base, entry bytes, entries, write mode, entry words. -/
def windows : List WinDef := [
  ⟨0x1000000, 16, 1048576, .txnOnly, words_EP⟩,
  ⟨0x2000000, 16, 64, .txnOnly, words_STASH⟩,
  ⟨0x2010000, 4, 2048, .txnOnly, words_LROUTE⟩,
  ⟨0x2100000, 4, 131072, .txnOnly, words_CHIP⟩,
  ⟨0x2200000, 16, 131072, .txnOnly, words_MDESC⟩,
  ⟨0x2400000, 8, 65536, .direct, words_SKIP⟩,
  ⟨0x2480000, 4, 8192, .txnOnly, words_PIN⟩,
  ⟨0x3000000, 16, 65536, .direct, words_QUEUE⟩,
  ⟨0x3100000, 4, 16384, .txnOnly, words_QMAP⟩,
  ⟨0x3110000, 16, 1024, .direct, words_PORTENT⟩,
  ⟨0x3120000, 16, 1024, .txnOnly, words_HEAD⟩,
  ⟨0x3130000, 32, 1024, .none, words_PACC⟩,
  ⟨0x3140000, 4, 65536, .none, words_QOCC⟩,
  ⟨0x3200000, 16, 4096, .direct, words_POLICER⟩,
  ⟨0x3210000, 4, 4096, .direct, words_ATTACH⟩,
  ⟨0x4000000, 64, 4096, .cmdOnly, words_COMM⟩,
  ⟨0x4100000, 4, 262144, .cmdOnly, words_MEMB⟩,
  ⟨0x4200000, 12288, 256, .direct, words_COLCMD⟩,
  ⟨0x4500000, 4, 4096, .direct, words_HISTB⟩,
  ⟨0x5000000, 1024, 16384, .none, words_CTX⟩,
  ⟨0x6000000, 16, 256, .txnOnly, words_PWIN⟩,
  ⟨0x6001000, 64, 256, .txnOnly, words_ALLOW⟩,
  ⟨0x6010000, 4, 8192, .direct, words_KSTAGE⟩,
  ⟨0x6018000, 64, 1, .direct, words_KL⟩,
  ⟨0x6100000, 32, 12800, .none, words_TAGBUF⟩,
  ⟨0x7000000, 128, 512, .none, words_CHAN⟩,
  ⟨0x7100000, 256, 32768, .none, words_BANK⟩,
  ⟨0x7900000, 64, 512, .none, words_MARGIN⟩,
  ⟨0x7a00000, 256, 777, .direct, words_ARB⟩,
  ⟨0x7a30900, 256, 247, .direct, []⟩,
  ⟨0x9000000, 8, 65536, .txnOnly, words_GSCHED⟩,
  ⟨0x9080000, 64, 8192, .txnOnly, words_GPAT⟩,
  ⟨0x9100000, 16, 2048, .none, words_RING⟩,
  ⟨0x9110000, 16, 576, .direct, words_SOA⟩,
  ⟨0x9120000, 16, 512, .none, words_GIN⟩,
  ⟨0xa000000, 4, 16384, .direct, words_MBUF⟩,
  ⟨0xbc00000, 4, 1024, .direct, words_FLBUF⟩,
  ⟨0xc000000, 4, 8388608, .direct, words_TXSTG⟩]

end Layout

/-! The named fields, PAGE_REGISTER_FIELD as in R12. -/
namespace F

def COMMON_IDENT_PART (n : Nat) : FRef := ⟨0x0 + n * 0x1000, 31, 16⟩
def COMMON_IDENT_GRADE (n : Nat) : FRef := ⟨0x0 + n * 0x1000, 15, 12⟩
def COMMON_IDENT_STEPPING (n : Nat) : FRef := ⟨0x0 + n * 0x1000, 11, 8⟩
def COMMON_IDENT_PAGE_KIND (n : Nat) : FRef := ⟨0x0 + n * 0x1000, 7, 0⟩
def COMMON_VERSION_MAJOR (n : Nat) : FRef := ⟨0x4 + n * 0x1000, 31, 24⟩
def COMMON_VERSION_MINOR (n : Nat) : FRef := ⟨0x4 + n * 0x1000, 23, 16⟩
def COMMON_CAP_CAP (n : Nat) : FRef := ⟨0x8 + n * 0x1000, 31, 0⟩
def COMMON_INSTANCE_INDEX (n : Nat) : FRef := ⟨0xc + n * 0x1000, 15, 0⟩
def COMMON_CTRL_FREEZE (n : Nat) : FRef := ⟨0x10 + n * 0x1000, 0, 0⟩
def COMMON_STATUS_FROZEN (n : Nat) : FRef := ⟨0x14 + n * 0x1000, 31, 31⟩
def COMMON_STATUS_DRAINING (n : Nat) : FRef := ⟨0x14 + n * 0x1000, 30, 30⟩
def COMMON_STATUS_IPEND_ANY (n : Nat) : FRef := ⟨0x14 + n * 0x1000, 29, 29⟩
def COMMON_REJECT_VALID (n : Nat) : FRef := ⟨0x18 + n * 0x1000, 31, 31⟩
def COMMON_REJECT_OVER (n : Nat) : FRef := ⟨0x18 + n * 0x1000, 30, 30⟩
def COMMON_REJECT_AGENT (n : Nat) : FRef := ⟨0x18 + n * 0x1000, 25, 24⟩
def COMMON_REJECT_CODE (n : Nat) : FRef := ⟨0x18 + n * 0x1000, 15, 0⟩
def COMMON_REJ_OFS_OFFSET (n : Nat) : FRef := ⟨0x1c + n * 0x1000, 11, 0⟩
def COMMON_REJ_DATA_DATA (n : Nat) : FRef := ⟨0x20 + n * 0x1000, 31, 0⟩
def COMMON_IPEND_WRAP (n : Nat) : FRef := ⟨0x30 + n * 0x1000, 2, 2⟩
def COMMON_IPEND_REJECT (n : Nat) : FRef := ⟨0x30 + n * 0x1000, 1, 1⟩
def COMMON_IPEND_BLOCK (n : Nat) : FRef := ⟨0x30 + n * 0x1000, 0, 0⟩
def COMMON_IEN_IEN (n : Nat) : FRef := ⟨0x34 + n * 0x1000, 2, 0⟩
def COMMON_IVEC_VECTOR (n : Nat) : FRef := ⟨0x38 + n * 0x1000, 5, 0⟩
def COMMON_TXOWN_OWNED (n : Nat) : FRef := ⟨0x40 + n * 0x1000, 31, 31⟩
def COMMON_TXOWN_AGENT (n : Nat) : FRef := ⟨0x40 + n * 0x1000, 5, 4⟩
def COMMON_TXOWN_SLOT (n : Nat) : FRef := ⟨0x40 + n * 0x1000, 3, 0⟩
def COMMON_CNT_LO_COUNT_LO (n i : Nat) : FRef := ⟨0x80 + n * 0x1000 + i * 8, 31, 0⟩
def COMMON_CNT_HI_COUNT_HI (n i : Nat) : FRef := ⟨0x84 + n * 0x1000 + i * 8, 15, 0⟩
def COMMON_EVSEL_EN (n i : Nat) : FRef := ⟨0xc0 + n * 0x1000 + i * 4, 31, 31⟩
def COMMON_EVSEL_EVENT (n i : Nat) : FRef := ⟨0xc0 + n * 0x1000 + i * 4, 15, 0⟩
def COMMON_WRAP_WRAP (n : Nat) : FRef := ⟨0xe0 + n * 0x1000, 7, 0⟩
def GLOBAL_CAP_ARRAYS_LIVE : FRef := ⟨0x8, 21, 16⟩
def GLOBAL_CAP_ARRAYS_FUSED : FRef := ⟨0x8, 13, 8⟩
def GLOBAL_CAP_BASINS : FRef := ⟨0x8, 5, 0⟩
def GLOBAL_BOOKS_SLOT_FAULT : FRef := ⟨0x140, 8, 8⟩
def GLOBAL_BOOKS_SLOT_RECLAIM : FRef := ⟨0x140, 7, 7⟩
def GLOBAL_BOOKS_COUNT_FAULT : FRef := ⟨0x140, 6, 6⟩
def GLOBAL_BOOKS_TOKEN_CLAMP : FRef := ⟨0x140, 5, 5⟩
def GLOBAL_BOOKS_REF_FAULT : FRef := ⟨0x140, 4, 4⟩
def GLOBAL_BOOKS_CELL_FAULT : FRef := ⟨0x140, 3, 3⟩
def GLOBAL_BOOKS_CELL_ORPHAN : FRef := ⟨0x140, 2, 2⟩
def GLOBAL_BOOKS_CREDIT_FAULT : FRef := ⟨0x140, 1, 1⟩
def GLOBAL_BOOKS_CREDIT_REPAIR : FRef := ⟨0x140, 0, 0⟩
def GLOBAL_BOOKS_IEN_IEN : FRef := ⟨0x144, 8, 0⟩
def GLOBAL_RESET_KEY : FRef := ⟨0x160, 31, 24⟩
def GLOBAL_RESET_KIND : FRef := ⟨0x160, 1, 0⟩
def GLOBAL_BOARDSTAT_PM_DOM : FRef := ⟨0x170, 10, 7⟩
def GLOBAL_BOARDSTAT_PMBUS_FAULT : FRef := ⟨0x170, 6, 6⟩
def GLOBAL_BOARDSTAT_BROWNOUT : FRef := ⟨0x170, 5, 5⟩
def GLOBAL_BOARDSTAT_ON_A : FRef := ⟨0x170, 4, 4⟩
def GLOBAL_BOARDSTAT_ON_B : FRef := ⟨0x170, 3, 3⟩
def GLOBAL_BOARDSTAT_REFB_LOST : FRef := ⟨0x170, 2, 2⟩
def GLOBAL_BOARDSTAT_REFA_LOST : FRef := ⟨0x170, 1, 1⟩
def GLOBAL_BOARDSTAT_REFS_OK : FRef := ⟨0x170, 0, 0⟩
def LANE_PORTCFG_EN (n : Nat) : FRef := ⟨0x100100 + n * 0x1000, 31, 31⟩
def LANE_PORTCFG_FEC (n : Nat) : FRef := ⟨0x100100 + n * 0x1000, 25, 24⟩
def LANE_PORTCFG_SPEED (n : Nat) : FRef := ⟨0x100100 + n * 0x1000, 19, 16⟩
def LANE_PORTCFG_REV (n : Nat) : FRef := ⟨0x100100 + n * 0x1000, 10, 10⟩
def LANE_PORTSTAT_STATE (n : Nat) : FRef := ⟨0x100104 + n * 0x1000, 31, 29⟩
def LANE_PORTSTAT_LASTDOWN (n : Nat) : FRef := ⟨0x100104 + n * 0x1000, 23, 20⟩
def LANE_PORTSTAT_RETRIES (n : Nat) : FRef := ⟨0x100104 + n * 0x1000, 19, 16⟩
def LANE_PORTPEER_VALID (n : Nat) : FRef := ⟨0x100108 + n * 0x1000, 31, 31⟩
def LANE_PORTPEER_ROLE (n : Nat) : FRef := ⟨0x100108 + n * 0x1000, 30, 29⟩
def LANE_PORTPEER_NUMBER (n : Nat) : FRef := ⟨0x100108 + n * 0x1000, 9, 0⟩
def LANE_PORTCTL_RETRAIN (n : Nat) : FRef := ⟨0x10010c + n * 0x1000, 31, 31⟩
def LANE_PORTCTL_CLEAR_FAIL (n : Nat) : FRef := ⟨0x10010c + n * 0x1000, 30, 30⟩
def LANE_PORTLINK_RETRAIN_MAX (n : Nat) : FRef := ⟨0x100110 + n * 0x1000, 19, 16⟩
def LANE_PORTLINK_UCW_LIMIT (n : Nat) : FRef := ⟨0x100110 + n * 0x1000, 15, 0⟩
def LANE_PEERADV0_ACCEPT (n : Nat) : FRef := ⟨0x100120 + n * 0x1000, 31, 24⟩
def LANE_PEERADV0_H (n : Nat) : FRef := ⟨0x100120 + n * 0x1000, 15, 0⟩
def LANE_PEERADV1_G0 (n : Nat) : FRef := ⟨0x100124 + n * 0x1000, 31, 24⟩
def LANE_PEERADV1_G1 (n : Nat) : FRef := ⟨0x100124 + n * 0x1000, 23, 16⟩
def LANE_PEERADV1_G2 (n : Nat) : FRef := ⟨0x100124 + n * 0x1000, 15, 8⟩
def LANE_PEERADV1_G3 (n : Nat) : FRef := ⟨0x100124 + n * 0x1000, 7, 0⟩
def LANE_PEERADV2_G4 (n : Nat) : FRef := ⟨0x100128 + n * 0x1000, 31, 24⟩
def LANE_PEERADV2_G5 (n : Nat) : FRef := ⟨0x100128 + n * 0x1000, 23, 16⟩
def LANE_PEERADV2_G6 (n : Nat) : FRef := ⟨0x100128 + n * 0x1000, 15, 8⟩
def LANE_PEERADV2_G7 (n : Nat) : FRef := ⟨0x100128 + n * 0x1000, 7, 0⟩
def LANE_LANECFG_LOOP (n : Nat) : FRef := ⟨0x100180 + n * 0x1000, 31, 30⟩
def LANE_LANECFG_PRBS (n : Nat) : FRef := ⟨0x100180 + n * 0x1000, 29, 27⟩
def LANE_LANECFG_TXINV (n : Nat) : FRef := ⟨0x100180 + n * 0x1000, 26, 26⟩
def LANE_LANECFG_RXINV (n : Nat) : FRef := ⟨0x100180 + n * 0x1000, 25, 25⟩
def LANE_LANESTAT_SIGNAL (n : Nat) : FRef := ⟨0x100184 + n * 0x1000, 31, 31⟩
def LANE_LANESTAT_ALIGNED (n : Nat) : FRef := ⟨0x100184 + n * 0x1000, 30, 30⟩
def LANE_LANESTAT_EYE_H (n : Nat) : FRef := ⟨0x100184 + n * 0x1000, 23, 16⟩
def LANE_LANESTAT_EYE_W (n : Nat) : FRef := ⟨0x100184 + n * 0x1000, 15, 8⟩
def LANE_LANESTAT_SKEW (n : Nat) : FRef := ⟨0x100184 + n * 0x1000, 7, 0⟩
def LANE_LANEBER_ERRORS (n : Nat) : FRef := ⟨0x100188 + n * 0x1000, 31, 0⟩
def LANE_CAGESTAT_PRESENT (n : Nat) : FRef := ⟨0x1001c0 + n * 0x1000, 31, 31⟩
def LANE_CAGESTAT_INT (n : Nat) : FRef := ⟨0x1001c0 + n * 0x1000, 30, 30⟩
def LANE_CAGESTAT_CSTATE (n : Nat) : FRef := ⟨0x1001c0 + n * 0x1000, 29, 27⟩
def LANE_CAGESTAT_POWER (n : Nat) : FRef := ⟨0x1001c0 + n * 0x1000, 23, 16⟩
def LANE_CAGECFG_EN (n : Nat) : FRef := ⟨0x1001c4 + n * 0x1000, 31, 31⟩
def LANE_CAGECFG_PMAX (n : Nat) : FRef := ⟨0x1001c4 + n * 0x1000, 7, 0⟩
def LANE_CAGEACC_GO (n : Nat) : FRef := ⟨0x1001c8 + n * 0x1000, 31, 31⟩
def LANE_CAGEACC_WRITE (n : Nat) : FRef := ⟨0x1001c8 + n * 0x1000, 30, 30⟩
def LANE_CAGEACC_LENM1 (n : Nat) : FRef := ⟨0x1001c8 + n * 0x1000, 29, 23⟩
def LANE_CAGEACC_PAGE (n : Nat) : FRef := ⟨0x1001c8 + n * 0x1000, 15, 8⟩
def LANE_CAGEACC_OFFSET (n : Nat) : FRef := ⟨0x1001c8 + n * 0x1000, 7, 0⟩
def LANE_CAGEBANK_BANK (n : Nat) : FRef := ⟨0x1001cc + n * 0x1000, 7, 0⟩
def LANE_CAGEACCST_BUSY (n : Nat) : FRef := ⟨0x1001d0 + n * 0x1000, 31, 31⟩
def LANE_CAGEACCST_DONE (n : Nat) : FRef := ⟨0x1001d0 + n * 0x1000, 30, 30⟩
def LANE_CAGEACCST_OK (n : Nat) : FRef := ⟨0x1001d0 + n * 0x1000, 29, 29⟩
def LANE_CAGEACCST_CODE (n : Nat) : FRef := ⟨0x1001d0 + n * 0x1000, 15, 0⟩
def LANE_CAGEDATA_DATA (n i : Nat) : FRef := ⟨0x100200 + n * 0x1000 + i * 4, 31, 0⟩
def LANE_PORTTIME_MASTER (n : Nat) : FRef := ⟨0x100140 + n * 0x1000, 31, 31⟩
def LANE_PORTTIME_SYNC_LOG (n : Nat) : FRef := ⟨0x100140 + n * 0x1000, 26, 24⟩
def LANE_PORTTIME_LEAFFUNC (n : Nat) : FRef := ⟨0x100140 + n * 0x1000, 23, 16⟩
def LANE_PORTTIME_CLASS (n : Nat) : FRef := ⟨0x100140 + n * 0x1000, 15, 13⟩
def LANE_PORTASYM_ASYM (n : Nat) : FRef := ⟨0x100144 + n * 0x1000, 31, 0⟩
def LANE_PORTTSADJ_TX_PS (n : Nat) : FRef := ⟨0x100148 + n * 0x1000, 31, 16⟩
def LANE_PORTTSADJ_RX_PS (n : Nat) : FRef := ⟨0x100148 + n * 0x1000, 15, 0⟩
def LANE_PORTMPD_MPD (n : Nat) : FRef := ⟨0x10014c + n * 0x1000, 31, 0⟩
def LANE_PORTSAMP_EN (n : Nat) : FRef := ⟨0x100150 + n * 0x1000, 31, 31⟩
def LANE_PORTSAMP_K (n : Nat) : FRef := ⟨0x100150 + n * 0x1000, 28, 24⟩
def LANE_PORTSAMP_VCMASK (n : Nat) : FRef := ⟨0x100150 + n * 0x1000, 23, 16⟩
def LANE_PORTCENSUS0_REPAIRED (n : Nat) : FRef := ⟨0x100130 + n * 0x1000, 31, 0⟩
def LANE_PORTCENSUS1_LASTVC (n : Nat) : FRef := ⟨0x100134 + n * 0x1000, 18, 16⟩
def LANE_PORTCENSUS1_FAULTS (n : Nat) : FRef := ⟨0x100134 + n * 0x1000, 15, 0⟩
def GROUP_GRPCFG_VALID (n : Nat) : FRef := ⟨0x500100 + n * 0x1000, 31, 31⟩
def GROUP_GRPCFG_SIZE (n : Nat) : FRef := ⟨0x500100 + n * 0x1000, 19, 16⟩
def GROUP_GRPCFG_LEAF (n : Nat) : FRef := ⟨0x500100 + n * 0x1000, 9, 0⟩
def GROUP_GRPMEM_VALID (n i : Nat) : FRef := ⟨0x500104 + n * 0x1000 + i * 4, 31, 31⟩
def GROUP_GRPMEM_PORT (n i : Nat) : FRef := ⟨0x500104 + n * 0x1000 + i * 4, 9, 0⟩
def GROUP_GRPSTAT_MISWIRE (n : Nat) : FRef := ⟨0x500124 + n * 0x1000, 15, 8⟩
def GROUP_GRPSTAT_LIVE (n : Nat) : FRef := ⟨0x500124 + n * 0x1000, 7, 0⟩
def FWDID_SELF_VALID : FRef := ⟨0x600100, 31, 31⟩
def FWDID_SELF_SPINE : FRef := ⟨0x600100, 9, 0⟩
def FWDID_ETHCFG_ETH_MAX : FRef := ⟨0x600104, 13, 0⟩
def FWDID_GRID_PODS : FRef := ⟨0x600108, 26, 16⟩
def FWDID_GRID_PERPOD : FRef := ⟨0x600108, 10, 0⟩
def FWDCFG_LOOKUP_MOVE_LIMIT : FRef := ⟨0x601100, 19, 16⟩
def FWDCFG_LOOKUP_RELOC_MAX : FRef := ⟨0x601100, 13, 8⟩
def FWDCFG_LOOKUP_ETH_L3 : FRef := ⟨0x601100, 2, 2⟩
def FWDCFG_LOOKUP_LEARN_DFP : FRef := ⟨0x601100, 1, 1⟩
def FWDCFG_LOOKUP_LEARN_ETH : FRef := ⟨0x601100, 0, 0⟩
def FWDCFG_FLOOD_EN : FRef := ⟨0x601104, 31, 31⟩
def FWDCFG_FLOOD_DESC : FRef := ⟨0x601104, 15, 0⟩
def FWDCFG_SEED0_SEED0 : FRef := ⟨0x601108, 31, 0⟩
def FWDCFG_SEED1_SEED1 : FRef := ⟨0x60110c, 31, 0⟩
def FWDCFG_FLOWSEED_FLOWSEED : FRef := ⟨0x601110, 31, 0⟩
def FWDEPOCH_CTRL_FREE_NOW : FRef := ⟨0x602100, 2, 2⟩
def FWDEPOCH_CTRL_COPY : FRef := ⟨0x602100, 1, 1⟩
def FWDEPOCH_CTRL_FLIP : FRef := ⟨0x602100, 0, 0⟩
def FWDEPOCH_STATUS_FLIPS : FRef := ⟨0x602104, 31, 16⟩
def FWDEPOCH_STATUS_STATE : FRef := ⟨0x602104, 3, 2⟩
def FWDEPOCH_STATUS_ACTIVE : FRef := ⟨0x602104, 0, 0⟩
def FWDEPOCH_DRAIN_DRAIN_US : FRef := ⟨0x602108, 23, 0⟩
def FWDLRN_AGE_PERIOD_S : FRef := ⟨0x603100, 15, 0⟩
def FWDLRN_FLUSH_GO : FRef := ⟨0x603104, 31, 31⟩
def FWDLRN_FLUSH_SCOPE : FRef := ⟨0x603104, 30, 29⟩
def FWDLRN_FLUSH_ARG : FRef := ⟨0x603104, 15, 0⟩
def FWDLRN_STATUS_FLUSH_BUSY : FRef := ⟨0x603108, 31, 31⟩
def FWDLRN_STATUS_STASH_USED : FRef := ⟨0x603108, 22, 16⟩
def FWDLRN_OCC_ENTRIES : FRef := ⟨0x60310c, 20, 0⟩
def FWDFENCE_LEAF_FENCED (i : Nat) : FRef := ⟨0x604100 + i * 4, 31, 0⟩
def CISCFG_POOL_VC5_CELLS : FRef := ⟨0x700100, 19, 0⟩
def CISCFG_ORIG_ORIG_CELLS : FRef := ⟨0x700104, 15, 0⟩
def CISCFG_LOSSY_LOW : FRef := ⟨0x700108, 31, 31⟩
def CISCFG_LOSSY_LOSSY_CELLS : FRef := ⟨0x700108, 20, 0⟩
def CISCFG_STALL_STALL_US : FRef := ⟨0x70010c, 23, 0⟩
def CISCFG_FREE_CELLS : FRef := ⟨0x700110, 20, 0⟩
def CISCFG_DEBT_CELLS : FRef := ⟨0x700114, 20, 0⟩
def RED_A_MIN (i : Nat) : FRef := ⟨0x701100 + i * 8, 19, 0⟩
def RED_B_PMAX (i : Nat) : FRef := ⟨0x701104 + i * 8, 27, 20⟩
def RED_B_MAX (i : Nat) : FRef := ⟨0x701104 + i * 8, 19, 0⟩
def COLCFG_CTRL_EN : FRef := ⟨0x900100, 0, 0⟩
def COLCFG_LINGER_LINGER_US : FRef := ⟨0x900104, 23, 0⟩
def COLCFG_FREE_CTX_FREE : FRef := ⟨0x900108, 30, 16⟩
def COLCFG_FREE_COMM_FREE : FRef := ⟨0x900108, 12, 0⟩
def COLCFG_ARRIVAL_BLOCKS_FREE : FRef := ⟨0x90010c, 19, 0⟩
def COLCFG_MAPFREE_ENTRIES_FREE : FRef := ⟨0x900110, 18, 0⟩
def COLCFG_ISTAT_ABORT : FRef := ⟨0x900114, 3, 3⟩
def COLCFG_ISTAT_TORN_DONE : FRef := ⟨0x900114, 2, 2⟩
def COLCFG_ISTAT_TIMEOUT : FRef := ⟨0x900114, 1, 1⟩
def COLCFG_ISTAT_SDC : FRef := ⟨0x900114, 0, 0⟩
def COLCFG_IEN_IEN : FRef := ⟨0x900118, 3, 0⟩
def COLQ_CTL_EN (n i : Nat) : FRef := ⟨0x901100 + n * 0x1000 + i * 16, 31, 31⟩
def COLQ_CTL_PART (n i : Nat) : FRef := ⟨0x901100 + n * 0x1000 + i * 16, 15, 0⟩
def COLQ_TAIL_TAIL (n i : Nat) : FRef := ⟨0x901104 + n * 0x1000 + i * 16, 5, 0⟩
def COLQ_HEAD_HEAD (n i : Nat) : FRef := ⟨0x901108 + n * 0x1000 + i * 16, 5, 0⟩
def COLQ_DONE_DONE_COUNT (n i : Nat) : FRef := ⟨0x90110c + n * 0x1000 + i * 16, 15, 0⟩
def COLNUM_STICKY_INF : FRef := ⟨0x903100, 2, 2⟩
def COLNUM_STICKY_SAT : FRef := ⟨0x903100, 1, 1⟩
def COLNUM_STICKY_NAN : FRef := ⟨0x903100, 0, 0⟩
def COLNUM_IEN_IEN : FRef := ⟨0x903104, 2, 0⟩
def COLNUM_QCHK_QCHK : FRef := ⟨0x903108, 31, 0⟩
def BASIN_CLK_EFF (n : Nat) : FRef := ⟨0xa00100 + n * 0x1000, 13, 8⟩
def BASIN_CLK_TARGET (n : Nat) : FRef := ⟨0xa00100 + n * 0x1000, 5, 0⟩
def BASIN_STATE_ARRAY (n : Nat) : FRef := ⟨0xa00104 + n * 0x1000, 2, 0⟩
def BASIN_SLOT_SLOT_64K (n : Nat) : FRef := ⟨0xa00108 + n * 0x1000, 6, 0⟩
def BASIN_RESV_BYTES (n : Nat) : FRef := ⟨0xa0010c + n * 0x1000, 22, 0⟩
def BASIN_KBUDGET_BUDGET (n : Nat) : FRef := ⟨0xa00110 + n * 0x1000, 31, 0⟩
def BASIN_ATEST_RETIRE (n : Nat) : FRef := ⟨0xa00114 + n * 0x1000, 1, 1⟩
def BASIN_ATEST_GO (n : Nat) : FRef := ⟨0xa00114 + n * 0x1000, 0, 0⟩
def BASIN_FAULT_VALID (n : Nat) : FRef := ⟨0xa00118 + n * 0x1000, 31, 31⟩
def BASIN_FAULT_CODE (n : Nat) : FRef := ⟨0xa00118 + n * 0x1000, 30, 27⟩
def BASIN_FAULT_CORE (n : Nat) : FRef := ⟨0xa00118 + n * 0x1000, 26, 22⟩
def BASIN_FAULT_CTX (n : Nat) : FRef := ⟨0xa00118 + n * 0x1000, 13, 0⟩
def BASIN_FAULT_PC_KERNEL (n : Nat) : FRef := ⟨0xa0011c + n * 0x1000, 31, 16⟩
def BASIN_FAULT_PC_PC (n : Nat) : FRef := ⟨0xa0011c + n * 0x1000, 15, 0⟩
def BASIN_FAULT_ADDR_LO_ADDR (n : Nat) : FRef := ⟨0xa00120 + n * 0x1000, 31, 0⟩
def BASIN_FAULT_ADDR_HI_ADDR (n : Nat) : FRef := ⟨0xa00124 + n * 0x1000, 15, 0⟩
def BASIN_TAGCFG_EN (n : Nat) : FRef := ⟨0xa00128 + n * 0x1000, 31, 31⟩
def BASIN_TAGCFG_K (n : Nat) : FRef := ⟨0xa00128 + n * 0x1000, 4, 0⟩
def BASIN_TAGSTAT_SKIPPED (n : Nat) : FRef := ⟨0xa0012c + n * 0x1000, 31, 16⟩
def BASIN_TAGSTAT_WPTR (n : Nat) : FRef := ⟨0xa0012c + n * 0x1000, 7, 0⟩
def MEMCFG_CAP_CAP_16M : FRef := ⟨0xb00100, 31, 16⟩
def MEMCFG_CAP_LIVECH : FRef := ⟨0xb00100, 9, 0⟩
def MEMCFG_PLANES_TAIL : FRef := ⟨0xb00104, 22, 8⟩
def MEMCFG_PLANES_FULL : FRef := ⟨0xb00104, 6, 0⟩
def MEMCFG_SCRUB_CE_ROW_LIMIT : FRef := ⟨0xb00108, 15, 8⟩
def MEMCFG_SCRUB_SCRUB_H : FRef := ⟨0xb00108, 7, 0⟩
def MEMCFG_POLICY_ADDR_LIMIT : FRef := ⟨0xb0010c, 15, 8⟩
def MEMCFG_POLICY_CHMAP_LIMIT : FRef := ⟨0xb0010c, 7, 0⟩
def MEMCFG_MAPOUT_PENDING : FRef := ⟨0xb00110, 31, 31⟩
def MEMCFG_MAPOUT_KIND : FRef := ⟨0xb00110, 30, 30⟩
def MEMCFG_MAPOUT_MOVING : FRef := ⟨0xb00110, 29, 29⟩
def MEMCFG_MAPOUT_GCH : FRef := ⟨0xb00110, 28, 20⟩
def MEMCFG_MAPOUT_BANK : FRef := ⟨0xb00110, 19, 14⟩
def MEMCFG_MAPBLOCK_PART : FRef := ⟨0xb00114, 15, 0⟩
def MEMCFG_MAPREQ_GO : FRef := ⟨0xb00118, 31, 31⟩
def MEMCFG_MAPREQ_KIND : FRef := ⟨0xb00118, 30, 30⟩
def MEMCFG_MAPREQ_GCH : FRef := ⟨0xb00118, 28, 20⟩
def MEMCFG_MAPREQ_BANK : FRef := ⟨0xb00118, 19, 14⟩
def MEMCFG_REPAIR_GO : FRef := ⟨0xb0011c, 31, 31⟩
def MEMCFG_REPAIR_GCH : FRef := ⟨0xb0011c, 26, 18⟩
def MEMCFG_REPAIR_BANK : FRef := ⟨0xb0011c, 17, 12⟩
def MEMCFG_REPAIR_ROW : FRef := ⟨0xb0011c, 11, 0⟩
def MEMCFG_MARGIN_GO : FRef := ⟨0xb00120, 31, 31⟩
def MEMCFG_MARGIN_KIND : FRef := ⟨0xb00120, 30, 30⟩
def MEMCFG_MARGIN_GCH : FRef := ⟨0xb00120, 8, 0⟩
def MEMCFG_APBASE_BASE : FRef := ⟨0xb00124, 14, 0⟩
def MEMCFG_ISTAT_ISTAT : FRef := ⟨0xb00128, 8, 0⟩
def MEMCFG_IEN_IEN : FRef := ⟨0xb0012c, 8, 0⟩
def HBM_STACK_TRAINED (n : Nat) : FRef := ⟨0xb10100 + n * 0x1000, 31, 31⟩
def HBM_STACK_TEMP (n : Nat) : FRef := ⟨0xb10100 + n * 0x1000, 23, 16⟩
def HBM_STACK_CH_LIVE (n : Nat) : FRef := ⟨0xb10100 + n * 0x1000, 5, 0⟩
def GLASS_GLCFG_CTRL_AUTO_MIG : FRef := ⟨0xc00100, 0, 0⟩
def GLASS_GLCFG_HR_HR_MIG : FRef := ⟨0xc00104, 15, 8⟩
def GLASS_GLCFG_HR_OUT_LOW : FRef := ⟨0xc00104, 7, 0⟩
def GLASS_GLCFG_POWER_P_IN_REF : FRef := ⟨0xc00108, 31, 16⟩
def GLASS_GLCFG_POWER_P_IN_LOS : FRef := ⟨0xc00108, 15, 0⟩
def GLASS_GLCFG_PINLOW_P_IN_LOW : FRef := ⟨0xc0010c, 15, 0⟩
def GLASS_GLCFG_IMAX_IMAX : FRef := ⟨0xc00110, 9, 0⟩
def GLASS_GLCFG_FO_FO4 : FRef := ⟨0xc00114, 19, 10⟩
def GLASS_GLCFG_FO_FO2 : FRef := ⟨0xc00114, 9, 0⟩
def GLASS_GLCFG_ISTAT_ISTAT : FRef := ⟨0xc00118, 10, 0⟩
def GLASS_GLCFG_IEN_IEN : FRef := ⟨0xc0011c, 10, 0⟩
def GLASS_GLSW_CTRL_GO : FRef := ⟨0xc00120, 31, 31⟩
def GLASS_GLSW_CTRL_BANK : FRef := ⟨0xc00120, 0, 0⟩
def GLASS_GLSW_TSEC_TSEC : FRef := ⟨0xc00124, 31, 0⟩
def GLASS_GLSW_TNS_TNS : FRef := ⟨0xc00128, 29, 0⟩
def GLASS_GLSTAT_CTRL_STATE : FRef := ⟨0xc00130, 31, 30⟩
def GLASS_GLSTAT_CTRL_ARMED : FRef := ⟨0xc00130, 29, 29⟩
def GLASS_GLSTAT_CTRL_LATE : FRef := ⟨0xc00130, 28, 28⟩
def GLASS_GLSTAT_CTRL_IDLE_READY : FRef := ⟨0xc00130, 27, 27⟩
def GLASS_GLSTAT_CTRL_ACTIVE : FRef := ⟨0xc00130, 0, 0⟩
def GLASS_GLSTAT_CYCLE_CYCLE : FRef := ⟨0xc00134, 31, 0⟩
def GLASS_GLSTAT_TSTART_S_SEC : FRef := ⟨0xc00138, 31, 0⟩
def GLASS_GLSTAT_TSTART_NS_NS : FRef := ⟨0xc0013c, 29, 0⟩
def GLASS_GLSTAT_TSW_S_SEC : FRef := ⟨0xc00140, 31, 0⟩
def GLASS_GLSTAT_TSW_NS_NS : FRef := ⟨0xc00144, 29, 0⟩
def GLASS_GLCFG_BANKEN_PLANE_EN (i : Nat) : FRef := ⟨0xc00150 + i * 4, 7, 0⟩
def GLASS_GLMIG_CTRL_GO : FRef := ⟨0xc00160, 31, 31⟩
def GLASS_GLMIG_CTRL_RETURN : FRef := ⟨0xc00160, 30, 30⟩
def GLASS_GLMIG_CTRL_PLANE : FRef := ⟨0xc00160, 2, 0⟩
def GLASS_GLMIG_STATUS_SPARE : FRef := ⟨0xc00164, 31, 30⟩
def GLASS_GLMIG_STATUS_PLANE : FRef := ⟨0xc00164, 2, 0⟩
def GLASS_GLCFG_SEARCH_GO : FRef := ⟨0xc00170, 31, 31⟩
def GLASS_GLCFG_SEARCH_ALL : FRef := ⟨0xc00170, 6, 6⟩
def GLASS_GLCFG_SEARCH_FIB : FRef := ⟨0xc00170, 5, 0⟩
def PLANE_PSTATE_STATE (n : Nat) : FRef := ⟨0xc10100 + n * 0x1000, 31, 29⟩
def PLANE_PSTATE_WORST (n : Nat) : FRef := ⟨0xc10100 + n * 0x1000, 21, 16⟩
def PLANE_PSTATE_HEADROOM (n : Nat) : FRef := ⟨0xc10100 + n * 0x1000, 15, 0⟩
def TIME_CTL_SRC : FRef := ⟨0xd00100, 31, 30⟩
def TIME_CTL_STEP_EN : FRef := ⟨0xd00100, 29, 29⟩
def TIME_CTL_PPSOUT_EN : FRef := ⟨0xd00100, 28, 28⟩
def TIME_CTL_PPS_GATE : FRef := ⟨0xd00100, 27, 27⟩
def TIME_CTL_SLAVE_PORT : FRef := ⟨0xd00100, 25, 16⟩
def TIME_CTL_DOMAIN : FRef := ⟨0xd00100, 15, 8⟩
def TIME_STAT_SERVO : FRef := ⟨0xd00104, 31, 30⟩
def TIME_STAT_STEPS : FRef := ⟨0xd00104, 15, 0⟩
def TIME_LATCH_GO : FRef := ⟨0xd00108, 0, 0⟩
def TIME_NOW_SEC_HI_SEC_HI : FRef := ⟨0xd0010c, 31, 0⟩
def TIME_NOW_SEC_LO_SEC_LO : FRef := ⟨0xd00110, 31, 0⟩
def TIME_NOW_NS_NS : FRef := ⟨0xd00114, 29, 0⟩
def TIME_NOW_FRAC_FRAC : FRef := ⟨0xd00118, 15, 0⟩
def TIME_SET_SEC_HI_SEC_HI : FRef := ⟨0xd00120, 15, 0⟩
def TIME_SET_SEC_LO_SEC_LO : FRef := ⟨0xd00124, 31, 0⟩
def TIME_SET_NS_NS : FRef := ⟨0xd00128, 29, 0⟩
def TIME_CMD_SET : FRef := ⟨0xd0012c, 31, 31⟩
def TIME_CMD_ADJ : FRef := ⟨0xd0012c, 30, 30⟩
def TIME_ADJ_NS_ADJ_NS : FRef := ⟨0xd00130, 31, 0⟩
def TIME_FREQ_FREQ_ADJ : FRef := ⟨0xd00134, 31, 0⟩
def TIME_OFFS_NS_NS : FRef := ⟨0xd00138, 31, 0⟩
def TIME_OFFS_FRAC_FRAC : FRef := ⟨0xd0013c, 15, 0⟩
def TIME_SERVO_KP : FRef := ⟨0xd00140, 12, 8⟩
def TIME_SERVO_KI : FRef := ⟨0xd00140, 4, 0⟩
def TIME_STEPTH_STEP_NS : FRef := ⟨0xd00144, 31, 0⟩
def TIME_SLEW_SLEW_MAX : FRef := ⟨0xd00148, 19, 0⟩
def TIME_LOCK_LOCK_NS : FRef := ⟨0xd0014c, 31, 16⟩
def TIME_LOCK_HOLD_MS : FRef := ⟨0xd0014c, 15, 0⟩
def TIME_LASTOFS_NS : FRef := ⟨0xd00150, 31, 0⟩
def TIME_PPSOUT_WIDTH_US : FRef := ⟨0xd00154, 31, 12⟩
def TIME_PPSOUT_OFS_OFS_NS : FRef := ⟨0xd00158, 31, 0⟩
def TIME_PPSIN_COUNT : FRef := ⟨0xd0015c, 31, 16⟩
def TIME_PPSIN_DELAY_NS : FRef := ⟨0xd0015c, 15, 0⟩
def TIME_PPSIN_SEC_SEC_LO : FRef := ⟨0xd00160, 31, 0⟩
def TIME_PPSIN_NS_NS : FRef := ⟨0xd00164, 29, 0⟩
def TIME_PPSIN_FRAC_FRAC : FRef := ⟨0xd00168, 15, 0⟩
def TIME_NEXTSEC_VALID : FRef := ⟨0xd0016c, 31, 31⟩
def TIME_NEXTSEC_SEC : FRef := ⟨0xd0016c, 30, 0⟩
def MGMT_REJECT_VALID : FRef := ⟨0xe00100, 31, 31⟩
def MGMT_REJECT_OVER : FRef := ⟨0xe00100, 30, 30⟩
def MGMT_REJECT_AGENT : FRef := ⟨0xe00100, 25, 24⟩
def MGMT_REJECT_CODE : FRef := ⟨0xe00100, 15, 0⟩
def MGMT_REJ_ADDR_OFFSET : FRef := ⟨0xe00104, 27, 0⟩
def MGMT_REJ_DATA_DATA : FRef := ⟨0xe00108, 31, 0⟩
def MGMT_MODE_RESTRICTED : FRef := ⟨0xe0010c, 0, 0⟩
def MGMT_VPEND0_VPEND : FRef := ⟨0xe00110, 31, 0⟩
def MGMT_VPEND1_VPEND : FRef := ⟨0xe00114, 31, 0⟩
def MGMT_IREARM_VECTOR : FRef := ⟨0xe00118, 5, 0⟩
def MGMT_PCIESTAT_WIDTH : FRef := ⟨0xe0011c, 7, 4⟩
def MGMT_PCIESTAT_GEN : FRef := ⟨0xe0011c, 3, 0⟩
def MGMT_VFIRST_VALID (i : Nat) : FRef := ⟨0xe00140 + i * 4, 31, 31⟩
def MGMT_VFIRST_PAGE (i : Nat) : FRef := ⟨0xe00140 + i * 4, 15, 0⟩
def TXN_TXCTL_GO (i : Nat) : FRef := ⟨0xe01100 + i * 32, 31, 31⟩
def TXN_TXCTL_OP (i : Nat) : FRef := ⟨0xe01100 + i * 32, 30, 28⟩
def TXN_TXCTL_MODE (i : Nat) : FRef := ⟨0xe01100 + i * 32, 27, 26⟩
def TXN_TXCTL_PART (i : Nat) : FRef := ⟨0xe01100 + i * 32, 15, 0⟩
def TXN_TXSTAT_STATE (i : Nat) : FRef := ⟨0xe01104 + i * 32, 31, 28⟩
def TXN_TXSTAT_MODE (i : Nat) : FRef := ⟨0xe01104 + i * 32, 27, 26⟩
def TXN_TXSTAT_AGENT (i : Nat) : FRef := ⟨0xe01104 + i * 32, 25, 24⟩
def TXN_TXSTAT_CODE (i : Nat) : FRef := ⟨0xe01104 + i * 32, 15, 0⟩
def TXN_TXCOUNT_COUNT (i : Nat) : FRef := ⟨0xe01108 + i * 32, 16, 0⟩
def TXN_TXT_SEC_HI_SEC_HI (i : Nat) : FRef := ⟨0xe0110c + i * 32, 15, 0⟩
def TXN_TXT_SEC_LO_SEC_LO (i : Nat) : FRef := ⟨0xe01110 + i * 32, 31, 0⟩
def TXN_TXT_NS_NS (i : Nat) : FRef := ⟨0xe01114 + i * 32, 29, 0⟩
def TXN_TXFAIL_VALID (i : Nat) : FRef := ⟨0xe01118 + i * 32, 31, 31⟩
def TXN_TXFAIL_INDEX (i : Nat) : FRef := ⟨0xe01118 + i * 32, 15, 0⟩
def TXN_TXPART_PART (i : Nat) : FRef := ⟨0xe0111c + i * 32, 15, 0⟩
def TXN_TXISTAT_DONE : FRef := ⟨0xe01300, 15, 0⟩
def TXN_TXIEN_IEN : FRef := ⟨0xe01304, 15, 0⟩
def RILL_STAT_TOK_IN : FRef := ⟨0xe03100, 31, 31⟩
def RILL_STAT_TOK_OUT : FRef := ⟨0xe03100, 30, 30⟩
def RILL_STAT_RXLOCK : FRef := ⟨0xe03100, 29, 29⟩
def RILL_STAT_ADDR : FRef := ⟨0xe03100, 5, 0⟩
def RILL_CFG_INTR_EN : FRef := ⟨0xe03104, 0, 0⟩
def MB_MBCTL_GO (i : Nat) : FRef := ⟨0xe05100 + i * 16, 31, 31⟩
def MB_MBSTAT_BUSY (i : Nat) : FRef := ⟨0xe05104 + i * 16, 31, 31⟩
def MB_MBSTAT_DONE (i : Nat) : FRef := ⟨0xe05104 + i * 16, 30, 30⟩
def MB_MBSTAT_OK (i : Nat) : FRef := ⟨0xe05104 + i * 16, 29, 29⟩
def MB_MBSTAT_AGENT (i : Nat) : FRef := ⟨0xe05104 + i * 16, 25, 24⟩
def MB_MBSTAT_CODE (i : Nat) : FRef := ⟨0xe05104 + i * 16, 15, 0⟩
def MB_MBISTAT_DONE : FRef := ⟨0xe05200, 7, 0⟩
def MB_MBIEN_IEN : FRef := ⟨0xe05204, 7, 0⟩
def HLTH_CFG_SUSPECT_US : FRef := ⟨0xe06100, 31, 16⟩
def HLTH_CFG_HARD_MS : FRef := ⟨0xe06100, 15, 0⟩
def HLTH_BUDGET_WINDOW_S : FRef := ⟨0xe06104, 15, 8⟩
def HLTH_BUDGET_BUDGET : FRef := ⟨0xe06104, 7, 0⟩
def HLTH_SCORE_FENCE : FRef := ⟨0xe06108, 23, 16⟩
def HLTH_SCORE_WARN : FRef := ⟨0xe06108, 15, 8⟩
def HLTH_SCORE_RECOVER_S : FRef := ⟨0xe06108, 7, 0⟩
def HLTH_AUTO_SCORE_EN : FRef := ⟨0xe0610c, 1, 1⟩
def HLTH_AUTO_HARD_EN : FRef := ⟨0xe0610c, 0, 0⟩
def HLTH_STAT_IN_WINDOW : FRef := ⟨0xe06110, 31, 24⟩
def HLTH_STAT_EXHAUSTED : FRef := ⟨0xe06110, 23, 23⟩
def HLTH_STAT_RECS : FRef := ⟨0xe06110, 10, 0⟩
def HLTH_LAST_VALID : FRef := ⟨0xe06114, 31, 31⟩
def HLTH_LAST_REC : FRef := ⟨0xe06114, 30, 30⟩
def HLTH_LAST_CAUSE : FRef := ⟨0xe06114, 29, 28⟩
def HLTH_LAST_LEAF : FRef := ⟨0xe06114, 9, 0⟩
def HLTH_SLUICE_TIMEOUT_MS : FRef := ⟨0xe06118, 15, 0⟩
def HLTH_ISTAT_ISTAT : FRef := ⟨0xe0611c, 10, 0⟩
def HLTH_IEN_IEN : FRef := ⟨0xe06120, 10, 0⟩
def MSIX_ADDR_LO_ADDR_LO (i : Nat) : FRef := ⟨0xe08400 + i * 16, 31, 2⟩
def MSIX_ADDR_HI_ADDR_HI (i : Nat) : FRef := ⟨0xe08404 + i * 16, 31, 0⟩
def MSIX_DATA_DATA (i : Nat) : FRef := ⟨0xe08408 + i * 16, 31, 0⟩
def MSIX_VCTRL_MASK (i : Nat) : FRef := ⟨0xe0840c + i * 16, 0, 0⟩
def MSIX_PBA_PENDING (i : Nat) : FRef := ⟨0xe08800 + i * 4, 31, 0⟩
def LOG_CFG_MODE : FRef := ⟨0xf00100, 0, 0⟩
def LOG_CTRL_CLEAR : FRef := ⟨0xf00104, 31, 31⟩
def LOG_WPTR_WPTR : FRef := ⟨0xf00108, 13, 0⟩
def LOG_RPTR_RPTR : FRef := ⟨0xf0010c, 13, 0⟩
def LOG_STAT_FULL : FRef := ⟨0xf00110, 31, 31⟩
def LOG_STAT_HELD : FRef := ⟨0xf00110, 14, 0⟩
def LOG_SEQ_SEQ : FRef := ⟨0xf00114, 31, 0⟩
def NVM_STAT_BUSY : FRef := ⟨0xf01100, 31, 31⟩
def NVM_STAT_BANK : FRef := ⟨0xf01100, 30, 30⟩
def NVM_STAT_NO_SETTINGS : FRef := ⟨0xf01100, 29, 29⟩
def NVM_STAT_AL_NONE : FRef := ⟨0xf01100, 28, 28⟩
def NVM_STAT_REMAP_FULL : FRef := ⟨0xf01100, 27, 27⟩
def NVM_STAT_CULLET_FULL : FRef := ⟨0xf01100, 26, 26⟩
def NVM_STAT_FACTORY_BAD : FRef := ⟨0xf01100, 25, 25⟩
def NVM_SEQ_LO_SEQ : FRef := ⟨0xf01104, 31, 0⟩
def NVM_SEQ_HI_SEQ : FRef := ⟨0xf01108, 31, 0⟩
def NVM_COUNTS_CULLET : FRef := ⟨0xf0110c, 31, 16⟩
def NVM_COUNTS_REMAP : FRef := ⟨0xf0110c, 15, 0⟩
def NVM_RETIRE_GO : FRef := ⟨0xf01110, 31, 31⟩
def NVM_RETIRE_LANE : FRef := ⟨0xf01110, 9, 0⟩
def BOOT_STAT_STAGE : FRef := ⟨0xf02100, 31, 28⟩
def BOOT_STAT_WHY : FRef := ⟨0xf02100, 27, 26⟩
def BOOT_STAT_OVERRIDDEN : FRef := ⟨0xf02100, 25, 25⟩
def BOOT_STAT_LAST : FRef := ⟨0xf02100, 24, 22⟩
def BOOT_SPCIMG_VERSION : FRef := ⟨0xf02104, 31, 0⟩
def BOOT_LANEIMG_VERSION : FRef := ⟨0xf02108, 31, 0⟩
def BOOT_SLOTS_LANE_FB : FRef := ⟨0xf0210c, 3, 3⟩
def BOOT_SLOTS_SPC_FB : FRef := ⟨0xf0210c, 2, 2⟩
def BOOT_SLOTS_LANE : FRef := ⟨0xf0210c, 1, 1⟩
def BOOT_SLOTS_SPC : FRef := ⟨0xf0210c, 0, 0⟩
def BOOT_CFG_STATE : FRef := ⟨0xf02110, 31, 30⟩
def BOOT_CFG_CODE : FRef := ⟨0xf02110, 15, 0⟩
def BOOT_CFGIDX_INDEX : FRef := ⟨0xf02114, 15, 0⟩
def BOOT_FLCTL_GO : FRef := ⟨0xf02120, 31, 31⟩
def BOOT_FLCTL_OP : FRef := ⟨0xf02120, 30, 29⟩
def BOOT_FLCTL_LEN : FRef := ⟨0xf02120, 12, 0⟩
def BOOT_FLADDR_ADDR : FRef := ⟨0xf02124, 31, 0⟩
def BOOT_FLSTAT_BUSY : FRef := ⟨0xf02128, 31, 31⟩
def BOOT_FLSTAT_DONE : FRef := ⟨0xf02128, 30, 30⟩
def BOOT_FLSTAT_OK : FRef := ⟨0xf02128, 29, 29⟩
def BOOT_FLSTAT_CODE : FRef := ⟨0xf02128, 15, 0⟩
def BOOT_ISTAT_RESTRICTED : FRef := ⟨0xf0212c, 1, 1⟩
def BOOT_ISTAT_DONE : FRef := ⟨0xf0212c, 0, 0⟩
def BOOT_IEN_IEN : FRef := ⟨0xf02130, 1, 0⟩
def SNAP_CFG_TRIG : FRef := ⟨0xf03100, 31, 30⟩
def SNAP_CFG_CLEAR : FRef := ⟨0xf03100, 29, 29⟩
def SNAP_CFG_SECT : FRef := ⟨0xf03100, 2, 0⟩
def SNAP_PERIOD_PERIOD_US : FRef := ⟨0xf03104, 31, 0⟩
def SNAP_T_SEC_SEC : FRef := ⟨0xf03108, 31, 0⟩
def SNAP_T_NS_NS : FRef := ⟨0xf0310c, 29, 0⟩
def SNAP_ADDR_LO_ADDR : FRef := ⟨0xf03110, 31, 0⟩
def SNAP_ADDR_HI_ADDR : FRef := ⟨0xf03114, 31, 0⟩
def SNAP_CTRL_GO : FRef := ⟨0xf03118, 31, 31⟩
def SNAP_CTRL_STOP : FRef := ⟨0xf03118, 30, 30⟩
def SNAP_STAT_BUSY : FRef := ⟨0xf0311c, 31, 31⟩
def SNAP_STAT_ARMED : FRef := ⟨0xf0311c, 30, 30⟩
def SNAP_STAT_CODE : FRef := ⟨0xf0311c, 15, 0⟩
def SNAP_SEQ_SEQ : FRef := ⟨0xf03120, 31, 0⟩
def SNAP_ISTAT_ISTAT : FRef := ⟨0xf03124, 2, 0⟩
def SNAP_IEN_IEN : FRef := ⟨0xf03128, 2, 0⟩
def SNAP_SAMP_WPTR_WPTR : FRef := ⟨0xf03140, 11, 0⟩
def THERM_CFG_T_EMERG : FRef := ⟨0xf04100, 31, 24⟩
def THERM_CFG_T_THROT : FRef := ⟨0xf04100, 23, 16⟩
def THERM_CFG_HYST : FRef := ⟨0xf04100, 15, 12⟩
def THERM_CFG_STEP : FRef := ⟨0xf04100, 5, 0⟩
def THERM_LIM_T_WARN : FRef := ⟨0xf04104, 31, 24⟩
def THERM_LIM_T_MEM : FRef := ⟨0xf04104, 23, 16⟩
def THERM_LIM_T_PIC : FRef := ⟨0xf04104, 15, 8⟩
def THERM_PWR_CAP_CAP_W : FRef := ⟨0xf04108, 15, 0⟩
def THERM_PWR_TOTAL_P : FRef := ⟨0xf0410c, 15, 0⟩
def THERM_ISTAT_ISTAT : FRef := ⟨0xf04110, 6, 0⟩
def THERM_IEN_IEN : FRef := ⟨0xf04114, 6, 0⟩
def THERM_PWR_DOM_PMAX (i : Nat) : FRef := ⟨0xf04180 + i * 4, 31, 16⟩
def THERM_PWR_DOM_P (i : Nat) : FRef := ⟨0xf04180 + i * 4, 15, 0⟩
def THERM_SENS_TMAX (i : Nat) : FRef := ⟨0xf04200 + i * 4, 31, 16⟩
def THERM_SENS_T (i : Nat) : FRef := ⟨0xf04200 + i * 4, 15, 0⟩
def THERM_BLIM_BIND (i : Nat) : FRef := ⟨0xf04400 + i * 4, 31, 29⟩
def THERM_BLIM_HOLD (i : Nat) : FRef := ⟨0xf04400 + i * 4, 28, 28⟩
def THERM_BLIM_PL (i : Nat) : FRef := ⟨0xf04400 + i * 4, 23, 18⟩
def THERM_BLIM_TL (i : Nat) : FRef := ⟨0xf04400 + i * 4, 17, 12⟩
def THERM_BLIM_FMAX (i : Nat) : FRef := ⟨0xf04400 + i * 4, 11, 6⟩
def THERM_BLIM_CODE (i : Nat) : FRef := ⟨0xf04400 + i * 4, 5, 0⟩
def ANN_CFG_APPLY : FRef := ⟨0xf05100, 31, 31⟩
def ANN_CFG_PERIOD_H : FRef := ⟨0xf05100, 23, 16⟩
def ANN_CFG_SLACK_MIN : FRef := ⟨0xf05100, 15, 10⟩
def ANN_CFG_GUARD_MAX : FRef := ⟨0xf05100, 9, 4⟩
def ANN_EYE_EYE_MIN : FRef := ⟨0xf05104, 7, 0⟩
def ANN_STAT_RUNNING : FRef := ⟨0xf05108, 31, 31⟩
def ANN_STAT_LAST_RUN : FRef := ⟨0xf05108, 30, 0⟩
def ANN_ISTAT_ISTAT : FRef := ⟨0xf0510c, 4, 0⟩
def ANN_IEN_IEN : FRef := ⟨0xf05110, 4, 0⟩
def ANN_BASIN_GUARD (i : Nat) : FRef := ⟨0xf05200 + i * 4, 13, 8⟩
def ANN_BASIN_FMAX (i : Nat) : FRef := ⟨0xf05200 + i * 4, 5, 0⟩
def ANN_DOM_GUARD (i : Nat) : FRef := ⟨0xf05300 + i * 4, 5, 0⟩
def EP_W0_KEY_LO (n : Nat) : FRef := ⟨0x1000000 + n * 0x10, 31, 0⟩
def EP_W1_KEY_HI (n : Nat) : FRef := ⟨0x1000004 + n * 0x10, 31, 0⟩
def EP_W2_VALID (n : Nat) : FRef := ⟨0x1000008 + n * 0x10, 31, 31⟩
def EP_W2_STATIC (n : Nat) : FRef := ⟨0x1000008 + n * 0x10, 30, 30⟩
def EP_W2_AGE1 (n : Nat) : FRef := ⟨0x1000008 + n * 0x10, 29, 29⟩
def EP_W2_PENDING (n : Nat) : FRef := ⟨0x1000008 + n * 0x10, 28, 28⟩
def EP_W2_MOVES (n : Nat) : FRef := ⟨0x1000008 + n * 0x10, 27, 24⟩
def EP_W2_RESULT_A (n : Nat) : FRef := ⟨0x1000008 + n * 0x10, 23, 0⟩
def EP_W3_HIT (n : Nat) : FRef := ⟨0x100000c + n * 0x10, 31, 31⟩
def EP_W3_RESULT_B (n : Nat) : FRef := ⟨0x100000c + n * 0x10, 23, 0⟩
def STASH_W0_KEY_LO (n : Nat) : FRef := ⟨0x2000000 + n * 0x10, 31, 0⟩
def STASH_W1_KEY_HI (n : Nat) : FRef := ⟨0x2000004 + n * 0x10, 31, 0⟩
def STASH_W2_VALID (n : Nat) : FRef := ⟨0x2000008 + n * 0x10, 31, 31⟩
def STASH_W2_STATIC (n : Nat) : FRef := ⟨0x2000008 + n * 0x10, 30, 30⟩
def STASH_W2_AGE1 (n : Nat) : FRef := ⟨0x2000008 + n * 0x10, 29, 29⟩
def STASH_W2_PENDING (n : Nat) : FRef := ⟨0x2000008 + n * 0x10, 28, 28⟩
def STASH_W2_MOVES (n : Nat) : FRef := ⟨0x2000008 + n * 0x10, 27, 24⟩
def STASH_W2_RESULT_A (n : Nat) : FRef := ⟨0x2000008 + n * 0x10, 23, 0⟩
def STASH_W3_HIT (n : Nat) : FRef := ⟨0x200000c + n * 0x10, 31, 31⟩
def STASH_W3_RESULT_B (n : Nat) : FRef := ⟨0x200000c + n * 0x10, 23, 0⟩
def LROUTE_W0_RESULT (n : Nat) : FRef := ⟨0x2010000 + n * 0x4, 23, 0⟩
def CHIP_W0_RESULT (n : Nat) : FRef := ⟨0x2100000 + n * 0x4, 23, 0⟩
def MDESC_W0_VALID (n : Nat) : FRef := ⟨0x2200000 + n * 0x10, 31, 31⟩
def MDESC_W0_AXIS (n : Nat) : FRef := ⟨0x2200000 + n * 0x10, 30, 30⟩
def MDESC_W0_LAST (n : Nat) : FRef := ⟨0x2200000 + n * 0x10, 29, 29⟩
def MDESC_W0_INDEX (n : Nat) : FRef := ⟨0x2200000 + n * 0x10, 25, 16⟩
def MDESC_W0_NEXT (n : Nat) : FRef := ⟨0x2200000 + n * 0x10, 15, 0⟩
def MDESC_W1_SEG (n : Nat) : FRef := ⟨0x2200004 + n * 0x10, 3, 0⟩
def MDESC_W2_MASK_LO (n : Nat) : FRef := ⟨0x2200008 + n * 0x10, 31, 0⟩
def MDESC_W3_MASK_HI (n : Nat) : FRef := ⟨0x220000c + n * 0x10, 31, 0⟩
def SKIP_W0_FENCE_SKIPS (n : Nat) : FRef := ⟨0x2400000 + n * 0x8, 31, 0⟩
def SKIP_W1_NOLINK_SKIPS (n : Nat) : FRef := ⟨0x2400004 + n * 0x8, 31, 0⟩
def PIN_W0_PINS (n : Nat) : FRef := ⟨0x2480000 + n * 0x4, 31, 0⟩
def QUEUE_W0_EN (n : Nat) : FRef := ⟨0x3000000 + n * 0x10, 31, 31⟩
def QUEUE_W0_STRICT (n : Nat) : FRef := ⟨0x3000000 + n * 0x10, 30, 30⟩
def QUEUE_W0_RANK (n : Nat) : FRef := ⟨0x3000000 + n * 0x10, 29, 28⟩
def QUEUE_W0_LAUNCH (n : Nat) : FRef := ⟨0x3000000 + n * 0x10, 27, 27⟩
def QUEUE_W0_VC (n : Nat) : FRef := ⟨0x3000000 + n * 0x10, 26, 24⟩
def QUEUE_W0_PROFILE (n : Nat) : FRef := ⟨0x3000000 + n * 0x10, 23, 20⟩
def QUEUE_W0_QUANTUM (n : Nat) : FRef := ⟨0x3000000 + n * 0x10, 19, 0⟩
def QUEUE_W1_LIMIT (n : Nat) : FRef := ⟨0x3000004 + n * 0x10, 19, 0⟩
def QUEUE_W2_BURST (n : Nat) : FRef := ⟨0x3000008 + n * 0x10, 23, 0⟩
def QUEUE_W3_RATE (n : Nat) : FRef := ⟨0x300000c + n * 0x10, 21, 0⟩
def QMAP_W0_MAP (n : Nat) : FRef := ⟨0x3100000 + n * 0x4, 31, 0⟩
def PORTENT_W0_RATE (n : Nat) : FRef := ⟨0x3110000 + n * 0x10, 21, 0⟩
def PORTENT_W1_BURST (n : Nat) : FRef := ⟨0x3110004 + n * 0x10, 23, 0⟩
def PORTENT_W2_LOSSY_LIMIT (n : Nat) : FRef := ⟨0x3110008 + n * 0x10, 19, 0⟩
def HEAD_W0_HPL (n : Nat) : FRef := ⟨0x3120000 + n * 0x10, 11, 0⟩
def HEAD_W1_G3 (n : Nat) : FRef := ⟨0x3120004 + n * 0x10, 31, 24⟩
def HEAD_W1_G2 (n : Nat) : FRef := ⟨0x3120004 + n * 0x10, 23, 16⟩
def HEAD_W1_G1 (n : Nat) : FRef := ⟨0x3120004 + n * 0x10, 15, 8⟩
def HEAD_W1_G0 (n : Nat) : FRef := ⟨0x3120004 + n * 0x10, 7, 0⟩
def HEAD_W2_G6 (n : Nat) : FRef := ⟨0x3120008 + n * 0x10, 15, 8⟩
def HEAD_W2_G4 (n : Nat) : FRef := ⟨0x3120008 + n * 0x10, 7, 0⟩
def PACC_W0_CELLS (n i : Nat) : FRef := ⟨0x3130000 + n * 0x20 + i * 4, 19, 0⟩
def QOCC_W0_CELLS (n : Nat) : FRef := ⟨0x3140000 + n * 0x4, 19, 0⟩
def POLICER_W0_CIR (n : Nat) : FRef := ⟨0x3200000 + n * 0x10, 21, 0⟩
def POLICER_W1_PIR (n : Nat) : FRef := ⟨0x3200004 + n * 0x10, 21, 0⟩
def POLICER_W2_CBS (n : Nat) : FRef := ⟨0x3200008 + n * 0x10, 23, 0⟩
def POLICER_W3_PBS (n : Nat) : FRef := ⟨0x320000c + n * 0x10, 23, 0⟩
def ATTACH_W0_EN1 (n : Nat) : FRef := ⟨0x3210000 + n * 0x4, 31, 31⟩
def ATTACH_W0_POLICER1 (n : Nat) : FRef := ⟨0x3210000 + n * 0x4, 27, 16⟩
def ATTACH_W0_EN0 (n : Nat) : FRef := ⟨0x3210000 + n * 0x4, 15, 15⟩
def ATTACH_W0_POLICER0 (n : Nat) : FRef := ⟨0x3210000 + n * 0x4, 11, 0⟩
def COMM_W0_PART (n : Nat) : FRef := ⟨0x4000000 + n * 0x40, 31, 16⟩
def COMM_W0_COMM (n : Nat) : FRef := ⟨0x4000000 + n * 0x40, 15, 0⟩
def COMM_W1_VALID (n : Nat) : FRef := ⟨0x4000004 + n * 0x40, 31, 31⟩
def COMM_W1_STATE (n : Nat) : FRef := ⟨0x4000004 + n * 0x40, 30, 30⟩
def COMM_W1_RESV (n : Nat) : FRef := ⟨0x4000004 + n * 0x40, 29, 29⟩
def COMM_W1_RCLASS (n : Nat) : FRef := ⟨0x4000004 + n * 0x40, 28, 26⟩
def COMM_W1_FCLASS (n : Nat) : FRef := ⟨0x4000004 + n * 0x40, 25, 23⟩
def COMM_W1_NMEMB (n : Nat) : FRef := ⟨0x4000004 + n * 0x40, 10, 0⟩
def COMM_W2_RDESC (n : Nat) : FRef := ⟨0x4000008 + n * 0x40, 31, 16⟩
def COMM_W2_CTXBASE (n : Nat) : FRef := ⟨0x4000008 + n * 0x40, 13, 0⟩
def COMM_W3_MAPBASE (n : Nat) : FRef := ⟨0x400000c + n * 0x40, 31, 14⟩
def COMM_W3_WIN (n : Nat) : FRef := ⟨0x400000c + n * 0x40, 8, 0⟩
def COMM_W4_FALLBACK (n : Nat) : FRef := ⟨0x4000010 + n * 0x40, 19, 0⟩
def COMM_W5_BASE (n : Nat) : FRef := ⟨0x4000014 + n * 0x40, 31, 0⟩
def COMM_P0_TYPE (n : Nat) : FRef := ⟨0x4000018 + n * 0x40, 31, 29⟩
def COMM_P0_OP (n : Nat) : FRef := ⟨0x4000018 + n * 0x40, 28, 26⟩
def COMM_P0_MODE (n : Nat) : FRef := ⟨0x4000018 + n * 0x40, 25, 25⟩
def COMM_P0_PAIRED (n : Nat) : FRef := ⟨0x4000018 + n * 0x40, 24, 24⟩
def COMM_P0_PLACE (n : Nat) : FRef := ⟨0x4000018 + n * 0x40, 23, 23⟩
def COMM_P0_RND (n : Nat) : FRef := ⟨0x4000018 + n * 0x40, 22, 22⟩
def COMM_P0_OVF (n : Nat) : FRef := ⟨0x4000018 + n * 0x40, 21, 21⟩
def COMM_P0_HIST (n : Nat) : FRef := ⟨0x4000018 + n * 0x40, 20, 20⟩
def COMM_P0_APPLY_PARTIAL (n : Nat) : FRef := ⟨0x4000018 + n * 0x40, 19, 19⟩
def COMM_P0_FMT (n : Nat) : FRef := ⟨0x4000018 + n * 0x40, 15, 12⟩
def COMM_P0_OFMT (n : Nat) : FRef := ⟨0x4000018 + n * 0x40, 11, 8⟩
def COMM_P1_NCHUNK (n : Nat) : FRef := ⟨0x400001c + n * 0x40, 31, 0⟩
def COMM_P2_CLEN (n : Nat) : FRef := ⟨0x4000020 + n * 0x40, 28, 16⟩
def COMM_P2_LASTLEN (n : Nat) : FRef := ⟨0x4000020 + n * 0x40, 12, 0⟩
def COMM_P3_BMASK_LO (n : Nat) : FRef := ⟨0x4000024 + n * 0x40, 31, 0⟩
def COMM_P4_BMASK_HI (n : Nat) : FRef := ⟨0x4000028 + n * 0x40, 17, 0⟩
def COMM_P5_DEADLINE_US (n : Nat) : FRef := ⟨0x400002c + n * 0x40, 31, 0⟩
def COMM_P6_SPILL_PAGE (n : Nat) : FRef := ⟨0x4000030 + n * 0x40, 26, 0⟩
def COMM_P7_STATE_PAGE (n : Nat) : FRef := ⟨0x4000034 + n * 0x40, 26, 0⟩
def COMM_P8_KERNEL (n : Nat) : FRef := ⟨0x4000038 + n * 0x40, 31, 16⟩
def COMM_P8_HYPER (n : Nat) : FRef := ⟨0x4000038 + n * 0x40, 15, 0⟩
def COMM_P9_SRSEED (n : Nat) : FRef := ⟨0x400003c + n * 0x40, 31, 0⟩
def MEMB_W0_VALID (n : Nat) : FRef := ⟨0x4100000 + n * 0x4, 31, 31⟩
def MEMB_W0_LEAF (n : Nat) : FRef := ⟨0x4100000 + n * 0x4, 25, 16⟩
def MEMB_W0_WEIGHT (n : Nat) : FRef := ⟨0x4100000 + n * 0x4, 15, 0⟩
def COLCMD_W0_DATA (n : Nat) : FRef := ⟨0x4200000 + n * 0x4, 31, 0⟩
def HISTB_W0_AUTO (n : Nat) : FRef := ⟨0x4500000 + n * 0x4, 31, 31⟩
def HISTB_W0_HBASE (n : Nat) : FRef := ⟨0x4500000 + n * 0x4, 7, 0⟩
def CTX_P0_TYPE (n : Nat) : FRef := ⟨0x5000000 + n * 0x400, 31, 29⟩
def CTX_P0_OP (n : Nat) : FRef := ⟨0x5000000 + n * 0x400, 28, 26⟩
def CTX_P0_MODE (n : Nat) : FRef := ⟨0x5000000 + n * 0x400, 25, 25⟩
def CTX_P0_PAIRED (n : Nat) : FRef := ⟨0x5000000 + n * 0x400, 24, 24⟩
def CTX_P0_PLACE (n : Nat) : FRef := ⟨0x5000000 + n * 0x400, 23, 23⟩
def CTX_P0_RND (n : Nat) : FRef := ⟨0x5000000 + n * 0x400, 22, 22⟩
def CTX_P0_OVF (n : Nat) : FRef := ⟨0x5000000 + n * 0x400, 21, 21⟩
def CTX_P0_HIST (n : Nat) : FRef := ⟨0x5000000 + n * 0x400, 20, 20⟩
def CTX_P0_APPLY_PARTIAL (n : Nat) : FRef := ⟨0x5000000 + n * 0x400, 19, 19⟩
def CTX_P0_FMT (n : Nat) : FRef := ⟨0x5000000 + n * 0x400, 15, 12⟩
def CTX_P0_OFMT (n : Nat) : FRef := ⟨0x5000000 + n * 0x400, 11, 8⟩
def CTX_P1_NCHUNK (n : Nat) : FRef := ⟨0x5000004 + n * 0x400, 31, 0⟩
def CTX_P2_CLEN (n : Nat) : FRef := ⟨0x5000008 + n * 0x400, 28, 16⟩
def CTX_P2_LASTLEN (n : Nat) : FRef := ⟨0x5000008 + n * 0x400, 12, 0⟩
def CTX_P3_BMASK_LO (n : Nat) : FRef := ⟨0x500000c + n * 0x400, 31, 0⟩
def CTX_P4_BMASK_HI (n : Nat) : FRef := ⟨0x5000010 + n * 0x400, 17, 0⟩
def CTX_P5_DEADLINE_US (n : Nat) : FRef := ⟨0x5000014 + n * 0x400, 31, 0⟩
def CTX_P6_SPILL_PAGE (n : Nat) : FRef := ⟨0x5000018 + n * 0x400, 26, 0⟩
def CTX_P7_STATE_PAGE (n : Nat) : FRef := ⟨0x500001c + n * 0x400, 26, 0⟩
def CTX_P8_KERNEL (n : Nat) : FRef := ⟨0x5000020 + n * 0x400, 31, 16⟩
def CTX_P8_HYPER (n : Nat) : FRef := ⟨0x5000020 + n * 0x400, 15, 0⟩
def CTX_P9_SRSEED (n : Nat) : FRef := ⟨0x5000024 + n * 0x400, 31, 0⟩
def CTX_W10_STATE (n : Nat) : FRef := ⟨0x5000028 + n * 0x400, 31, 28⟩
def CTX_W10_COMMIDX (n : Nat) : FRef := ⟨0x5000028 + n * 0x400, 11, 0⟩
def CTX_W11_CSEQ (n : Nat) : FRef := ⟨0x500002c + n * 0x400, 31, 0⟩
def CTX_W26_ARRIVAL (n : Nat) : FRef := ⟨0x5000068 + n * 0x400, 18, 0⟩
def CTX_W27_SLOT_MAX (n : Nat) : FRef := ⟨0x500006c + n * 0x400, 31, 0⟩
def CTX_W28_STATUS (n : Nat) : FRef := ⟨0x5000070 + n * 0x400, 31, 24⟩
def CTX_W28_RFLAGS (n : Nat) : FRef := ⟨0x5000070 + n * 0x400, 15, 0⟩
def CTX_W32_SKIP (n i : Nat) : FRef := ⟨0x5000080 + n * 0x400 + i * 4, 31, 0⟩
def CTX_W64_MISSING (n i : Nat) : FRef := ⟨0x5000100 + n * 0x400 + i * 4, 31, 0⟩
def CTX_W96_HIST (n i : Nat) : FRef := ⟨0x5000180 + n * 0x400 + i * 4, 31, 0⟩
def CTX_W12_COUNTER (n i : Nat) : FRef := ⟨0x5000030 + n * 0x400 + i * 4, 31, 0⟩
def CTX_W22_TIMES (n i : Nat) : FRef := ⟨0x5000058 + n * 0x400 + i * 4, 31, 0⟩
def PWIN_W0_VALID (n : Nat) : FRef := ⟨0x6000000 + n * 0x10, 31, 31⟩
def PWIN_W0_UKERN (n : Nat) : FRef := ⟨0x6000000 + n * 0x10, 30, 30⟩
def PWIN_W0_PART (n : Nat) : FRef := ⟨0x6000000 + n * 0x10, 15, 0⟩
def PWIN_W1_BASE_PAGE (n : Nat) : FRef := ⟨0x6000004 + n * 0x10, 26, 0⟩
def PWIN_W2_NPAGES (n : Nat) : FRef := ⟨0x6000008 + n * 0x10, 27, 0⟩
def ALLOW_W0_VALID (n : Nat) : FRef := ⟨0x6001000 + n * 0x40, 31, 31⟩
def ALLOW_W8_DIGEST (n i : Nat) : FRef := ⟨0x6001020 + n * 0x40 + i * 4, 31, 0⟩
def KSTAGE_W0_DATA (n : Nat) : FRef := ⟨0x6010000 + n * 0x4, 31, 0⟩
def KL_CTRL_GO : FRef := ⟨0x6018000, 31, 31⟩
def KL_CTRL_OP : FRef := ⟨0x6018000, 30, 29⟩
def KL_CTRL_SLOT : FRef := ⟨0x6018000, 7, 0⟩
def KL_LEN_BYTES : FRef := ⟨0x6018004, 15, 0⟩
def KL_STATUS_BUSY : FRef := ⟨0x6018008, 31, 31⟩
def KL_STATUS_DONE : FRef := ⟨0x6018008, 30, 30⟩
def KL_STATUS_OK : FRef := ⟨0x6018008, 29, 29⟩
def KL_STATUS_CODE : FRef := ⟨0x6018008, 15, 0⟩
def KL_LOADED_LOADED (i : Nat) : FRef := ⟨0x6018010 + i * 4, 31, 0⟩
def KL_FREE_BYTES : FRef := ⟨0x6018030, 19, 0⟩
def TAGBUF_W0_DATA (n i : Nat) : FRef := ⟨0x6100000 + n * 0x20 + i * 4, 31, 0⟩
def CHAN_W0_STATE (n : Nat) : FRef := ⟨0x7000000 + n * 0x80, 31, 29⟩
def CHAN_W0_LIVEIDX (n : Nat) : FRef := ⟨0x7000000 + n * 0x80, 18, 10⟩
def CHAN_W0_NC (n : Nat) : FRef := ⟨0x7000000 + n * 0x80, 6, 0⟩
def CHAN_W16_BANKMAP (n i : Nat) : FRef := ⟨0x7000040 + n * 0x80 + i * 4, 31, 0⟩
def BANK_W0_STATE (n : Nat) : FRef := ⟨0x7100000 + n * 0x100, 31, 30⟩
def BANK_W0_COPY (n : Nat) : FRef := ⟨0x7100000 + n * 0x100, 11, 0⟩
def BANK_W1_RETIRED (n : Nat) : FRef := ⟨0x7100004 + n * 0x100, 31, 0⟩
def BANK_W32_VALID (n i : Nat) : FRef := ⟨0x7100080 + n * 0x100 + i * 4, 31, 31⟩
def BANK_W32_ROW (n i : Nat) : FRef := ⟨0x7100080 + n * 0x100 + i * 4, 11, 0⟩
def MARGIN_W0_RDW (n : Nat) : FRef := ⟨0x7900000 + n * 0x40, 31, 24⟩
def MARGIN_W0_RDH (n : Nat) : FRef := ⟨0x7900000 + n * 0x40, 23, 16⟩
def MARGIN_W0_WRW (n : Nat) : FRef := ⟨0x7900000 + n * 0x40, 15, 8⟩
def MARGIN_W0_WRH (n : Nat) : FRef := ⟨0x7900000 + n * 0x40, 7, 0⟩
def MARGIN_W1_KIND (n : Nat) : FRef := ⟨0x7900004 + n * 0x40, 31, 30⟩
def MARGIN_W1_RESULT (n : Nat) : FRef := ⟨0x7900004 + n * 0x40, 29, 28⟩
def MARGIN_W1_PIN (n : Nat) : FRef := ⟨0x7900004 + n * 0x40, 27, 22⟩
def MARGIN_W2_TSEC (n : Nat) : FRef := ⟨0x7900008 + n * 0x40, 31, 0⟩
def MARGIN_W3_TNS (n : Nat) : FRef := ⟨0x790000c + n * 0x40, 31, 0⟩
def ARB_CTRL_FREEZE (n : Nat) : FRef := ⟨0x7a00000 + n * 0x100, 31, 31⟩
def ARB_CTRL_STARVE_CLK (n : Nat) : FRef := ⟨0x7a00000 + n * 0x100, 23, 0⟩
def ARB_STATUS_DRAINED (n : Nat) : FRef := ⟨0x7a00004 + n * 0x100, 31, 31⟩
def ARB_STATUS_BUSY (n : Nat) : FRef := ⟨0x7a00004 + n * 0x100, 30, 30⟩
def ARB_STATUS_OWNER (n : Nat) : FRef := ⟨0x7a00004 + n * 0x100, 4, 0⟩
def ARB_STARVE_STARVE (n : Nat) : FRef := ⟨0x7a00008 + n * 0x100, 31, 0⟩
def ARB_REQ_REQ (n : Nat) : FRef := ⟨0x7a0000c + n * 0x100, 31, 0⟩
def ARB_REQCFG_PRIO (n i : Nat) : FRef := ⟨0x7a00010 + n * 0x100 + i * 4, 17, 16⟩
def ARB_REQCFG_BURST (n i : Nat) : FRef := ⟨0x7a00010 + n * 0x100 + i * 4, 7, 0⟩
def GSCHED_W0_LAST (n : Nat) : FRef := ⟨0x9000000 + n * 0x8, 31, 31⟩
def GSCHED_W0_DARK (n : Nat) : FRef := ⟨0x9000000 + n * 0x8, 30, 30⟩
def GSCHED_W0_PATTERN (n : Nat) : FRef := ⟨0x9000000 + n * 0x8, 27, 16⟩
def GSCHED_W1_DUR (n : Nat) : FRef := ⟨0x9000004 + n * 0x8, 18, 0⟩
def GPAT_W0_EN3 (n i : Nat) : FRef := ⟨0x9080000 + n * 0x40 + i * 4, 31, 31⟩
def GPAT_W0_SRC3 (n i : Nat) : FRef := ⟨0x9080000 + n * 0x40 + i * 4, 29, 24⟩
def GPAT_W0_EN2 (n i : Nat) : FRef := ⟨0x9080000 + n * 0x40 + i * 4, 23, 23⟩
def GPAT_W0_SRC2 (n i : Nat) : FRef := ⟨0x9080000 + n * 0x40 + i * 4, 21, 16⟩
def GPAT_W0_EN1 (n i : Nat) : FRef := ⟨0x9080000 + n * 0x40 + i * 4, 15, 15⟩
def GPAT_W0_SRC1 (n i : Nat) : FRef := ⟨0x9080000 + n * 0x40 + i * 4, 13, 8⟩
def GPAT_W0_EN0 (n i : Nat) : FRef := ⟨0x9080000 + n * 0x40 + i * 4, 7, 7⟩
def GPAT_W0_SRC0 (n i : Nat) : FRef := ⟨0x9080000 + n * 0x40 + i * 4, 5, 0⟩
def RING_W0_STATE (n : Nat) : FRef := ⟨0x9100000 + n * 0x10, 31, 29⟩
def RING_W0_HEATER (n : Nat) : FRef := ⟨0x9100000 + n * 0x10, 11, 0⟩
def RING_W1_MON (n : Nat) : FRef := ⟨0x9100004 + n * 0x10, 31, 16⟩
def RING_W1_RELOCKS (n : Nat) : FRef := ⟨0x9100004 + n * 0x10, 15, 0⟩
def SOA_W0_IB (n : Nat) : FRef := ⟨0x9110000 + n * 0x10, 25, 16⟩
def SOA_W0_IWORST (n : Nat) : FRef := ⟨0x9110000 + n * 0x10, 9, 0⟩
def SOA_W1_POUT (n : Nat) : FRef := ⟨0x9110004 + n * 0x10, 31, 16⟩
def SOA_W1_HEADROOM (n : Nat) : FRef := ⟨0x9110004 + n * 0x10, 15, 0⟩
def SOA_W2_TARGET (n : Nat) : FRef := ⟨0x9110008 + n * 0x10, 15, 0⟩
def GIN_W0_PIN (n : Nat) : FRef := ⟨0x9120000 + n * 0x10, 31, 16⟩
def GIN_W0_IC (n : Nat) : FRef := ⟨0x9120000 + n * 0x10, 9, 0⟩
def MBUF_W0_DATA (n : Nat) : FRef := ⟨0xa000000 + n * 0x4, 31, 0⟩
def FLBUF_W0_DATA (n : Nat) : FRef := ⟨0xbc00000 + n * 0x4, 31, 0⟩
def TXSTG_W0_DATA (n : Nat) : FRef := ⟨0xc000000 + n * 0x4, 31, 0⟩

end F
end Sys2Proof.Machine
end

