-- ==== Sys2Proof/Machine/Ops.lean ====
section
/-! DEFINITION. The named operations over the state: reading and writing register fields, counting
an event, reporting an occurrence to the log writer, what leaves the part, clocks and stamps, and
the free values. -/

namespace Sys2Proof.Machine

/-- What a command answers. -/
abbrev Out := Host.Outcome State Fault Refusal

/-! ### The layout at an address (R556) -/

/-- The register at offset `o` among `rs`. -/
def findReg (rs : List RegDef) (o : Nat) : Option RegDef :=
  rs.find? fun r => decide (r.off ≤ o) && (o - r.off) % r.stride == 0 && decide ((o - r.off) / r.stride < r.count)

/-- The register page with index `p` (R557). -/
def pageDef (p : Nat) : Option PageDef :=
  Layout.pages.find? fun d => decide (d.first ≤ p) && decide (p < d.first + d.count)

/-- The table window that address `a` lies in (R560). -/
def winAt (a : Nat) : Option WinDef :=
  Layout.windows.find? fun w => decide (w.base ≤ a) && decide (a < w.base + w.entry * w.count)

/-- First address above the register pages (R400). -/
def pageLimit : Nat := 0x1000000

/-- The register or entry word at word address `a` (R556). -/
def regAt (a : Nat) : Option RegDef :=
  if a < pageLimit then
    match pageDef (a / 4096) with
    | none => none
    | some d => if a = 8 then some Layout.capGlobal else findReg (if a % 4096 < 0x100 then Layout.commonRegs else d.regs) (a % 4096)
  else
    match winAt a with
    | none => none
    | some w => findReg w.words ((a - w.base) % w.entry)

/-- The word that a register's fields spell at reset. -/
def RegDef.resetVal (r : RegDef) : Nat := r.flds.foldl (fun n f => n + f.reset * 2 ^ f.lo) 0

/-- Requesters of a ring-stop instance (R297): 26 of a Basin stop on the class REQ, 32 of a memory stop on RSP, none on
the others, which read 0. -/
def ringRequesters (n : Nat) : Nat :=
  let mem : Bool := (n - 512) / 4 % 33 % 4 == 3
  if n % 2 = 0 then (if mem then 0 else 26) else (if mem then 32 else 0)

/-- Default REQCFG word of requester `i` on arbiter instance `n`: memory channels by R303, the Glass
bus (776) by R334, ring stops PRIO 1 and BURST 1; an absent requester's entry reads 0. -/
def arbReset (n i : Nat) : Nat :=
  let e (prio burst : Nat) : Nat := prio * 0x10000 + burst
  if n < 512 then
    ([e 1 16, e 1 16, e 1 8, e 3 1, e 0 8, e 2 8]).getD i 0
  else if n = 776 then
    ([e 0 16, e 1 4, e 1 4, e 2 8, e 2 32, e 2 1, e 3 8, e 3 8]).getD i 0
  else if i < ringRequesters n then e 1 1 else 0

/-- Reset words that depend on the instance (R401, R402, R7, R142, R145, R303). -/
def indexedReset (a : Nat) : Option Nat :=
  if a < pageLimit then
    match pageDef (a / 4096) with
    | none => none
    | some d =>
      match a % 4096 with
      | 0x000 => some (0x5120 * 0x10000 + Config.grade * 0x1000 + Config.stepping.toNat * 0x100 + d.kind)
      | 0x008 => if a = 8 then some ((if Config.gradeM then 44 else 50) * 0x100 + 50) else some 0
      | 0x00c => some (a / 4096 - d.first)
      | 0x038 => some d.kind
      | o =>
        if a / 4096 = 0x701 ∧ 0x100 ≤ o ∧ o < 0x280 then
          match (o - 0x100) % 0x18 with
          | 0x00 => some 0xfffff
          | 0x04 => some 0xfffff
          | 0x08 => some 0x1000
          | 0x0c => some (0x40 * 0x100000 + 0x2000)
          | 0x10 => some 0x400
          | _ => some (0xff * 0x100000 + 0x1000)
        -- R299: capacity, planes and live channels as start-up computes them with nothing retired
        else if a = 0xb00100 then some (32768 * 0x10000 + 512)
        else if a = 0xb00104 then some 64
        else if d.first = 0xb10 ∧ o = 0x100 then some 32
        -- QCHK: the CRC-32C of the constants of R204 as three little-endian binary64 values
        else if a = 0x903108 then some 0x7b23d6c2
        else none
  else if 0x03000000 ≤ a ∧ a < 0x03100000 ∧ a % 16 = 0 then
    let q := (a - 0x03000000) / 16 % 64
    some (0x80000000 + (if q = 0 ∨ q = 8 then 0x40000000 else 0) + (if q = 0 then 0x10000000 else 0)
      + q / 8 * 0x1000000 + 0x2800)
  else if 0x03100000 ≤ a ∧ a < 0x03110000 then
    -- R144: the queue map of a port resets to queue VC × 8 + CLASS
    let b := (a - 0x03100000) % 64
    some (b + (b + 1) * 0x100 + (b + 2) * 0x10000 + (b + 3) * 0x1000000)
  else if 0x07000000 ≤ a ∧ a < 0x07010000 then
    -- R301: every channel live with 64 valid banks, slot s on bank s
    let o := a % 128
    if o = 0 then some ((a - 0x07000000) / 128 * 1024 + 64)
    else if 0x40 ≤ o ∧ o < 0x80 then
      let b := o - 0x40
      some (0x80808080 + b + (b + 1) * 0x100 + (b + 2) * 0x10000 + (b + 3) * 0x1000000)
    else some 0
  else if 0x07A00000 ≤ a ∧ a < 0x07A30900 ∧ 0x10 ≤ a % 256 ∧ a % 256 < 0x90 then
    some (arbReset ((a - 0x07A00000) / 256) ((a % 256 - 0x10) / 4))
  else none

/-- The reset value of the register or table word at word address `a` (R14). -/
def resetWord (a : Nat) : Word :=
  match indexedReset a with
  | some v => BitVec.ofNat 32 v
  | none =>
    match regAt a with
    | some r => BitVec.ofNat 32 r.resetVal
    | none => 0#32

/-! ### Fields -/

/-- The width of a field. -/
def FRef.width (f : FRef) : Nat := f.hi - f.lo + 1

/-- The field's value in a word. -/
def FRef.ofWord (f : FRef) (w : Word) : Nat := w.toNat / 2 ^ f.lo % 2 ^ f.width

/-- The word with the field replaced by the low bits of `v`. -/
def FRef.inWord (f : FRef) (w : Word) (v : Nat) : Word :=
  BitVec.ofNat 32 (w.toNat - f.ofWord w * 2 ^ f.lo + v % 2 ^ f.width * 2 ^ f.lo)

/-- The whole word at an address, as a field. -/
def wordRef (a : Nat) : FRef := ⟨a, 31, 0⟩

/-- The word held at BAR0 byte address `a`. -/
def State.word (s : State) (a : Nat) : Word := SMap.get resetWord s.bar a

/-- Hold `w` at BAR0 byte address `a`. -/
def State.setWord (s : State) (a : Nat) (w : Word) : State :=
  { s with bar := SMap.set resetWord s.bar a w }

/-- The value of a field. -/
def State.get (s : State) (f : FRef) : Nat := f.ofWord (s.word f.addr)

/-- Give a field a value. -/
def State.put (s : State) (f : FRef) (v : Nat) : State :=
  s.setWord f.addr (f.inWord (s.word f.addr) v)

/-- Whether a field is not 0. -/
def State.on (s : State) (f : FRef) : Bool := s.get f != 0

/-- Give several fields values, in order. -/
def State.puts (s : State) (l : List (FRef × Nat)) : State := l.foldl (fun s p => s.put p.1 p.2) s

/-- Bits of a word set in this core clock: a write of 1 in the same clock leaves them set (R221, R417). -/
def State.setBits (s : State) (a : Nat) : Nat := SMap.get (fun _ => 0) s.setNow a

/-- Note bits of a word as set in this core clock. -/
def State.noteSet (s : State) (a bits : Nat) : State :=
  { s with setNow := SMap.set (fun _ => 0) s.setNow a (s.setBits a ||| bits) }

/-- Set bits of a field, leaving those already set. -/
def State.orBits (s : State) (f : FRef) (v : Nat) : State :=
  (s.put f (s.get f ||| v)).noteSet f.addr (v % 2 ^ f.width * 2 ^ f.lo)

/-- Set a one-bit status field. -/
def State.raise (s : State) (f : FRef) : State := s.orBits f 1

/-- Clear bits of a field. -/
def State.clearBits (s : State) (f : FRef) (v : Nat) : State := s.put f (s.get f - (s.get f &&& v))

/-- A signed field. -/
def State.gets (s : State) (f : FRef) : Int := toSigned f.width (s.get f)

/-- Give a field a value, held at its largest (a saturating field). -/
def State.putSat (s : State) (f : FRef) (v : Nat) : State := s.put f (min v (2 ^ f.width - 1))

/-- Give a signed field a value. -/
def State.puti (s : State) (f : FRef) (v : Int) : State := s.put f (ofSigned f.width v)

/-- Add to a saturating field. -/
def State.addSat (s : State) (f : FRef) (v : Nat) : State := s.putSat f (s.get f + v)

/-- Byte `a` of BAR0 as held: its word's byte, little-endian (R10). -/
def State.byteAt (s : State) (a : Nat) : Nat := nfield (s.word (a / 4 * 4)).toNat (a % 4 * 8 + 7) (a % 4 * 8)

/-- Hold `v` in byte `a` of BAR0. -/
def State.setByte (s : State) (a v : Nat) : State := s.put ⟨a / 4 * 4, a % 4 * 8 + 7, a % 4 * 8⟩ v

/-- The bytes of BAR0 from word address `a`, `n` words. -/
def State.barBytes (s : State) (a n : Nat) : List Byte :=
  (List.range n).flatMap fun i => leBytes 4 (s.word (a + 4 * i)).toNat

/-- Hold bytes in BAR0 from word address `a` on, whole words, the last padded with zeros. -/
def State.setBarBytes (s : State) (a : Nat) (bs : List Byte) : State :=
  (List.range (ceilDiv bs.length 4)).foldl
    (fun s i => s.setWord (a + 4 * i) (BitVec.ofNat 32 (leNat (slice bs (4 * i) 4)))) s

/-! ### What leaves the part -/

/-- Something leaves the part. -/
def State.emit (s : State) (e : Emit) : State := { s with obs := { s.obs with out := e :: s.obs.out } }

/-! ### What answers (R496, R558) -/

/-- Whether an address answers before step 14 of start-up and in ROM mode. -/
def earlyPlace (a : Nat) : Bool :=
  a / 4096 == 0 || (decide (0xe00000 ≤ a) && decide (a < 0xe10000)) || a / 4096 == 0xf01 || a / 4096 == 0xf02
  || (decide (0xa000000 ≤ a) && decide (a < 0xa010000)) || (decide (0xb400000 ≤ a) && decide (a < 0xbc01000))

/-- Whether start-up has reached step 14 of R499 since the last reset that ran it whole. -/
def State.inRun (s : State) : Bool := s.get F.BOOT_STAT_STAGE == 10

/-- Whether the part is in ROM mode (R496). -/
def State.romMode (s : State) : Bool := s.get F.BOOT_STAT_WHY == 3

/-- Whether an address answers now; after a thermal trip only what the SPC island holds does (R468). -/
def State.answers (s : State) (a : Nat) : Bool := s.inRun && !s.pwr.trip || earlyPlace a

/-! ### Reads that are answered later -/

/-- The word of a register read that a Rill frame or the TAP waits for has come (R422, R554). -/
def State.answerRead (s : State) (agent v : Nat) : State :=
  if agent = 1 then
    { s with mgmt := { s.mgmt with rillPend := s.mgmt.rillPend.map fun p => { p with got := p.got ++ [v], waits := false } } }
  else if agent = 3 ∧ s.mgmt.tap.status = 1 then { s with mgmt := { s.mgmt with tap := { s.mgmt.tap with data := v, status := 0 } } }
  else s

/-- An access of the TAP whose answer a reset of stacked memory or of the photonic die has lost ends with a free value, for
the spec gives it none; a counter's is still answered (R554). -/
def State.tapLost (s : State) : TapSt :=
  let t := s.mgmt.tap
  if t.status = 1 ∧ (s.obs.reads.all fun q => q.agent != 3) then
    { t with status := 0, data := (Config.freeBits s.freeCtr 0).toNat % 2 ^ 32 }
  else t

/-! ### Counters (R504, R507, R508) -/

/-- One more selection of an event adds `n` at counter key `k` (8 × page + counter). -/
def bumpCounter (n : Nat) (o : ObsSt) (k : Nat) : ObsSt :=
  let v := SMap.get (fun _ => 0) o.cnt k + n
  { o with
    cnt := SMap.set (fun _ => 0) o.cnt k (v % 2 ^ 48)
    wrap := if v < 2 ^ 48 then o.wrap
      else SMap.set (fun _ => 0) o.wrap (k / 8) (SMap.get (fun _ => 0) o.wrap (k / 8) ||| 2 ^ (k % 8))
    wrapNow := if v < 2 ^ 48 then o.wrapNow
      else SMap.set (fun _ => 0) o.wrapNow (k / 8) (SMap.get (fun _ => 0) o.wrapNow (k / 8) ||| 2 ^ (k % 8)) }

/-- An event that the old selection of a counter counts, whose EVSEL was written in this core clock (R511). -/
def FreshSel.bump (ev n : Nat) (y : FreshSel) : FreshSel :=
  if y.sel = 0x80000000 + ev then { y with cnt := (y.cnt + n) % 2 ^ 48, wrapped := y.wrapped || decide (2 ^ 48 ≤ y.cnt + n) } else y

/-- Whether a counter counts in this core clock: its EVSEL was not written in it (R505). -/
def ObsSt.counts (o : ObsSt) (k : Nat) : Bool := (SMap.get (fun _ => none) o.fresh k).isNone

/-- Count `n` occurrences of event `ev` on every page in its scope. -/
def State.countIn (s : State) (scope : Nat → Bool) (ev n : Nat) : State :=
  let obs := s.obs.sel.foldl
    (fun o p => if p.2 = 0x80000000 + ev ∧ (scope (p.1 / 8) && s.obs.counts p.1) = true then bumpCounter n o p.1 else o) s.obs
  { s with obs := { obs with
    fresh := s.obs.fresh.map fun (x : Nat × Option FreshSel) => if scope (x.1 / 8) then (x.1, x.2.map (FreshSel.bump ev n)) else x } }

/-- Count an occurrence on the pages of the owning kind that hold no single instance (R508): every
page whose index lies from `first` on, `num` of them. -/
def State.countPages (s : State) (first num ev n : Nat) : State :=
  s.countIn (fun p => decide (first ≤ p) && decide (p < first + num)) ev n

/-- Count on one page. -/
def State.countAt (s : State) (page ev n : Nat) : State := s.countIn (fun p => p == page) ev n

/-- Count on the lane page of a port. -/
def State.countPort (s : State) (port ev n : Nat) : State := s.countAt (0x100 + port) ev n

/-- Count an event of a single-page block on all its pages, and on one lane page. -/
def State.countBoth (s : State) (first num port ev n : Nat) : State :=
  s.countIn (fun p => (decide (first ≤ p) && decide (p < first + num)) || p == 0x100 + port) ev n

/-- A forwarding event (pages 0x0600 to 0x0604). -/
def State.countFwd (s : State) (ev n : Nat) : State := s.countPages 0x600 5 ev n
/-- A Cistern event (pages 0x0700 and 0x0701). -/
def State.countCis (s : State) (ev n : Nat) : State := s.countPages 0x700 2 ev n
/-- A collective event (pages 0x0900 to 0x0903). -/
def State.countCol (s : State) (ev n : Nat) : State := s.countPages 0x900 4 ev n
/-- A management event (pages 0x0E00 to 0x0E0F). -/
def State.countMgmt (s : State) (ev n : Nat) : State := s.countPages 0xe00 16 ev n
/-- A log, NVM, Annealer or thermal event (pages 0x0F00 to 0x0F0F). -/
def State.countLog (s : State) (ev n : Nat) : State := s.countPages 0xf00 16 ev n
/-- An event of BASIN[b]. -/
def State.countBasin (s : State) (b ev n : Nat) : State := s.countAt (0xa00 + b) ev n
/-- A memory event of a channel: its stack's page and the memory configuration page. -/
def State.countMem (s : State) (gch ev n : Nat) : State :=
  s.countIn (fun p => p == 0xb00 || p == 0xb10 + gch % 16) ev n
/-- A Glass event of a plane: its page and the Glass controller page. -/
def State.countPlane (s : State) (p ev n : Nat) : State :=
  s.countIn (fun q => q == 0xc00 || q == 0xc10 + p) ev n
/-- A Glass event of no single plane. -/
def State.countGlass (s : State) (ev n : Nat) : State :=
  s.countIn (fun q => q == 0xc00 || (decide (0xc10 ≤ q) && decide (q ≤ 0xc18))) ev n

/-! ### The log writer's input queue (R519) -/

/-- An entry is discarded. -/
def State.logLost (s : State) : State := ({ s with obs := { s.obs with lostBefore := true } }).countLog Ev.LOG_LOST 1

/-- The entry of the highest page above `page` that entered the log writer's queue in this core clock. -/
def State.logAbove (s : State) (page : Nat) : Option LogReq :=
  s.obs.logQ.foldl (fun (m : Option LogReq) x =>
    if x.at_ = s.time.core ∧ page < x.page ∧ (m.all fun y => decide (y.page ≤ x.page)) then some x else m) none

/-- Report a logged occurrence.  A full queue discards the entry that comes last: those of a core clock come in ascending
page. -/
def State.logReport (s : State) (code page inst d1 d2 : Nat) : State :=
  let r : LogReq := ⟨code, page, inst, d1, d2, s.time.core⟩
  if s.obs.logQ.length < 64 then { s with obs := { s.obs with logQ := s.obs.logQ ++ [r] } }
  else match s.logAbove page with
    | some x => ({ s with obs := { s.obs with logQ := s.obs.logQ.erase x ++ [r] } }).logLost
    | none => s.logLost

/-- Report a change of a logged state register: its page and offset, old and new word (R522). -/
def State.logState (s : State) (addr old new : Nat) : State :=
  s.logReport Ev.STATE (addr / 4096) (addr % 4096) old new

/-! ### Clocks and stamps -/

/-- The core clock count (R373). -/
def State.now (s : State) : Nat := s.time.core

/-- Core clocks in a duration of `us` microseconds: one clock is 0.625 ns. -/
def usClocks (us : Nat) : Nat := us * 1600

/-- Core clocks in a duration of `ms` milliseconds. -/
def msClocks (ms : Nat) : Nat := ms * 1600000

/-- Core clocks in a duration of `sec` seconds. -/
def secClocks (sec : Nat) : Nat := sec * 1600000000

/-- Core clocks in a duration of `ns` nanoseconds, rounded up. -/
def nsClocks (ns : Nat) : Nat := ceilDiv (ns * 8) 5

/-- Whether `d` core clocks have passed since the stamp `t`. -/
def State.passed (s : State) (t d : Nat) : Bool := decide (t + d ≤ s.now)

/-- Device time in nanoseconds. -/
def State.devNs (s : State) : Nat := s.time.sec * 1000000000 + s.time.ns

/-- Device time in units of 2^-16 ns. -/
def State.dev16 (s : State) : Nat := s.devNs * 65536 + s.time.frac

/-- Device time in units of 2^-56 ns: FRAC and the 40 further bits (R372). -/
def TimeSt.units (t : TimeSt) : Nat :=
  ((t.sec * 1000000000 + t.ns) * 2 ^ 16 + t.frac) * 2 ^ 40 + t.sub

/-- Device time set from units of 2^-56 ns; SEC is 64 bits. -/
def TimeSt.ofUnits (t : TimeSt) (u : Nat) : TimeSt :=
  { t with
    sub := u % 2 ^ 40
    frac := u / 2 ^ 40 % 2 ^ 16
    ns := u / 2 ^ 56 % 1000000000
    sec := u / 2 ^ 56 / 1000000000 % 2 ^ 64 }

/-! ### Free values -/

/-- Draw a fresh free value of `w` bits: nothing in the model fixes it. -/
def State.freshFree (s : State) : State := { s with freeCtr := s.freeCtr + 1 }

/-! ### The end of a command -/

/-- A command's effect stands, but for the queue and the core clock, which only a step moves. -/
def done (s t : State) : Out :=
  .next { t with pending := s.pending, time := { t.time with core := s.time.core } }

/-- A command that the state leaves nothing to do for: the part stays as it is. -/
def idle (s : State) : Out := .next s

end Sys2Proof.Machine
end

