-- ==== Sys2Proof/Machine/Flags.lean ====
section
/-! DEFINITION. The status flags: pending causes of a page, interrupt vectors and their signals
(R401, R417), the books (R54), status bits that interrupt, and the traces of a rejected write (R403). -/

namespace Sys2Proof.Machine

/-! ### CRC-32C (R95) -/

/-- One bit of the reflected Castagnoli division. -/
def crcBit (c : Nat) : Nat := if c % 2 = 1 then (c / 2) ^^^ 0x82f63b78 else c / 2

/-- One byte of the division. -/
def crcByte (c b : Nat) : Nat :=
  crcBit (crcBit (crcBit (crcBit (crcBit (crcBit (crcBit (crcBit (c ^^^ b))))))))

/-- `crc32c(seed, bytes)` of R95. -/
def crc32c (seed : Nat) (bs : List Byte) : Nat :=
  (bs.foldl (fun c b => crcByte c b.toNat) seed) ^^^ 0xffffffff

/-- CRC-32C with the seed 0xFFFF_FFFF, most records' check. -/
def crcStd (bs : List Byte) : Nat := crc32c 0xffffffff bs

/-! ### Rejection codes (R404) -/

namespace Rej
def RANGE : Nat := 0x0001
def RESERVED : Nat := 0x0002
def TXN_ONLY : Nat := 0x0003
def BUSY : Nat := 0x0004
def LOCKED : Nat := 0x0005
def EPOCH : Nat := 0x0006
def FULL : Nat := 0x0007
def CHAIN : Nat := 0x0008
def EXISTS : Nat := 0x0009
def ABSENT : Nat := 0x000a
def DIGEST : Nat := 0x000b
def IO : Nat := 0x000c
def RESTRICTED : Nat := 0x000d
def UNMAPPED : Nat := 0x000e
def WIDTH : Nat := 0x000f
def DENIED : Nat := 0x0010
end Rej

/-- The traces of a rejected write (R403): the page's record, which keeps the first since its
clear (R401), the global record (R426), the log entry and the count.  Nothing else changes. -/
def State.reject (s : State) (agent addr val code : Nat) : State :=
  let page := addr / 4096
  let s1 :=
    if addr < pageLimit ∧ (pageDef page).isSome then
      if s.on (F.COMMON_REJECT_VALID page) then s.raise (F.COMMON_REJECT_OVER page)
      else (s.raise (F.COMMON_REJECT_VALID page)).puts [(F.COMMON_REJECT_AGENT page, agent),
        (F.COMMON_REJECT_CODE page, code), (F.COMMON_REJ_OFS_OFFSET page, addr % 4096),
        (F.COMMON_REJ_DATA_DATA page, val)]
    else s
  let s2 :=
    if s1.on F.MGMT_REJECT_VALID then s1.raise F.MGMT_REJECT_OVER
    else (s1.raise F.MGMT_REJECT_VALID).puts [(F.MGMT_REJECT_AGENT, agent),
      (F.MGMT_REJECT_CODE, code), (F.MGMT_REJ_ADDR_OFFSET, addr), (F.MGMT_REJ_DATA_DATA, val)]
  (s2.logReport Ev.MGMT_REJECT 0xe00 addr val (agent * 2 ^ 24 + code)).countMgmt Ev.MGMT_REJECT 1

/-! ### Pending causes -/

/-- Whether a cause of the page's own status registers is set and enabled (IPEND.BLOCK, R401):
the status and enable registers above; BOARDSTAT's sticky bits (R555); LOSSY.LOW (R133); a starved
Glass arbiter (R334). -/
def State.blockPending (s : State) (page : Nat) : Bool :=
  match page with
  | 0x000 => (s.word 0x140).toNat &&& (s.word 0x144).toNat != 0
      || (s.word 0x170).toNat &&& 0x66 != 0
  | 0x700 => s.on F.CISCFG_LOSSY_LOW
  | 0x900 => (s.word 0x900114).toNat &&& (s.word 0x900118).toNat != 0
  | 0x903 => (s.word 0x903100).toNat &&& (s.word 0x903104).toNat != 0
  | 0xb00 => s.get F.MEMCFG_ISTAT_ISTAT &&& s.get F.MEMCFG_IEN_IEN != 0
  | 0xc00 => s.get F.GLASS_GLCFG_ISTAT_ISTAT &&& s.get F.GLASS_GLCFG_IEN_IEN != 0
      || s.on (F.ARB_STARVE_STARVE 776)
  | 0xe01 => s.get F.TXN_TXISTAT_DONE &&& s.get F.TXN_TXIEN_IEN != 0
  | 0xe05 => s.get F.MB_MBISTAT_DONE &&& s.get F.MB_MBIEN_IEN != 0
  | 0xe06 => s.get F.HLTH_ISTAT_ISTAT &&& s.get F.HLTH_IEN_IEN != 0
  | 0xf02 => (s.word 0xf0212c).toNat &&& (s.word 0xf02130).toNat != 0
  | 0xf03 => s.get F.SNAP_ISTAT_ISTAT &&& s.get F.SNAP_IEN_IEN != 0
  | 0xf04 => s.get F.THERM_ISTAT_ISTAT &&& s.get F.THERM_IEN_IEN != 0
  | 0xf05 => s.get F.ANN_ISTAT_ISTAT &&& s.get F.ANN_IEN_IEN != 0
  | _ => false

/-- IPEND of a page (R401); on page 0x0E00 the REJECT bit follows MGMT.REJECT.VALID (R426). -/
def State.ipend (s : State) (page : Nat) : Nat :=
  (if s.blockPending page then 1 else 0)
  + (if s.on (if page = 0xe00 then F.MGMT_REJECT_VALID else F.COMMON_REJECT_VALID page) then 2 else 0)
  + (if SMap.get (fun _ => 0) s.obs.wrap page ≠ 0 then 4 else 0)

/-- Whether the page holds a pending and enabled cause. -/
def State.pagePending (s : State) (page : Nat) : Bool :=
  s.ipend page &&& s.get (F.COMMON_IEN_IEN page) != 0

/-- The register pages that hold a word that is not at its reset value, or a wrapped counter: only
these can hold a pending cause, since every status register resets to 0. -/
def State.causePages (s : State) : List Nat :=
  ((s.bar.map fun (p : Nat × Word) => p.1 / 4096) ++ s.obs.wrap.map fun (p : Nat × Nat) => p.1).eraseDups.filter
    fun p => decide (p < 4096)

/-- The pages with a pending cause of vector `v`. -/
def State.vectorPages (s : State) (v : Nat) : List Nat :=
  s.causePages.filter fun p => s.pagePending p && s.get (F.COMMON_IVEC_VECTOR p) == v

/-- The pending vectors as 64 bits (R417: any page whose IVEC is the vector has IPEND AND IEN). -/
def State.vectors (s : State) : Nat :=
  s.causePages.foldl
    (fun m p => if s.pagePending p then m ||| 2 ^ s.get (F.COMMON_IVEC_VECTOR p) else m) 0

/-! ### Signals (R417, R424) -/

/-- The bytes of a Rill frame: header, ARG, DATA and check (R420). -/
def rillFrame (addr op tag len : Nat) (arg data : List Byte) : List Byte :=
  let body := beBytes 1 addr ++ beBytes 1 op ++ beBytes 1 tag ++ beBytes 1 len ++ arg ++ data
  body ++ beBytes 4 (crcStd body)

/-- Signal vector `v`: an MSI-X message, or its pending bit while masked (R417).  DESIGN CHOICE: the same while bus
mastering, which messages use (R396), is disabled. -/
def State.signalMsix (s : State) (v : Nat) : State :=
  if s.on (F.MSIX_VCTRL_MASK v) ∨ !s.mgmt.pcie.busMaster then s.orBits (F.MSIX_PBA_PENDING (v / 32)) (2 ^ (v % 32))
  else s.emit (.msix v (s.get (wordRef (0xe08400 + v * 16 + 4)) * 2 ^ 32 + s.get (wordRef (0xe08400 + v * 16)))
    (s.get (wordRef (0xe08400 + v * 16 + 8))))

/-- A vector's mask is written: unmasked, a pending bit sends its message (R417). -/
def State.unmask (t : State) (v : Nat) : State :=
  if t.on (F.MSIX_VCTRL_MASK v) || nbit (t.get (F.MSIX_PBA_PENDING (v / 32))) (v % 32) == 0 then t
  else (t.clearBits (F.MSIX_PBA_PENDING (v / 32)) (2 ^ (v % 32))).signalMsix v

/-- Send the INTR frame of a signal (R424): own address, LEN 2, VPEND0 then VPEND1; EXTEST
stops the chain (R553). -/
def State.signalRill (s : State) (vp : Nat) : State :=
  if s.on F.RILL_CFG_INTR_EN ∧ s.get F.RILL_STAT_ADDR ≠ 0 ∧ !s.mgmt.tap.extest then
    (s.emit (.rill (rillFrame (128 + s.get F.RILL_STAT_ADDR) 0x05 0 2 [0#8, 0#8, 0#8, 0#8]
      (leBytes 4 (vp % 2 ^ 32) ++ leBytes 4 (vp / 2 ^ 32))))).countMgmt Ev.RILL_INTR_TX 1
  else s

/-- Signal one vector on both paths. -/
def State.signal (s : State) (vp v : Nat) : State := (s.signalMsix v).signalRill vp

/-- After a command: every vector whose pending condition rose is signalled once (R417). -/
def State.settle (s : State) : State :=
  let vp := s.vectors
  let s1 := (List.range 64).foldl
    (fun t v => if nbit vp v = 1 ∧ nbit s.obs.vpend v = 0 then t.signal vp v else t) s
  { s1 with obs := { s1.obs with vpend := vp } }

/-- Whether the part stands still: a thermal trip holds (R468), or a brown-out holds it in WARM reset
(R544). -/
def State.stopped (s : State) : Bool := s.pwr.trip || s.board.held

/-- What needs the part's own pins: its two-wire, flash and regulator buses stop while EXTEST is selected (R553). -/
def State.onPins (s : State) (f : State → State) : State := if s.mgmt.tap.extest then s else f s

/-- The end of a command whose effect is `t`: vectors are signalled and the effect stands.  A part
that stands still does nothing. -/
def finish (s t : State) : Out := if s.stopped then done s s else done s t.settle

/-- The end of a command of the SPC island, which goes on after a thermal trip (R468). -/
def finishSpc (s t : State) : Out := if s.board.held then done s s else done s t.settle

/-- The end of a command that acts even on a part that stands still. -/
def finishAlways (s t : State) : Out := done s t.settle

/-! ### Status bits that are logged or interrupt -/

/-- Set a bit of GLOBAL.BOOKS: sticky, counted as event 0x0101 + bit, and logged with its instance
and DETAIL1 (R54). `port` is the lane page that also counts credit events. -/
def State.bookWith (s : State) (bit inst : Nat) (port : Option Nat) (d1 : Nat) : State :=
  let s1 := s.orBits (wordRef 0x140) (2 ^ bit)
  let s2 := match port with
    | some p => s1.countIn (fun q => q == 0 || q == 0x100 + p) (0x101 + bit) 1
    | none => s1.countAt 0 (0x101 + bit) 1
  s2.logReport (0x101 + bit) 0 inst d1 0

/-- Set a bit of GLOBAL.BOOKS with nothing to say beyond its instance. -/
def State.book (s : State) (bit inst : Nat) (port : Option Nat) : State := s.bookWith bit inst port 0

/-- Set bits of a block's status register. -/
def State.istat (s : State) (f : FRef) (bit : Nat) : State := s.orBits f (2 ^ bit)

end Sys2Proof.Machine
end

