-- ==== Sys2Proof/Machine/Nvm.lean ====
section
/-! DEFINITION. The NVM as bytes, its writer's queues, and the Cullet list (R481 to R483, R488, R489). -/

namespace Sys2Proof.Machine

/-- What a byte of NVM holds before anything is written: the factory identity, and elsewhere 0. -/
def nvmDefault (off : Nat) : Byte := if off < 0x40000 then Config.factoryByte off else 0#8

/-- The NVM byte at an offset. -/
def State.nvmByte (s : State) (off : Nat) : Byte := SMap.get nvmDefault s.nvm.bytes off

/-- `n` NVM bytes from an offset. -/
def State.nvmBytes (s : State) (off n : Nat) : List Byte :=
  (List.range n).map fun i => s.nvmByte (off + i)

/-- Bytes reach NVM at an offset. -/
def State.nvmPut (s : State) (off : Nat) (bs : List Byte) : State :=
  let m := (bs.zipIdx).foldl
    (fun m p => SMap.set nvmDefault m (off + p.2) p.1) s.nvm.bytes
  { s with nvm := { s.nvm with bytes := m } }

/-- Queue a record append, which goes between the pieces of any larger write (R482). -/
def State.nvmAppend (s : State) (w : NvmWrite) : State :=
  { s with nvm := { s.nvm with appends := s.nvm.appends ++ [w] } }

/-- Queue a larger write. -/
def State.nvmStream (s : State) (w : NvmWrite) : State :=
  { s with nvm := { s.nvm with streams := s.nvm.streams ++ [w] } }

/-- Records of `size` bytes that a region holds, up to the last that is not all 0. -/
def State.recordsHeld (s : State) (base size most : Nat) : Nat :=
  s.nvm.bytes.foldl (fun n (x : Nat × Byte) =>
    if base ≤ x.1 ∧ x.1 < base + size * most then max n ((x.1 - base) / size + 1) else n) 0

/-! ### The Cullet list (R488, R489) -/

/-- Offset of the Cullet list in NVM. -/
def culletBase : Nat := 0x160000

/-- The most entries the Cullet list holds. -/
def culletMax : Nat := 32768

/-- A Cullet entry's bytes: KIND, REASON, ID, TIME and CHECK. -/
def culletBytes (kind reason id sec : Nat) : List Byte :=
  let b := leBytes 1 kind ++ leBytes 1 reason ++ leBytes 2 0 ++ leBytes 4 id ++ leBytes 4 (sec % 2 ^ 32)
  b ++ leBytes 4 (crcStd b)

/-- KIND and ID of entry `i`, where its CHECK holds. -/
def State.culletEntry (s : State) (i : Nat) : Option (Nat × Nat) :=
  let b := s.nvmBytes (culletBase + 16 * i) 16
  if leNat (slice b 12 4) = crcStd (b.take 12) then some (leNat (slice b 0 1), leNat (slice b 4 4)) else none

/-- Cullet entries that NVM holds, which no reset changes (R488, R498). -/
def State.culletHeld (s : State) : Nat := s.recordsHeld culletBase 16 culletMax

/-- The resources listed: those in NVM, those on their way, and those only held volatile. -/
def State.culletList (s : State) : List (Nat × Nat) :=
  (List.range s.culletHeld).filterMap s.culletEntry
  ++ (s.nvm.appends.filter fun w => w.kind = .cullet).map
      (fun w => (leNat (slice w.bytes 0 1), leNat (slice w.bytes 4 4)))
  ++ s.nvm.volatileCullet

/-- Whether a resource is listed. -/
def State.culletHas (s : State) (kind id : Nat) : Bool := s.culletList.contains (kind, id)

/-- Cullet entries in NVM and on their way there. -/
def State.culletCount (s : State) : Nat :=
  s.culletHeld + (s.nvm.appends.filter fun w => w.kind = .cullet).length

/-- Append a retirement (R489): never twice for one resource; a full list holds it in volatile
state only, sets CULLET_FULL and logs it (R488). -/
def State.culletAppend (s : State) (kind reason id : Nat) : State :=
  if s.culletHas kind id then s
  else
    let b := culletBytes kind reason id s.time.sec
    let s1 := s.logReport Ev.RETIRE 0xf01 (leNat (slice b 0 4)) (leNat (slice b 4 4)) (leNat (slice b 8 4))
    if s.culletCount < culletMax then
      s1.nvmAppend ⟨.cullet, culletBase + 16 * s.culletCount, b, 0, none⟩
    else
      ({ s1 with nvm := { s1.nvm with volatileCullet := s1.nvm.volatileCullet ++ [(kind, id)] } }).put
        F.NVM_STAT_CULLET_FULL 1

/-! ### The remap area (R491) -/

/-- Offset of a half of the remap area in NVM. -/
def remapBase (half : Nat) : Nat := 0x1e0000 + half * 0x100000

/-- The most records a half holds. -/
def remapMax : Nat := 65532

/-- A remap record's bytes: KIND, then bytes 4 to 11, and CHECK. -/
def remapBytes (kind place sec : Nat) : List Byte :=
  let b := leBytes 1 kind ++ leBytes 3 0 ++ leBytes 4 place ++ leBytes 4 (sec % 2 ^ 32)
  b ++ leBytes 4 (crcStd b)

/-- KIND and place of the record that 16 bytes hold, where its CHECK holds. -/
def remapRecord (b : List Byte) : Option (Nat × Nat) :=
  if leNat (slice b 12 4) = crcStd (b.take 12) then some (leNat (slice b 0 1), leNat (slice b 4 4)) else none

/-- Records that the active half holds. -/
def State.remapCount (s : State) : Nat := s.recordsHeld (remapBase s.nvm.remapHalf + 64) 16 remapMax

/-- The records of the active half, in order. -/
def State.remapHeld (s : State) : List (List Byte) :=
  (List.range s.remapCount).map (fun i => s.nvmBytes (remapBase s.nvm.remapHalf + 64 + 16 * i) 16)

/-- Whether a record stands in a compacted image: a valid remap entry, or a map-out. -/
def State.remapKept (s : State) (b : List Byte) : Bool :=
  match remapRecord b with
  | some (1, v) =>
    let bank := v % 512 * 64 + v / 512 % 64
    let k := v / 32768 % 32
    s.on (F.BANK_W32_VALID bank k) && s.get (F.BANK_W32_ROW bank k) == v / 2 ^ 20
  | some (2, _) => true
  | some (3, _) => true
  | _ => false

/-- The 64-byte header of a half. -/
def remapHeader (seq : Nat) : List Byte :=
  let b := leBytes 4 0x4b53524d ++ leBytes 2 1 ++ leBytes 2 0 ++ leBytes 8 seq ++ List.replicate 44 0#8
  b ++ leBytes 4 (crcStd b)

/-- The last record of every KIND and place, in order. -/
def lastRecords : List (List Byte) → List (List Byte)
  | [] => []
  | b :: t => if t.any fun x => remapRecord x == remapRecord b then lastRecords t else b :: lastRecords t

/-- A half of the remap area without a record, as before its first. -/
def State.clearHalf (s : State) (half : Nat) : State :=
  { s with nvm := { s.nvm with bytes := s.nvm.bytes.filter fun (x : Nat × Byte) =>
      !(decide (remapBase half ≤ x.1) && decide (x.1 < remapBase half + 0x100000)) } }

/-- Write a compacted image with the new record, and its header, into the other half, which becomes the active one;
where it would not fit, REMAP_FULL is set and the record acts in volatile state only (R491). -/
def State.remapCompact (s : State) (new : List Byte) : State :=
  let all := lastRecords ((s.remapHeld ++ [new]).filter s.remapKept)
  let first := all.filter fun b => (remapRecord b).any fun p => p.1 == 1
  let rest := all.filter fun b => !(remapRecord b).any fun p => p.1 == 1
  let img := first ++ rest
  if remapMax < img.length then
    (s.put F.NVM_STAT_REMAP_FULL 1).logState 0xf01100 (s.word 0xf01100).toNat ((s.word 0xf01100).toNat ||| 2 ^ 27)
  else
    let h := 1 - s.nvm.remapHalf
    let s1 := (((s.clearHalf h).nvmPut (remapBase h + 64) img.flatten).nvmPut (remapBase h) (remapHeader (s.nvm.remapSeq + 1))).put
      F.NVM_COUNTS_REMAP img.length
    { s1 with nvm := { s1.nvm with remapHalf := h, remapSeq := s1.nvm.remapSeq + 1 } }

/-- Append a record to the remap area (R290, R294, R491), unless that area is full for good. -/
def State.remapAppend (s : State) (kind place : Nat) : State :=
  if s.on F.NVM_STAT_REMAP_FULL then s else s.nvmAppend ⟨.remap, 0, remapBytes kind place s.time.sec, 0, none⟩

/-- Log a write of a region (R522). -/
def State.logNvm (s : State) (region what : Nat) : State := s.logReport Ev.NVM_WRITE 0xf01 region what 0

/-- A remap record reaches the active half, or a compacted image of it the other. -/
def State.remapWritten (s : State) (b : List Byte) : State :=
  let n := s.remapCount
  let t := if n < remapMax then
      (s.nvmPut (remapBase s.nvm.remapHalf + 64 + 16 * n) b).put F.NVM_COUNTS_REMAP (n + 1)
    else s.remapCompact b
  t.logNvm 0x1e0000 (t.nvm.remapSeq % 2 ^ 32)

/-- A record append reaches NVM (R482, R489, R491, R476). -/
def State.appendDone (s : State) (w : NvmWrite) : State :=
  match w.kind with
  | .remap => s.remapWritten w.bytes
  | .cullet =>
    let t := s.nvmPut w.off w.bytes
    t.put F.NVM_COUNTS_CULLET t.culletHeld
  | .history => (s.nvmPut w.off w.bytes).logNvm 0x3e0000 w.tag
  | _ => s.nvmPut w.off w.bytes

/-- Every append that waits reaches NVM, in order. -/
def State.flushAppends (s : State) : State :=
  s.nvm.appends.foldl State.appendDone { s with nvm := { s.nvm with appends := [] } }

end Sys2Proof.Machine
end

