-- ==== Sys2Proof/Machine/Glass.lean ====
section
/-! DEFINITION. The Glass mesh (chapter 10): schedules and banks, slot boundaries, bank switches and
realignment, ring search and lock, power and bias loops, and the spare plane. -/

namespace Sys2Proof.Machine

/-- A plane's place in its schedule. -/
def State.plane (s : State) (p : Nat) : PlaneSt := SMap.get (fun _ => {}) s.glass.planes p

/-- Hold a plane's place. -/
def State.setPlane (s : State) (p : Nat) (v : PlaneSt) : State :=
  { s with glass := { s.glass with planes := SMap.set (fun _ => {}) s.glass.planes p v } }

/-! ### Tables (R310, R313, R314, R340) -/

/-- Index of a schedule entry in its window: bank, plane, entry. -/
def gsIx (bank plane entry : Nat) : Nat := bank * 0x8000 + plane * 0x1000 + entry

/-- Byte `o` of a pattern of a bank (R310): EN in bit 7, SRC in bits 5 to 0. -/
def State.patByte (s : State) (bank pat o : Nat) : Nat :=
  s.byteAt (0x09080000 + bank * 0x40000 + pat * 64 + o)

/-- DUR of an entry in 2 ns units. -/
def State.gsDur (s : State) (bank plane e : Nat) : Nat := s.get (F.GSCHED_W1_DUR (gsIx bank plane e))

/-- Whether an entry is the last of its cycle. -/
def State.gsLast (s : State) (bank plane e : Nat) : Bool := s.on (F.GSCHED_W0_LAST (gsIx bank plane e))

/-- The entries of a plane's cycle from entry `e` on, up to the first LAST, at most `fuel`; none
where no LAST is met. -/
def State.gsCycle (s : State) (bank plane : Nat) : Nat → Nat → Option (List Nat)
  | 0, _ => none
  | fuel + 1, e =>
    if s.gsLast bank plane e then some [e]
    else (s.gsCycle bank plane fuel (e + 1)).map (e :: ·)

/-- The entries of a plane's whole cycle (R315). -/
def State.gsEntries (s : State) (bank plane : Nat) : Option (List Nat) := s.gsCycle bank plane 4096 0

/-- CYCLE of a plane in ns: the sum of DUR up to the first LAST. -/
def State.gsCycleNs (s : State) (bank plane : Nat) : Nat :=
  ((s.gsEntries bank plane).getD []).foldl (fun n e => n + 2 * s.gsDur bank plane e) 0

/-- The active bank. -/
def State.glActive (s : State) : Nat := s.get F.GLASS_GLSTAT_CTRL_ACTIVE

/-- Whether PLANE[k] is enabled in a bank. -/
def State.planeEn (s : State) (bank k : Nat) : Bool := nbit (s.get (F.GLASS_GLCFG_BANKEN_PLANE_EN bank)) k == 1

/-- Whether the controller runs a schedule (R317). -/
def State.glRunning (s : State) : Bool := s.get F.GLASS_GLSTAT_CTRL_STATE == 3

/-- CYCLE of the running bank in ns: that of its first enabled plane. -/
def State.glCycleNs (s : State) (bank : Nat) : Nat :=
  match (List.range 8).find? (s.planeEn bank) with
  | some k => s.gsCycleNs bank k
  | none => 0

/-- Seconds of 32 bits extended to the seconds of device time nearest; what lies 2^31 or more behind is read as
lying ahead (R319). -/
def extendSec (devSec sec32 : Nat) : Nat :=
  let hi := devSec / 2 ^ 32
  let d := (sec32 + 2 ^ 32 - devSec % 2 ^ 32) % 2 ^ 32
  if d ≤ 2 ^ 31 then (if sec32 < devSec % 2 ^ 32 then hi + 1 else hi) * 2 ^ 32 + sec32
  else (if devSec % 2 ^ 32 < sec32 then hi - 1 else hi) * 2 ^ 32 + sec32

/-- T_START in ns. -/
def State.glTStart (s : State) : Nat := s.glass.startNs

/-! ### Rings and paths (R308, R312, R323) -/

/-- Index of a ring: fibre, side (0 input, 1 output), ring 0 to 15 (R340). -/
def ringIx (fibre side ring : Nat) : Nat := fibre * 32 + side * 16 + ring

/-- State of a ring (R323). -/
def State.ringSt (s : State) (r : Nat) : Nat := s.get (F.RING_W0_STATE r)

/-- The lock loop of a ring. -/
def State.ringLock (s : State) (r : Nat) : RingLock := SMap.get (fun _ => {}) s.glass.locks r

/-- Hold a ring's lock loop. -/
def State.setRingLock (s : State) (r : Nat) (v : RingLock) : State :=
  { s with glass := { s.glass with locks := SMap.set (fun _ => {}) s.glass.locks r v } }

/-- The states in which the LOCK requester works a ring's heater or reads its monitor: LOCKED, HOLD and UNLOCKED (R325). -/
def ringWorked (v : Nat) : Bool := v == 2 || v == 4 || v == 5

/-- Give a ring a state; a ring that the LOCK requester works starts its period anew. -/
def State.setRing (s : State) (r v : Nat) : State :=
  (s.setRingLock r (if ringWorked v then { stepped := s.now + 1 } else {})).put (F.RING_W0_STATE r) v

/-- A ring's monitor read `v`: a drop monitor, or the fibre tap after the output bus (R308). -/
def State.setMon (s : State) (r v : Nat) : State :=
  let s1 := s.put (F.RING_W1_MON r) v
  if r / 16 % 2 = 1 then
    { s1 with glass := { s1.glass with fibreTap := SMap.set (fun _ => 0) s1.glass.fibreTap (r / 32) v } }
  else s1

/-- The plane the spare serves (R330). -/
def State.spareServes (s : State) : Option Nat :=
  if s.get F.GLASS_GLMIG_STATUS_SPARE = 2 then some (s.get F.GLASS_GLMIG_STATUS_PLANE) else none

/-- The ring, 0 to 15, that a plane carrying lane `k` uses on a fibre: the spare's when plane 8. -/
def laneRing (p k : Nat) : Nat := if p = 8 then 8 + k else k

/-- Power of an input is at or above a threshold, signed. -/
def State.inputAtLeast (s : State) (fibre lane : Nat) (t : Int) : Bool :=
  decide (t ≤ s.gets (F.GIN_W0_PIN (fibre * 8 + lane)))

/-- Whether output `o` of plane `p`, carrying lane `k`, fed from `src`, emits light (R312). -/
def State.pathLit (s : State) (p k o src : Nat) : Bool :=
  s.ringSt (ringIx src 0 (laneRing p k)) == 2
  && s.inputAtLeast src k (s.gets F.GLASS_GLCFG_POWER_P_IN_LOS)
  && (s.ringSt (ringIx o 1 (laneRing p k)) == 2 || s.ringSt (ringIx o 1 (laneRing p k)) == 4)

/-- The outputs that an entry of plane `k`'s schedule enables. -/
def State.entryOuts (s : State) (bank k e : Nat) : List (Nat × Nat) :=
  if s.on (F.GSCHED_W0_DARK (gsIx bank k e)) then []
  else
    let pat := s.get (F.GSCHED_W0_PATTERN (gsIx bank k e))
    (List.range 64).filterMap fun o =>
      let b := s.patByte bank pat o
      if 128 ≤ b then some (o, b % 64) else none

/-! ### The mesh (R309) -/

/-- The interferometers of a plane: 11 stages of 32. -/
def mziCount : Nat := 352

/-- The sources of a pattern with the outputs each is to reach (R310). -/
def patSources (bytes : List Nat) : List (Nat × List Nat) :=
  (List.range 64).filterMap fun src =>
    match (List.range 64).filter fun o => bytes.getD o 0 == 128 + src with
    | [] => none
    | os => some (src, os)

/-- Whether outputs are one aligned pair (R311). -/
def isPair (os : List Nat) : Bool := os.length == 2 && os.all fun o => o / 2 == os.getD 0 0 / 2

/-- The output to which the mesh takes a source before it is split: its own, or the first of its aligned pair or quad. -/
def meshTarget (os : List Nat) : Nat :=
  let o := os.getD 0 0
  if os.length = 1 then o else if isPair os then o / 2 * 2 else o / 4 * 4

/-- The outputs left take the inputs left, each chosen by the compiler. -/
def fillOutputs (pick : Nat → Nat) : List Nat → List Nat → List (Nat × Nat)
  | [], _ => []
  | o :: os, xs =>
    let x := xs.getD (pick o % xs.length) 0
    (o, x) :: fillOutputs pick os (xs.erase x)

/-- The permutation that a compiled pattern realises but for its splits: the input of each output. -/
def meshPerm (pick : Nat → Nat) (bytes : List Nat) : List Nat :=
  let used := (patSources bytes).map fun x => (meshTarget x.2, x.1)
  let rest := (List.range 64).filter fun o => !(used.map Prod.fst).contains o
  let free := (List.range 64).filter fun x => !(used.map Prod.snd).contains x
  let all := used ++ fillOutputs pick rest free
  (List.range 64).map fun o => (all.lookup o).getD 0

/-- The half of the mesh, upper 0 or lower 1, through which output `o` of a permutation is reached, and with it those of
the other paths of its loop: two outputs of one interferometer, and two inputs of one, use different halves. -/
def meshLoop (perm : List Nat) (half : Nat) : Nat → Nat → List (Nat × Nat) → List (Nat × Nat)
  | 0, _, a => a
  | n + 1, o, a =>
    if (a.lookup o).isSome then a
    else
      let x := perm.getD (o ^^^ 1) 0
      meshLoop perm half n (perm.findIdx (· == x ^^^ 1)) ((o, half) :: (o ^^^ 1, 1 - half) :: a)

/-- The half through which each output of a permutation is reached. -/
def meshHalves (perm : List Nat) (pick : Nat → Nat) : List (Nat × Nat) :=
  (List.range (perm.length / 2)).foldl (fun a j => meshLoop perm (pick j % 2) perm.length (2 * j) a) []

/-- BAR leads the first of two paths by the upper side, CROSS by the lower. -/
def mziFor (half : Nat) : Mzi := if half = 0 then .bar else .cross

/-- The stages of a Beneš mesh for a permutation of 2^(n+1) inputs (R309): a stage at each side of two meshes of half the
size.  `key` numbers the mesh among those the compiler makes choices for. -/
def meshStages (pick : Nat → Nat) : Nat → Nat → List Nat → List (List Mzi)
  | 0, _, perm => [[mziFor (perm.getD 0 0)]]
  | n + 1, key, perm =>
    let hs := meshHalves perm fun j => pick (64 * key + j)
    let half (o : Nat) : Nat := (hs.lookup o).getD 0
    let ix := List.range (perm.length / 2)
    let inner (h : Nat) : List Nat := ix.map fun j => perm.getD (if half (2 * j) = h then 2 * j else 2 * j + 1) 0 / 2
    (ix.map fun i => mziFor (half (perm.findIdx (· == 2 * i))))
      :: List.zipWith (· ++ ·) (meshStages pick n (2 * key) (inner 0)) (meshStages pick n (2 * key + 1) (inner 1))
      ++ [ix.map fun j => mziFor (half (2 * j))]

/-- The interferometers that split a source, which stand in the last two stages only (R311): of a pair, that of its outputs
in the last stage; of a quad, both of its outputs and the one before them in the half of the mesh that it comes through. -/
def splitsOf (m : List Mzi) (os : List Nat) : List Nat :=
  let o := meshTarget os
  if os.length ≤ 1 then []
  else if isPair os then [320 + o / 2]
  else [288 + (if m.getD (320 + o / 2) .bar = .bar then 0 else 16) + o / 4, 320 + o / 2, 321 + o / 2]

/-- A compiled pattern: the state of each interferometer, stage by stage.  The wiring is that of the standard Beneš mesh
(PRESUMED), and what leaves the compiler a choice is free. -/
def compile (bytes : List Nat) : List Mzi :=
  let m := (meshStages (Config.meshChoice bytes) 5 1 (meshPerm (Config.meshChoice bytes) bytes)).flatten
  let splits := (patSources bytes).flatMap fun x => splitsOf m x.2
  (List.range mziCount).map fun i => if splits.contains i then .split else m.getD i .bar

/-- The states of a plane's interferometers: all BAR until a pattern is first applied (DESIGN CHOICE, R309 gives no reset
state). -/
def PlaneSt.states (p : PlaneSt) : List Mzi := if p.mesh.isEmpty then List.replicate mziCount .bar else p.mesh

/-- The compiled pattern that a bank's drive memory holds for a pattern of its tables (R316). -/
def State.driveMem (s : State) (bank pat : Nat) : List Mzi := compile ((List.range 64).map (s.patByte bank pat))

/-- The identity pattern: output `n` fed by input `n` (R324). -/
def identityPattern : List Nat := (List.range 64).map (128 + ·)

/-- The inputs from which light can reach interferometer `i`: the stages double them, up to all 64 in the middle. -/
def mziInputs (i : Nat) : List Nat :=
  let d := min 5 (i / 32)
  (List.range (2 ^ (d + 1))).map (i % 32 % (32 / 2 ^ d) * 2 ^ (d + 1) + ·)

/-- The calibration that gave an interferometer its drive values: the factory's, 0, where its inputs were dark (R324). -/
def State.calOf (s : State) (p i : Nat) : Nat :=
  if (mziInputs i).any fun n => nbit (SMap.get (fun _ => 0) s.glass.calLit p) n == 1 then SMap.get (fun _ => 0) s.glass.cal p else 0

/-- The drive value that a plane's interferometer is given now (R309): its own for the state it is in. -/
def State.driveOf (s : State) (p i : Nat) : Option Nat :=
  ((s.plane p).states[i]?).map fun m =>
    Config.driveValue p i (match m with | .bar => 0 | .cross => 1 | .split => 2) (s.calOf p i)

/-! ### The slot bias (R327) -/

/-- The fan-out of an input in a pattern: enabled outputs that name it (R310). -/
def fanOut (outs : List (Nat × Nat)) (src : Nat) : Nat := (outs.filter fun p => p.2 == src).length

/-- The fan-out offset FO of R327. -/
def State.foOffset (s : State) (n : Nat) : Nat :=
  if n ≤ 1 then 0 else if n = 2 then s.get F.GLASS_GLCFG_FO_FO2 else s.get F.GLASS_GLCFG_FO_FO4

/-- The bias of SOA (p, o) in a slot of plane `k`'s schedule (R327). -/
def State.slotBias (s : State) (p k o src fan : Nat) : Nat :=
  min (s.get F.GLASS_GLCFG_IMAX_IMAX)
    (s.get (F.SOA_W0_IB (p * 64 + o)) + s.get (F.GIN_W0_IC (src * 8 + k)) + s.foOffset fan)

/-- Whether the Sluice freezes or has frozen a plane (R452). -/
def State.planeFrozen (s : State) (p : Nat) : Bool := s.on (F.COMMON_CTRL_FREEZE (0xc10 + p))

/-- PLANE[p] begins the slot of entry `e` of plane `k`'s schedule at boundary `b` (R318): the mesh
takes the pattern, the outputs R312 allows light at their slot bias, the others that are enabled are counted dark,
and an add ring held for want of light is locked from its first lit window (R325).  A frozen plane enables
none. -/
def State.beginSlot (s : State) (p k e b : Nat) : State :=
  let bank := s.glActive
  let outs := if s.planeFrozen p then [] else s.entryOuts bank k e
  let lit := outs.filter fun o => s.pathLit p k o.1 o.2
  let dark := outs.length - lit.length
  let on := lit.foldl (fun m o => m ||| 2 ^ o.1) 0
  let pl := s.plane p
  let mesh := if s.on (F.GSCHED_W0_DARK (gsIx bank k e)) then pl.mesh
    else s.driveMem bank (s.get (F.GSCHED_W0_PATTERN (gsIx bank k e)))
  let s1 := s.setPlane p { pl with
    entry := some e, next := b + 2 * s.gsDur bank k e, mesh := mesh, frozenIn := s.planeFrozen p, ends := none
    bias := lit.map fun o => (o.1, s.slotBias p k o.1 o.2 (fanOut outs o.2))
    lit := on, litPower := pl.litPower ||| on, litBias := pl.litBias ||| on }
  let s2 := lit.foldl (fun t o =>
    if t.ringSt (ringIx o.1 1 (laneRing p k)) = 4 then t.setRing (ringIx o.1 1 (laneRing p k)) 2 else t) s1
  (s2.countPlane p Ev.GLASS_BOUNDARY 1).countPlane p Ev.GLASS_PATH_DARK dark

/-- PLANE[p] ends its slot with every SOA off. -/
def State.planeDark (s : State) (p : Nat) : State :=
  s.setPlane p { s.plane p with entry := none, lit := 0, bias := [], ends := none, frozenIn := s.planeFrozen p }

/-- Begin plane `k`'s slot on the plane that carries it: itself, or the spare while it serves `k`
(R330: the served plane's SOAs are off). -/
def State.beginLane (s : State) (k e b : Nat) : State :=
  if s.spareServes = some k then
    (s.beginSlot 8 k e b).setPlane k { s.plane k with
      entry := some e, next := b + 2 * s.gsDur s.glActive k e, lit := 0, bias := [], ends := none, frozenIn := s.planeFrozen k }
  else s.beginSlot k k e b

/-- A plane's headroom is not below HR_MIG, or is none of an SOA's: the second of R329 starts anew. -/
def State.highPlane (s : State) (p : Nat) : State :=
  s.setPlane p { s.plane p with lowSince := none, lowLogged := false }

/-! ### Migration at a boundary (R331, R332) -/

/-- Give the ring of lane `k` on every fibre and both sides a state. -/
def State.laneRings (s : State) (ring : Nat) (from_ to_ : Nat) : State :=
  (List.range 64).foldl (fun t f =>
    let a := ringIx f 0 ring
    let b := ringIx f 1 ring
    let t1 := if t.ringSt a = from_ then t.setRing a to_ else t
    if t1.ringSt b = from_ then t1.setRing b to_ else t1) s

/-- Whether an input's light is at or above P_IN_LOS. -/
def State.inputLit (s : State) (fibre lane : Nat) : Bool :=
  s.inputAtLeast fibre lane (s.gets F.GLASS_GLCFG_POWER_P_IN_LOS)

/-- The drop rings of lane `k` that stand in HOLD resume LOCKED where their input has light (R325, R332). -/
def State.dropResume (s : State) (k : Nat) : State :=
  (List.range 64).foldl (fun t f =>
    if t.ringSt (ringIx f 0 k) = 4 ∧ t.inputLit f k then t.setRing (ringIx f 0 k) 2 else t) s

/-- The spare drop rings of lane `k` whose input is dark hold their heaters (R325). -/
def State.dropHold (s : State) (k : Nat) : State :=
  (List.range 64).foldl (fun t f =>
    if t.ringSt (ringIx f 0 (8 + k)) = 2 ∧ !t.inputLit f k then t.setRing (ringIx f 0 (8 + k)) 4 else t) s

/-- Events 4 to 6 of R331: the spare takes over plane `k`.  The working rings of the lane, which no light reaches any
more, hold their heaters, locked or not. -/
def State.takeOver (s : State) (k : Nat) : State :=
  let s1 := (([2, 5].foldl (fun t from_ => t.laneRings k from_ 4) s).laneRings (8 + k) 3 2).dropHold k
  let s2 := s1.puts [(F.GLASS_GLMIG_STATUS_SPARE, 2), (F.GLASS_GLMIG_STATUS_PLANE, k),
    (F.PLANE_PSTATE_STATE k, 3), (F.PLANE_PSTATE_STATE 8, 5)]
  let s3 := { s2 with glass := { s2.glass with takeover := none, servingAt := some s.now } }
  (s3.setPlane k { s3.plane k with lit := 0, litBias := 0, bias := [] }).countPlane k Ev.GLASS_MIG 1

/-- R332: the spare hands plane `k` back; its rings for the lane are PARKED, locked or not. -/
def State.handBack (s : State) (k : Nat) : State :=
  let s1 := ([2, 4, 5].foldl (fun t from_ => t.laneRings (8 + k) from_ 3) s).dropResume k
  let s2 := s1.puts [(F.GLASS_GLMIG_STATUS_SPARE, 0),
    (F.PLANE_PSTATE_STATE k, if s.planeEn s.glActive k then 1 else 0), (F.PLANE_PSTATE_STATE 8, 4)]
  let s3 := { s2 with glass := { s2.glass with
    returnNs := none, returnAsk := none, returnedAt := some s.now, servingAt := none, spareTerms := none } }
  ((s3.planeDark 8).highPlane 8).countPlane k Ev.GLASS_RETURN 1

/-- A chosen boundary has come with boundary `b`. -/
def boundaryCame (chosen : Option Nat) (b : Nat) : Bool := chosen.any fun x => decide (x ≤ b)

/-- The migration or return due at boundary `b` of plane `k`, the first at or after the one chosen, which a bank
switch may have moved: a return acts first, and a migration that falls with it waits for the plane's next
boundary (R332). -/
def State.migrateAt (s : State) (k b : Nat) : State :=
  if s.spareServes = some k ∧ boundaryCame s.glass.returnNs b then s.handBack k
  else if s.get F.GLASS_GLMIG_STATUS_SPARE = 1 ∧ s.get F.GLASS_GLMIG_STATUS_PLANE = k ∧
    boundaryCame s.glass.takeover b then s.takeOver k
  else s

/-- The boundaries of plane `k` after the slot of entry `e` that ends at `b`, the first at or after
`t`; at most `fuel` slots on. -/
def State.boundaryFrom (s : State) (k t : Nat) : Nat → Nat → Nat → Nat
  | 0, _, b => b
  | fuel + 1, e, b =>
    if t ≤ b then b
    else
      let e' := if s.gsLast s.glActive k e then 0 else e + 1
      s.boundaryFrom k t fuel e' (b + 2 * s.gsDur s.glActive k e')

/-- The first boundary of plane `k` at least 10 µs ahead (R331, R332). -/
def State.chooseBoundary (s : State) (k : Nat) : Option Nat :=
  match (s.plane k).entry with
  | some e => some (s.boundaryFrom k (s.devNs + 10000) 8192 e (s.plane k).next)
  | none => none

/-! ### Boundaries (R318, R321) -/

/-- GLASS_BOUNDARY: PLANE[k] reaches the boundary that ends its slot.  During a realignment the slot
in progress ends on its own count, with every SOA off (R321). -/
def State.glassBoundary (s : State) (k : Nat) : State :=
  match (s.plane k).entry with
  | none => s
  | some e =>
    if ¬ s.glRunning ∨ ¬ s.planeEn s.glActive k then s
    else if s.glass.realign.isSome then
      if decide (s.now < (s.plane k).ends.getD 0) then s else
      let s1 := s.planeDark k
      if s.spareServes = some k then s1.planeDark 8 else s1
    else if s.devNs < (s.plane k).next then s
    else
      let b := (s.plane k).next
      let e' := if s.gsLast s.glActive k e then 0 else e + 1
      (s.migrateAt k b).beginLane k e' b

/-- Start entry 0 of every plane enabled in the active bank at boundary `b`; the others go dark. -/
def State.startPlanes (s : State) (b : Nat) : State :=
  (List.range 8).foldl (fun t k =>
    if t.planeEn t.glActive k then (t.migrateAt k b).beginLane k 0 b
    else
      let t1 := t.planeDark k
      if t1.spareServes = some k then t1.planeDark 8 else t1) s

/-- Whether plane `p`, carrying lane `k`, lights output `o` in some slot of the running schedule. -/
def State.outLit (s : State) (p k o : Nat) : Bool :=
  s.glRunning && s.planeEn s.glActive k && !s.planeFrozen p && (if p = 8 then s.spareServes == some k else s.spareServes != some k)
  && ((s.gsEntries s.glActive k).getD []).any fun e =>
    (s.entryOuts s.glActive k e).any fun q => q.1 == o && s.pathLit p k o q.2

/-- Whether an add ring's output is lit in some slot of the running schedule. -/
def State.addLit (s : State) (r : Nat) : Bool := s.outLit (if r % 16 < 8 then r % 8 else 8) (r % 8) (r / 32)

/-- Add rings of outputs that no slot of the running schedule lights go to HOLD (R325, R317). -/
def State.holdUnlit (s : State) : State :=
  (List.range 8).foldl (fun t k =>
    (List.range 64).foldl (fun t o =>
      if t.ringSt (ringIx o 1 k) = 2 ∧ ¬ t.outLit k k o then t.setRing (ringIx o 1 k) 4 else t) t) s

/-- PSTATE of each working plane after the active bank changed: ACTIVE where enabled, OFF where not;
a migrated or degraded plane keeps its state. -/
def State.planeStates (s : State) : State :=
  (List.range 8).foldl (fun t k =>
    if t.get (F.PLANE_PSTATE_STATE k) < 2 then
      t.put (F.PLANE_PSTATE_STATE k) (if t.planeEn t.glActive k then 1 else 0) else t) s

/-! ### Bank switch (R319, R320) -/

/-- The time at which an armed switch acts: T_SW, or the first T_SW + m × CYCLE at which commit and
drive load are both 20 µs old; in READY the first even nanosecond at which they are, and not before a step that passed
T_SW (R321). -/
def State.switchTime (s : State) (a : SwitchSt) : Nat :=
  let ok := (max (max a.armedNs s.glass.readyNs + 20000) ((a.stepped.getD 0 : Nat) : Int)).toNat
  if ok ≤ a.tsw then a.tsw
  else if s.glRunning then
    let c := s.glCycleNs s.glActive
    if c = 0 then ceilDiv ok 2 * 2 else a.tsw + ceilDiv (ok - a.tsw) c * c
  else ceilDiv ok 2 * 2

/-- The switch acts at time `t` (R320); one whose T_SW a step passed is late (R321). -/
def State.switchActs (s : State) (a : SwitchSt) (t : Nat) : State :=
  let late := decide (t ≠ a.tsw) || a.stepped.isSome
  let any := (List.range 8).any (s.planeEn a.bank)
  let idleLoaded := if a.bank = 1 then s.glass.loaded0 else s.glass.loaded1
  let s1 := s.puts [
    (F.GLASS_GLSTAT_CTRL_ACTIVE, a.bank), (F.GLASS_GLSTAT_CTRL_ARMED, 0),
    (F.GLASS_GLSTAT_CTRL_LATE, if late then 1 else 0),
    (F.GLASS_GLSTAT_CTRL_IDLE_READY, if idleLoaded then 1 else 0),
    (F.GLASS_GLSTAT_CTRL_STATE, if any then 3 else 2),
    (F.GLASS_GLSTAT_TSTART_S_SEC, t / 1000000000), (F.GLASS_GLSTAT_TSTART_NS_NS, t % 1000000000),
    (F.GLASS_GLSTAT_TSW_S_SEC, t / 1000000000), (F.GLASS_GLSTAT_TSW_NS_NS, t % 1000000000)]
  let s2 := { s1 with glass := { s1.glass with armed := none, realign := none, startNs := t } }
  let s3 := s2.put F.GLASS_GLSTAT_CYCLE_CYCLE (if any then s2.glCycleNs a.bank / 2 else 0)
  let s4 := (s3.planeStates.startPlanes t).holdUnlit
  let s5 := (s4.istat F.GLASS_GLCFG_ISTAT_ISTAT 0).countGlass Ev.GLASS_SW 1
  if late then
    ((s5.istat F.GLASS_GLCFG_ISTAT_ISTAT 1).countGlass Ev.GLASS_SW_LATE 1).logReport
      Ev.GLASS_SW_LATE 0xc00 0 (t / 1000000000) (t % 1000000000)
  else s5

/-- GLASS_SWITCH: the armed switch acts when device time has reached its time. -/
def State.glassSwitch (s : State) : State :=
  match s.glass.armed with
  | none => s
  | some a =>
    if ¬ s.on F.GLASS_GLSTAT_CTRL_IDLE_READY ∨ s.glass.realign.isSome ∨ s.devNs < s.switchTime a then s
    else s.switchActs a (s.switchTime a)

/-- The commit of a switch request arms it (R319): the time extended to 64-bit seconds. -/
def State.armSwitch (s : State) (bank : Nat) : State :=
  let t := extendSec s.time.sec (s.get F.GLASS_GLSW_TSEC_TSEC) * 1000000000 + s.get F.GLASS_GLSW_TNS_TNS
  let s1 := s.put F.GLASS_GLSTAT_CTRL_ARMED 1
  { s1 with glass := { s1.glass with armed := some { bank := bank, tsw := t, armedNs := (s.devNs : Int) } } }

/-- The checks of R319 on a switch request. -/
def State.switchCheck (s : State) (bank tsec tns : Nat) : Nat :=
  let t := extendSec s.time.sec tsec * 1000000000 + tns
  let c := s.glCycleNs s.glActive
  if bank = s.glActive ∨ tns % 2 = 1 ∨ 999999998 < tns then Rej.RANGE
  else if s.glRunning ∧ c ≠ 0 ∧ ¬ ((t : Int) - (s.glTStart : Int)) % (c : Int) = 0 then Rej.RANGE
  else if s.on F.GLASS_GLSTAT_CTRL_ARMED ∨ s.get F.GLASS_GLSTAT_CTRL_STATE < 2 then Rej.BUSY
  else 0

/-- A commit wrote tables of the idle bank: its drive memory no longer matches and a load starts
(R316). -/
def State.glassTouched (s : State) (bank : Nat) : State :=
  let g := { s.glass with
    loaded0 := if bank = 0 then false else s.glass.loaded0
    loaded1 := if bank = 1 then false else s.glass.loaded1, loading := true, loadAt := s.now }
  { (s.put F.GLASS_GLSTAT_CTRL_IDLE_READY 0) with glass := g }

/-- GLASS_DRIVE_LOADED: the idle bank's drive memory matches its tables (R316). -/
def State.driveLoaded (s : State) : State :=
  if ¬ s.glass.loading then s
  else
    let idle := 1 - s.glActive
    let s1 := s.put F.GLASS_GLSTAT_CTRL_IDLE_READY 1
    { s1 with glass := { s1.glass with
        loading := false, readyNs := (s.devNs : Int)
        loaded0 := if idle = 0 then true else s.glass.loaded0
        loaded1 := if idle = 1 then true else s.glass.loaded1 } }

/-! ### Realignment (R321, R389) -/

/-- The first T_START + m × CYCLE at least 128 ns after device time `t`, in ns. -/
def cycleStartAfter (tstart cycle t : Nat) : Nat :=
  if cycle = 0 then t + 128
  else ((tstart : Int) + (((t + 128 : Nat) : Int) - (tstart : Int) + (cycle : Int) - 1) / (cycle : Int) * (cycle : Int)).toNat

/-- The times by which the controller judges a switch move with a step of device time; T_SW does not, and a step past
it is noted (R320, R321). -/
def State.stepSwitch (s : State) (old new : Nat) : State :=
  let d : Int := (new : Int) - (old : Int)
  let passed (a : SwitchSt) : Option Nat := if old < a.tsw ∧ a.tsw ≤ new then some new else a.stepped
  { s with glass := { s.glass with
    readyNs := s.glass.readyNs + d
    armed := s.glass.armed.map fun (a : SwitchSt) => { a with armedNs := a.armedNs + d, stepped := passed a } } }

/-- The slots in progress end on their own count: what remained of each when the step came (R321). -/
def State.slotsOwn (s : State) (old : Nat) : State :=
  (List.range 9).foldl (fun t p =>
    let pl := t.plane p
    if pl.entry.isSome ∧ pl.ends.isNone then t.setPlane p { pl with ends := some (t.now + nsClocks (pl.next - old)) } else t) s

/-- Time, in ns, that the slot in progress of a plane still has when device time is stepped from `old`. -/
def State.slotLeft (s : State) (old p : Nat) : Nat :=
  let pl := s.plane p
  if pl.entry.isNone then 0
  else match pl.ends with
    | none => pl.next - old
    | some e => ceilDiv ((e - s.now) * 5) 8

/-- Device time was stepped from `old` to `new`, in ns.  The planes resume at the first cycle start at least 128 ns after
the last slot in progress has ended on its own count (R321). -/
def State.glassStep (s0 : State) (old new : Nat) : State :=
  let s : State := s0.stepSwitch old new
  if ¬ s.glRunning then s
  else
    let left := ((List.range 9).map (s.slotLeft old)).foldl max 0
    let resume := cycleStartAfter s.glTStart (s.glCycleNs s.glActive) (new + left)
    let takeover := if s.get F.GLASS_GLMIG_STATUS_SPARE = 1 then none else s.glass.takeover
    let s1 : State := ({ s with glass := { s.glass with
      realign := some resume, takeover := takeover, returnNs := s.glass.returnNs.map fun _ => 0 } }).slotsOwn old
    let d : Int := (new : Int) - (old : Int)
    ((s1.istat F.GLASS_GLCFG_ISTAT_ISTAT 2).countGlass Ev.GLASS_REALIGN 1).logReport
      Ev.GLASS_REALIGN 0xc00 0 (ofSigned 64 d / 2 ^ 32) (ofSigned 32 d)

/-- GLASS_REALIGN_RESUME: the planes resume at entry 0 from the chosen cycle start; an armed switch
whose time the step passed acts there, late; a migration that had chosen its boundary, event 2 done, chooses it again (R333). -/
def State.realignResume (s : State) : State :=
  match s.glass.realign with
  | none => s
  | some t =>
    if s.devNs < t then s
    else
      let s1 := { s with glass := { s.glass with realign := none } }
      let s2 : State := match s.glass.armed with
        | some a => if a.stepped.isSome ∧ s.on F.GLASS_GLSTAT_CTRL_IDLE_READY then s1.switchActs a t else s1.startPlanes t
        | none => s1.startPlanes t
      let k := s2.get F.GLASS_GLMIG_STATUS_PLANE
      if s2.get F.GLASS_GLMIG_STATUS_SPARE = 1 ∧ s2.glass.takeover = none ∧ s2.glass.spareTerms = some k then
        { s2 with glass := { s2.glass with takeover := s2.chooseBoundary k } }
      else s2

/-! ### Ring search (R324) -/

/-- Whether a ring is listed in the Cullet list as FAILED (R488 kind 6). -/
def State.ringListed (s : State) (r : Nat) : Bool :=
  s.culletHas 6 r

/-- Begin the search of the fibres of `mask`: their rings are SEARCHING, but at start-up for listed ones, which are
FAILED (R324, R488). -/
def State.beginSearch (s : State) (mask : Nat) (startup : Bool) : State :=
  let s1 := (List.range 64).foldl (fun t f =>
    if nbit mask f = 1 then
      (List.range 32).foldl (fun t i =>
        t.setRing (f * 32 + i) (if startup ∧ s.ringListed (f * 32 + i) then 7 else 1)) t
    else t) s
  let s2 := { s1 with glass := { s1.glass with searching := s.glass.searching ||| mask, searchAt := s.now } }
  if s.glRunning then s2 else s2.put F.GLASS_GLSTAT_CTRL_STATE 1

/-- Frequency of a lane of the grid in MHz (R306). -/
def laneMhz (k : Nat) : Int := ([235400000, 234600000, 233800000, 233000000, 231400000, 230600000, 229800000, 229000000] : List Int).getD k 0

/-- Place of a ring on its bus, in bus order (R308): spare drops first, working adds first. -/
def busPlace (r : Nat) : Nat := if r / 16 % 2 = 0 then (r % 16 + 8) % 16 else r % 16

/-- The lanes present on a ring's bus where it stands: on an output bus the lane under search alone; on an input bus
those that no upstream ring drops, on its lane or holding its heater (R324). -/
def State.busLanes (s : State) (r : Nat) : List Nat :=
  if r / 16 % 2 = 1 then [r % 8]
  else (List.range 8).filter fun k => !(List.range 16).any fun i =>
    decide (i % 8 = k) && decide (busPlace (r / 16 * 16 + i) < busPlace r)
    && (s.ringSt (r / 16 * 16 + i) == 2 || s.ringSt (r / 16 * 16 + i) == 4)

/-- The ways to take `n` of a list, in its order. -/
def takings {α : Type} : Nat → List α → List (List α)
  | 0, _ => [[]]
  | _ + 1, [] => []
  | n + 1, x :: xs => (takings n xs).map (x :: ·) ++ takings (n + 1) xs

/-- How far the spacings of labelled peaks lie from the grid's, in MHz: heating lowers a ring's frequency, so the
peaks stand in the lanes' order. -/
def labelMisfit (slope : Nat) : List (Nat × Nat) → Nat
  | (c, k) :: (c', k') :: rest =>
    ((((c' : Int) - (c : Int)) * (slope : Int)) - (laneMhz k - laneMhz k')).natAbs + labelMisfit slope ((c', k') :: rest)
  | _ => 0

/-- The labels that match the grid best, peak by peak; none where no labelling fits the lanes present. -/
def bestLabels (slope : Nat) (codes lanes : List Nat) : List (Nat × Nat) :=
  match (takings codes.length lanes).map (codes.zip ·) with
  | [] => []
  | l :: ls => ls.foldl (fun b x => if labelMisfit slope x < labelMisfit slope b then x else b) l

/-- The peaks of a sweep that count: those above −25 dBm. -/
def peaksAbove (f : RingFind) : List (Nat × Nat) :=
  (f.peaks.filter fun p => decide (-2500 < p.2.toInt)).map fun p => (p.1.toNat, p.2.toNat)

/-- The heater code and power of the peak labelled with the ring's own lane (R324).  A single peak has no spacing to
match: it is labelled only where one lane is present on the bus. -/
def State.labelled (s : State) (f : RingFind) : Option (Nat × Nat) :=
  let r := f.ring.val
  let labels := bestLabels (Config.tuneSlope r) ((peaksAbove f).map Prod.fst) (s.busLanes r)
  match labels.find? fun (q : Nat × Nat) => q.2 == r % 8 with
  | some q => if (peaksAbove f).length < 2 ∧ (s.busLanes r).length ≠ 1 then none else (peaksAbove f).find? fun p => p.1 == q.1
  | none => none

/-- The state of a ring that is found: PARKED for a spare that serves no lane, HOLD for a working drop ring whose lane
the spare takes and for a working add ring whose output no slot lights, LOCKED for the others (R323, R325, R330). -/
def State.lockedState (s : State) (r : Nat) : Nat :=
  if 8 ≤ r % 16 then (if s.spareServes = some (r % 8) then 2 else 3)
  else if r / 16 % 2 = 0 then (if s.spareServes = some (r % 8) then 4 else 2)
  else if s.addLit r then 2 else 4

/-- Whether a ring is a working drop ring of the lane that the spare takes off its bus (R330). -/
def State.ringServed (s : State) (r : Nat) : Bool := r / 16 % 2 == 0 && decide (r % 16 < 8) && s.spareServes == some (r % 8)

/-- The state of a ring that a search does not find: NOLIGHT, or FAILED with two peaks or more; the working drop ring
of the lane that the spare serves is in HOLD whatever light it sees (R324, R330). -/
def State.unfoundState (s : State) (r peaks : Nat) : Nat := if s.ringServed r then 4 else if peaks < 2 then 6 else 7

/-- The state that a finished search gives a ring. -/
def State.foundState (s : State) (r : Nat) (f : RingFind) : Nat :=
  match s.labelled f with
  | some _ => s.lockedState r
  | none => s.unfoundState r (peaksAbove f).length

/-- A ring's search ends as found; a FAILED ring goes to the Cullet list (R489). -/
def State.ringFound (s : State) (f : RingFind) : State :=
  let r := f.ring.val
  if s.ringSt r ≠ 1 then s
  else
    let st := s.foundState r f
    let s1 := s.setRing r st
    let s2 : State := match s.labelled f with
      | some p => (s1.put (F.RING_W0_HEATER r) p.1).setMon r p.2
      | none => s1
    if st = 7 then
      ((s2.istat F.GLASS_GLCFG_ISTAT_ISTAT 10)).culletAppend 6 6 r
    else s2

/-- The step of the search's order that takes a ring (R324): spare drops, working drops, working adds, spare adds. -/
def searchStep (r : Nat) : Nat := if r / 16 % 2 = 0 then (if 8 ≤ r % 16 then 1 else 2) else (if r % 16 < 8 then 4 else 5)

/-- The rings found in one step of the order, in bus order; fibres run side by side. -/
def stepFinds (fs : List RingFind) (n : Nat) : List RingFind :=
  (List.range 8).flatMap fun k => fs.filter fun f => searchStep f.ring.val == n && f.ring.val % 8 == k

/-- Whether input `n` of a plane has light for its calibration: a drop ring found, and light at the input; for the spare
by any lane that its rings can release (R324). -/
def State.calInput (s : State) (p n : Nat) : Bool :=
  if p = 8 then (List.range 8).any fun k => (s.ringSt (ringIx n 0 (8 + k)) == 2 || s.ringSt (ringIx n 0 (8 + k)) == 3) && s.inputLit n k
  else s.ringSt (ringIx n 0 p) == 2 && s.inputLit n p

/-- The inputs of a plane that have light, one bit each. -/
def State.calLight (s : State) (p : Nat) : Nat :=
  ((List.range 64).filter (s.calInput p)).foldl (fun m n => m + 2 ^ n) 0

/-- Step 3: mesh calibration of every plane, which then holds the identity pattern for the steps after it; a search
under a running schedule calibrates no mesh. -/
def State.calibrate (s : State) : State :=
  if s.glRunning then s
  else
    let s1 := (List.range 9).foldl (fun t p =>
      let t1 := t.setPlane p { t.plane p with mesh := compile identityPattern }
      { t1 with glass := { t1.glass with
        cal := SMap.set (fun _ => 0) t1.glass.cal p (s.freeCtr + 1)
        calLit := SMap.set (fun _ => 0) t1.glass.calLit p (s.calLight p) } }) s
    s1.freshFree

/-- The heater offset of each spare ring found, from its working partner (R325). -/
def State.noteOffsets (s : State) (fs : List RingFind) : State :=
  fs.foldl (fun t f =>
    let r := f.ring.val
    if r % 16 < 8 then t
    else
      let d : Int := (t.get (F.RING_W0_HEATER r) : Int) - (t.get (F.RING_W0_HEATER (r - 8)) : Int)
      { t with glass := { t.glass with offset := SMap.set (fun _ => 0) t.glass.offset r d } }) s

/-- The rings of the photonic die (R308). -/
def ringCount : Nat := 2048

/-- A ring still searching found too little light. -/
def State.ringUnfound (s : State) (r : Nat) : State := if s.ringSt r = 1 then s.setRing r (s.unfoundState r 0) else s

/-- Every ring still searching found too little light. -/
def State.ringsUnfound (s : State) : State := (List.range ringCount).foldl State.ringUnfound s

/-- The search is over: the controller is READY unless it runs, the spare plane idle (R324). -/
def State.searchEnds (s : State) : State :=
  let s3 : State := { s with glass := { s.glass with searching := 0 } }
  let s4 : State := if s3.get F.GLASS_GLSTAT_CTRL_STATE = 1 then s3.put F.GLASS_GLSTAT_CTRL_STATE 2 else s3
  if s4.get (F.PLANE_PSTATE_STATE 8) = 0 then s4.put (F.PLANE_PSTATE_STATE 8) 4 else s4

/-- GLASS_SEARCH_DONE: every ring under search has a final state, in the five steps' order; a ring not reported found
too little light.  The controller reaches READY, unless it is running a schedule. -/
def State.searchDone (s : State) (fs : List RingFind) : State :=
  if s.glass.searching = 0 then s
  else
    let run (t : State) (n : Nat) : State := (stepFinds fs n).foldl State.ringFound t
    let s1 := (run (run (run (run s 1) 2).calibrate 4) 5)
    ((s1.noteOffsets fs).ringsUnfound).searchEnds

/-- NOLIGHT_RETRY: a second after the last retry, every NOLIGHT ring and the rings after it on its
bus are searched again (R324). -/
def State.nolightRetry (s : State) : State :=
  if ¬ s.passed s.glass.lastRetry (secClocks 1) then s
  else
    let bad := (List.range ringCount).filter fun r => s.ringSt r == 6
    let again := (List.range ringCount).filter fun r =>
      bad.any fun b => b / 16 == r / 16 && decide (busPlace b ≤ busPlace r)
    let s1 := again.foldl (fun t r => t.setRing r 1) s
    let m := again.foldl (fun m r => m ||| 2 ^ (r / 32)) s.glass.searching
    let at_ := if again.isEmpty then s.glass.searchAt else s.now
    { s1 with glass := { s1.glass with lastRetry := s.now, searching := m, searchAt := at_ } }

/-! ### Locks (R325) -/

/-- Clocks of the lock loop's period, 25 µs, and of a lost lock's wait, 100 µs (R325). -/
def lockClocks : Nat := nsClocks 25000
def unlockClocks : Nat := nsClocks 100000

/-- The core clock, plus 1, at which the LOCK requester next has a transaction for a ring: its period, or the end of the
100 µs of a lost lock; 0 for none (R325, R334). -/
def RingLock.due (l : RingLock) : Nat :=
  if l.stepped = 0 then 0
  else if l.low = 0 then l.stepped + lockClocks
  else min (l.stepped + lockClocks) (l.low + unlockClocks)

/-- Whether a monitor word lies 3 dB or more below a lock's level. -/
def RingLock.lowAt (l : RingLock) (mon : Nat) : Bool := l.level.any fun x => decide (toSigned 16 mon + 300 ≤ x)

/-- Whether light is present for a ring: at a drop ring's input, or from an add ring's output in this slot. -/
def State.ringLight (s : State) (r : Nat) : Bool :=
  if r / 16 % 2 = 0 then s.inputLit (r / 32) (r % 8)
  else nbit (s.plane (if r % 16 < 8 then r % 8 else 8)).lit (r / 32) == 1

/-- The code that a ring's heater is given now: a LOCKED ring's dithers by 2 codes about its own, 40,000 times a second
(R325); which half of a period lies above is the part's own. -/
def State.heaterDrive (s : State) (r : Nat) : Nat :=
  let h := s.get (F.RING_W0_HEATER r)
  if s.ringSt r ≠ 2 then h
  else if (s.now / (lockClocks / 2) + Config.ditherHalf r) % 2 = 0 then min 4095 (h + 2) else h - 2

/-- An add ring in HOLD follows the die temperature, with its monitor read: the amount is the part's own (R325). -/
def State.feedForward (s : State) (r : Nat) (mon : BitVec 16) : State :=
  ((s.freshFree.put (F.RING_W0_HEATER r) (Config.heaterStep s.freeCtr).toNat).setMon r mon.toNat).setRingLock r
    { stepped := s.now + 1 }

/-- RING_LOCK_STEP: every 25 µs a LOCKED ring corrects its heater from the monitor; the parked spare partner
follows with its offset, and an add ring whose output no slot lights any more holds, with feed-forward from then on.  The
amount of the correction is the part's own: a free value. -/
def State.lockStep (s : State) (r : Nat) (mon : BitVec 16) : State :=
  let l := s.ringLock r
  if ¬ s.passed (l.stepped - 1) lockClocks then s
  else if s.ringSt r = 4 ∧ r / 16 % 2 = 1 then s.feedForward r mon
  else if s.ringSt r ≠ 2 then s
  else if r / 16 % 2 = 1 ∧ ¬ s.addLit r then (s.setRing r 4).setMon r mon.toNat
  else
    let h := (Config.heaterStep s.freeCtr).toNat
    let low := l.lowAt mon.toNat
    let l1 : RingLock := { stepped := s.now + 1, level := if low then l.level else some mon.toInt
                           low := if low then (if l.low = 0 then s.now + 1 else l.low) else 0 }
    let s1 := ((s.freshFree.put (F.RING_W0_HEATER r) h).setMon r mon.toNat).setRingLock r l1
    if r % 16 < 8 ∧ s1.ringSt (r + 8) = 3 then
      s1.put (F.RING_W0_HEATER (r + 8))
        (clampInt 0 4095 ((h : Int) + SMap.get (fun _ => 0) s1.glass.offset (r + 8))).toNat
    else s1

/-- RING_UNLOCK: the monitor has read 3 dB or more below its locked level for 100 µs, with light present. -/
def State.ringUnlock (s : State) (r : Nat) (mon : BitVec 16) : State :=
  let l := s.ringLock r
  if s.ringSt r ≠ 2 ∨ l.low = 0 ∨ ¬ s.passed (l.low - 1) unlockClocks ∨ ¬ l.lowAt mon.toNat ∨ ¬ s.ringLight r then s
  else
    (((s.setRing r 5).setMon r mon.toNat).istat F.GLASS_GLCFG_ISTAT_ISTAT 9).countGlass
      Ev.GLASS_UNLOCK 1

/-- RING_RELOCK: the local search over ±256 codes ends; found, the ring is LOCKED again and counted, or else it is
searched in full. -/
def State.ringRelock (s : State) (r : Nat) (heater : Option (BitVec 12)) (mon : BitVec 16) : State :=
  if s.ringSt r ≠ 5 then s
  else
    match heater.filter fun h => decide (((h.toNat : Int) - (s.get (F.RING_W0_HEATER r) : Int)).natAbs ≤ 256) with
    | some h =>
      ((((s.setRing r 2).put (F.RING_W0_HEATER r) h.toNat).setMon r mon.toNat).addSat
        (F.RING_W1_RELOCKS r) 1).countGlass Ev.GLASS_RELOCK 1
    | none =>
      let s1 := s.setRing r 1
      { s1 with glass := { s1.glass with searching := s1.glass.searching ||| 2 ^ (r / 32), searchAt := s.now } }

/-- The drop ring that takes lane `k` of a fibre: the working one, or the spare's while it serves. -/
def State.dropRingOf (s : State) (fibre lane : Nat) : Nat :=
  ringIx fibre 0 (if s.spareServes = some lane then 8 + lane else lane)

/-- GLASS_IN_LOS: the input's power fell below P_IN_LOS; its drop ring holds. -/
def State.inLos (s : State) (fibre lane : Nat) (power : BitVec 16) : State :=
  let r := s.dropRingOf fibre lane
  if s.ringSt r ≠ 2 ∨ s.gets F.GLASS_GLCFG_POWER_P_IN_LOS ≤ toSigned 16 power.toNat then s
  else
    (((s.setRing r 4).put (F.GIN_W0_PIN (fibre * 8 + lane)) power.toNat).istat
      F.GLASS_GLCFG_ISTAT_ISTAT 9).countGlass Ev.GLASS_IN_LOS 1

/-- GLASS_IN_RESTORE: the input's power returned; the held ring resumes LOCKED. -/
def State.inRestore (s : State) (fibre lane : Nat) (power : BitVec 16) : State :=
  let r := s.dropRingOf fibre lane
  if s.ringSt r ≠ 4 ∨ toSigned 16 power.toNat < s.gets F.GLASS_GLCFG_POWER_P_IN_LOS then s
  else (s.setRing r 2).put (F.GIN_W0_PIN (fibre * 8 + lane)) power.toNat

/-! ### Power and bias (R326 to R329) -/

/-- The target power in force of an output (R338). -/
def State.targetOf (s : State) (i : Nat) : Int := SMap.get (fun _ => 100) s.glass.target i

/-- One input reading: power, and the report of a low input once per crossing (R329). -/
def State.inputReading (s : State) (i : Nat) (v : BitVec 16) : State :=
  let low := decide (toSigned 16 v.toNat < s.gets F.GLASS_GLCFG_PINLOW_P_IN_LOW)
  let seen := SMap.get (fun _ => false) s.glass.inLowSeen i
  let s1 := s.put (F.GIN_W0_PIN i) v.toNat
  let s2 := { s1 with glass := { s1.glass with inLowSeen := SMap.set (fun _ => false) s1.glass.inLowSeen i low } }
  if low ∧ ¬ seen then (s2.istat F.GLASS_GLCFG_ISTAT_ISTAT 8).countGlass Ev.GLASS_IN_LOW 1 else s2

/-- One output reading of an output lit since the last update, and since when it has been low by OUT_LOW. -/
def State.outputReading (s : State) (i : Nat) (v : BitVec 16) : State :=
  if nbit (s.plane (i / 64)).litPower (i % 64) = 0 then s
  else
    let short := decide ((s.get F.GLASS_GLCFG_HR_OUT_LOW : Int) * 10 ≤ s.targetOf i - toSigned 16 v.toNat)
    let since := SMap.get (fun _ => 0) s.glass.outLow i
    let s1 := s.put (F.SOA_W1_POUT i) v.toNat
    { s1 with glass := { s1.glass with
        outLow := SMap.set (fun _ => 0) s1.glass.outLow i (if short then (if since = 0 then s.now + 1 else since) else 0)
        outLowSeen := if short then s1.glass.outLowSeen else SMap.set (fun _ => false) s1.glass.outLowSeen i false } }

/-- The average that an update lists for a place, or else the reading that stands: the average was the same. -/
def readingOf {n : Nat} (l : List (Fin n × BitVec 16)) (i held : Nat) : BitVec 16 :=
  match l.find? fun p => p.1.val == i with
  | some p => p.2
  | none => BitVec.ofNat 16 held

/-- GLASS_POWER_UPDATE: every 1 ms every reading is updated (R326). -/
def State.powerUpdate (s : State) (ins : List (Fin 512 × BitVec 16)) (outs : List (Fin 576 × BitVec 16)) : State :=
  if ¬ s.passed s.glass.lastPower (msClocks 1) then s else
  let s1 := (List.range 512).foldl (fun t i => t.inputReading i (readingOf ins i (s.get (F.GIN_W0_PIN i)))) s
  let s2 := (List.range 576).foldl (fun t i => t.outputReading i (readingOf outs i (s.get (F.SOA_W1_POUT i)))) s1
  let s3 := (List.range 9).foldl (fun t p => t.setPlane p { t.plane p with litPower := (t.plane p).lit }) s2
  { s3 with glass := { s3.glass with lastPower := s.now } }

/-- One step of a value toward a target, by at most 1. -/
def towards (v target : Nat) : Nat := if v < target then v + 1 else if target < v then v - 1 else v

/-- IC of one input moves by at most one code toward max(0, shortfall × codes per dB) (R328). -/
def State.icStep (s : State) (i : Nat) : State :=
  let short : Int := s.gets F.GLASS_GLCFG_POWER_P_IN_REF - s.gets (F.GIN_W0_PIN i)
  let target := (short.toNat * Config.icPerDb) / 100
  s.put (F.GIN_W0_IC i) (min 1023 (towards (s.get (F.GIN_W0_IC i)) target))

/-- A written TARGET comes into force at a gain step (R338). -/
def State.targetStep (s : State) (i : Nat) : State :=
  { s with glass := { s.glass with target := SMap.set (fun _ => 100) s.glass.target i (s.gets (F.SOA_W2_TARGET i)) } }

/-- The gain slope of an SOA: as its own loop steps measured it, never below the factory minimum (R328). -/
def State.slopeOf (s : State) (i : Nat) : Nat := max (Config.gainSlopeMin i) (SMap.get (fun _ => 0) s.glass.slope i)

/-- IB of one SOA moves by one code when its output is more than 0.1 dB off target (R328), and the step measures its
gain slope; the loop of an SOA that was lit in no slot since the last step rests (R332). -/
def State.ibStep (s : State) (i : Nat) : State :=
  if nbit (s.plane (i / 64)).litBias (i % 64) = 0 then s
  else
    let d : Int := s.targetOf i - s.gets (F.SOA_W1_POUT i)
    let ib := s.get (F.SOA_W0_IB i)
    let ib' := if 10 < d then min 1023 (ib + 1) else if d < -10 then ib - 1 else ib
    if ib' = ib then s
    else
      let s1 := s.put (F.SOA_W0_IB i) ib'
      { s1 with glass := { s1.glass with slope := SMap.set (fun _ => 0) s1.glass.slope i (Config.gainSlope i s.freeCtr) } }

/-- The highest bias that SOA (p, o) takes in a lit slot of plane `k`'s schedule; none where lit in none. -/
def State.worstBias (s : State) (p k o : Nat) : Option Nat :=
  ((s.gsEntries s.glActive k).getD []).foldl (fun w e =>
    let outs := s.entryOuts s.glActive k e
    match outs.find? fun q => q.1 == o with
    | some (_, src) =>
      if s.pathLit p k o src then some (max (w.getD 0) (s.slotBias p k o src (fanOut outs src))) else w
    | none => w) none

/-- Headroom in 0.1 dB: (IMAX − I_worst) × S (R328). -/
def State.headroomOf (s : State) (i worst : Nat) : Nat :=
  (s.get F.GLASS_GLCFG_IMAX_IMAX - worst) * s.slopeOf i / 1000

/-- IWORST and HEADROOM of every SOA of a plane that carries lane `k`, and the plane's own least
headroom with its output; since when it has been below HR_MIG (R329). -/
def State.headroomStep (s : State) (p k : Nat) : State :=
  let l := (List.range 64).filterMap fun o => (s.worstBias p k o).map fun w => (o, w)
  let s1 := l.foldl (fun t q =>
    (t.put (F.SOA_W0_IWORST (p * 64 + q.1)) q.2).put (F.SOA_W1_HEADROOM (p * 64 + q.1)) (s.headroomOf (p * 64 + q.1) q.2)) s
  match l with
  | [] => s1.highPlane p
  | q :: rest =>
    let best := rest.foldl (fun b r =>
      if s.headroomOf (p * 64 + r.1) r.2 < s.headroomOf (p * 64 + b.1) b.2 then r else b) q
    let h := s.headroomOf (p * 64 + best.1) best.2
    let s2 := s1.puts [(F.PLANE_PSTATE_WORST p, best.1), (F.PLANE_PSTATE_HEADROOM p, h)]
    let pl := s2.plane p
    if h < s.get F.GLASS_GLCFG_HR_HR_MIG then
      s2.setPlane p { pl with lowSince := some (pl.lowSince.getD s.now) }
    else s2.highPlane p

/-- GLASS_BIAS_STEP: every 10 ms IC and IB move by one code, and headroom follows (R328). -/
def State.biasStep (s : State) : State :=
  if ¬ s.passed s.glass.lastBias (msClocks 10) then s
  else
    let s0 := (List.range 576).foldl State.targetStep s
    let s1 := (List.range 512).foldl State.icStep s0
    let s2 := (List.range 576).foldl State.ibStep s1
    let s3 := (List.range 8).foldl (fun t k =>
      if ¬ t.glRunning ∨ ¬ t.planeEn t.glActive k then t.highPlane k
      else if t.spareServes = some k then (t.highPlane k).headroomStep 8 k else t.headroomStep k k) s2
    let s4 := (List.range 9).foldl (fun t p => t.setPlane p { t.plane p with litBias := (t.plane p).lit }) s3
    { s4.freshFree with glass := { s4.glass with lastBias := s.now } }

/-! ### Migration requests (R329, R331, R332) -/

/-- The spare starts arming for plane `k`; an automatic migration marks the plane DEGRADED. -/
def State.startMigration (s : State) (k : Nat) (auto : Bool) : State :=
  let s1 := s.puts [(F.GLASS_GLMIG_STATUS_SPARE, 1), (F.GLASS_GLMIG_STATUS_PLANE, k)]
  let s2 := if auto then s1.put (F.PLANE_PSTATE_STATE k) 2 else s1
  let s3 := { s2 with glass := { s2.glass with armingAt := s.now, takeover := none } }
  s3.logReport Ev.STATE 0xc00 0x164 (s.word 0xc00164).toNat (s3.word 0xc00164).toNat

/-- GLASS_HEADROOM_LOW: a plane's headroom has been below HR_MIG for 1 s without a break. -/
def State.headroomLow (s : State) (p : Nat) : State :=
  match (s.plane p).lowSince with
  | none => s
  | some t =>
    if p = 8 then
      if s.spareServes.isSome ∧ ¬ (s.plane 8).lowLogged then
        (((s.setPlane 8 { s.plane 8 with lowLogged := true }).istat F.GLASS_GLCFG_ISTAT_ISTAT 6).countPlane 8
          Ev.GLASS_SPARE_LOW 1).logReport Ev.GLASS_SPARE_LOW 0xc18 (8 * 64 + s.get (F.PLANE_PSTATE_WORST 8)) 0 0
      else s
    else if ¬ s.passed t (secClocks 1) ∨ s.spareServes = some p then s
    else
      let heldOff : Bool := match s.glass.returnedAt with
        | some r => !s.passed r (secClocks 60)
        | none => false
      if s.on F.GLASS_GLCFG_CTRL_AUTO_MIG ∧ s.get F.GLASS_GLMIG_STATUS_SPARE = 0 ∧ !s.planeFrozen 8 ∧ ¬ heldOff ∧ s.glRunning then
        s.startMigration p true
      else if s.get F.GLASS_GLMIG_STATUS_SPARE = 1 ∧ s.get F.GLASS_GLMIG_STATUS_PLANE = p then s
      else if (s.plane p).lowLogged ∨ (heldOff ∧ s.on F.GLASS_GLCFG_CTRL_AUTO_MIG ∧ s.get F.GLASS_GLMIG_STATUS_SPARE = 0 ∧ !s.planeFrozen 8) then s
      else
        let s1 := s.setPlane p { s.plane p with lowLogged := true }
        let inst := p * 64 + s.get (F.PLANE_PSTATE_WORST p)
        if s.get F.GLASS_GLMIG_STATUS_SPARE ≠ 0 ∨ s.planeFrozen 8 then
          ((s1.istat F.GLASS_GLCFG_ISTAT_ISTAT 5).countPlane p Ev.GLASS_SPARE_BUSY 1).logReport
            Ev.GLASS_SPARE_BUSY (0xc10 + p) inst 0 0
        else
          ((s1.istat F.GLASS_GLCFG_ISTAT_ISTAT 4).countPlane p Ev.GLASS_HEADROOM_LOW 1).logReport
            Ev.GLASS_HEADROOM_LOW (0xc10 + p) inst 0 0

/-- GLASS_OUT_LOW: an output has been low by OUT_LOW for 10 ms; reported once (R329). -/
def State.outLowReport (s : State) (i : Nat) : State :=
  let since := SMap.get (fun _ => 0) s.glass.outLow i
  if since = 0 ∨ ¬ s.passed (since - 1) (msClocks 10) ∨ SMap.get (fun _ => false) s.glass.outLowSeen i then s
  else
    let s1 := { s with glass := { s.glass with outLowSeen := SMap.set (fun _ => false) s.glass.outLowSeen i true } }
    (s1.istat F.GLASS_GLCFG_ISTAT_ISTAT 7).countPlane (i / 64) Ev.GLASS_OUT_LOW 1

/-- The rejections of a GLMIG.CTRL write (R333). -/
def State.migCheck (s : State) (go ret : Bool) (plane : Nat) : Nat :=
  if go ∧ (ret ∨ plane = 8) then Rej.RANGE
  else if go ∧ (s.get F.GLASS_GLMIG_STATUS_SPARE ≠ 0 ∨ s.planeFrozen 8) then Rej.BUSY
  else if ret ∧ s.get F.GLASS_GLMIG_STATUS_SPARE ≠ 2 then Rej.BUSY
  else 0

/-- An accepted GLMIG.CTRL write acts (R331, R332). -/
def State.migWrite (s : State) (go ret : Bool) (plane : Nat) : State :=
  if go then s.startMigration plane false
  else if ret then { s with glass := { s.glass with returnAsk := some s.now } }
  else s

/-- MIG arms a return: the controller chooses the boundary (R332, R334); a plane that runs no slot is returned at its
next boundary. -/
def State.returnArmed (s : State) : State :=
  { s with glass := { s.glass with
    returnAsk := none, returnNs := some ((s.chooseBoundary (s.get F.GLASS_GLMIG_STATUS_PLANE)).getD 0) } }

/-- GLASS_MIG_ARMED: 20 ms of arming are over; the spare's heaters were refreshed from their
partners', its SOA terms are loaded and its drive path follows the plane, and the controller chooses B (R331 events 2 and 3). -/
def State.migArmed (s : State) : State :=
  if s.get F.GLASS_GLMIG_STATUS_SPARE ≠ 1 ∨ ¬ s.passed s.glass.armingAt (msClocks 20) ∨
      s.glass.takeover.isSome ∨ s.glass.realign.isSome then s
  else
    let k := s.get F.GLASS_GLMIG_STATUS_PLANE
    let s1 := (List.range 64).foldl (fun t f =>
      [0, 1].foldl (fun t side =>
        let r := ringIx f side k
        t.put (F.RING_W0_HEATER (r + 8))
          (clampInt 0 4095 ((t.get (F.RING_W0_HEATER r) : Int) + SMap.get (fun _ => 0) t.glass.offset (r + 8))).toNat) t) s
    { s1 with glass := { s1.glass with takeover := s1.chooseBoundary k, spareTerms := some k } }

/-- GLASS_MIG_DONE: 1 ms after takeover the spare rings' loops have locked (R331 event 7). -/
def State.migDone (s : State) : State :=
  match s.glass.servingAt with
  | none => s
  | some t =>
    if ¬ s.passed t (msClocks 1) then s
    else
      let s1 := { s with glass := { s.glass with servingAt := none } }
      s1.istat F.GLASS_GLCFG_ISTAT_ISTAT 3

/-! ### Validation of the tables (R311, R315) -/

/-- A pattern of a bank obeys R311. -/
def State.patternOk (s : State) (bank pat : Nat) : Bool :=
  let bs := (List.range 64).map fun o => (o, s.patByte bank pat o)
  let outs := (bs.filter fun p => decide (128 ≤ p.2)).map fun p => (p.1, p.2 % 64)
  (bs.all fun p => nbit p.2 6 == 0)
  && (List.range 64).all fun i =>
    let mine := (outs.filter fun p => p.2 == i).map fun p => p.1
    match mine with
    | [] => true
    | [_] => true
    | a :: rest =>
      let quad := a / 4
      let pair := rest.length == 1 && rest.all fun o => o / 2 == a / 2
      decide (mine.length ≤ 4)
      && (pair || ((mine.all fun o => o / 4 == quad)
            && outs.all fun p => p.1 / 4 != quad || mine.contains p.1))

/-- Every entry of a plane that is read has its DUR in range. -/
def State.dursOk (s : State) (bank k : Nat) : Bool :=
  ((s.gsEntries bank k).getD ((List.range 4096))).all fun e => decide (64 ≤ s.gsDur bank k e ∧ s.gsDur bank k e ≤ 500000)

/-- Whether a word of a bank's tables is one of the schedule of a plane among `ks`, or its PLANE_EN. -/
def ofPlanes (bank : Nat) (ks : List Nat) (a : Nat) : Bool :=
  a == 0xc00150 + 4 * bank || (decide (0x9000000 + bank * 0x40000 ≤ a) && decide (a < 0x9000000 + (bank + 1) * 0x40000)
    && ks.contains ((a - 0x9000000) % 0x40000 / 0x8000))

/-- The first check of R315 that fails on a bank as it stands, for the patterns written: its code, 0 where none fails, and
the words of the tables that it ties together. -/
def State.bankFault (s : State) (bank : Nat) (pats : List Nat) : Nat × (Nat → Bool) :=
  let planes := (List.range 8).filter (s.planeEn bank)
  let bad := pats.filter fun p => !s.patternOk bank p
  let durs := planes.filter fun k => !s.dursOk bank k
  let open_ := planes.filter fun k => (s.gsEntries bank k).isNone
  if bad ≠ [] then (Rej.RANGE, fun a => decide (0x9080000 + bank * 0x40000 ≤ a) && bad.contains ((a - 0x9080000) % 0x40000 / 64))
  else if durs ≠ [] then (Rej.RANGE, ofPlanes bank durs)
  else if open_ ≠ [] then (Rej.CHAIN, ofPlanes bank open_)
  else
    match planes with
    | [] => (0, fun _ => false)
    | k :: rest => if rest.all fun j => s.gsCycleNs bank j == s.gsCycleNs bank k then (0, fun _ => false) else (Rej.RANGE, ofPlanes bank planes)

/-! ### Request lines of the Glass bus (R334) -/

/-- The core clock, plus 1, since which a requester of the Glass bus has had a transaction to make; 0 for none. -/
def State.glassRaised (s : State) (r : Nat) : Nat :=
  match r with
  | 0 => if s.get F.GLASS_GLMIG_STATUS_SPARE = 1 ∧ s.glass.takeover = none then s.glass.armingAt + 1
      else match s.glass.returnAsk with
        | some t => t + 1
        | none => 0
  | 1 => ((s.glass.locks.map fun (x : Nat × RingLock) => x.2.due).filter fun t => decide (0 < t ∧ t ≤ s.now + 1)).foldl
      (fun m t => if m = 0 then t else min m t) 0
  | 2 => if s.get F.GLASS_GLSTAT_CTRL_STATE ≠ 0 ∧ s.passed s.glass.lastBias (msClocks 10) then s.glass.lastBias + msClocks 10 + 1 else 0
  | 3 => if s.get F.GLASS_GLSTAT_CTRL_STATE ≠ 0 ∧ s.passed s.glass.lastPower (msClocks 1) then s.glass.lastPower + msClocks 1 + 1 else 0
  | 4 => if s.glass.loading then s.glass.loadAt + 1 else 0
  | 5 => match s.glass.reads with
    | [] => 0
    | q :: _ => q.since + 1
  | 6 => if s.glass.searching = 0 then 0 else s.glass.searchAt + 1
  | 7 => match s.pwr.run with
    | some q => q.since + 1
    | none => 0
  | _ => 0

/-! ### The commands -/

def execGlassBoundary (plane : Fin 8) (s : State) : Out := finish s (s.glassBoundary plane.val)
def execGlassSwitch (s : State) : Out := finish s s.glassSwitch
def execGlassRealignResume (s : State) : Out := finish s s.realignResume
def execNolightRetry (s : State) : Out := finish s s.nolightRetry
def execGlassHeadroomLow (plane : Fin 9) (s : State) : Out := finish s (s.headroomLow plane.val)
def execGlassOutLow (output : Fin 576) (s : State) : Out := finish s (s.outLowReport output.val)
def execGlassMigDone (s : State) : Out := finish s s.migDone

end Sys2Proof.Machine
end

