-- ==== Sys2Proof/Machine/Time.lean ====
section
/-! DEFINITION. Device time, the servo, and the pulse per second (chapter 12). -/

namespace Sys2Proof.Machine

/-- Whether a port begins at lane `p` (R345: SPEED 0 is no port). -/
def State.isPort (s : State) (p : Nat) : Bool := decide (p < 1024) && s.get (F.LANE_PORTCFG_SPEED p) != 0

/-- FREQ_ADJ as a signed number (R372). -/
def State.freqAdj (s : State) : Int := s.gets F.TIME_FREQ_FREQ_ADJ

/-- What device time gains in one core clock, in 2^-56 ns: 0.625 × (1 + FREQ_ADJ × 2^-40) ns (R372). -/
def State.clockGain (s : State) : Nat := ((5 * 2 ^ 53 : Nat) + 5 * 2 ^ 13 * s.freqAdj : Int).toNat

/-- The next core clock begins (R372): the count and device time advance.  DESIGN CHOICE: this is what a
step does when no command waits. -/
def State.tick (s : State) : State :=
  let t : TimeSt := s.time.ofUnits (s.time.units + s.clockGain)
  { s with time := { t with core := s.time.core + 1 } }

/-! ### Steps of device time (R375, R389) -/

/-- Whole seconds whose PPS_OUT edge, at the second plus the offset, lies at or before `t` ns. -/
def State.ppsEdgesBy (s : State) (t : Nat) : Nat :=
  (((t : Int) - s.gets F.TIME_PPSOUT_OFS_OFS_NS) / 1000000000 + 1).toNat

/-- A slot armed in mode TIME whose T lies in (old, new] fires late (R389). -/
def State.slotTimeNs (s : State) (i : Nat) : Nat :=
  (s.get (F.TXN_TXT_SEC_HI_SEC_HI i) * 2 ^ 32 + s.get (F.TXN_TXT_SEC_LO_SEC_LO i)) * 1000000000
    + s.get (F.TXN_TXT_NS_NS i)

/-- What a slot holds. -/
def State.slot (s : State) (i : Nat) : SlotSt := SMap.get (fun _ => {}) s.mgmt.slots i

/-- Hold a slot. -/
def State.setSlot (s : State) (i : Nat) (v : SlotSt) : State :=
  { s with mgmt := { s.mgmt with slots := SMap.set (fun _ => {}) s.mgmt.slots i v } }

/-- Whether device time has been stepped in this core clock. -/
def State.steppedNow (s : State) : Bool := s.time.preStep.any fun p => p.1 == s.now

/-- Whether a slot is ARMED in mode TIME. -/
def State.awaitsTime (s : State) (i : Nat) : Bool := s.get (F.TXN_TXSTAT_STATE i) == 4 && s.get (F.TXN_TXSTAT_MODE i) == 2

/-- Whether a transaction armed in mode TIME fires in this core clock: one that a step passed, from the next on (R389). -/
def State.fireDue (s : State) (i : Nat) : Bool :=
  s.awaitsTime i && decide (s.slotTimeNs i ≤ s.devNs) && !((s.slot i).late && s.steppedNow)

/-- Whether some transaction is due and has not fired: a scheduler decision of that core clock sees the state that it
leaves (R388). -/
def State.commitDue (s : State) : Bool := (List.range 16).any s.fireDue

/-- Whether a step from `old` to `new` leaves a trigger at `at_` late, `was` telling whether an earlier one did. -/
def lateBy (was : Bool) (old new at_ : Nat) : Bool := (was || decide (old < at_)) && decide (at_ ≤ new)

/-- A step marks the armed TIME transactions, and the armed reader's trigger, that it passed (R389, R510). -/
def State.markLate (s : State) (old new : Nat) : State :=
  let late : Bool := s.on F.SNAP_STAT_ARMED && lateBy s.obs.snapLate old new s.obs.snapNext
  let s1 : State := { s with obs := { s.obs with snapLate := late } }
  (List.range 16).foldl (fun t i =>
    if t.awaitsTime i then t.setSlot i { t.slot i with late := lateBy (t.slot i).late old new (t.slotTimeNs i) } else t) s1

/-- Device time becomes `u` units of 2^-56 ns by a step: logged with the time before it, counted,
the servo back in ACQUIRE where a source is set, and what waits on device time acts (R389). -/
def State.stepTime (s : State) (u : Nat) : State :=
  let old := s.devNs
  let oldSec := s.time.sec
  let oldNs := s.time.ns
  let t : TimeSt := s.time.ofUnits u
  let pre : Option (Nat × Nat) := if s.time.preStep.any fun p => p.1 == s.now then s.time.preStep else some (s.now, s.time.units)
  let s1 : State := { s with time := { t with steps := s.time.steps + 1, lockRun := 0, preStep := pre } }
  let new := s1.devNs
  let s2 := (s1.addSat F.TIME_STAT_STEPS 1).countAt 0xd00 Ev.TIME_STEP 1
  let s3 := s2.logReport Ev.TIME_STEP 0xd00 0 (oldSec % 2 ^ 32) oldNs
  let s4 := if s3.get F.TIME_STAT_SERVO ≠ 0 then s3.put F.TIME_STAT_SERVO 1 else s3
  let s5 : State := { s4 with time := { s4.time with ppsLastSec := s4.ppsEdgesBy new } }
  (s5.markLate old new).glassStep old new

/-- The device time that a latch in this core clock takes: the one before a step of the same clock (R374). -/
def State.latched (s : State) : TimeSt :=
  match s.time.preStep with
  | some (c, u) => if c = s.now then s.time.ofUnits u else s.time
  | none => s.time

/-- TIME.LATCH.GO copies all 112 bits of device time (R374). -/
def State.latchTime (s : State) : State :=
  let t := s.latched
  s.puts [(F.TIME_NOW_SEC_HI_SEC_HI, t.sec / 2 ^ 32), (F.TIME_NOW_SEC_LO_SEC_LO, t.sec),
    (F.TIME_NOW_NS_NS, t.ns), (F.TIME_NOW_FRAC_FRAC, t.frac)]

/-- The time that TIME.CMD.SET sets, in ns. -/
def State.setTarget (s : State) : Nat :=
  (s.get F.TIME_SET_SEC_HI_SEC_HI * 2 ^ 32 + s.get F.TIME_SET_SEC_LO_SEC_LO) * 1000000000 + s.get F.TIME_SET_NS_NS

/-- A step by host command: remembered for the samples of its core clock (R375, R379). -/
def State.hostStep (s : State) (u : Nat) : State :=
  let s1 := s.stepTime u
  { s1 with time := { s1.time with hostStepAt := some s.now } }

/-- TIME.CMD.SET (R375). -/
def State.timeSet (s : State) : State := s.hostStep (s.setTarget * 2 ^ 56)

/-- Device time moved by ADJ_NS, in units of 2^-56 ns, before it is held to its range. -/
def State.adjTarget (s : State) : Int := (s.time.units : Int) + s.gets F.TIME_ADJ_NS_ADJ_NS * (2 ^ 56 : Nat)

/-- TIME.CMD.ADJ (R375). -/
def State.timeAdj (s : State) : State := s.hostStep s.adjTarget.toNat

/-! ### The servo (R376 to R379) -/

/-- `n ÷ d` rounded to nearest, ties away from zero (R377). -/
def roundAway (n : Int) (d : Nat) : Int :=
  if n < 0 then -((((-n).toNat * 2 + d) / (2 * d) : Nat) : Int) else ((n.toNat * 2 + d) / (2 * d) : Nat)

/-- SLEW_MAX in 2^-40 ppb. -/
def State.slewMax (s : State) : Int := (s.get F.TIME_SLEW_SLEW_MAX : Int) * (2 ^ 40 : Nat)

/-- FREQ_ADJ that cancels `y`, in 2^-40 ppb: −round(y × 10^-9 × 2^40). -/
def freqFor (y : Int) : Int := -(roundAway y 1000000000)

/-- SERVO enters LOCKED, which is logged as a change of state (R378, R521). -/
def State.servoLocked (s : State) : State :=
  let s1 := s.put F.TIME_STAT_SERVO 2
  s1.logState 0xd00104 (s.word 0xd00104).toNat (s1.word 0xd00104).toNat

/-- The sample falls on a state in which the servo discards it (R379). -/
def State.sampleDropped (s : State) (x16 : Int) (epoch : Nat) : Bool :=
  decide (epoch ≠ s.time.steps) || s.time.hostStepAt == some s.now || s.get F.TIME_STAT_SERVO == 0
  || (s.on F.TIME_CTL_STEP_EN && decide ((s.get F.TIME_STEPTH_STEP_NS : Int) * 65536 < |x16|)
      && decide ((s.time.units : Int) - x16 * (2 ^ 40 : Nat) < 0))

/-- The state the servo takes on an applied sample without a step (R378). -/
def State.sampleServo (s : State) (x16 : Int) : State :=
  if |x16| ≤ (s.get F.TIME_LOCK_LOCK_NS : Int) * 65536 then
    let run := s.time.lockRun + 1
    let s1 : State := { s with time := { s.time with lockRun := run } }
    if s.get F.TIME_STAT_SERVO = 3 then s1.put F.TIME_STAT_SERVO 1
    else if s.get F.TIME_STAT_SERVO = 1 ∧ 8 ≤ run then s1.servoLocked else s1
  else
    let s1 : State := { s with time := { s.time with lockRun := 0 } }
    s1.put F.TIME_STAT_SERVO 1

/-- A sample of offset `x16`, in 2^-16 ns, formed from timestamps taken after `epoch` steps (R377). -/
def State.servoSample (s : State) (x16 : Int) (epoch : Nat) : State :=
  if s.sampleDropped x16 epoch then s.countAt 0xd00 Ev.TIME_SAMPLE_DROP 1
  else
    let s0 : State := { s with time := { s.time with lastSample := s.now } }
    let s1 := (s0.countAt 0xd00 Ev.TIME_SAMPLE 1).puti F.TIME_LASTOFS_NS
      (clampInt (-2147483648) 2147483647 (x16 / 65536))
    if s1.on F.TIME_CTL_STEP_EN ∧ (s1.get F.TIME_STEPTH_STEP_NS : Int) * 65536 < |x16| then
      s1.stepTime ((s1.time.units : Int) - x16 * (2 ^ 40 : Nat)).toNat
    else
      let x : Int := x16 * (2 ^ 24 : Nat)
      let m := s1.slewMax
      let acc := clampInt (-m) m (s1.time.acc + x / (2 ^ s1.get F.TIME_SERVO_KI : Nat))
      let y := clampInt (-m) m (x / (2 ^ s1.get F.TIME_SERVO_KP : Nat) + acc)
      let s2 : State := { s1 with time := { s1.time with acc := acc } }
      (s2.puti F.TIME_FREQ_FREQ_ADJ (freqFor y)).sampleServo x16

/-- A sample arrives.  The servo takes it at the end of the core clock, when it stands whether a host step fell in that
clock, before or after the sample (R375, R379). -/
def State.sampleArrives (s : State) (x16 : Int) (epoch : Nat) : State :=
  { s with time := { s.time with samples := s.time.samples ++ [(x16, epoch)] } }

/-- The samples of the core clock that ends are taken, in the order in which they arrived. -/
def State.samplesClose (s : State) : State :=
  s.time.samples.foldl (fun t x => t.servoSample x.1 x.2) { s with time := { s.time with samples := [] } }

/-- SERVO_HOLDOVER: no sample for HOLD_MS in ACQUIRE or LOCKED (R377). -/
def State.servoHoldover (s : State) : State :=
  if !s.mgmt.spcDown ∧ s.time.samples = [] ∧ (s.get F.TIME_STAT_SERVO = 1 ∨ s.get F.TIME_STAT_SERVO = 2) ∧
      s.passed s.time.lastSample (msClocks (s.get F.TIME_LOCK_HOLD_MS)) then
    let s1 : State := { s with time := { s.time with lockRun := 0 } }
    (((s1.puti F.TIME_FREQ_FREQ_ADJ (freqFor s1.time.acc)).put F.TIME_STAT_SERVO 3).countAt 0xd00 Ev.TIME_HOLDOVER 1).logReport
      Ev.TIME_HOLDOVER 0xd00 0 0 0
  else s

/-- TIME.CTL.SRC changed (R376, R378): the servo restarts in ACQUIRE, or FREE for source 0. -/
def State.srcChanged (s : State) : State :=
  let s1 : State := { s with time := { s.time with
    lockRun := 0, lastSample := s.now, syncValid := false, syncWait := false, dreqSeq := none } }
  s1.put F.TIME_STAT_SERVO (if s.get F.TIME_CTL_SRC = 0 then 0 else 1)

/-- The block's own checks on a write of a TIME register: `w` is the word that would stand (R375,
R376, R392). -/
def State.timeCheck (s : State) (o w : Nat) : Nat :=
  match o with
  | 0x100 => if w / 2 ^ 30 = 1 ∧ ¬ s.isPort (nfield w 25 16) then Rej.RANGE else 0
  | 0x12c =>
    if nbit w 31 = 1 ∧ nbit w 30 = 1 then Rej.RANGE
    else if nbit w 30 = 1 ∧ (s.adjTarget < 0 ∨ ((2 ^ 64 * 1000000000 * 2 ^ 56 : Nat) : Int) ≤ s.adjTarget) then Rej.RANGE
    else 0
  | 0x134 =>
    if s.get F.TIME_CTL_SRC ≠ 0 then Rej.BUSY
    else if s.slewMax < |toSigned 32 w| * 1000000000 then Rej.RANGE else 0
  | 0x138 => if s.get F.TIME_CTL_SRC ≠ 3 then Rej.BUSY else 0
  | 0x13c => if s.get F.TIME_CTL_SRC ≠ 3 then Rej.BUSY else 0
  | _ => 0

/-- What an accepted write of a TIME register starts: `w` as written, `old` the word before it. -/
def State.timeAct (s : State) (o w old : Nat) : State :=
  match o with
  | 0x100 => if w / 2 ^ 30 ≠ old / 2 ^ 30 then s.srcChanged else s
  | 0x108 => if w % 2 = 1 then s.latchTime else s
  | 0x12c => if nbit w 31 = 1 then s.timeSet else if nbit w 30 = 1 then s.timeAdj else s
  | 0x13c => s.sampleArrives (s.gets F.TIME_OFFS_NS_NS * 65536 + (s.get F.TIME_OFFS_FRAC_FRAC : Int)) s.time.steps
  | _ => s

/-! ### Pulse per second (R386, R387) -/

/-- Whether pulses leave: PPSOUT_EN, and with PPS_GATE only in LOCKED or HOLDOVER. -/
def State.ppsAllowed (s : State) : Bool :=
  s.on F.TIME_CTL_PPSOUT_EN && (!s.on F.TIME_CTL_PPS_GATE || decide (2 ≤ s.get F.TIME_STAT_SERVO))

/-- Whether an edge has been sent. -/
def TimeSt.ppsWasSent (t : TimeSt) (n : Nat) : Bool := t.ppsSent.any fun r => decide (r.1 ≤ n) && decide (n ≤ r.2)

/-- An edge sent joins the runs of edges sent. -/
def TimeSt.ppsSend (t : TimeSt) (n : Nat) : List (Nat × Nat) :=
  match t.ppsSent with
  | (a, b) :: rest => if b + 1 = n then (a, n) :: rest else (n, n) :: (a, b) :: rest
  | [] => [(n, n)]

/-- PPS_OUT_EDGE: device time has reached the next whole second plus the offset; an edge is sent once, whatever steps come
between, and an edge at which pulses are not allowed passes unsent. -/
def State.ppsOutEdge (s : State) : State :=
  let by_ := s.ppsEdgesBy s.devNs
  if by_ ≤ s.time.ppsLastSec then s
  else
    let s1 : State := { s with time := { s.time with ppsLastSec := by_ } }
    if s.ppsAllowed ∧ !s.time.ppsWasSent by_ then
      ({ s1 with time := { s1.time with ppsSent := s1.time.ppsSend by_, ppsHighSince := some s.now } }).emit (.pin "PPS_OUT" true)
    else s1

/-- PPS_OUT_FALL: WIDTH_US after the rise. -/
def State.ppsOutFall (s : State) : State :=
  match s.time.ppsHighSince with
  | none => s
  | some t =>
    if s.passed t (usClocks (s.get F.TIME_PPSOUT_WIDTH_US)) then
      ({ s with time := { s.time with ppsHighSince := none } }).emit (.pin "PPS_OUT" false)
    else s

/-- The sample of an accepted edge captured at `sec`, `ns` in source PPS (R387), in ns. -/
def State.ppsSample (s : State) (sec ns : Nat) : Int :=
  if s.on F.TIME_NEXTSEC_VALID then
    ((sec : Int) - (s.get F.TIME_NEXTSEC_SEC : Int)) * 1000000000 + (ns : Int)
  else if ns < 500000000 then (ns : Int) else (ns : Int) - 1000000000

/-- PPS_IN_EDGE: stamped less DELAY_NS; ignored within 0.9 s of the last accepted edge (R387). -/
def State.ppsInEdge (s : State) : State :=
  let cap := s.dev16 - s.get F.TIME_PPSIN_DELAY_NS * 65536
  let glitch : Bool := match s.time.ppsInLast with
    | some t => decide (s.now < t + 1440000000)
    | none => false
  if glitch then s.countAt 0xd00 Ev.TIME_PPS_GLITCH 1
  else
    let sec := cap / 65536 / 1000000000
    let ns := cap / 65536 % 1000000000
    let s1 : State := { s with time := { s.time with ppsInLast := some s.now } }
    let s2 := (s1.countAt 0xd00 Ev.TIME_PPS_IN 1).puts [(F.TIME_PPSIN_COUNT, s.get F.TIME_PPSIN_COUNT + 1),
      (F.TIME_PPSIN_SEC_SEC_LO, sec), (F.TIME_PPSIN_NS_NS, ns), (F.TIME_PPSIN_FRAC_FRAC, cap % 65536)]
    if s.get F.TIME_CTL_SRC ≠ 2 then s2
    else
      let x := s.ppsSample sec ns * 65536 + ((cap % 65536 : Nat) : Int)
      let s3 := if s.on F.TIME_NEXTSEC_VALID then s2.put F.TIME_NEXTSEC_SEC (s.get F.TIME_NEXTSEC_SEC + 1) else s2
      s3.sampleArrives x s3.time.steps

/-! ### The commands -/

def execServoHoldover (s : State) : Out := finish s s.servoHoldover
def execPpsOutEdge (s : State) : Out := finish s s.ppsOutEdge
def execPpsOutFall (s : State) : Out := finish s s.ppsOutFall
def execPpsInEdge (s : State) : Out := finish s s.ppsInEdge

end Sys2Proof.Machine
end

