-- ==== Sys2Proof/Machine/Operands.lean ====
section
/-! DEFINITION. The operand forms: packets and their header fields (chapter 3), endpoint IDs, element
formats, the ordered header checks, and the headers of packets the part originates. -/

namespace Sys2Proof.Machine

/-! ### Fields of frames (R57, R63, R70, R75, R77) -/

/-- PROTO: 0 link control, 1 DFP, 2 Lenson, 3 Ethernet (R57). -/
def pProto (b : List Byte) : Nat := hbits b 0 1
/-- The VC of protocols 1 to 3, bits 2 to 4. -/
def pVc (b : List Byte) : Nat := hbits b 2 4
/-- TYPE of a DFP packet. -/
def pType (b : List Byte) : Nat := hbits b 5 7
/-- The route epoch bit E, of every protocol (R65). -/
def pE (b : List Byte) : Nat := hbits b 8 8
/-- O of a DFP packet (R66). -/
def pO (b : List Byte) : Nat := hbits b 9 9
/-- CLASS of each protocol. -/
def pClass (b : List Byte) : Nat :=
  match pProto b with
  | 1 => hbits b 10 12
  | 2 => hbits b 109 111
  | _ => hbits b 5 7
/-- DEST of a DFP packet. -/
def pDest (b : List Byte) : Nat := hbits b 16 35
/-- SRC of a DFP packet. -/
def pSrc (b : List Byte) : Nat := hbits b 36 55
/-- HOPS of each protocol (R67, R75, R77). -/
def pHops (b : List Byte) : Nat :=
  match pProto b with
  | 1 => hbits b 56 59
  | 2 => hbits b 112 115
  | _ => hbits b 28 31
/-- LEN of a DFP or Lenson packet. -/
def pLen (b : List Byte) : Nat := if pProto b = 2 then hbits b 96 108 else hbits b 64 76
/-- FLOW of a DFP packet. -/
def pFlow (b : List Byte) : Nat := hbits b 80 95
/-- TAG of a DFP packet. -/
def pTag (b : List Byte) : Nat := hbits b 96 127
/-- CHIP, SRCCHIP of a Lenson packet. -/
def pChip (b : List Byte) : Nat := hbits b 16 31
def pSrcChip (b : List Byte) : Nat := hbits b 80 95
/-- DEFVID of an Ethernet frame's prefix. -/
def pDefVid (b : List Byte) : Nat := hbits b 16 27

/-- Fields of the chunk header, which starts at byte 16 (R70). -/
def cPart (b : List Byte) : Nat := hbits b 128 143
def cComm (b : List Byte) : Nat := hbits b 144 159
def cSeq (b : List Byte) : Nat := hbits b 160 191
def cIdx (b : List Byte) : Nat := hbits b 192 223
def cContrib (b : List Byte) : Nat := hbits b 224 233
def cReplica (b : List Byte) : Nat := hbits b 234 239
def cFmt (b : List Byte) : Nat := hbits b 240 243
def cSub (b : List Byte) : Nat := hbits b 244 247

/-- Bytes of headers before the payload. -/
def pHeaderLen (b : List Byte) : Nat :=
  match pProto b with
  | 1 => if pType b = 4 ∨ pType b = 5 then 32 else 16
  | 2 => 16
  | _ => 4

/-- The payload: what follows the last header. -/
def pPayload (b : List Byte) : List Byte := b.drop (pHeaderLen b)

/-! ### Endpoint IDs (R58, R59, R61) -/

/-- KIND of an endpoint ID. -/
def epKind (e : Nat) : Nat := e / 2 ^ 18 % 4
/-- LEAF or SPINE of an endpoint ID. -/
def epLeaf (e : Nat) : Nat := e / 256 % 1024
/-- PORT or FUNC of an endpoint ID. -/
def epFunc (e : Nat) : Nat := e % 256
/-- An endpoint ID from its parts. -/
def epId (kind leaf func : Nat) : Nat := kind * 2 ^ 18 + leaf * 256 + func

/-- The number of leaves P × Q of the grid (R59, R93). -/
def State.gridSize (s : State) : Nat := s.get F.FWDID_GRID_PODS * s.get F.FWDID_GRID_PERPOD

/-- The VC on which packets to a spine function travel; none for a reserved FUNC (R61). -/
def funcVc (func : Nat) : Option Nat :=
  match func with
  | 0x00 => some 0
  | 0x01 => some 0
  | 0x02 => some 0
  | 0x10 => some 4
  | _ => none

/-! ### Element formats (R71) -/

/-- The element unit of a format: bytes, and elements in it; none for reserved codes. -/
def fmtUnit (fmt : Nat) : Option (Nat × Nat) :=
  match fmt with
  | 0x0 => some (4, 1)
  | 0x1 => some (2, 1)
  | 0x2 => some (2, 1)
  | 0x3 => some (1, 1)
  | 0x4 => some (2, 1)
  | 0x5 => some (4, 1)
  | 0x6 => some (8, 1)
  | 0x7 => some (1, 1)
  | 0x8 => some (1, 2)
  | 0x9 => some (17, 16)
  | 0xa => some (9, 16)
  | _ => none

/-! ### Ethernet (R78, R79) -/

/-- The MAC frame behind the prefix. -/
def ethFrame (b : List Byte) : List Byte := b.drop 4

/-- The first EtherType. -/
def ethType (b : List Byte) : Nat := beNat (slice (ethFrame b) 12 2)

/-- The VID of the first tag, where there is one. -/
def ethTagVid (b : List Byte) : Nat := beNat (slice (ethFrame b) 14 2) % 4096

/-- The VID used for lookups (R78). -/
def ethVid (b : List Byte) : Nat :=
  if (ethType b = 0x8100 ∨ ethType b = 0x88a8) ∧ ethTagVid b ≠ 0 then ethTagVid b else pDefVid b

/-- Destination and source MAC addresses as numbers, first transmitted byte most significant. -/
def ethDst (b : List Byte) : Nat := beNat (slice (ethFrame b) 0 6)
def ethSrc (b : List Byte) : Nat := beNat (slice (ethFrame b) 6 6)

/-- One bit of the reflected IEEE 802.3 division. -/
def fcsBit (c : Nat) : Nat := if c % 2 = 1 then (c / 2) ^^^ 0xedb88320 else c / 2

/-- The IEEE 802.3 frame check of bytes.  PRESUMED: the standard's polynomial, which R79 names only
as the FCS. -/
def ethFcs (bs : List Byte) : Nat :=
  (bs.foldl (fun c b => fcsBit (fcsBit (fcsBit (fcsBit (fcsBit (fcsBit (fcsBit (fcsBit (c ^^^ b.toNat)))))))))
    0xffffffff) ^^^ 0xffffffff

/-- The FCS of a frame is right: its last four bytes are the check of those before. -/
def ethFcsOk (b : List Byte) : Bool :=
  let f := ethFrame b
  decide (4 ≤ f.length) && leNat (f.drop (f.length - 4)) == ethFcs (f.take (f.length - 4))

/-! ### The ordered header checks (R83) -/

/-- Check 2: the VC is allowed for the protocol, and TYPE and VC agree (R57, R64). -/
def hdrTypeOk (b : List Byte) : Bool :=
  match pProto b with
  | 1 => decide (pType b = pVc b) && decide (pType b ≤ 6)
  | 2 => decide (pVc b = 2) || decide (pVc b = 3)
  | 3 => decide (pVc b = 7)
  | _ => false

/-- Check 4: whole headers, LEN the true length and at most 4,096, and the chunk length rules
(R68, R71, R72, R76).  A chunk whose FMT is reserved has no unit, and SUB 0x8 is held to the units too, whatever the TYPE:
the model's choices (log entry 189). -/
def hdrLenOk (b : List Byte) : Bool :=
  if pProto b = 3 then decide (4 ≤ b.length)
  else
    decide (pHeaderLen b ≤ b.length)
    && decide (pLen b = b.length - pHeaderLen b) && decide (pLen b ≤ 4096)
    && (decide (pProto b ≠ 1) || decide (pHeaderLen b ≠ 32)
        || (match cSub b with
            | 0x1 => decide (pLen b = 0)
            | 0x2 => decide (pLen b ≠ 0)
            | 0x0 => (match fmtUnit (cFmt b) with
                | some (u, _) => decide (pLen b ≠ 0) && decide (pLen b % u = 0)
                | none => true)
            | 0x8 => (match fmtUnit (cFmt b) with
                | some (u, _) => decide (pLen b ≠ 0) && decide (pLen b % u = 0)
                | none => true)
            | _ => true))

/-- Check 5: DEST (R59, R61, R82); not applied to TYPE TIME. -/
def State.hdrDestOk (s : State) (b : List Byte) : Bool :=
  if pProto b ≠ 1 ∨ pType b = 1 then true
  else
    let d := pDest b
    match epKind d with
    | 3 => decide (d / 2 ^ 16 % 4 = 0) && (decide (pType b = 2) || decide (pType b = 6))
    | 2 => s.on F.FWDID_SELF_VALID && decide (epLeaf d = s.get F.FWDID_SELF_SPINE)
        && (match funcVc (epFunc d) with
            | some v => decide (v = pVc b)
            | none => false)
    | _ => decide (epLeaf d < s.gridSize)

/-- Check 7: SUB belongs to TYPE CHUNK, and FMT of a CONTRIB is not reserved (R71, R72). -/
def hdrChunkOk (b : List Byte) : Bool :=
  if pProto b = 1 ∧ pType b = 4 then
    (match cSub b with
      | 0x0 => (fmtUnit (cFmt b)).isSome
      | 0x1 => true
      | 0x2 => true
      | _ => false)
  else true

/-- Check 9: R79 but for the FCS. -/
def State.hdrEthOk (s : State) (b : List Byte) : Bool :=
  if pProto b = 3 then
    let n := (ethFrame b).length
    decide (64 ≤ n) && decide (n ≤ s.get F.FWDID_ETHCFG_ETH_MAX) && decide (ethVid b ≠ 0xfff)
    && decide (pDefVid b ≠ 0xfff) && decide (nbit ((slice (ethFrame b) 6 1).headD 0).toNat 0 = 0)
  else true

/-- The first header check that a frame fails, by its code; 0 where it passes all (R83). -/
def State.headerCheck (s : State) (b : List Byte) : Nat :=
  if pVc b = 5 then 1
  else if ¬ hdrTypeOk b then 2
  else if pHops b ≠ 0 then 3
  else if ¬ hdrLenOk b then 4
  else if ¬ s.hdrDestOk b then 5
  else if pProto b = 1 ∧ 2 ≤ epKind (pSrc b) then 6
  else if ¬ hdrChunkOk b then 7
  else if pProto b = 2 ∧ pChip b = 0xffff then 8
  else if ¬ s.hdrEthOk b then 9
  else if pProto b = 3 ∧ ¬ ethFcsOk b then 10
  else 0

/-! ### What the part changes in transit (R86) -/

/-- HOPS set to 1 in a packet that the part sends (R67). -/
def setHops (b : List Byte) : List Byte :=
  match pProto b with
  | 1 => patch b 7 [BitVec.ofNat 8 (16 + hbits b 60 63)]
  | 2 => patch b 14 [BitVec.ofNat 8 (16 + hbits b 116 119)]
  | _ => patch b 3 [BitVec.ofNat 8 (hbits b 24 27 * 16 + 1)]

/-- The route epoch bit E of a packet that the part originates: the bank it is resolved in (R74, R89). -/
def setEpoch (b : List Byte) (e : Nat) : List Byte :=
  patch b 1 [BitVec.ofNat 8 (e * 128 + hbits b 9 15)]

/-! ### Headers of originated packets (R63, R70, R74, R382) -/

/-- A DFP base header's 16 bytes, RSV 0 and HOPS 1. -/
def dfpHeader (vc type e o cls dest src len flow tag : Nat) : List Byte :=
  beBytes 16 ((((((((((1 * 8 + vc) * 8 + type) * 2 + e) * 2 + o) * 8 + cls) * 8 * 2 ^ 20 + dest) * 2 ^ 20 + src) * 16 + 1)
    * 16 * 2 ^ 13 + len) * 8 * 2 ^ 16 * 2 ^ 32 + flow * 2 ^ 32 + tag)

/-- A chunk header's 16 bytes. -/
def chunkHeader (part comm seq idx contrib replica fmt sub flags : Nat) : List Byte :=
  beBytes 2 part ++ beBytes 2 comm ++ beBytes 4 seq ++ beBytes 4 idx
    ++ beBytes 2 (contrib * 64 + replica) ++ beBytes 1 (fmt * 16 + sub) ++ beBytes 1 flags

/-- SRC of the part's own packets: KIND 10, own SPINE, and a function (R58). -/
def State.selfId (s : State) (func : Nat) : Nat := epId 2 (s.get F.FWDID_SELF_SPINE) func

/-- The cells of 256 bytes that a stored length occupies (R131). -/
def cellsOf (len : Nat) : Nat := ceilDiv len 256

end Sys2Proof.Machine
end

