-- ==== Sys2Proof/Machine/Cistern.lean ====
section
/-! DEFINITION. The Cistern (chapter 5): cells and accounts, packets, credit return, egress queues,
lossy admission, token buckets, and the scheduler's decision. -/

namespace Sys2Proof.Machine

/-! ### Ports as the Cistern sees them -/

/-- A port's link. -/
def State.portSt (s : State) (p : Nat) : PortSt := SMap.get (fun _ => {}) s.ports p

/-- Hold a port's link. -/
def State.setPort (s : State) (p : Nat) (v : PortSt) : State :=
  { s with ports := SMap.set (fun _ => {}) s.ports p v }

/-- One VC of a port's link. -/
def State.vcSt (s : State) (p v : Nat) : VcSt := SMap.get (fun _ => {}) (s.portSt p).vcs v

/-- Hold one VC of a port's link. -/
def State.setVc (s : State) (p v : Nat) (x : VcSt) : State :=
  let ps := s.portSt p
  s.setPort p { ps with vcs := SMap.set (fun _ => {}) ps.vcs v x }

/-- Whether a port is UP (R356). -/
def State.portUp (s : State) (p : Nat) : Bool := s.get (F.LANE_PORTSTAT_STATE p) == 5

/-- Whether the Sluice freezes or has frozen a port: FREEZE of its page (R451, R452). -/
def State.portFrozen (s : State) (p : Nat) : Bool := s.on (F.COMMON_CTRL_FREEZE (0x100 + p))

/-- Lanes of a port of SPEED 1 to 4 (R344). -/
def speedLanes (speed : Nat) : Nat := if speed = 0 then 0 else 2 ^ (speed - 1)

/-- Lanes of a port. -/
def State.portLanes (s : State) (p : Nat) : Nat := speedLanes (s.get (F.LANE_PORTCFG_SPEED p))

/-- A port with a live path (R90): it exists, is UP, and the Sluice does not freeze it. -/
def State.portLive (s : State) (p : Nat) : Bool := s.isPort p && s.portUp p && !s.portFrozen p

/-! ### Token buckets (R50) -/

/-- The maximum frame size M_F of R50, in bytes. -/
def State.maxFrame (s : State) : Nat := max 4128 (s.get F.FWDID_ETHCFG_ETH_MAX + 4)

/-- Credit a bucket at `rate` Mb/s for the core clocks passed, up to `burst` bytes; tells whether
tokens were discarded. -/
def Bucket.credit (b : Bucket) (now rate burst : Nat) : Bucket × Bool :=
  let cap : Int := (burst * 12800 : Nat)
  let l := b.level + ((rate * (now - b.at_) : Nat) : Int)
  if cap < l then (⟨cap, now⟩, true) else (⟨l, now⟩, false)

/-- Debit bytes; a level below −M_F is clamped to it; tells whether it was. -/
def Bucket.debit (b : Bucket) (bytes mf : Nat) : Bucket × Bool :=
  let lo : Int := -((mf * 12800 : Nat) : Int)
  let l := b.level - ((bytes * 12800 : Nat) : Int)
  if l < lo then ({ b with level := lo }, true) else ({ b with level := l }, false)

/-- A bucket below −M_F, which a smaller ETH_MAX leaves it, is clamped to it at its next update; tells whether it was. -/
def Bucket.floor (b : Bucket) (mf : Nat) : Bucket × Bool :=
  let lo : Int := -((mf * 12800 : Nat) : Int)
  if b.level < lo then ({ b with level := lo }, true) else (b, false)

/-- Whether a bucket holds at least `bytes`. -/
def Bucket.holds (b : Bucket) (bytes : Nat) : Bool := decide (((bytes * 12800 : Nat) : Int) ≤ b.level)

/-- Count discarded tokens. -/
def State.weirDiscard (s : State) (d : Bool) : State := if d then s.countPages 0x800 1 Ev.WEIR_DISCARD 1 else s

/-- TOKEN_CLAMP with the bucket's instance (R50, R54). -/
def State.weirClamp (s : State) (c : Bool) (inst : Nat) : State := if c then s.book 5 inst none else s

/-! ### Cells (R46) and the pools' sizes (R132 to R134) -/

/-- Number of cells (R18). -/
def cellCount : Nat := 1048576

/-- A cell. -/
def State.cell (s : State) (c : Nat) : Cell := SMap.get (fun _ => {}) s.cis.cells c

/-- Hold a cell. -/
def State.setCell (s : State) (c : Nat) (v : Cell) : State :=
  { s with cis := { s.cis with cells := SMap.set (fun _ => {}) s.cis.cells c v } }

/-- The first `n` cells from `c` on that are FREE: those not listed, or listed and FREE. -/
def pickFree : SMap Cell → Nat → Nat → List Nat
  | [], c, n => (List.range (min n (cellCount - c))).map (c + ·)
  | (k, x) :: m, c, n =>
    let gap := min n (k - c)
    (List.range gap).map (c + ·)
      ++ (if n ≤ gap then []
          else if x.st = .free then k :: pickFree m (k + 1) (n - gap - 1)
          else pickFree m (k + 1) (n - gap))

/-- Cells in a state other than FREE. -/
def State.cellsUsed (s : State) : Nat :=
  (s.cis.cells.filter fun (x : Nat × Cell) => decide (x.2.st ≠ .free)).length

/-- Cells in state FREE (R158). -/
def State.cellsFree (s : State) : Nat := cellCount - s.cellsUsed

/-- Cells in state RETIRED. -/
def State.cellsRetired (s : State) : Nat :=
  (s.cis.cells.filter fun (x : Nat × Cell) => decide (x.2.st = .retired)).length

/-- Σ G_v of a headroom entry's words W1 and W2 (R135). -/
def headSum (w1 w2 : Nat) : Nat :=
  nfield w1 7 0 + nfield w1 15 8 + nfield w1 23 16 + nfield w1 31 24 + nfield w2 7 0 + nfield w2 15 8

/-- The reservation R_p that headroom words give a port of `n` lanes (R135). -/
def headReserve (h : Nat × Nat × Nat) (n : Nat) : Nat := nfield h.1 11 0 * n + headSum h.2.1 h.2.2

/-- The headroom entry of a port as its words stand in the window (R138). -/
def State.headStaged (s : State) (p : Nat) : Nat × Nat × Nat :=
  ((s.word (0x03120000 + 16 * p)).toNat, (s.word (0x03120004 + 16 * p)).toNat, (s.word (0x03120008 + 16 * p)).toNat)

/-- The headroom entry at reset (R138). -/
def headReset : Nat × Nat × Nat := (0x240, 0x20200211, 0x1120)

/-- The headroom entry in force on a port. -/
def State.headInForce (s : State) (p : Nat) : Nat × Nat × Nat := ((s.portSt p).headActive).getD headReset

/-- The reservation at which a port counts: the larger of active and staged (R132). -/
def State.portReserve (s : State) (p : Nat) : Nat :=
  if s.isPort p then
    max (headReserve (s.headInForce p) (s.portLanes p)) (headReserve (s.headStaged p) (s.portLanes p))
  else 0

/-- Σ R_p over the ports that exist. -/
def State.reserveSum (s : State) : Nat := (List.range 1024).foldl (fun n p => n + s.portReserve p) 0

/-- What the identity of R132, with DEBT (R134), leaves for LOSSY_CELLS; negative where it breaks. -/
def State.lossyLeft (s : State) : Int :=
  ((cellCount + s.get F.CISCFG_DEBT_CELLS : Nat) : Int)
    - ((s.reserveSum + s.get F.CISCFG_POOL_VC5_CELLS + s.get F.CISCFG_ORIG_ORIG_CELLS + 800 + s.cellsRetired : Nat) : Int)

/-- Hold LOSSY_CELLS and LOW (R132, R133). -/
def State.setLossy (s : State) (n : Nat) : State :=
  s.puts [(F.CISCFG_LOSSY_LOSSY_CELLS, n), (F.CISCFG_LOSSY_LOW, if n < 4096 then 1 else 0)]

/-- Recompute LOSSY_CELLS from the identity; cells that reductions release pay DEBT first (R134). -/
def State.recomputeLossy (s : State) : State :=
  let debt := s.get F.CISCFG_DEBT_CELLS
  -- the identity without DEBT: what the pools leave, below 0 by the debt that remains
  let left := s.lossyLeft - (debt : Int)
  if 0 ≤ left then (s.put F.CISCFG_DEBT_CELLS 0).setLossy left.toNat
  else (s.put F.CISCFG_DEBT_CELLS (-left).toNat).setLossy 0

/-- A cell becomes RETIRED (R46, R133, R134, R489). -/
def State.retireCell (s : State) (c : Nat) : State :=
  let s1 := (s.setCell c { st := .retired, bad := true }).culletAppend 1 1 c
  let lossy := s1.get F.CISCFG_LOSSY_LOSSY_CELLS
  let vc5 := s1.get F.CISCFG_POOL_VC5_CELLS
  if 0 < lossy then s1.setLossy (lossy - 1)
  else if 68 < vc5 then s1.put F.CISCFG_POOL_VC5_CELLS (vc5 - 1)
  else
    (s1.put F.CISCFG_DEBT_CELLS (s1.get F.CISCFG_DEBT_CELLS + 1)).logState 0x700114
      (s1.get F.CISCFG_DEBT_CELLS) (s1.get F.CISCFG_DEBT_CELLS + 1)

/-! ### What the present core clock has released (R143) -/

/-- What the present core clock has released so far. -/
def State.freedNow (s : State) : Freed :=
  if s.cis.freed.clock = s.now then s.cis.freed else { clock := s.now }

/-- Hold it. -/
def State.setFreed (s : State) (x : Freed) : State := { s with cis := { s.cis with freed := x } }

/-- Cells of an account that a packet shares are released. -/
def State.noteAccount (s : State) (a : Account) (n : Nat) : State :=
  let x := s.freedNow
  match a with
  | .port _ _ => s
  | .lossy => s.setFreed { x with lossy := x.lossy + n }
  | .vc5 => s.setFreed { x with vc5 := x.vc5 + n }
  | .origin => s.setFreed { x with origin := x.origin + n }

/-- A cell returns to FREE through RELEASING, and is taken again from the next core clock on; one in which an
uncorrectable error was found is then RETIRED instead. -/
def State.freeCell (s : State) (c : Nat) : State :=
  if (s.cell c).bad then s.retireCell c
  else (s.setCell c {}).setFreed { s.freedNow with cells := c :: s.freedNow.cells }

/-- The cells as this core clock's writers see them: what it has released is not yet FREE. -/
def State.cellsSeen (s : State) : SMap Cell :=
  s.freedNow.cells.foldl (fun m c => SMap.set (fun _ => {}) m c { st := .releasing }) s.cis.cells

/-- The cells that `n` more of them would take, and whether there are so many. -/
def State.freeCells (s : State) (n : Nat) : List Nat := pickFree s.cellsSeen 0 n
def State.hasCells (s : State) (n : Nat) : Bool := (s.freeCells n).length == n

/-- An entry of `n` cells leaves QUEUE[p][q]; `vc7` where it is a VC7 frame's. -/
def State.noteQueue (s : State) (p q n : Nat) (vc7 : Bool) : State :=
  let x := s.freedNow
  s.setFreed { x with
    queue := SMap.set (fun _ => 0) x.queue (64 * p + q) (SMap.get (fun _ => 0) x.queue (64 * p + q) + n)
    port := if vc7 then SMap.set (fun _ => 0) x.port p (SMap.get (fun _ => 0) x.port p + n) else x.port }

/-! ### Packets -/

/-- A packet. -/
def State.pkt? (s : State) (i : Nat) : Option Pkt := SMap.get (fun _ => none) s.cis.pkts i

/-- Hold a packet. -/
def State.setPkt (s : State) (i : Nat) (v : Option Pkt) : State :=
  { s with cis := { s.cis with pkts := SMap.set (fun _ => none) s.cis.pkts i v } }

/-- Change a packet. -/
def State.modPkt (s : State) (i : Nat) (f : Pkt → Pkt) : State :=
  match s.pkt? i with
  | some k => s.setPkt i (some (f k))
  | none => s

/-- Place a packet in free cells: its number, or none where too few are FREE. -/
def State.newPkt (s : State) (k : Pkt) : Option (Nat × State) :=
  let need := cellsOf k.bytes.length
  let cs := s.freeCells need
  if cs.length < need then none
  else
    let s1 := cs.foldl (fun t c => t.setCell c { st := .allocated, walk := t.cis.walk }) s
    let i := s1.cis.nextPkt
    let s2 : State := { s1 with cis := { s1.cis with nextPkt := i + 1 } }
    some (i, s2.setPkt i (some { k with cells := cs }))

/-- Cells charged to an account. -/
def State.charged (s : State) (a : Account) : Nat :=
  s.cis.pkts.foldl (fun n (x : Nat × Option Pkt) =>
    match x.2 with
    | some k => if k.acct = a then n + k.cells.length else n
    | none => n) 0

/-- Cells charged to an account as this core clock's admissions see it (R143). -/
def State.chargedSeen (s : State) (a : Account) : Nat :=
  s.charged a + (match a with
    | .port _ _ => 0
    | .lossy => s.freedNow.lossy
    | .vc5 => s.freedNow.vc5
    | .origin => s.freedNow.origin)

/-- Cells in a port's account on one VC (R159). -/
def State.portHolds (s : State) (p v : Nat) : Nat := s.charged (.port p v)

/-- Cells in a port's account. -/
def State.portHeld (s : State) (p : Nat) : Nat :=
  s.cis.pkts.foldl (fun n (x : Nat × Option Pkt) =>
    match x.2 with
    | some k => (match k.acct with
        | .port q _ => if q = p then n + k.cells.length else n
        | _ => n)
    | none => n) 0

/-- Credit of `n` cells returns to the sender on a VC (R137, R352). -/
def State.returnCredit (s : State) (p v n : Nat) : State :=
  let x := s.vcSt p v
  if n = 0 then s
  else s.setVc p v { x with
    returned := (x.returned + n) % 2 ^ 32
    unsentSince := match x.unsentSince with
      | some t => some t
      | none => some s.now }

/-- A packet's cells free, and the credit of its port account returns (R84, R137). -/
def State.releasePkt (s : State) (i : Nat) : State :=
  match s.pkt? i with
  | none => s
  | some k =>
    let s1 := k.cells.foldl State.freeCell (s.setPkt i none)
    match k.acct with
    | .port p v => s1.returnCredit p v k.cells.length
    | a => s1.noteAccount a k.cells.length

/-- A packet that a consumer held is consumed, where it has cells. -/
def State.consume (s : State) (i : Option Nat) : State := i.elim s s.releasePkt

/-- One reference to a packet's cells is dropped; at zero they free (R48). -/
def State.unref (s : State) (i : Nat) : State :=
  match s.pkt? i with
  | none => s
  | some k =>
    let s1 := s.setPkt i (some { k with refs := k.refs - 1 })
    if k.refs ≤ 1 then s1.releasePkt i else s1

/-- One more reference (R48). -/
def State.addRef (s : State) (i : Nat) : State := s.modPkt i fun k => { k with refs := k.refs + 1 }

/-- Credit of a frame of which nothing enters the Cistern: dropped by a check before it holds a cell
(R84, R92). -/
def State.returnFrame (s : State) (p v len : Nat) : State := s.returnCredit p v (cellsOf len)

/-! ### Queues (R144, R145) -/

/-- QUEUE[p][q]. -/
def State.queue (s : State) (p q : Nat) : QueueSt := SMap.get (fun _ => {}) s.cis.queues (64 * p + q)

/-- Hold QUEUE[p][q]. -/
def State.setQueue (s : State) (p q : Nat) (v : QueueSt) : State :=
  { s with cis := { s.cis with queues := SMap.set (fun _ => {}) s.cis.queues (64 * p + q) v } }

/-- Cells of the packet an entry references. -/
def State.entCells (s : State) (e : QEnt) : Nat :=
  match s.pkt? e.pkt with
  | some k => k.cells.length
  | none => 0

/-- Occupancy of a queue in cells (R140: each entry counts its packet's cells). -/
def State.queueCells (s : State) (p q : Nat) : Nat :=
  (s.queue p q).ents.foldl (fun n e => n + s.entCells e) 0

/-- The queue that the port's map names for a VC and CLASS (R144). -/
def State.queueOf (s : State) (p vc cls : Nat) : Nat := s.byteAt (0x03100000 + 64 * p + 8 * vc + cls) % 64

/-- An entry has left QUEUE[p][q], whose cells admission counts until the next core clock (R143). -/
def State.leftQueue (s : State) (p q : Nat) (e : QEnt) : State :=
  match s.pkt? e.pkt with
  | some k => s.noteQueue p q k.cells.length (pVc k.bytes == 7)
  | none => s

/-- The packet at the head of a queue. -/
def State.headPkt (s : State) (p q : Nat) : Option (QEnt × Pkt) :=
  match (s.queue p q).ents with
  | [] => none
  | e :: _ => (s.pkt? e.pkt).map fun k => (e, k)

/-! ### The rule of a sender (R136) -/

/-- C, G and H as the peer advertised them (R357); G of VC7 is 0. -/
def State.peerG (s : State) (p v : Nat) : Nat :=
  if v = 7 then 0
  else if v < 4 then nfield (s.word (0x100124 + 0x1000 * p)).toNat (31 - 8 * v) (24 - 8 * v)
  else nfield (s.word (0x100128 + 0x1000 * p)).toNat (63 - 8 * v) (56 - 8 * v)

/-- The credit pool C of a VC toward the leaf (R357). -/
def State.peerC (s : State) (p v : Nat) : Nat :=
  if nbit (s.get (F.LANE_PEERADV0_ACCEPT p)) (7 - v) = 1 then s.peerG p v + s.get (F.LANE_PEERADV0_H p) else 0

/-- out_v − G_v, held at 0, after `k` more cells on VC `w`. -/
def State.overGuarantee (s : State) (p w k v : Nat) : Nat :=
  (s.peerC p v + (if v = w then k else 0)) - (s.vcSt p v).credits - s.peerG p v

/-- Whether a packet of `k` cells may start on VC `v` of a port (R136). -/
def State.mayStart (s : State) (p v k : Nat) : Bool :=
  decide (k ≤ (s.vcSt p v).credits)
  && decide ((List.range 8).foldl (fun n u => n + s.overGuarantee p v k u) 0 ≤ s.get (F.LANE_PEERADV0_H p))

/-- Whether the head of a queue can start toward the leaf. -/
def State.headMayStart (s : State) (p q : Nat) : Bool :=
  match s.headPkt p q with
  | some (_, k) => s.portUp p && s.mayStart p (pVc k.bytes) k.cells.length
  | none => false

/-- The stall clock of one queue after a change (R157): it runs while the same head is blocked by
condition 2 of R147. -/
def State.markQueue (s : State) (p q : Nat) : State :=
  let x := s.queue p q
  match x.ents with
  | [] => if x.blockedSince = none then s else s.setQueue p q { x with blockedSince := none, blockedHead := 0 }
  | e :: _ =>
    if s.headMayStart p q then
      if x.blockedSince = none then s else s.setQueue p q { x with blockedSince := none, blockedHead := 0 }
    else if x.blockedSince ≠ none ∧ x.blockedHead = e.seq then s
    else s.setQueue p q { x with blockedSince := some s.now, blockedHead := e.seq }

/-- The listed queues of a port, by index. -/
def State.usedQueues (s : State) (p : Nat) : List Nat :=
  (s.cis.queues.filter fun (x : Nat × QueueSt) => x.1 / 64 == p).map fun (x : Nat × QueueSt) => x.1 % 64

/-- The stall clocks of a port's queues after a change of its credit or its heads. -/
def State.markPort (s : State) (p : Nat) : State := (s.usedQueues p).foldl (fun t q => t.markQueue p q) s

/-! ### Launch times (R155, R390) -/

/-- Whether device time has reached a launch time, SEC in serial arithmetic (R390). -/
def State.launchDue (s : State) (l : Nat) : Bool :=
  let d := (s.time.sec + 2 ^ 32 - l / 2 ^ 32 % 2 ^ 32) % 2 ^ 32
  if d = 0 then decide (l % 2 ^ 30 ≤ s.time.ns) else decide (d < 2 ^ 31)

/-- A packet has reached the head of a queue: a launch time already past is counted (R390). -/
def State.lateHead (s : State) (p q : Nat) : State :=
  match s.headPkt p q with
  | some (_, k) =>
    if s.on (F.QUEUE_W0_LAUNCH (64 * p + q)) ∧ (k.launch.any s.launchDue) then s.countAt 0xd00 Ev.TIME_LAUNCH_LATE 1 else s
  | none => s

/-! ### Placing a packet on a queue -/

/-- Write a queue entry for a packet, which raises its reference count (R48). -/
def State.writeEntry (s : State) (p q i : Nat) : State :=
  let x := s.queue p q
  let n := s.cis.nextSeq
  let s1 : State := { s with cis := { s.cis with nextSeq := n + 1 } }
  let s2 := ((s1.setQueue p q { x with ents := x.ents ++ [⟨n, i⟩] }).addRef i).markQueue p q
  if x.ents.isEmpty then s2.lateHead p q else s2

/-- Occupancy of a port's lossy queues: every entry of a VC7 frame (R140). -/
def State.portLossy (s : State) (p : Nat) : Nat :=
  (s.usedQueues p).foldl (fun n q => (s.queue p q).ents.foldl (fun m e =>
    match s.pkt? e.pkt with
    | some k => if pVc k.bytes = 7 then m + k.cells.length else m
    | none => m) n) 0

/-- Random early drop by R141: whether the frame is dropped, at occupancy `o`, the profile's word A and
word B, and the LFSR value `r`. -/
def redDrop (a b o r : Nat) : Bool :=
  let lo := nfield a 19 0
  let hi := nfield b 19 0
  if o < lo then false
  else if hi ≤ o then true
  else decide (r * (256 * (hi - lo)) < nfield b 27 20 * (o - lo) * 65536)

/-- One advance of a pipeline's LFSR, polynomial x^16 + x^14 + x^13 + x^11 + 1 (R141).  PRESUMED: it shifts toward the
most significant bit, and the new bit 0 is the sum of the bits that the polynomial taps. -/
def redStep (v : Nat) : Nat :=
  (v * 2) % 65536 + (nbit v 15 + nbit v 13 + nbit v 12 + nbit v 10) % 2

/-- The value of a pipeline's LFSR now: one advance for each core clock since it was seeded (R141). -/
def State.redLfsr (s : State) (pipe : Nat) : Nat :=
  Nat.repeat redStep (s.now - s.cis.seedAt) (Config.redSeed pipe).toNat

/-- A port's lossy occupancy as this core clock's admissions see it. -/
def State.portSeen (s : State) (p : Nat) : Nat := s.portLossy p + SMap.get (fun _ => 0) s.freedNow.port p

/-- A queue's occupancy as this core clock's admissions see it. -/
def State.queueSeen (s : State) (p q : Nat) : Nat :=
  s.queueCells p q + SMap.get (fun _ => 0) s.freedNow.queue (64 * p + q)

/-- The check of R140 that a replica of frame `k` fails on QUEUE[p][q], by its order; 0 where it
passes: 1 pool, 2 port, 3 queue, 4 RED. -/
def State.lossyCheck (s : State) (k : Pkt) (p q : Nat) : Nat :=
  let n := k.cells.length
  let prof := s.get (F.QUEUE_W0_PROFILE (64 * p + q))
  let w := 0x701100 + 0x18 * prof + 8 * k.colour
  let pipe := (k.inPort.getD 0) / 32
  if k.acct ≠ .lossy ∧ s.get F.CISCFG_LOSSY_LOSSY_CELLS < s.chargedSeen .lossy + n then 1
  else if s.get (F.PORTENT_W2_LOSSY_LIMIT p) < s.portSeen p + n then 2
  else if s.get (F.QUEUE_W1_LIMIT (64 * p + q)) < s.queueSeen p q + n then 3
  else if redDrop (s.word w).toNat (s.word (w + 4)).toNat (s.queueSeen p q) (s.redLfsr pipe) then 4
  else 0

/-- The event of a lossy drop. -/
def lossyEvent (order colour : Nat) : Nat :=
  match order with
  | 1 => Ev.CIS_DROP_POOL
  | 2 => Ev.CIS_DROP_PORT
  | 3 => Ev.CIS_DROP_QUEUE
  | _ => Ev.CIS_DROP_RED_G + colour

/-- A Cistern event counted also at a port's lane page. -/
def State.countCisPort (s : State) (p ev n : Nat) : State := s.countBoth 0x700 2 p ev n

/-- The first admitted replica moves a frame's cells to the lossy pool and returns its credit (R140). -/
def State.admitLossy (s : State) (i : Nat) : State :=
  match s.pkt? i with
  | some k =>
    (match k.acct with
      | .port p v => (s.setPkt i (some { k with acct := .lossy })).returnCredit p v k.cells.length
      | _ => s)
  | none => s

/-- Offer a packet to QUEUE of PORT[p] by the port's map: dropped while the queue stands stalled (R33)
or by lossy admission (R140), else entered.  Its caller holds a reference of its own. -/
def State.offer (s : State) (p i : Nat) : State :=
  match s.pkt? i with
  | none => s
  | some k =>
    let q := s.queueOf p (pVc k.bytes) (pClass k.bytes)
    if (s.queue p q).stalled then s.countCisPort p Ev.CIS_STALL_DROP 1
    else if pVc k.bytes = 7 then
      (match s.lossyCheck k p q with
        | 0 => (s.admitLossy i).writeEntry p q i
        | n => s.countCisPort p (lossyEvent n k.colour) 1)
    else s.writeEntry p q i

/-- Offer a packet to one port as its only replica. -/
def State.offerOne (s : State) (p i : Nat) : State := ((s.addRef i).offer p i).unref i

/-! ### The scheduler (R147, R148) -/

/-- A port's scheduler. -/
def State.sched (s : State) (p : Nat) : SchedSt := SMap.get (fun _ => {}) s.cis.sched p

/-- Hold a port's scheduler. -/
def State.setSched (s : State) (p : Nat) (v : SchedSt) : State :=
  { s with cis := { s.cis with sched := SMap.set (fun _ => {}) s.cis.sched p v } }

/-- Credit a port's shaper (R153); RATE 0 is not credited. -/
def State.creditPort (s : State) (p : Nat) : State :=
  let r := s.get (F.PORTENT_W0_RATE p)
  if r = 0 then s
  else
    let x := s.sched p
    let c := x.shaper.credit s.now r (s.get (F.PORTENT_W1_BURST p))
    let f := c.1.floor s.maxFrame
    ((s.setSched p { x with shaper := f.1 }).weirDiscard c.2).weirClamp f.2 (0x20000000 + p)

/-- Credit a queue's shaper (R153). -/
def State.creditQueue (s : State) (p q : Nat) : State :=
  let r := s.get (F.QUEUE_W3_RATE (64 * p + q))
  if r = 0 then s
  else
    let x := s.queue p q
    let c := x.shaper.credit s.now r (s.get (F.QUEUE_W2_BURST (64 * p + q)))
    let f := c.1.floor s.maxFrame
    ((s.setQueue p q { x with shaper := f.1 }).weirDiscard c.2).weirClamp f.2 (0x10000000 + 64 * p + q)

/-- Eligibility of a queue (R147), its shaper having been credited; a queue whose substitute must send
first does not send (R121). -/
def State.eligible (s : State) (p q : Nat) : Bool :=
  match s.headPkt p q with
  | none => false
  | some (_, k) =>
    s.on (F.QUEUE_W0_EN (64 * p + q))
    && s.headMayStart p q
    && (s.get (F.QUEUE_W3_RATE (64 * p + q)) == 0 || decide (0 ≤ (s.queue p q).shaper.level))
    && (!s.on (F.QUEUE_W0_LAUNCH (64 * p + q)) || (match k.launch with
        | some t => s.launchDue t
        | none => true))
    && (s.queue p q).wait.isEmpty

/-- Whether a queue is strict. -/
def State.isStrict (s : State) (p q : Nat) : Bool := s.on (F.QUEUE_W0_STRICT (64 * p + q))

/-- The strict queue that may go: lowest rank first. -/
def State.pickStrict (s : State) (p : Nat) (qs : List Nat) : Option Nat :=
  (List.range 4).findSome? fun r =>
    qs.find? fun q => s.isStrict p q && s.get (F.QUEUE_W0_RANK (64 * p + q)) == r && s.eligible p q

/-- The weighted queue that may go: the first from the cursor on. -/
def State.pickWeighted (s : State) (p : Nat) (qs : List Nat) : Option Nat :=
  let c := (s.sched p).cursor
  let ok (q : Nat) : Bool := !s.isStrict p q && s.eligible p q
  match qs.find? fun q => decide (c ≤ q) && ok q with
  | some q => some q
  | none => qs.find? fun q => decide (q < c) && ok q

/-- A decision of R148: the queue, and the state in which a weighted queue has had its top-up and the
cursor its place. -/
def State.select (s : State) (p : Nat) : Option Nat × State :=
  let qs := s.usedQueues p
  let s1 := qs.foldl (fun t q => t.creditQueue p q) (s.creditPort p)
  if s1.get (F.PORTENT_W0_RATE p) ≠ 0 ∧ (s1.sched p).shaper.level < 0 then (none, s1)
  else
    match s1.pickStrict p qs with
    | some q => (some q, s1)
    | none =>
      match s1.pickWeighted p qs with
      | none => (none, s1)
      | some q =>
        let x := s1.queue p q
        let b := match s1.headPkt p q with
          | some (_, k) => k.bytes.length
          | none => 0
        let s2 := if x.deficit < b then
            s1.setQueue p q { x with deficit := x.deficit + s1.get (F.QUEUE_W0_QUANTUM (64 * p + q)) }
          else s1
        (some q, s2.setSched p { s2.sched p with cursor := q })

/-- Debit a queue's and its port's shaper by the bytes of the packet decided on (R50, R148, R153). -/
def State.debitShapers (s : State) (p q bytes : Nat) : State :=
  let s1 : State := if s.get (F.QUEUE_W3_RATE (64 * p + q)) = 0 then s else
    let x := s.queue p q
    let d := x.shaper.debit bytes s.maxFrame
    (s.setQueue p q { x with shaper := d.1 }).weirClamp d.2 (0x10000000 + 64 * p + q)
  if s1.get (F.PORTENT_W0_RATE p) = 0 then s1 else
    let x := s1.sched p
    let d := x.shaper.debit bytes s1.maxFrame
    (s1.setSched p { x with shaper := d.1 }).weirClamp d.2 (0x20000000 + p)

/-- What sending the head of a queue leaves of deficit and cursor (R148), the entry being gone; `strict` tells whether the
queue was strict at the decision (R149). -/
def State.afterSend (s : State) (p q bytes : Nat) (strict : Bool) : State :=
  if strict then s
  else
    let x := s.queue p q
    let d := if x.ents.isEmpty then 0 else x.deficit - bytes
    let next := match s.headPkt p q with
      | some (_, k) => k.bytes.length
      | none => 0
    let s1 := s.setQueue p q { x with deficit := d }
    if x.ents.isEmpty ∨ d < next then
      let c := s1.sched p
      s1.setSched p { c with cursor := (c.cursor + 1) % 64 }
    else s1

/-! ### The Weir (R150) -/

/-- A policer's buckets. -/
def State.policer (s : State) (i : Nat) : PolicerSt := SMap.get (fun _ => {}) s.cis.policers i

/-- Hold a policer's buckets. -/
def State.setPolicer (s : State) (i : Nat) (v : PolicerSt) : State :=
  { s with cis := { s.cis with policers := SMap.set (fun _ => {}) s.cis.policers i v } }

/-- The policer attached to a port and VC: its index where EN is 1 (R151). -/
def State.attached (s : State) (p v : Nat) : Option Nat :=
  let h := s.byteAt (0x03210000 + (8 * p + v) * 2) + 256 * s.byteAt (0x03210000 + (8 * p + v) * 2 + 1)
  if nbit h 15 = 1 then some (h % 4096) else none

/-- Credit a policer's buckets. -/
def State.creditPolicer (s : State) (i : Nat) : State :=
  let x := s.policer i
  let c := x.c.credit s.now (s.get (F.POLICER_W0_CIR i)) (s.get (F.POLICER_W2_CBS i))
  let p := x.p.credit s.now (s.get (F.POLICER_W1_PIR i)) (s.get (F.POLICER_W3_PBS i))
  let fc := c.1.floor s.maxFrame
  let fp := p.1.floor s.maxFrame
  ((((s.setPolicer i { x with c := fc.1, p := fp.1 }).weirDiscard c.2).weirDiscard p.2).weirClamp fp.2 i).weirClamp fc.2 i

/-- Whether a packet from a pipeline waits for a later core clock, a higher pipeline having reached its policer on
this one already (R152). -/
def State.policerBehind (s : State) (p v : Nat) : Bool :=
  match s.attached p v with
  | none => false
  | some i => (s.policer i).usedAt == s.now + 1 && decide (p / 32 < (s.policer i).usedBy)

/-- Debit a policer's buckets by `bytes` for a packet of a colour: green both, yellow the peak bucket. -/
def State.debitPolicer (s : State) (i colour bytes : Nat) : State :=
  let x := s.policer i
  let p := if colour ≤ 1 then x.p.debit bytes s.maxFrame else (x.p, false)
  let c := if colour = 0 then x.c.debit bytes s.maxFrame else (x.c, false)
  ((s.setPolicer i { x with c := c.1, p := p.1 }).weirClamp p.2 i).weirClamp c.2 i

/-- Colour an arriving packet (R150): its colour and the state after.  An Ethernet frame is tested with
b = 0 and its debit waits for the frame's end. -/
def State.colour (s : State) (p : Nat) (bytes : List Byte) : Nat × State :=
  match s.attached p (pVc bytes) with
  | none => (0, s)
  | some i =>
    let s0 := s.creditPolicer i
    let s1 := s0.setPolicer i { s0.policer i with usedAt := s.now + 1, usedBy := p / 32 }
    let eth : Bool := pProto bytes == 3
    let b := if eth then 0 else bytes.length
    let x := s1.policer i
    let c := if !x.p.holds b then 2 else if !x.c.holds b then 1 else 0
    let s2 : State := if eth then
        { s1 with cis := { s1.cis with ethDebits := s1.cis.ethDebits ++ [(p, i, c, bytes.length)] } }
      else s1.debitPolicer i c b
    (c, s2.countBoth 0x800 1 p (Ev.WEIR_GREEN + c) 1)

/-- WEIR_ETH_DEBIT: the oldest Ethernet frame still to be debited that arrived on a port ends, and its policer is
debited by its stored bytes (R150). -/
def State.weirEthDebit (s : State) (p : Nat) : State :=
  match s.cis.ethDebits.find? fun x => x.1 == p with
  | none => s
  | some x =>
    let s1 : State := { s with cis := { s.cis with ethDebits := s.cis.ethDebits.erase x } }
    (s1.creditPolicer x.2.1).debitPolicer x.2.1 x.2.2.1 x.2.2.2

/-! ### The sweep (R47, R49) -/

/-- The packets that queue entries reference, one for each entry, the entry being sent among them (R42). -/
def State.references (s : State) : List Nat :=
  (s.cis.queues.flatMap fun (x : Nat × QueueSt) => x.2.ents.map QEnt.pkt)
  ++ (s.ports.filterMap fun (x : Nat × PortSt) => x.2.tx.map fun t => t.1.pkt)

/-- The packets that wait for the replicator, the matcher, the time block or the SPC, and those that the collective
engine holds (`extra`): a walk reaches their cells (R47), though no queue entry counts them. -/
def State.heldPkts (s : State) (extra : List Nat) : List Nat :=
  s.cis.mcQ.map McItem.pkt ++ s.cis.chunkQ ++ s.time.rxQ.filterMap TimeRx.pkt
  ++ (s.mgmt.fabIn ++ s.mgmt.fabQ).filterMap FabReq.pkt ++ extra

/-- The cells that the references reach. -/
def State.reached (s : State) (refs : List Nat) : List Nat :=
  refs.eraseDups.flatMap fun i =>
    match s.pkt? i with
    | some k => k.cells
    | none => []

/-- What the walk's end does to one listed cell: an orphan that this walk and the last missed returns
to FREE; a cell reached while FREE or RELEASING is a fault, and stays off the free list while reached. -/
def State.sweepCell (s : State) (hit : List Nat) (c : Nat) (x : Cell) : State :=
  match x.st with
  | .allocated =>
    if hit.contains c then s.setCell c { x with missed := false }
    else if s.cis.walk ≤ x.walk then s
    else if x.missed then (s.freeCell c).book 2 c none
    else s.setCell c { x with missed := true }
  | .releasing => if hit.contains c then s.book 3 c none else s.freeCell c
  | _ => s

/-- A cell that the walk reaches while it is FREE. -/
def State.sweepFree (s : State) (c : Nat) : State :=
  if (s.cell c).st = .free then (s.setCell c { s.cell c with st := .releasing }).book 3 c none else s

/-- The count of each cell of a packet is raised to the references found (R49). -/
def State.sweepRefs (s : State) (refs : List Nat) (i : Nat) : State :=
  match s.pkt? i with
  | some k =>
    if k.refs < refs.count i then
      k.cells.foldl (fun t c => t.book 4 c none) (s.setPkt i (some { k with refs := refs.count i }))
    else s
  | none => s

/-- A packet that nothing references and whose cells a walk has freed is gone from its account. -/
def State.dropOrphan (s : State) (refs : List Nat) (i : Nat) : State :=
  match s.pkt? i with
  | some k => if !refs.contains i && k.cells.all (fun c => (s.cell c).st != .allocated) then s.setPkt i none else s
  | none => s

/-- The end of a walk (R47). -/
def State.sweep (s : State) (extra : List Nat) : State :=
  let refs := s.references
  let held := refs ++ s.heldPkts extra
  let hit := s.reached held
  let s1 := s.cis.cells.foldl (fun t (x : Nat × Cell) => t.sweepCell hit x.1 x.2) s
  let s2 := hit.foldl State.sweepFree s1
  let s3 := refs.eraseDups.foldl (fun t i => t.sweepRefs refs i) s2
  let s4 := s3.cis.pkts.foldl (fun t (x : Nat × Option Pkt) => t.dropOrphan held x.1) s3
  { s4 with cis := { s4.cis with walk := s4.cis.walk + 1 } }

def execWeirEthDebit (port : PortIx) (s : State) : Out := finish s (s.weirEthDebit port)

end Sys2Proof.Machine
end

