-- ==== Sys2Proof/Machine/Forwarding.lean ====
section
/-! DEFINITION. Forwarding (chapter 4): the endpoint table and its writer, learning and ageing, route
epochs, port groups, the lookup of a packet and the replicator. -/

namespace Sys2Proof.Machine

/-! ### The endpoint table (R94 to R99).  Entry `e` is ((T × 131,072 + bucket) × 4 + way); the stash
slots follow at 1,048,576 on, as their windows do. -/

/-- First stash entry. -/
def stashBase : Nat := 1048576

/-- Entries of the table and the stash. -/
def epCount : Nat := 1048640

/-- The 8 key bytes, [63:56] first. -/
def keyBytes (key : Nat) : List Byte := beBytes 8 key

/-- h0 and h1 of a key (R95). -/
def epHash (t key : Nat) : Nat :=
  crc32c (if t = 0 then 0x4b445331 else 0x7d2ae60f) (keyBytes key) % 2 ^ 17

/-- Entry of way `w` of the key's bucket in table `t`. -/
def epWay (t key w : Nat) : Nat := (t * 131072 + epHash t key) * 4 + w

/-- Whether an entry holds a key. -/
def State.epValid (s : State) (e : Nat) : Bool := s.on (F.EP_W2_VALID e)

/-- The key an entry holds. -/
def State.epKey (s : State) (e : Nat) : Nat := s.get (F.EP_W1_KEY_HI e) * 2 ^ 32 + s.get (F.EP_W0_KEY_LO e)

/-- The result of an entry in a bank. -/
def State.epResult (s : State) (bank e : Nat) : Nat :=
  if bank = 0 then s.get (F.EP_W2_RESULT_A e) else s.get (F.EP_W3_RESULT_B e)

/-- Give an entry its result in a bank. -/
def State.setEpResult (s : State) (bank e r : Nat) : State :=
  if bank = 0 then s.put (F.EP_W2_RESULT_A e) r else s.put (F.EP_W3_RESULT_B e) r

/-- The places a key can be (R96): both buckets, then the stash. -/
def epPlaces (key : Nat) : List Nat :=
  (List.range 4).map (epWay 0 key) ++ (List.range 4).map (epWay 1 key) ++ (List.range 64).map (stashBase + ·)

/-- The entry that holds a key. -/
def State.epFind (s : State) (key : Nat) : Option Nat :=
  (epPlaces key).find? fun e => s.epValid e && s.epKey e == key

/-- The four words of an entry. -/
def State.epWords (s : State) (e : Nat) : List Word := (List.range 4).map fun i => s.word (0x01000000 + 16 * e + 4 * i)

/-- Write the four words of an entry. -/
def State.setEpWords (s : State) (e : Nat) (ws : List Word) : State :=
  (ws.zipIdx).foldl (fun t (p : Word × Nat) => t.setWord (0x01000000 + 16 * e + 4 * p.2) p.1) s

/-- Words of a new entry: valid, with flags and both results. -/
def epNew (key : Nat) (static pending : Bool) (ra rb : Nat) : List Word :=
  [BitVec.ofNat 32 key, BitVec.ofNat 32 (key / 2 ^ 32),
    BitVec.ofNat 32 (2 ^ 31 + (if static then 2 ^ 30 else 0) + (if pending then 2 ^ 28 else 0) + ra % 2 ^ 24),
    BitVec.ofNat 32 (rb % 2 ^ 24)]

/-- A free way of the key's bucket in table `t`. -/
def State.epFreeWay (s : State) (t key : Nat) : Option Nat :=
  ((List.range 4).map (epWay t key)).find? fun e => !s.epValid e

/-- A free slot of the stash. -/
def State.stashFree (s : State) : Option Nat :=
  ((List.range 64).map (stashBase + ·)).find? fun e => !s.epValid e

/-- Plan the path of an insert by reading only (R98): the places passed, first to last, and the free
place at its end. -/
def State.epPlan (s : State) (stash : Bool) : Nat → Nat → Nat → Nat → List Nat → Option (List Nat × Nat)
  | 0, _, _, _, path => if stash then s.stashFree.map fun f => (path, f) else none
  | fuel + 1, i, cur, t, path =>
    let e := epWay t cur (i % 4)
    let victim := s.epKey e
    match s.epFreeWay (1 - t) victim with
    | some f => some (path ++ [e], f)
    | none => s.epPlan stash fuel (i + 1) victim (1 - t) (path ++ [e])

/-- Write a planned path from its free end back toward the new key. -/
def State.epApply (s : State) (path : List Nat) (free : Nat) (new : List Word) : State :=
  let olds := path.map s.epWords
  let dests := path.drop 1 ++ [free]
  let s1 := ((dests.zip olds).reverse).foldl (fun t (p : Nat × List Word) => t.setEpWords p.1 p.2) s
  match path with
  | e :: _ => s1.setEpWords e new
  | [] => s1.setEpWords free new

/-- The insert of R98 of a key that is not present: none where it is refused. -/
def State.epInsert (s : State) (key : Nat) (new : List Word) (stash : Bool) : Option State :=
  match s.epFreeWay 0 key with
  | some e => some (s.setEpWords e new)
  | none =>
    match s.epFreeWay 1 key with
    | some e => some (s.setEpWords e new)
    | none =>
      match s.epPlan stash (s.get F.FWDCFG_LOOKUP_RELOC_MAX) 0 key 0 [] with
      | some (path, free) => some (s.epApply path free new)
      | none => none

/-- The insert of R98 into table `t` alone, without the stash step: none where it is refused. -/
def State.epInsertInto (s : State) (t key : Nat) (new : List Word) : Option State :=
  match s.epFreeWay t key with
  | some e => some (s.setEpWords e new)
  | none =>
    match s.epPlan false (s.get F.FWDCFG_LOOKUP_RELOC_MAX) 0 key t [] with
    | some (path, free) => some (s.epApply path free new)
    | none => none

/-- After a removal from table `t` the writer tries to insert one stash entry into that table (R99). -/
def State.stashReinsert (s : State) (t : Nat) : State :=
  match ((List.range 64).map (stashBase + ·)).find? s.epValid with
  | none => s
  | some e =>
    match (s.epInsertInto t (s.epKey e) (s.epWords e)) with
    | some u => u.setEpWords e [0#32, 0#32, 0#32, 0#32]
    | none => s

/-- A damped move of a key counts as not logged again (R104). -/
def State.undamp (s : State) (key : Nat) : State :=
  { s with fwd := { s.fwd with damped := s.fwd.damped.filter (· ≠ key) } }

/-- Remove an entry. -/
def State.epRemove (s : State) (e : Nat) : State :=
  let s1 := (s.undamp (s.epKey e)).setEpWords e [0#32, 0#32, 0#32, 0#32]
  if e < stashBase then s1.stashReinsert (e / 524288) else s1

/-- The valid entries, by the words listed in the windows. -/
def State.epEntries (s : State) : List Nat :=
  ((s.bar.filter fun (x : Nat × Word) =>
      decide (0x01000000 ≤ x.1) && decide (x.1 < 0x02000400) && x.1 % 16 == 8 && decide (2 ^ 31 ≤ x.2.toNat)).map
    fun (x : Nat × Word) => (x.1 - 0x01000000) / 16)

/-! ### Results (R90) -/

/-- RTYPE and INDEX of a result. -/
def resType (r : Nat) : Nat := r / 2 ^ 21 % 8
def resIndex (r : Nat) : Nat := r % 65536
/-- A result PORT[p] or GROUP[g]. -/
def resPort (p : Nat) : Nat := 2 ^ 21 + p
def resGroup (g : Nat) : Nat := 2 * 2 ^ 21 + g

/-- The leaf route of a leaf in a bank. -/
def State.leafRoute (s : State) (bank leaf : Nat) : Nat := s.get (F.LROUTE_W0_RESULT (bank * 1024 + leaf))

/-! ### Port groups (R117 to R122, R363, R364) -/

/-- The member slots in use: group, slot, port. -/
def State.groupSlots (s : State) : List (Nat × Nat × Nat) :=
  (s.bar.filter fun (x : Nat × Word) =>
      decide (0x500000 ≤ x.1) && decide (x.1 < 0x600000) && decide (0x104 ≤ x.1 % 4096)
        && decide (x.1 % 4096 < 0x124) && decide (2 ^ 31 ≤ x.2.toNat)).map
    fun (x : Nat × Word) => ((x.1 - 0x500000) / 4096, (x.1 % 4096 - 0x104) / 4, x.2.toNat % 1024)

/-- The group and slot of which a port is a member: the group is VALID (R346; log entry 197). -/
def State.groupOf (s : State) (p : Nat) : Option (Nat × Nat) :=
  ((s.groupSlots.find? fun m => m.2.2 == p && s.on (F.GROUP_GRPCFG_VALID m.1)).map fun m => (m.1, m.2.1))

/-- Slot `i` of a group, its port. -/
def State.memberPort (s : State) (g i : Nat) : Nat := s.get (F.GROUP_GRPMEM_PORT g i)

/-- Whether member `i` is live as held in GRPSTAT.LIVE. -/
def State.memberLive (s : State) (g i : Nat) : Bool := nbit (s.get (F.GROUP_GRPSTAT_LIVE g)) i == 1

/-- Whether member `i` meets the conditions of R364 now. -/
def State.memberOk (s : State) (g i : Nat) : Bool :=
  let p := s.memberPort g i
  s.on (F.GROUP_GRPCFG_VALID g) && s.on (F.GROUP_GRPMEM_VALID g i) && s.portLive p
    && s.on (F.LANE_PORTPEER_VALID p) && s.get (F.LANE_PORTPEER_ROLE p) == 0
    && s.get (F.LANE_PORTPEER_NUMBER p) == s.get (F.GROUP_GRPCFG_LEAF g)

/-- The first live member from slot `i` on, wrapping. -/
def State.liveFrom (s : State) (g i : Nat) : Option Nat :=
  ((List.range 8).map fun d => (i + d) % 8).find? (s.memberLive g)

/-- The record of spraying for a group, VC and CLASS (R117). -/
def State.sprayLast (s : State) (g v c : Nat) : Nat := SMap.get (fun _ => 7) s.fwd.lastSpray (64 * g + 8 * v + c)

/-- Record the slot chosen. -/
def State.setSpray (s : State) (g v c i : Nat) : State :=
  { s with fwd := { s.fwd with lastSpray := SMap.set (fun _ => 7) s.fwd.lastSpray (64 * g + 8 * v + c) i } }

/-- The member with the fewest cells, the first in the order given. -/
def State.fewest (s : State) (g v c : Nat) (l : List Nat) : Option Nat :=
  let occ (i : Nat) : Nat := let p := s.memberPort g i; s.queueCells p (s.queueOf p v c)
  l.foldl (fun best i =>
    match best with
    | none => some i
    | some b => if occ i < occ b then some i else some b) none

/-- Spray a packet of a VC and CLASS over a group (R117, R121): the port. -/
def State.spray (s : State) (g v c : Nat) : Option Nat × State :=
  let last := s.sprayLast g v c
  let live := ((List.range 8).map fun d => (last + 1 + d) % 8).filter (s.memberLive g)
  let free := live.filter fun i => let p := s.memberPort g i; (s.queue p (s.queueOf p v c)).wait.isEmpty
  match s.fewest g v c (if free.isEmpty then live else free) with
  | none => (none, s)
  | some i => (some (s.memberPort g i), (s.setSpray g v c i).countAt (0x500 + g) Ev.GRP_SPRAY 1)

/-- Skip VLAN tags: bytes of the frame from its first EtherType on that is no tag, after `fuel` tags at most. -/
def skipTags : Nat → List Byte → List Byte
  | 0, b => b
  | fuel + 1, b =>
    if beNat (slice b 0 2) = 0x8100 ∨ beNat (slice b 0 2) = 0x88a8 then skipTags fuel (b.drop 4) else b

/-- TCP or UDP ports at the head of `b`, for those protocols. -/
def l4Ports (proto : Nat) (b : List Byte) : List Byte := if proto = 6 ∨ proto = 17 then slice b 0 4 else []

/-- What ETH_L3 adds to an Ethernet flow key (R118): `b` starts at the EtherType after any tags. -/
def l3Key (b : List Byte) : List Byte :=
  let ip := b.drop 2
  if beNat (slice b 0 2) = 0x0800 then
    let proto := beNat (slice ip 9 1)
    let frag := beNat (slice ip 6 2)
    slice ip 12 8 ++ slice ip 9 1
      ++ (if frag / 8192 % 2 = 1 ∨ frag % 8192 ≠ 0 then [] else l4Ports proto (ip.drop (beNat (slice ip 0 1) % 16 * 4)))
  else if beNat (slice b 0 2) = 0x86dd then
    let nh := beNat (slice ip 6 1)
    slice ip 8 32 ++ slice ip 6 1 ++ l4Ports nh (ip.drop 40)
  else []

/-- The flow key of a pinned packet (R118), after four tags at most (the model's choice, log entry 192). -/
def State.flowKey (s : State) (b : List Byte) : List Byte :=
  match pProto b with
  | 1 => beBytes 8 ((((pVc b * 2 * 2 ^ 20 + pDest b) * 2 ^ 20 + pSrc b) * 65536 + pFlow b) * 16)
  | 2 => beBytes 8 (((pVc b * 32 * 65536 + pChip b) * 65536 + pSrcChip b) * 2 ^ 24)
  | _ =>
    let t := skipTags 4 ((ethFrame b).drop 12)
    beBytes 2 (ethVid b) ++ slice (ethFrame b) 0 12 ++ slice t 0 2
      ++ (if s.on F.FWDCFG_LOOKUP_ETH_L3 then l3Key t else [])

/-- Whether a packet is pinned (R38, R66). -/
def isPinned (b : List Byte) : Bool :=
  if pProto b = 1 then decide (pType b ≤ 1) || ((pType b == 2 || pType b == 3) && pO b == 1) else true

/-- The pin slot of a packet (R119). -/
def State.pinSlot (s : State) (b : List Byte) : Nat :=
  crc32c (s.get F.FWDCFG_FLOWSEED_FLOWSEED) (s.flowKey b) % 64

/-- The member of a group to which a pinned packet goes, and whether it is a substitute (R119, R364). -/
def State.pinned (s : State) (g bank : Nat) (b : List Byte) : Option (Nat × Bool) :=
  let i := s.byteAt (0x02480000 + bank * 0x4000 + g * 64 + s.pinSlot b) % 8
  if s.get (F.GROUP_GRPCFG_SIZE g) ≤ i then (s.liveFrom g 0).map fun j => (j, true)
  else (s.liveFrom g i).map fun j => (j, j != i)

/-- Choose the member port of a group for a packet: none where no member is live. -/
def State.chooseMember (s : State) (g bank : Nat) (b : List Byte) : Option Nat × State :=
  if isPinned b then
    match s.pinned g bank b with
    | none => (none, s)
    | some (j, sub) =>
      let s1 := s.countAt (0x500 + g) Ev.GRP_PIN 1
      (some (s.memberPort g j), if sub then s1.countAt (0x500 + g) Ev.GRP_SUBST 1 else s1)
  else s.spray g (pVc b) (pClass b)

/-- A queue with the entries of another spliced onto its tail.  Entries for which it was itself waiting (R121) are older
than its own of the same flows, so they go to its head and are waited for no more (log entry 203). -/
def QueueSt.splice (y : QueueSt) (es : List QEnt) : QueueSt :=
  let old := es.filter fun e => y.wait.contains e.seq
  { y with
    ents := old ++ y.ents ++ es.filter fun e => !y.wait.contains e.seq
    wait := y.wait.filter fun n => !(es.map QEnt.seq).contains n }

/-- Splice every queue of a port onto the same queue of another, in order (R120). -/
def State.spliceQueues (s : State) (p to_ : Nat) : State :=
  (s.usedQueues p).foldl (fun t q =>
    let x := t.queue p q
    ((t.setQueue p q { x with ents := [], deficit := 0, blockedSince := none, wait := [] }).setQueue to_ q
      ((t.queue to_ q).splice x.ents)).markQueue to_ q) s

/-- A member, already marked not live, leaves its queues to its substitute (R120).  With no live member left they stay
where they are, and the group keeps a note of the port. -/
def State.leaveQueues (s : State) (g i : Nat) : State :=
  match s.liveFrom g (i + 1) with
  | none => { s with fwd := { s.fwd with lastDown := s.fwd.lastDown ++ [(g, s.memberPort g i)] } }
  | some j => (s.spliceQueues (s.memberPort g i) (s.memberPort g j)).countAt (0x500 + g) Ev.GRP_SPLICE 1

/-- A member stops being live (R120). -/
def State.memberDown (s : State) (g i : Nat) : State := (s.clearBits (F.GROUP_GRPSTAT_LIVE g) (2 ^ i)).leaveQueues g i

/-- Whether the packet that a port is sending on VC `v` stands for queue `q` by the port's map. -/
def State.sendsFrom (s : State) (p q i v : Nat) : Bool :=
  match s.pkt? i with
  | some k => s.queueOf p v (pClass k.bytes) == q
  | none => false

/-- The packets of a port's queue that have not left it: the one it is sending, then those queued. -/
def State.queueTail (s : State) (p q : Nat) : List Nat :=
  (match (s.portSt p).tx with
    | some (e, v, _) => if s.sendsFrom p q e.pkt v then [e.seq] else []
    | none => []) ++ (s.queue p q).ents.map QEnt.seq

/-- The returning member's queues wait for what the substitute holds now, and is sending (R121). -/
def State.waitFor (s : State) (p sub : Nat) : State :=
  ((List.range 64).filter fun q => !(s.queueTail sub q).isEmpty).foldl (fun t q =>
    t.setQueue p q { t.queue p q with wait := s.queueTail sub q }) s

/-- Take the group's note of ports left without a substitute, as a member on port `p` becomes live: what such a port,
still a member of the group, has queued is spliced onto `p` (R120). -/
def State.takeOrphans (s : State) (g p : Nat) : State :=
  let s1 : State := { s with fwd := { s.fwd with lastDown := s.fwd.lastDown.filter fun x => x.1 != g } }
  ((s.fwd.lastDown.filter fun x => x.1 == g).map Prod.snd).foldl (fun t o =>
    if o ≠ p ∧ ((t.groupOf o).any fun x => x.1 == g) then (t.spliceQueues o p).countAt (0x500 + g) Ev.GRP_SPLICE 1 else t) s1

/-- A member becomes live (R121).  Where no member was live, it takes the queues left without a substitute (R120). -/
def State.memberUp (s : State) (g i : Nat) : State :=
  let p := s.memberPort g i
  let s1 := s.orBits (F.GROUP_GRPSTAT_LIVE g) (2 ^ i)
  match s.liveFrom g (i + 1) with
  | some j => s1.waitFor p (s.memberPort g j)
  | none => s1.takeOrphans g p

/-- Bring a member's liveness to what R364 gives now. -/
def State.refreshMember (s : State) (g i : Nat) : State :=
  if s.memberOk g i then (if s.memberLive g i then s else s.memberUp g i)
  else (if s.memberLive g i then s.memberDown g i else s)

/-- The same for the group, if any, of a port. -/
def State.refreshPort (s : State) (p : Nat) : State :=
  match s.groupOf p with
  | some (g, i) => s.refreshMember g i
  | none => s

/-- GROUP_RETURN_RELEASE: every entry up to the recorded tail has been sent or dropped: it stands in no queue, and no
port is sending it (R121).  Such an entry never stands in the waiting queue itself (QueueSt.splice). -/
def State.groupReturn (s : State) (p q : Nat) : State :=
  let x := s.queue p q
  let held := (s.cis.queues.flatMap fun (y : Nat × QueueSt) => y.2.ents.map QEnt.seq)
    ++ s.ports.filterMap fun (y : Nat × PortSt) => y.2.tx.map fun t => t.1.seq
  if x.wait ≠ [] ∧ x.wait.all (fun n => !held.contains n) then s.setQueue p q { x with wait := [] } else s

/-! ### Route epochs (R109 to R113) -/

/-- The active bank. -/
def State.activeBank (s : State) : Nat := s.get F.FWDEPOCH_STATUS_ACTIVE

/-- A forwarding drop, counted at its reason's pages and at the ingress port (R92). -/
def State.fwdDrop (s : State) (p ev : Nat) : State := s.countBoth 0x600 5 p ev 1

/-- Event 1 of R88: whether the bank that E names is in use; OLD restarts the drain timer (R111). -/
def State.sampleEpoch (s : State) (e : Nat) : Bool × State :=
  if e = s.activeBank then (true, s)
  else if s.get F.FWDEPOCH_STATUS_STATE = 1 then (true, { s with fwd := { s.fwd with drainFrom := s.now } })
  else (false, s)

/-- Copy the words of one bank's window part onto the other's (R111). -/
def State.copyRange (s : State) (src dst len : Nat) : State :=
  let old := s.bar.filter fun (x : Nat × Word) => decide (dst ≤ x.1) && decide (x.1 < dst + len)
  let new := s.bar.filter fun (x : Nat × Word) => decide (src ≤ x.1) && decide (x.1 < src + len)
  let s1 := old.foldl (fun t (x : Nat × Word) => t.setWord x.1 (resetWord x.1)) s
  new.foldl (fun t (x : Nat × Word) => t.setWord (x.1 - src + dst) x.2) s1

/-- Every banked table of the active bank is copied into the free bank. -/
def State.copyBank (s : State) : State :=
  let a := s.activeBank
  let b := 1 - a
  let s1 := s.epEntries.foldl (fun t e => t.setEpResult b e (t.epResult a e)) s
  (((s1.copyRange (0x02010000 + a * 0x1000) (0x02010000 + b * 0x1000) 0x1000).copyRange
    (0x02100000 + a * 0x40000) (0x02100000 + b * 0x40000) 0x40000).copyRange
    (0x02200000 + a * 0x100000) (0x02200000 + b * 0x100000) 0x100000).copyRange
    (0x02480000 + a * 0x4000) (0x02480000 + b * 0x4000) 0x4000

/-- EPOCH_COPY: a COPY that was accepted starts (R111). -/
def State.epochCopy (s : State) : State := s.put F.FWDEPOCH_STATUS_STATE 2

/-- EPOCH_COPY_DONE (R111). -/
def State.epochCopyDone (s : State) : State :=
  if s.get F.FWDEPOCH_STATUS_STATE = 2 then s.copyBank.put F.FWDEPOCH_STATUS_STATE 0 else s

/-- ACTIVE inverts and the previous active bank becomes OLD (R111, R112). -/
def State.epochFlip (s : State) : State :=
  let s1 := s.puts [(F.FWDEPOCH_STATUS_ACTIVE, 1 - s.activeBank), (F.FWDEPOCH_STATUS_STATE, 1),
    (F.FWDEPOCH_STATUS_FLIPS, s.get F.FWDEPOCH_STATUS_FLIPS + 1)]
  ({ s1 with fwd := { s1.fwd with drainFrom := s1.now } }).countFwd Ev.EPOCH_FLIP 1

/-- OLD becomes FREE (R111). -/
def State.epochFree (s : State) : State := (s.put F.FWDEPOCH_STATUS_STATE 0).countFwd Ev.EPOCH_FREED 1

/-- EPOCH_DRAIN_EXPIRE: no packet named OLD for DRAIN_US (R111). -/
def State.epochDrain (s : State) : State :=
  if s.get F.FWDEPOCH_STATUS_STATE = 1 ∧ s.passed s.fwd.drainFrom (usClocks (s.get F.FWDEPOCH_DRAIN_DRAIN_US)) then
    s.epochFree else s

/-- FREE_NOW: OLD is freed at once, and logged (R111). -/
def State.epochFreeNow (s : State) : State := s.epochFree.logReport Ev.EPOCH_FREED 0x602 0 0 0

/-! ### Learning and ageing (R100 to R108) -/

/-- The arrival result of a port (R100). -/
def State.arrivalRes (s : State) (p : Nat) : Nat :=
  match s.groupOf p with
  | some (g, _) => resGroup g
  | none => resPort p

/-- Queue a learn request of a pipeline (R101): suppressed, discarded, or held. -/
def State.learnRequest (s : State) (pipe : Nat) (r : LearnReq) : State :=
  let q := SMap.get (fun _ => []) s.fwd.learnQ pipe
  let rec_ := SMap.get (fun _ => []) s.fwd.recent pipe
  if rec_.contains r.key then s
  else if 1024 ≤ q.length then s.countFwd Ev.LEARN_DROPPED 1
  else { s with fwd := { s.fwd with
    learnQ := SMap.set (fun _ => []) s.fwd.learnQ pipe (q ++ [r])
    recent := SMap.set (fun _ => []) s.fwd.recent pipe ((r.key :: rec_).take 256) } }

/-- The source search of a packet that is not dropped, and its outcome (R100).  A key that is found has its hit bit set
in every case (R106; log entry 191). -/
def State.learn (s : State) (p key : Nat) : State :=
  let res := s.arrivalRes p
  match s.epFind key with
  | none => s.learnRequest (p / 32) ⟨key, res, false⟩
  | some e =>
    let s1 := s.raise (F.EP_W3_HIT e)
    if s.epResult 0 e = res ∨ s.epResult 1 e = res then s1
    else if s.on (F.EP_W2_STATIC e) then s1.countFwd Ev.LEARN_STATIC_CONFLICT 1
    else s1.learnRequest (p / 32) ⟨key, res, true⟩

/-- The source key of a frame to which learning applies (R82, R100). -/
def State.learnKey (s : State) (b : List Byte) : Option Nat :=
  match pProto b with
  | 1 => if s.on F.FWDCFG_LOOKUP_LEARN_DFP ∧ epKind (pSrc b) ≤ 1 then some (pSrc b) else none
  | 3 => if s.on F.FWDCFG_LOOKUP_LEARN_ETH then some ((0x1000 + ethVid b) * 2 ^ 48 + ethSrc b) else none
  | _ => none

/-- Learning for a frame that the part does not drop. -/
def State.learnFrom (s : State) (p : Nat) (b : List Byte) : State :=
  match s.learnKey b with
  | some key => s.learn p key
  | none => s

/-- The writer moves a learned entry (R104), or damps the move at MOVE_LIMIT. -/
def State.moveEntry (s : State) (e res : Nat) : State :=
  if s.on (F.EP_W2_STATIC e) then s.countFwd Ev.LEARN_STATIC_CONFLICT 1
  else if s.get F.FWDCFG_LOOKUP_MOVE_LIMIT ≤ s.get (F.EP_W2_MOVES e) then
    let s1 := s.countFwd Ev.LEARN_MOVE_DAMPED 1
    if s.fwd.damped.contains (s.epKey e) then s1
    else ({ s1 with fwd := { s1.fwd with damped := s.epKey e :: s1.fwd.damped } }).logReport Ev.LEARN_MOVE_DAMPED 0x603 e 0 0
  else
    (s.puts [(F.EP_W2_RESULT_A e, res), (F.EP_W3_RESULT_B e, res),
      (F.EP_W2_MOVES e, s.get (F.EP_W2_MOVES e) + 1)]).countFwd Ev.LEARN_MOVE 1

/-- The writer takes a request (R102): a key that is present is moved or refreshed, another inserted. -/
def State.writerTakes (s : State) (r : LearnReq) : State :=
  match s.epFind r.key with
  | some e =>
    if s.epResult 0 e = r.res ∨ s.epResult 1 e = r.res then s.raise (F.EP_W3_HIT e) else s.moveEntry e r.res
  | none =>
    match s.epInsert r.key (epNew r.key false false r.res r.res) true with
    | some t => t.countFwd Ev.LEARN_INSERT 1
    | none =>
      let s1 := s.countFwd Ev.LEARN_REFUSED 1
      if s.fwd.refusedLogged then s1
      else ({ s1 with fwd := { s1.fwd with refusedLogged := true } }).logReport Ev.LEARN_REFUSED 0x603 0 0 0

/-- The writer takes the oldest request of a pipeline, where it is of the kind named. -/
def State.writerNext (s : State) (pipe : Nat) (move : Bool) : State :=
  match SMap.get (fun _ => []) s.fwd.learnQ pipe with
  | [] => s
  | r :: rest =>
    if r.move = move then
      ({ s with fwd := { s.fwd with learnQ := SMap.set (fun _ => []) s.fwd.learnQ pipe rest } }).writerTakes r
    else s

/-- What the sweeper does to a learned entry whose hit bit read `hit` (R106). -/
def State.ageEntry (s : State) (e : Nat) (hit : Bool) : State :=
  if hit then s.put (F.EP_W2_AGE1 e) 0
  else if s.on (F.EP_W2_AGE1 e) then (s.epRemove e).countFwd Ev.AGE_REMOVED 1
  else s.put (F.EP_W2_AGE1 e) 1

/-- Whether the hit bit of an entry was set in this core clock, so that the sweeper's clear leaves it set (R106). -/
def State.hitNow (s : State) (e : Nat) : Bool := nbit (s.setBits (F.EP_W3_HIT e).addr) (F.EP_W3_HIT e).lo == 1

/-- The visit of a valid entry (R106, R107). -/
def State.visitEntry (s : State) (e : Nat) : State :=
  let hit := s.on (F.EP_W3_HIT e)
  let s2 := (s.puts [(F.EP_W3_HIT e, if s.hitNow e then 1 else 0), (F.EP_W2_MOVES e, 0)]).undamp (s.epKey e)
  if s.on (F.EP_W2_STATIC e) then
    if s.get F.FWDEPOCH_STATUS_STATE = 0 ∧ resType (s.epResult s.activeBank e) = 0 ∧ ¬ s.on (F.EP_W2_PENDING e) then
      (s2.epRemove e).countFwd Ev.AGE_REMOVED 1 else s2
  else if s.on (F.EP_W2_PENDING e) then s2
  else s2.ageEntry e hit

/-- AGE_SWEEP_VISIT: the sweeper visits its next entry, at an even pace; PERIOD_S of 0 stops it. -/
def State.sweepVisit (s : State) : State :=
  let per := s.get F.FWDLRN_AGE_PERIOD_S
  if per = 0 ∨ ¬ s.passed s.fwd.sweepAt (secClocks per / epCount) then s
  else
    let e := s.fwd.sweepPos
    let s1 : State := { s with fwd := { s.fwd with
      sweepAt := s.now
      sweepPos := if e + 1 < epCount then e + 1 else 0
      refusedLogged := if e = 0 then false else s.fwd.refusedLogged } }
    if s1.epValid e then s1.visitEntry e else s1

/-- Whether a flush of SCOPE and ARG covers an entry (R108). -/
def State.flushCovers (s : State) (scope arg e : Nat) : Bool :=
  !s.on (F.EP_W2_STATIC e) && !s.on (F.EP_W2_PENDING e) &&
  (match scope with
    | 0 => true
    | 1 => s.epResult 0 e == resPort arg
    | 2 => s.epResult 0 e == resGroup arg
    | _ => s.epKey e / 2 ^ 48 == arg)

/-- FLUSH: GO removes the learned entries in SCOPE, and FLUSH_BUSY stands (R108). -/
def State.flush (s : State) (scope arg : Nat) : State :=
  let s1 := ((s.epEntries.filter (s.flushCovers scope arg)).map s.epKey).foldl (fun t key =>
    match t.epFind key with
    | some e => t.epRemove e
    | none => t) s
  s1.put F.FWDLRN_STATUS_FLUSH_BUSY 1

/-- FLUSH_DONE (R108). -/
def State.flushDone (s : State) : State := s.put F.FWDLRN_STATUS_FLUSH_BUSY 0

/-! ### Lookup (R89 to R91) -/

/-- Where a packet goes. -/
inductive Route where
  | drop (ev : Nat)
  | port (p : Nat)
  | group (g : Nat)
  | chain (d : Nat)
  deriving DecidableEq, Repr

/-- A destination search: the entry, counted, its hit bit set (R106, R129). -/
def State.lookup (s : State) (key : Nat) : Option Nat × State :=
  match s.epFind key with
  | none => (none, s.countFwd Ev.LOOKUP_MISS 1)
  | some e =>
    (some e, (s.raise (F.EP_W3_HIT e)).countFwd (if e < stashBase then Ev.LOOKUP_HIT else Ev.STASH_HIT) 1)

/-- The route that a result gives; `mcast` where a multicast result is allowed. -/
def routeOf (r : Nat) (mcast : Bool) : Route :=
  match resType r with
  | 0 => .drop Ev.FWD_NOROUTE
  | 1 => .port (resIndex r)
  | 2 => .group (resIndex r)
  | 3 => if mcast then .chain (resIndex r) else .drop Ev.FWD_DROP
  | _ => .drop Ev.FWD_DROP

/-- An Ethernet miss: flood, or FWD_MISS (R91). -/
def State.floodRoute (s : State) : Route :=
  if s.on F.FWDCFG_FLOOD_EN then .chain (s.get F.FWDCFG_FLOOD_DESC) else .drop Ev.FWD_MISS

/-- The route of a packet in a bank (R89). -/
def State.resolve (s : State) (bank : Nat) (b : List Byte) : Route × State :=
  match pProto b with
  | 1 =>
    if epKind (pDest b) = 3 then (.chain (pDest b % 65536), s)
    else
      let l := s.lookup (pDest b)
      let r := match l.1 with
        | some e => s.epResult bank e
        | none => 0
      if resType r = 0 then (routeOf (s.leafRoute bank (epLeaf (pDest b))) false, l.2)
      else (routeOf r false, l.2)
  | 2 => (routeOf (s.get (F.CHIP_W0_RESULT (bank * 65536 + pChip b))) false, s)
  | _ =>
    let l := s.lookup ((0x1000 + ethVid b) * 2 ^ 48 + ethDst b)
    let r := match l.1 with
      | some e => s.epResult bank e
      | none => 0
    if resType r = 0 then (s.floodRoute, l.2) else (routeOf r true, l.2)

/-- The leaf behind a port: the NUMBER of its peer, where that is a leaf. -/
def State.portLeaf (s : State) (p : Nat) : Option Nat :=
  if s.on (F.LANE_PORTPEER_VALID p) ∧ s.get (F.LANE_PORTPEER_ROLE p) = 0 then some (s.get (F.LANE_PORTPEER_NUMBER p)) else none

/-- The leaf associated with a port: the NUMBER of the last leaf whose ADVERT it accepted (R434). -/
def State.leafOfPort (s : State) (p : Nat) : Option Nat :=
  match SMap.get (fun _ => 0) s.hlth.portLeaf p with
  | 0 => none
  | n + 1 => some n

/-- The leaf behind an arrival port, through its group where it has one. -/
def State.arrivalLeaf (s : State) (p : Nat) : Option Nat :=
  match s.groupOf p with
  | some (g, _) => some (s.get (F.GROUP_GRPCFG_LEAF g))
  | none => s.portLeaf p

/-- Whether a leaf's fence bit is set (R127). -/
def State.fenced (s : State) (leaf : Nat) : Bool := nbit (s.get (F.FWDFENCE_LEAF_FENCED (leaf / 32))) (leaf % 32) == 1

/-- The egress leaf of a unicast route (R127). -/
def State.egressLeaf (s : State) (b : List Byte) (r : Route) : Option Nat :=
  if pProto b = 1 then some (epLeaf (pDest b))
  else
    match r with
    | .port p => s.leafOfPort p
    | .group g => some (s.get (F.GROUP_GRPCFG_LEAF g))
    | _ => none

/-- Whether a unicast Ethernet route names the port or group of arrival (R91). -/
def State.reflects (s : State) (p : Nat) (b : List Byte) (r : Route) : Bool :=
  pProto b == 3 &&
  (match r with
    | .port q => q == p
    | .group g => (s.groupOf p).any fun x => x.1 == g
    | _ => false)

/-- Whether a unicast route has a live path (R90, R117, R119). -/
def State.hasPath (s : State) (r : Route) : Bool :=
  match r with
  | .port p => s.portLive p
  | .group g => (s.liveFrom g 0).isSome
  | _ => true

/-- The drop, if any, that a unicast route of a packet from port `p` meets: reflection, then the
fence, then a dead path. -/
def State.unicastDrop (s : State) (p : Option Nat) (b : List Byte) (r : Route) : Option Nat :=
  if p.any (fun q => s.reflects q b r) then some Ev.FWD_REFLECT
  else if (s.egressLeaf b r).any s.fenced then some Ev.FWD_FENCED
  else if !s.hasPath r then some Ev.FWD_NOLINK
  else none

/-- The final route of a packet: its resolution, with the drops of R90, R91, R117 and R127. -/
def State.route (s : State) (p : Option Nat) (bank : Nat) (b : List Byte) : Route × State :=
  let r := s.resolve bank b
  match r.1 with
  | .port _ => ((s.unicastDrop p b r.1).elim r.1 .drop, r.2)
  | .group _ => ((s.unicastDrop p b r.1).elim r.1 .drop, r.2)
  | _ => r

/-- Send a packet that stands in the Cistern along its route. -/
def State.dispatch (s : State) (i : Nat) (r : Route) : State :=
  match s.pkt? i with
  | none => s
  | some k =>
    match r with
    | .drop _ => s.releasePkt i
    | .port p => s.offerOne p i
    | .group g =>
      let c := s.chooseMember g k.bank k.bytes
      (match c.1 with
        | some p => c.2.offerOne p i
        | none => c.2.releasePkt i)
    | .chain d =>
      { s with cis := { s.cis with mcQ := s.cis.mcQ ++ [⟨i, d,
        if pProto k.bytes = 3 then k.inPort.bind s.arrivalLeaf else none⟩] } }

/-! ### The replicator (R123 to R126) -/

/-- Index of a descriptor in its window. -/
def mdIx (bank d : Nat) : Nat := bank * 65536 + d

/-- The leaf that bit `i` of a descriptor's mask names (R123). -/
def State.descLeaf (s : State) (bank d i : Nat) : Nat :=
  let q := s.get F.FWDID_GRID_PERPOD
  let a := 64 * s.get (F.MDESC_W1_SEG (mdIx bank d)) + i
  let ix := s.get (F.MDESC_W0_INDEX (mdIx bank d))
  if s.on (F.MDESC_W0_AXIS (mdIx bank d)) then a * q + ix else ix * q + a

/-- The leaves that a descriptor names, in mask order. -/
def State.descLeaves (s : State) (bank d : Nat) : List Nat :=
  let m := s.get (F.MDESC_W3_MASK_HI (mdIx bank d)) * 2 ^ 32 + s.get (F.MDESC_W2_MASK_LO (mdIx bank d))
  ((List.range 64).filter fun i => nbit m i == 1).map (s.descLeaf bank d)

/-- The descriptors of a chain from `d` on, at most 64, each valid. -/
def State.descChain (s : State) (bank : Nat) : Nat → Nat → List Nat
  | 0, _ => []
  | fuel + 1, d =>
    if s.on (F.MDESC_W0_VALID (mdIx bank d)) then
      d :: (if s.on (F.MDESC_W0_LAST (mdIx bank d)) then [] else s.descChain bank fuel (s.get (F.MDESC_W0_NEXT (mdIx bank d))))
    else []

/-- The replica of leaf `leaf`: the port it goes to, or none where its route has no live path. -/
def State.replicaPort (s : State) (k : Pkt) (leaf : Nat) : Option Nat × State :=
  match routeOf (s.leafRoute k.bank leaf) false with
  | .port p => (if s.portLive p then some p else none, s)
  | .group g => if (s.liveFrom g 0).isSome then s.chooseMember g k.bank k.bytes else (none, s)
  | _ => (none, s)

/-- What a walk carries: the state, the leaves reached, and those skipped. -/
structure Walk where
  st : State
  seen : List Nat
  skips : List Nat

/-- A skip, counted against the descriptor that named the leaf (R126, R128). -/
def Walk.skip (w : Walk) (leaf : Nat) (f : FRef) (ev : Nat) : Walk :=
  { w with st := (w.st.addSat f 1).countFwd ev 1, skips := w.skips ++ [leaf] }

/-- The replicator reaches a leaf that descriptor `d` names (R126). -/
def Walk.reach (w : Walk) (i d : Nat) (inLeaf : Option Nat) (leaf : Nat) : Walk :=
  if w.seen.contains leaf then w
  else
    let w1 : Walk := { w with seen := leaf :: w.seen }
    match w.st.pkt? i with
    | none => w1
    | some k =>
      if inLeaf = some leaf then w1
      -- R62: while SELF.VALID is 0 the part's own packets skip every leaf for want of a link
      else if k.acct = .vc5 ∧ ¬ w.st.on F.FWDID_SELF_VALID then w1.skip leaf (F.SKIP_W1_NOLINK_SKIPS d) Ev.MC_SKIP_NOLINK
      else if w.st.fenced leaf then w1.skip leaf (F.SKIP_W0_FENCE_SKIPS d) Ev.MC_SKIP_FENCE
      else
        let c := w.st.replicaPort k leaf
        match c.1 with
        | some p => { w1 with st := (c.2.offer p i).countFwd Ev.MC_REPLICA 1 }
        | none => w1.skip leaf (F.SKIP_W1_NOLINK_SKIPS d) Ev.MC_SKIP_NOLINK

/-- The walk of a packet's chain: the count starts at the walk reference, which is held to its end (R48, R126). -/
def State.replicate (s : State) (m : McItem) : State × List Nat :=
  match s.pkt? m.pkt with
  | none => (s, [])
  | some k =>
    let w := (s.descChain k.bank 64 m.desc).foldl (fun w d =>
      (w.st.descLeaves k.bank d).foldl (fun w leaf => w.reach m.pkt d m.inLeaf leaf) w)
      (⟨s.modPkt m.pkt fun k => { k with refs := 1 }, [], []⟩ : Walk)
    (w.st.unref m.pkt, w.skips)

/-! ### The commands -/

def execLearnInsert (pipe : Fin 32) (s : State) : Out := finish s (s.writerNext pipe false)
def execLearnMove (pipe : Fin 32) (s : State) : Out := finish s (s.writerNext pipe true)
def execAgeSweepVisit (s : State) : Out := finish s s.sweepVisit
def execFlushDone (s : State) : Out := finish s s.flushDone
def execEpochCopyDone (s : State) : Out := finish s s.epochCopyDone
def execEpochDrainExpire (s : State) : Out := finish s s.epochDrain
def execGroupReturnRelease (port : PortIx) (q : Fin 64) (s : State) : Out := finish s ((s.groupReturn port q).markPort port)

end Sys2Proof.Machine
end

