-- ==== Sys2Proof/Machine/Ingress.lean ====
section
/-! DEFINITION. A packet's way in and out: the ingress pipeline (R88), and the port scheduler's sends
(R148, R352). -/

namespace Sys2Proof.Machine

/-! ### Ingress (R22, R88) -/

/-- A pipeline's input buffer. -/
def State.inBuf (s : State) (pipe : Nat) : List RxFrame := SMap.get (fun _ => []) s.fwd.inBuf pipe

/-- Hold a pipeline's input buffer. -/
def State.setInBuf (s : State) (pipe : Nat) (l : List RxFrame) : State :=
  { s with fwd := { s.fwd with inBuf := SMap.set (fun _ => []) s.fwd.inBuf pipe l } }

/-- The sample record of a selected frame (R518). -/
def sampleOf (f : RxFrame) (outcome : Nat) : SampleRec :=
  { sec := f.sec, ns := f.ns, port := f.port, vc := pVc f.bytes, proto := pProto f.bytes, outcome := outcome
    len := f.bytes.length, caplen := min 128 f.bytes.length, capture := f.bytes.take 128 }

/-- A selected frame waits for the ring writer, at most two per pipeline (R517). -/
def State.takeSample (s : State) (f : RxFrame) (outcome : Nat) : State :=
  if !f.sampled then s
  else
    let pipe := f.port / 32
    if 2 ≤ (s.obs.sampleQ.filter fun (x : Nat × SampleRec) => x.1 == pipe).length then
      s.countPort f.port Ev.SAMPLE_LOST 1
    else { s with obs := { s.obs with sampleQ := s.obs.sampleQ ++ [(pipe, sampleOf f outcome)] } }

/-- A packet of VC7 or of a lossless VC finds no cell (R134): dropped whole, its credit returned. -/
def State.noCell (s : State) (f : RxFrame) : State :=
  let s1 := s.returnFrame f.port (pVc f.bytes) f.bytes.length
  if pVc f.bytes = 7 then s1.countCisPort f.port Ev.CIS_DROP_POOL 1
  else (s1.countCisPort f.port Ev.CIS_DROP_NOCELL 1).logReport Ev.CIS_DROP_NOCELL 0x700 (64 * f.port) 0 0

/-- A packet is offered to the Cistern and its cells charged to its port's account (R130), and goes on
along its route. -/
def State.takeIn (s : State) (f : RxFrame) (bank colour : Nat) (r : Route) : State :=
  match s.newPkt { bytes := f.bytes, acct := .port f.port (pVc f.bytes), cells := [], inPort := some f.port
                   bank := bank, colour := colour } with
  | none => s.noCell f
  | some (i, t) => t.dispatch i r

/-- A chunk goes to the collective engine (R22). -/
def State.toEngine (s : State) (f : RxFrame) : State :=
  match s.newPkt { bytes := f.bytes, acct := .port f.port (pVc f.bytes), cells := [], inPort := some f.port
                   bank := s.activeBank } with
  | none => s.noCell f
  | some (i, t) => { t with cis := { t.cis with chunkQ := t.cis.chunkQ ++ [i] } }

/-- A frame's cells are charged to its port's account until its consumer releases them (R130). -/
def State.holdFrame (s : State) (f : RxFrame) : Option (Nat × State) :=
  s.newPkt { bytes := f.bytes, acct := .port f.port (pVc f.bytes), cells := [], inPort := some f.port }

/-- A TIME packet goes to the time block, which consumes it (R22, R383). -/
def State.toTime (s : State) (f : RxFrame) : State :=
  match s.holdFrame f with
  | none => s.noCell f
  | some (i, t) => { t with time := { t.time with
      rxQ := t.time.rxQ ++ [⟨f.port, f.bytes, f.sec, f.ns, f.frac, f.epoch, some i⟩] } }

/-- A CTRL packet for this spine goes to the SPC, which consumes it (R22, R430). -/
def State.toSpc (s : State) (f : RxFrame) : State :=
  match s.holdFrame f with
  | none => s.noCell f
  | some (i, t) => { t with mgmt := { t.mgmt with fabIn := t.mgmt.fabIn ++ [⟨f.port, f.bytes, some i⟩] } }

/-- Learning from a frame that went in, `t` being the state after it: nothing where the part dropped it (R100), that is
where no packet was placed for it, or the one placed is gone already. -/
def State.learnKept (s t : State) (f : RxFrame) : State :=
  if (t.pkt? s.cis.nextPkt).isSome then t.learnFrom f.port f.bytes else t

/-- The forwarding of a frame that passed the header checks (R88, R89). -/
def State.forward (s : State) (f : RxFrame) (used : Bool) : State :=
  let bank := pE f.bytes
  let give (t : State) (ev : Nat) : State := (t.fwdDrop f.port ev).returnFrame f.port (pVc f.bytes) f.bytes.length
  if !used then give s Ev.FWD_EPOCH
  else
    let r := s.route (some f.port) bank f.bytes
    match r.1 with
    | .drop ev => give r.2 ev
    | route =>
      let c := r.2.colour f.port f.bytes
      c.2.learnKept (c.2.takeIn f bank c.1 route) f

/-- The destination of an arriving packet by its VC and kind (R22). -/
def State.classify (s : State) (f : RxFrame) (used : Bool) : State :=
  let b := f.bytes
  let take (enter : State → State) : State :=
    let c := s.colour f.port b
    c.2.learnKept (enter c.2) f
  if pProto b = 1 ∧ pType b = 1 then take fun t => t.toTime f
  else if pProto b = 1 ∧ pType b = 4 then take fun t => t.toEngine f
  else if pProto b = 1 ∧ epKind (pDest b) = 2 then take fun t => t.toSpc f
  else s.forward f used

/-- Whether a VC7 frame finds no cell: it is stored whole before its size, addresses and FCS are checked (R79), which
`code`, the first check that it fails, may name. -/
def State.notStored (s : State) (f : RxFrame) (code : Nat) : Bool :=
  pVc f.bytes == 7 && (code == 0 || code == 9 || code == 10) && !s.hasCells (cellsOf f.bytes.length)

/-- A frame takes its lookup slot (R88): epoch sampled, header checks, then its destination. -/
def State.ingress (s : State) (f : RxFrame) : State :=
  let e := s.sampleEpoch (pE f.bytes)
  let code := e.2.headerCheck f.bytes
  let dry := s.notStored f code
  let s1 := e.2.takeSample f (if dry then 0 else code)
  if dry then s1.noCell f
  else if code ≠ 0 then
    (s1.countPort f.port (Ev.HDR_1 + code - 1) 1).returnFrame f.port (pVc f.bytes) f.bytes.length
  else s1.classify f e.1

/-- A pipeline counts a VC7 frame that it dropped at its lookup rate (R19).  DEDUCED: R509 has no event for it, so
the count stands in the pipeline itself. -/
def State.countLate (s : State) (pipe : Nat) : State :=
  { s with fwd := { s.fwd with
    lateDrops := SMap.set (fun _ => 0) s.fwd.lateDrops pipe (SMap.get (fun _ => 0) s.fwd.lateDrops pipe + 1) } }

/-- INGRESS_PACKET: the frame at the head of a pipeline's input buffer.  `late` says that it could not
be looked up within the lookup rate (R19): a VC7 frame is then dropped and counted, any other waits.  A frame also waits
for a later clock where a higher pipeline has reached its policer on this one (R152). -/
def State.ingressNext (s : State) (pipe : Nat) (late : Bool) : State :=
  match s.inBuf pipe with
  | [] => s
  | f :: rest =>
    if late then
      if pVc f.bytes = 7 then
        let s1 := (s.setInBuf pipe rest).countLate pipe
        (s1.takeSample f (s1.headerCheck f.bytes)).returnFrame f.port 7 f.bytes.length
      else s
    else if s.policerBehind f.port (pVc f.bytes) then s
    else (s.setInBuf pipe rest).ingress f

/-! ### Egress (R148, R352) -/

/-- The transmit timestamp of a port now, with its trim, in 2^-16 ns (R383). -/
def State.txStamp (s : State) (p : Nat) : Nat :=
  ((s.dev16 : Int) + s.gets (F.LANE_PORTTSADJ_TX_PS p) * 65536 / 1000).toNat

/-- Bytes of a TIME packet with the stamp `t` inserted: seconds, ns, and FRAC added to the correction
(R384). -/
def stampTime (b : List Byte) (t : Nat) : List Byte :=
  let sec := t / 65536 / 1000000000
  let ns := t / 65536 % 1000000000
  let corr := beNat (slice b 24 8) + t % 65536
  patch (patch b 24 (beBytes 8 (corr % 2 ^ 64))) 50 (beBytes 6 (sec % 2 ^ 48) ++ beBytes 4 ns)

/-- The bytes that leave for a packet, HOPS set to 1 and timestamps inserted, and the record of a TIME
packet's departure (R86, R384). -/
def State.departs (s : State) (p : Nat) (k : Pkt) : List Byte × State :=
  let b := setHops k.bytes
  let t := s.txStamp p
  let rec_ (x : State) : State :=
    { x with time := { x.time with txStamps := (p, beNat (slice b 46 2), t) :: x.time.txStamps } }
  match k.ptp with
  | .none => (b, s)
  | .sync => (stampTime b t, (rec_ s).countBoth 0xd00 1 p Ev.TIME_SYNC_TX 1)
  | .delayReq =>
    let s1 := rec_ s
    let s2 : State := if s1.time.dreqSeq = some (beNat (slice b 46 2)) then
        { s1 with time := { s1.time with dreqT3 := ⟨t, s1.time.steps⟩ } } else s1
    (stampTime b t, s2.countBoth 0xd00 1 p Ev.TIME_DREQ_TX 1)
  | .delayResp => (b, rec_ s)
  | .announce => (b, rec_ s)

/-- The 4 check bytes of a frame's body (R350). -/
def linkCheck (b : List Byte) : List Byte := beBytes 4 (crcStd b)

/-- The head of QUEUE[p][q] starts (R148, R352): S falls by its cells.  DESIGN CHOICE: deficit and cursor, which R148
changes "after sending", change as serialisation starts, so that the next decision sees them. -/
def State.startFrame (s : State) (p q : Nat) (strict : Bool) : State :=
  match s.headPkt p q with
  | none => s
  | some (e, k) =>
    let v := pVc k.bytes
    let n := k.cells.length
    let x := s.queue p q
    let s1 := (s.setQueue p q { x with ents := x.ents.drop 1 }).leftQueue p q e
    let c := s1.vcSt p v
    let s2 := s1.setVc p v { c with started := (c.started + n) % 2 ^ 32, credits := c.credits - n }
    let s3 := s2.setPort p { s2.portSt p with tx := some (e, v, n), next := none }
    let d := s3.departs p k
    let s4 := (d.2.emit (.frame p (d.1 ++ linkCheck d.1))).countCisPort p Ev.SCHED_TX 1
    ((s4.afterSend p q k.bytes.length strict).lateHead p q).markPort p

/-- The scheduler of a port that is UP decides (R148): the packet it picks starts where the port sends nothing, and
follows the packet being sent otherwise.  One decision is made ahead.  The shapers are debited at the decision (R50).  A
decision waits for transactions whose device time has come (R388). -/
def State.schedule (s : State) (p : Nat) : State :=
  if s.portUp p ∧ (s.portSt p).next = none ∧ s.commitDue = false then
    let r := s.select p
    match r.1 with
    | none => r.2
    | some q =>
      let t := r.2.debitShapers p q (((r.2.headPkt p q).map fun x => x.2.bytes.length).getD 0)
      let strict := s.isStrict p q
      match (s.portSt p).tx with
      | none => t.startFrame p q strict
      | some _ => t.setPort p { t.portSt p with next := some q, nextStrict := strict }
  else s

/-- The packet decided on starts once the one before it has left. -/
def State.startNext (s : State) (p : Nat) : State :=
  match (s.portSt p).next with
  | some q => if s.portUp p then (s.setPort p { s.portSt p with next := none }).startFrame p q (s.portSt p).nextStrict else s
  | none => s

/-- LAUNCH_DUE: device time has reached the launch time of the head of a LAUNCH queue, which the
scheduler then finds eligible (R147, R155). -/
def State.launch (s : State) (p q : Nat) : State :=
  match s.headPkt p q with
  | some (_, k) =>
    if s.on (F.QUEUE_W0_LAUNCH (64 * p + q)) ∧ k.launch.any s.launchDue then s.schedule p else s
  | none => s

/-- Mark cells of a packet in which the read for sending found an uncorrectable error (R46). -/
def State.markBad (s : State) (k : Pkt) (bad : List Nat) : State :=
  bad.foldl (fun t i =>
    match k.cells[i]? with
    | some c => t.setCell c { t.cell c with bad := true }
    | none => t) s

/-- TX_FRAME_DONE: the last block of the frame being sent leaves (R352, R137), and the frame decided on follows.  `bad` lists the cells
of the packet, by place, in which an uncorrectable error was found. -/
def State.txDone (s : State) (p : Nat) (bad : List Nat) : State :=
  match (s.portSt p).tx with
  | none => s
  | some (e, v, n) =>
    let s1 := s.setPort p { s.portSt p with tx := none }
    let c := s1.vcSt p v
    let s2 := s1.setVc p v { c with consumed := (c.consumed + n) % 2 ^ 32 }
    match s2.pkt? e.pkt with
    | none => s2.startNext p
    | some k =>
      ((((s2.markBad k bad).countPort p Ev.TX_FRAME 1).countPort p Ev.TX_BYTES k.bytes.length).unref e.pkt).startNext p

def execIngressPacket (pipe : Fin 32) (late : Bool) (s : State) : Out := finish s (s.ingressNext pipe late)
def execSchedSelect (port : PortIx) (s : State) : Out := finish s (s.schedule port)
def execLaunchDue (port : PortIx) (q : Fin 64) (s : State) : Out := finish s (s.launch port q)
def execTxFrameDone (port : PortIx) (bad : List (Fin 37)) (s : State) : Out :=
  finish s (s.txDone port (bad.map Fin.val))

end Sys2Proof.Machine
end

