-- ==== Sys2Proof/Machine/Regulators.lean ====
section
/-! DEFINITION. The Basin regulators (R459): V = VF[f] + GUARD, its ramps of 10 mV/µs, and the clock change that waits
for it (R268). -/

namespace Sys2Proof.Machine

/-- Units of a voltage in a mV: a ramp of 10 mV/µs moves by one unit in a core clock of 0.625 ns. -/
def mvUnits : Nat := 160

/-- The voltage of a Basin at frequency code `f` with guard `g` in mV (R459). -/
def vfUnits (f g : Nat) : Nat := mvUnits * ((Config.basinVf f).toNat + g)

/-- The voltage of a ramp at a core clock. -/
def Ramp.volt (r : Ramp) (now : Nat) : Nat :=
  if r.start ≤ r.target then min r.target (r.start + (now - r.since)) else max r.target (r.start - (now - r.since))

/-- A regulator's output: 0 V after a trip (R468), else its ramp's; a regulator that has not moved since start-up gives
the voltage of the code in force. -/
def State.volt (s : State) (b : Nat) : Nat :=
  if s.pwr.trip then 0
  else match SMap.get (fun _ => none) s.pwr.ramps b with
  | some r => r.volt s.now
  | none => vfUnits (s.get (F.BASIN_CLK_EFF b)) (s.get (F.ANN_BASIN_GUARD b))

/-- The voltage that a Basin's codes and guard ask for: of the code in force, or of a higher one that is to follow. -/
def State.voltGoal (s : State) (b : Nat) : Nat :=
  vfUnits (max (s.get (F.BASIN_CLK_EFF b)) (s.get (F.THERM_BLIM_CODE b))) (s.get (F.ANN_BASIN_GUARD b))

/-- A regulator at `v` ramps to what its Basin asks for. -/
def State.rampFrom (s : State) (b v : Nat) : State :=
  { s with pwr := { s.pwr with ramps := SMap.set (fun _ => none) s.pwr.ramps b (some ⟨v, s.now, s.voltGoal b⟩) } }

/-- Whether the events of R268 run on a Basin: at once for a lower code, and for a higher one once the voltage is within
2 mV of its target (R459). -/
def State.clkHeld (s : State) (b : Nat) : Bool :=
  SMap.get (fun _ => false) s.bsn.clkBusy b
    && (decide (s.get (F.THERM_BLIM_CODE b) < s.get (F.BASIN_CLK_EFF b)) || decide (s.voltGoal b ≤ s.volt b + 2 * mvUnits))

end Sys2Proof.Machine
end

