-- ==== Sys2Proof/Machine/Memory.lean ====
section
/-! DEFINITION. Stacked memory (chapter 9): the interleave, the bytes and their check code, row remap
and map-out, margining, the common arbiter, and the rings (R252 to R256) that carry the requests. -/

namespace Sys2Proof.Machine

/-! ### The interleave (R277, R278) -/

/-- W0.STATE of a channel: 0 ACTIVE, 1 MARGINING, 2 CONDEMNED, 3 MAPPED_OUT. -/
def State.chanState (s : State) (c : Nat) : Nat := s.get (F.CHAN_W0_STATE c)

/-- Whether a channel is in LIVE. -/
def State.chanLive (s : State) (c : Nat) : Bool := decide (c < 512) && s.chanState c != 3

/-- LIVE[k]. -/
def State.liveChan (s : State) (k : Nat) : Nat :=
  if s.get F.MEMCFG_CAP_LIVECH = 512 then k
  else ((List.range 512).find? fun c => s.chanLive c && s.get (F.CHAN_W0_LIVEIDX c) == k).getD 0

/-- BANKMAP[c][i]: the physical bank of a valid slot. -/
def State.bankMap (s : State) (c i : Nat) : Nat := s.byteAt (0x07000040 + 128 * c + i) % 64

/-- Window index of a bank. -/
def bankIx (c bank : Nat) : Nat := c * 64 + bank

/-- N, F and the capacity in bytes. -/
def State.liveN (s : State) : Nat := s.get F.MEMCFG_CAP_LIVECH
def State.fullF (s : State) : Nat := s.get F.MEMCFG_PLANES_FULL
def State.capacity (s : State) : Nat := s.get F.MEMCFG_CAP_CAP_16M * 2 ^ 24

/-- The tail banks in their order: pairs of slot and LIVE index. -/
def State.tailBanks (s : State) : List (Nat × Nat) :=
  (List.range (64 - s.fullF)).flatMap fun d =>
    ((List.range s.liveN).filter fun k => decide (s.fullF + d < s.get (F.CHAN_W0_NC (s.liveChan k)))).map fun k => (s.fullF + d, k)

/-- A place: channel, physical bank, row of the bank and byte in the row. -/
structure Loc where
  chan : Nat
  bank : Nat
  row : Nat
  off : Nat
  deriving DecidableEq, Repr

/-- fold(t) of R278. -/
def fold9 (t : Nat) : Nat := (t % 512) ^^^ (t / 512 % 8)

/-- Whether a bank map-out copies rows (R294), and that it copies rows of channel `c`, bank `bank`. -/
def State.copying (s : State) (c bank : Nat) : Bool :=
  s.on F.MEMCFG_MAPOUT_MOVING && s.get F.MEMCFG_MAPOUT_GCH == c && s.get F.MEMCFG_MAPOUT_BANK == bank
    && decide (s.mem.mapSlot + 1 < s.get (F.CHAN_W0_NC c)) && decide (s.mem.copied < 4096)

/-- The bank that serves a row of a slot: its own, or the donor where the map-out that empties the slot has copied the
row (R294 event 2). -/
def State.rowBank (s : State) (c i row : Nat) : Nat :=
  if s.on F.MEMCFG_MAPOUT_MOVING && s.get F.MEMCFG_MAPOUT_GCH == c && s.mem.mapSlot == i
      && decide (row < s.mem.copied) then s.bankMap c (s.get (F.CHAN_W0_NC c) - 1)
  else s.bankMap c i

/-- `locate` of R278; none at or above capacity. -/
def State.locate (s : State) (a : Nat) : Option Loc :=
  if s.capacity ≤ a then none
  else
    let p := a / 4096
    let n := s.liveN
    let f := s.fullF
    if p < f * (n * 4096) then
      let g := p % (n * 4096)
      let c := s.liveChan ((g % n + fold9 (g / n)) % n)
      some ⟨c, s.rowBank c (p / (n * 4096)) (g / n), g / n, a % 4096⟩
    else
      let q := p - f * (n * 4096)
      match s.tailBanks[q / 4096]? with
      | none => none
      | some (slot, k) => let c := s.liveChan k; some ⟨c, s.rowBank c slot (q % 4096), q % 4096, a % 4096⟩

/-- The physical row of a row: its spare, written 4,096 + k, where one holds it (R289). -/
def State.physRow (s : State) (c bank row : Nat) : Nat :=
  match (List.range 32).find? fun k => s.on (F.BANK_W32_VALID (bankIx c bank) k) && s.get (F.BANK_W32_ROW (bankIx c bank) k) == row with
  | some k => 4096 + k
  | none => row

/-- The physical place of byte 0 of a physical row. -/
def rowKey (c bank prow : Nat) : Nat := (bankIx c bank * 4128 + prow) * 4096

/-- The physical place of a location. -/
def State.locKey (s : State) (l : Loc) : Nat := rowKey l.chan l.bank (s.physRow l.chan l.bank l.row) + l.off

/-! ### Stretched clocks (R28, R461) -/

/-- Core clocks from core clock `t` on in which an island's clock has been stretched. -/
def State.slowed (s : State) (island t : Nat) : Nat :=
  let at_ := SMap.get (fun _ => 0) s.pwr.stretch island
  ((SMap.get (fun _ => []) s.pwr.slow island).map fun (x : Nat × Nat) => x.2 - max t x.1).sum
    + (if at_ = 0 then 0 else s.now - max t (at_ - 1))

/-- Half core clocks that the clocks of an island since core clock `t` were worth: a stretched one runs at half its rate. -/
def State.ranHalves (s : State) (island t : Nat) : Nat := 2 * (s.now - t) - s.slowed island t

/-- The islands of a Basin, of a stack and of the Glass controller, of the 197 of R26. -/
def basinIsland (b : Nat) : Nat := 129 + b
def stackIsland (j : Nat) : Nat := 179 + j
def glassIsland : Nat := 195

/-! ### Bytes -/

/-- What a byte of stacked memory that nothing has written holds: 0, or a free value once a map-out
has left its bank undefined. -/
def memDefault (gen : SMap Nat) (k : Nat) : Byte :=
  let g := SMap.get (fun _ => 0) gen (k / 4096 / 4128)
  if g = 0 then 0#8 else Config.memFree g k

/-- The byte at a physical place. -/
def State.memAt (s : State) (k : Nat) : Byte := SMap.get (memDefault s.mem.gen) s.mem.bytes k

/-- Bytes reach a physical place. -/
def State.memPut (s : State) (k : Nat) (bs : List Byte) : State :=
  let m := (bs.zipIdx).foldl (fun m (p : Byte × Nat) => SMap.set (memDefault s.mem.gen) m (k + p.2) p.1) s.mem.bytes
  { s with mem := { s.mem with bytes := m } }

/-- `n` bytes from a physical place. -/
def State.memBytes (s : State) (k n : Nat) : List Byte := (List.range n).map fun i => s.memAt (k + i)

/-- Whether a codeword is poisoned. -/
def State.poisoned (s : State) (cw : Nat) : Bool := SMap.get (fun _ => false) s.mem.poison cw

/-- Poison a codeword, or clear its poison. -/
def State.setPoison (s : State) (cw : Nat) (b : Bool) : State :=
  { s with mem := { s.mem with poison := SMap.set (fun _ => false) s.mem.poison cw b } }

/-- The memory windows keep their canonical form. -/
def MemSt.wf (m : MemSt) : Bool := SMap.wf (memDefault m.gen) m.bytes

/-! ### The check code (R280, R281) -/

/-- Multiplication by α in GF(2^8) with x^8 + x^4 + x^3 + x^2 + 1. -/
def gfDouble (a : Nat) : Nat := if a < 128 then 2 * a else (2 * a) ^^^ 0x11d

/-- The product in GF(2^8). -/
def gfMul : Nat → Nat → Nat → Nat
  | 0, _, _ => 0
  | n + 1, a, b => (if b % 2 = 1 then a else 0) ^^^ gfMul n (gfDouble a) (b / 2)

/-- α^i. -/
def gfPow : Nat → Nat
  | 0 => 1
  | n + 1 => gfDouble (gfPow n)

/-- The generator (x − α^0) … (x − α^7), coefficients of x^7 down to x^0. -/
def rsGen : List Nat :=
  ((List.range 8).foldl (fun (g : List Nat) i =>
    ((g ++ [0]).zip (0 :: g)).map fun (p : Nat × Nat) => p.1 ^^^ gfMul 8 p.2 (gfPow i)) [1]).drop 1

/-- The 8 check bytes of 69 message bytes (R280). -/
def rsCheck (msg : List Nat) : List Nat :=
  msg.foldl (fun r m =>
    let f := m ^^^ r.headD 0
    ((r.drop 1 ++ [0]).zip rsGen).map fun (p : Nat × Nat) => p.1 ^^^ gfMul 8 f p.2) (List.replicate 8 0)

/-- The check bytes that stand with a codeword, by physical place divided by 64: those of its address and
data, each XOR 0xFF where it is poisoned. -/
def State.storedCheck (s : State) (cw : Nat) : List Nat :=
  let place := cw / 64
  let addr := (((place / 4128 / 64 * 8192 + place % 4128) * 64 + place / 4128 % 64) * 8 + cw % 64 / 8) * 8 + cw % 8
  let msg := (beBytes 5 addr ++ s.memBytes (cw * 64) 64).map BitVec.toNat
  (rsCheck msg).map fun b => if s.poisoned cw then b ^^^ 0xff else b

/-! ### Map-out requests (R291, R292) -/

/-- Instance of a memory log entry (R522). -/
def memInst (c bank row : Nat) : Nat := c * 2 ^ 18 + bank * 2 ^ 12 + row

/-- The slot that holds a physical bank. -/
def State.slotOf (s : State) (c bank : Nat) : Option Nat :=
  (List.range (s.get (F.CHAN_W0_NC c))).find? fun i => s.bankMap c i == bank

/-- Request a map-out; while one is pending the trigger is only logged. -/
def State.requestMapout (s : State) (kind c bank : Nat) (reason : Nat) (condemn : Bool) : State :=
  if s.on F.MEMCFG_MAPOUT_PENDING then s.logState 0xb00110 (s.word 0xb00110).toNat (s.word 0xb00110).toNat
  else
    let s1 := s.puts [(F.MEMCFG_MAPOUT_PENDING, 1), (F.MEMCFG_MAPOUT_KIND, kind), (F.MEMCFG_MAPOUT_GCH, c),
      (F.MEMCFG_MAPOUT_BANK, if kind = 0 then bank else 0)]
    let s2 : State := { s1.istat F.MEMCFG_ISTAT_ISTAT 2 with mem := { s1.mem with mapReason := reason } }
    if condemn then s2.put (F.CHAN_W0_STATE c) 2 else s2

/-- The start of the affected range of the map-out requested (R292), in bytes. -/
def State.mapoutStart (s : State) : Nat :=
  let c := s.get F.MEMCFG_MAPOUT_GCH
  if s.on F.MEMCFG_MAPOUT_KIND then 0
  else if s.get (F.CHAN_W0_NC c) ≤ s.fullF then (s.fullF - 1) * s.liveN * 2 ^ 24
  else
    let i := s.tailBanks.findIdx fun p => p.1 == s.get (F.CHAN_W0_NC c) - 1 && s.liveChan p.2 == c
    (s.fullF * s.liveN + i) * 2 ^ 24

/-- The valid partition windows (R257), by index. -/
def State.windowsValid (s : State) : List Nat := (List.range 256).filter fun i => s.on (F.PWIN_W0_VALID i)

/-- The partitions whose window overlaps the affected range. -/
def State.mapBlockers (s : State) : List Nat :=
  (s.windowsValid.filter fun i =>
      decide (s.mapoutStart < (s.get (F.PWIN_W1_BASE_PAGE i) + s.get (F.PWIN_W2_NPAGES i)) * 4096)
        && decide (s.get (F.PWIN_W1_BASE_PAGE i) * 4096 < s.capacity)).map fun i => s.get (F.PWIN_W0_PART i)

/-- MAPBLOCK: the lowest blocking partition of a pending map-out. -/
def State.mapBlock (s : State) : Nat :=
  if s.on F.MEMCFG_MAPOUT_PENDING ∧ ¬ s.on F.MEMCFG_MAPOUT_MOVING then
    (s.mapBlockers.foldl (fun m p => some (match m with
      | none => p
      | some q => min p q)) none).getD 0
  else 0

/-- Whether an address lies where aperture accesses and new windows are refused while a map-out runs. -/
def State.inMoving (s : State) (a : Nat) : Bool :=
  s.on F.MEMCFG_MAPOUT_PENDING && s.on F.MEMCFG_MAPOUT_MOVING && decide (s.mapoutStart ≤ a)

/-! ### Row remap (R289, R290) -/

/-- A FREE spare of a bank: not used, not retired, and not the target of a copy. -/
def State.freeSpare (s : State) (c bank : Nat) : Option Nat :=
  (List.range 32).find? fun k =>
    !s.on (F.BANK_W32_VALID (bankIx c bank) k) && nbit (s.get (F.BANK_W1_RETIRED (bankIx c bank))) k == 0
      && !s.mem.repairs.any fun r => r.chan == c && r.bank == bank && r.spare == k

/-- Whether a row is REPAIRING. -/
def State.repairing (s : State) (c bank row : Nat) : Bool :=
  s.mem.repairs.any fun r => r.chan == c && r.bank == bank && r.row == row

/-- Requests at a channel. -/
def State.chanReqs (s : State) (c : Nat) : List MemReq := SMap.get (fun _ => []) s.mem.chanQ c

/-- Hold a channel's requests. -/
def State.setChanReqs (s : State) (c : Nat) (l : List MemReq) : State :=
  { s with mem := { s.mem with chanQ := SMap.set (fun _ => []) s.mem.chanQ c l } }

/-- Whether a request touches a row that is REPAIRING, or that a map-out copies (R290 event 1, R294 event 2). -/
def State.rowHeld (s : State) (q : MemReq) : Bool :=
  match s.locate q.addr with
  | some l => s.repairing l.chan l.bank l.row || (s.copying l.chan l.bank && s.mem.copied == l.row)
  | none => false

/-- Whether a request waits behind a row that is being copied; one that has started finishes (R290 event 1). -/
def State.waitsRow (s : State) (q : MemReq) : Bool := !q.begun && s.rowHeld q

/-- The requests of a channel behind a row that is being copied are held, each counted as it comes to be; the others
are released in their order (R290, R304). -/
def State.markHeld (s : State) (c : Nat) : State :=
  let l := s.chanReqs c
  let new := (l.filter fun q => !q.held && s.waitsRow q).length
  if l.isEmpty then s
  else (s.setChanReqs c (l.map fun q => { q with held := s.waitsRow q })).countMem c Ev.MEM_HOLD new

/-- A trigger of R289 names a row: its copy to a spare starts, or with no FREE spare the bank's
map-out is requested; nothing in a bank that is MOVING. -/
def State.triggerRemap (s : State) (c bank row : Nat) : State :=
  if s.repairing c bank row ∨ s.get (F.BANK_W0_STATE (bankIx c bank)) ≠ 0 then s
  else
    match s.freeSpare c bank with
    | some k => ({ s with mem := { s.mem with repairs := s.mem.repairs ++ [{ chan := c, bank := bank, row := row, spare := k, since := s.now }] } } : State).markHeld c
    | none => s.requestMapout 0 c bank 3 false

/-! ### What a read of a codeword finds (R281) -/

/-- The correction table of a channel. -/
def State.rowCes (s : State) (c : Nat) : List RowCe := SMap.get (fun _ => []) s.mem.rowCe c

/-- Enter a correction: a full table evicts the row with the oldest correction. -/
def State.noteCe (s : State) (c bank row cw : Nat) : State :=
  let l := s.rowCes c
  let old := l.find? fun (r : RowCe) => r.bank == bank && r.row == row
  let n : RowCe := match old with
    | some r => { r with count := r.count + 1, words := if r.words.contains cw then r.words else cw :: r.words }
    | none => ⟨c, bank, row, 1, [cw]⟩
  let rest := l.filter fun (r : RowCe) => !(r.bank == bank && r.row == row)
  let l1 := (if rest.length < 256 then rest else rest.drop 1) ++ [n]
  let s1 : State := { s with mem := { s.mem with rowCe := SMap.set (fun _ => []) s.mem.rowCe c l1 } }
  if (old.any fun (r : RowCe) => r.words.contains cw) ∨ s.get F.MEMCFG_SCRUB_CE_ROW_LIMIT ≤ n.count then
    s1.triggerRemap c bank row else s1

/-- An address fault of a channel. -/
def State.noteAddr (s : State) (c : Nat) : State :=
  let n := SMap.get (fun _ => 0) s.mem.addrFaults c + 1
  let s1 : State := { s with mem := { s.mem with addrFaults := SMap.set (fun _ => 0) s.mem.addrFaults c n } }
  let s2 := (s1.countMem c Ev.MEM_ADDR_FAULT 1).istat F.MEMCFG_ISTAT_ISTAT 8
  if s.get F.MEMCFG_POLICY_ADDR_LIMIT ≤ n then s2.requestMapout 1 c 0 5 true else s2

/-- Uncorrectable data is recorded against its stack and its channel (R450). -/
def State.noteUe (s : State) (c : Nat) : State :=
  let s1 : State := { s with hlth := { s.hlth with
    stackUe := SMap.set (fun _ => 0) s.hlth.stackUe (c % 16) (SMap.get (fun _ => 0) s.hlth.stackUe (c % 16) + 1)
    chanUe := SMap.set (fun _ => 0) s.hlth.chanUe c (SMap.get (fun _ => 0) s.hlth.chanUe c + 1) } }
  s1.istat F.HLTH_ISTAT_ISTAT 7

/-- What codeword `cw` of a row gives a reader: whether it is uncorrectable, and the state after, by the
fact that decoding it found. -/
def State.readCw (s : State) (c bank row cw : Nat) (fact : Option CwFind) : Bool × State :=
  let k := rowKey c bank (s.physRow c bank row) / 64 + cw
  if s.chanState c = 2 then (true, s.noteUe c)
  else if s.poisoned k then (true, (s.countMem c Ev.MEM_POISON_RD 1).noteUe c)
  else
    match fact with
    | none => (false, s)
    | some .corrected => (false, (s.countMem c Ev.MEM_CE 1).noteCe c bank row cw)
    | some .address => (true, (s.noteAddr c).noteUe c)
    | some .failed => (true, (((s.countMem c Ev.MEM_UE 1).istat F.MEMCFG_ISTAT_ISTAT 0).noteUe c).triggerRemap c bank row)
    | some (.miscorrected d) => (false, ((s.memPut (k * 64) (slice d 0 64)).countMem c Ev.MEM_CE 1).noteCe c bank row cw)

/-- Facts about the codewords of one row, by number in the row. -/
abbrev CwFacts := List (Fin 64 × CwFind)

/-- The fact about a codeword. -/
def factOf (l : CwFacts) (cw : Nat) : Option CwFind := (l.find? fun p => p.1.val == cw).map fun p => p.2

/-- Read codewords of a row: those uncorrectable, and the state after. -/
def State.readCws (s : State) (c bank row : Nat) (cws : List Nat) (facts : CwFacts) : List Nat × State :=
  cws.foldl (fun (r : List Nat × State) cw =>
    let q := r.2.readCw c bank row cw (factOf facts cw)
    (if q.1 then r.1 ++ [cw] else r.1, q.2)) ([], s)

/-- The codewords that bytes `o` to `o + n − 1` of a row touch. -/
def cwsOf (o n : Nat) : List Nat := if n = 0 then [] else (List.range ((o + n - 1) / 64 - o / 64 + 1)).map (o / 64 + ·)

/-- Of them, those covered whole. -/
def cwsWhole (o n : Nat) : List Nat := (cwsOf o n).filter fun c => decide (o ≤ c * 64) && decide (c * 64 + 64 ≤ o + n)

/-! ### Pieces of a range -/

/-- Pieces of a range that stay within pages (R279): offset in the range and length. -/
def pagePieces : Nat → Nat → Nat → Nat → List (Nat × Nat)
  | 0, _, _, _ => []
  | fuel + 1, a, done_, n =>
    if n = 0 then []
    else
      let m := min n (4096 - a % 4096)
      (done_, m) :: pagePieces fuel (a + m) (done_ + m) (n - m)

/-- Pieces of `n` bytes from address `a`. -/
def pieces (a n : Nat) : List (Nat × Nat) := pagePieces (n / 4096 + 2) a 0 n

end Sys2Proof.Machine
end

