-- ==== Sys2Proof/Machine/Numerics.lean ====
section
/-! DEFINITION. Number formats, the one conversion rule, and accumulator images (chapter 7). -/

namespace Sys2Proof.Machine

/-- Element formats of a target: fraction bits and unit weight of a float, or the bits of an integer. -/
inductive Fmt where
  | fp32 | fp16 | bf16 | df8 | df4
  | int (bits : Nat)
  deriving DecidableEq, Repr

/-- Fraction bits of a float format. -/
def Fmt.mant : Fmt → Nat
  | .fp32 => 23
  | .fp16 => 10
  | .bf16 => 7
  | .df8 => 3
  | .df4 => 1
  | .int _ => 0

/-- The negated exponent of the smallest unit of a float format (R199, R201, R202). -/
def Fmt.unit : Fmt → Nat
  | .fp32 => 149
  | .fp16 => 24
  | .bf16 => 133
  | .df8 => 9
  | .df4 => 1
  | .int _ => 0

/-- Bits of a code. -/
def Fmt.bits : Fmt → Nat
  | .fp32 => 32
  | .fp16 => 16
  | .bf16 => 16
  | .df8 => 8
  | .df4 => 4
  | .int b => b

/-- Whether the format has infinities and signed zeros. -/
def Fmt.ieee : Fmt → Bool
  | .fp32 => true
  | .fp16 => true
  | .bf16 => true
  | _ => false

/-- The overflow point on a side (R206). -/
def Fmt.over (f : Fmt) (neg : Bool) : Nat :=
  match f with
  | .fp32 => 2 ^ 128
  | .bf16 => 2 ^ 128
  | .fp16 => 65536
  | .df8 => 512
  | .df4 => 8
  | .int b => if neg then 2 ^ (b - 1) + 1 else 2 ^ (b - 1)

/-- The canonical NaN code (R199, R201, R202); 0 for an integer (R208). -/
def Fmt.nanCode : Fmt → Nat
  | .fp32 => 0x7fc00000
  | .fp16 => 0x7e00
  | .bf16 => 0x7fc0
  | .df8 => 0x80
  | .df4 => 0x8
  | .int _ => 0

/-- The code of an infinity. -/
def Fmt.infCode (f : Fmt) (neg : Bool) : Nat :=
  (if neg then 2 ^ (f.bits - 1) else 0) + (2 ^ (f.bits - 1 - f.mant) - 1) * 2 ^ f.mant

/-- The code of the largest finite value on a side. -/
def Fmt.maxCode (f : Fmt) (neg : Bool) : Nat :=
  match f with
  | .int b => if neg then 2 ^ (b - 1) else 2 ^ (b - 1) - 1
  | _ => (if neg then 2 ^ (f.bits - 1) else 0) + (2 ^ (f.bits - 1) - 1)

/-- The code of a zero of a sign. -/
def Fmt.zeroCode (f : Fmt) (neg : Bool) : Nat := if f.ieee && neg then 2 ^ (f.bits - 1) else 0

/-- A value `k × 2^(e − unit)`. -/
def scaled (neg : Bool) (k e unit : Nat) : Num :=
  if unit ≤ e then .fin neg (k * 2 ^ (e - unit)) 1 else .fin neg k (2 ^ (unit - e))

/-- The value of a code (R199 to R202). -/
def Fmt.decode (f : Fmt) (c : Nat) : Num :=
  match f with
  | .int b => let i := toSigned b c; .fin (decide (i < 0)) i.natAbs 1
  | _ =>
    let m := f.mant
    let neg := nbit c (f.bits - 1) == 1
    let e := c / 2 ^ m % 2 ^ (f.bits - 1 - m)
    let fr := c % 2 ^ m
    if f.ieee && e == 2 ^ (f.bits - 1 - m) - 1 then (if fr = 0 then .inf neg else .nan)
    else if !f.ieee && c % 2 ^ f.bits == f.nanCode then .nan
    else if e = 0 then scaled neg fr 0 f.unit
    else scaled neg (fr + 2 ^ m) (e - 1) f.unit

/-- Overflow of a finite value or an infinity (R208); `ovf` 0 saturates DF targets, 1 makes NaN. -/
def Fmt.overflow (f : Fmt) (neg ovf : Bool) : Rounded :=
  if f.ieee then { code := f.infCode neg, inf := true }
  else
    match f with
    | .int _ => { code := f.maxCode neg, sat := true }
    | _ => if ovf then { code := f.nanCode, nan := true } else { code := f.maxCode neg, sat := true }

/-- floor(log2(n/d)) + bias for a non-zero value, with a bias that keeps it natural. -/
def ratLog (n d bias : Nat) : Nat :=
  let e := Nat.log2 n + bias - Nat.log2 d
  if bias ≤ e then (if n < d * 2 ^ (e - bias) then e - 1 else e)
  else (if n * 2 ^ (bias - e) < d then e - 1 else e)

/-- The step of the grid at a magnitude, as the exponent above the smallest unit. -/
def Fmt.stepAt (f : Fmt) (n d : Nat) : Nat :=
  match f with
  | .int _ => 0
  | _ =>
    -- bias large enough for every value a conversion meets
    let e := ratLog n d 4096
    e - (4096 - f.unit + f.mant)

/-- `round` of R207 on a non-zero finite value; `sr` selects stochastic rounding with its draw. -/
def Fmt.round (f : Fmt) (neg : Bool) (n d : Nat) (sr : Bool) (draw : Nat) (ovf : Bool) : Rounded :=
  let ov := f.over neg
  if ov * d ≤ n then f.overflow neg ovf
  else
    let st := f.stepAt n d
    -- a in units of 2^(st − unit): num/den
    let num := n * 2 ^ f.unit
    let den := d * 2 ^ st
    let k := num / den
    let r := num % den
    let up : Bool :=
      if r = 0 then false
      else if sr then decide (draw < r * 2 ^ 24 / den)
      else if 2 * r = den then k % 2 == 1 else decide (den < 2 * r)
    let y := if up then k + 1 else k
    let tot := sr && r != 0
    let base : Rounded :=
      if ov * 2 ^ f.unit ≤ y * 2 ^ st then f.overflow neg ovf
      else if y = 0 then { code := f.zeroCode neg }
      else
        match f with
        | .int b => { code := if neg then (2 ^ b - y) % 2 ^ b else y }
        | _ => { code := (if neg then 2 ^ (f.bits - 1) else 0) + st * 2 ^ f.mant + y }
    { base with srTotal := tot, srUp := tot && up }

/-- A value converted into a format (R207, R208). -/
def Fmt.encode (f : Fmt) (x : Num) (sr : Bool) (draw : Nat) (ovf : Bool) : Rounded :=
  match x with
  | .nan => { code := f.nanCode, nan := true }
  | .inf neg => f.overflow neg ovf
  | .fin neg n d => if n = 0 then { code := f.zeroCode neg } else f.round neg n d sr draw ovf

/-- A value rounded to nearest even into a format: its code. -/
def Fmt.rne (f : Fmt) (x : Num) : Nat := (f.encode x false 0 false).code

/-! ### Exact arithmetic -/

/-- The negation of a value. -/
def Num.neg : Num → Num
  | .nan => .nan
  | .inf s => .inf (!s)
  | .fin s n d => .fin (!s) n d

/-- The magnitude of a value. -/
def Num.abs : Num → Num
  | .nan => .nan
  | .inf _ => .inf false
  | .fin _ n d => .fin false n d

/-- The signed numerator of a finite value. -/
def sgn (s : Bool) (n : Nat) : Int := if s then -(n : Int) else n

/-- A signed numerator over a denominator; `z` is the sign of a zero. -/
def ofInt (z : Bool) (i : Int) (d : Nat) : Num := if i = 0 then .fin z 0 1 else .fin (decide (i < 0)) i.natAbs d

/-- The exact sum, with the zero of IEEE 754 addition to nearest: −0 only from two −0. -/
def Num.add : Num → Num → Num
  | .nan, _ => .nan
  | _, .nan => .nan
  | .inf s, .inf t => if s = t then .inf s else .nan
  | .inf s, _ => .inf s
  | _, .inf t => .inf t
  | .fin s n d, .fin t m e => ofInt (s && t && n == 0 && m == 0) (sgn s n * e + sgn t m * d) (d * e)

/-- The exact product. -/
def Num.mul : Num → Num → Num
  | .nan, _ => .nan
  | _, .nan => .nan
  | .inf s, .inf t => .inf (s != t)
  | .inf s, .fin t m _ => if m = 0 then .nan else .inf (s != t)
  | .fin s n _, .inf t => if n = 0 then .nan else .inf (s != t)
  | .fin s n d, .fin t m e => .fin (s != t) (n * m) (d * e)

/-- The exact quotient of IEEE 754 division. -/
def Num.div : Num → Num → Num
  | .nan, _ => .nan
  | _, .nan => .nan
  | .inf _, .inf _ => .nan
  | .inf s, .fin t _ _ => .inf (s != t)
  | .fin s _ _, .inf t => .fin (s != t) 0 1
  | .fin s n d, .fin t m e =>
    if m = 0 then (if n = 0 then .nan else .inf (s != t)) else .fin (s != t) (n * e) (d * m)

/-- A finite value divided by a whole number (R218). -/
def Num.divNat (x : Num) (w : Nat) : Num :=
  match x with
  | .fin s n d => if w = 0 then x else .fin s n (d * w)
  | _ => x

/-- Order of exact values, NaN aside: −0 below +0 (R217). -/
def Num.lt : Num → Num → Bool
  | .inf s, .inf t => s && !t
  | .inf s, .fin _ _ _ => s
  | .fin _ _ _, .inf t => !t
  | .fin s n d, .fin t m e =>
    if n = 0 ∧ m = 0 then s && !t else decide (sgn s n * e < sgn t m * d)
  | _, _ => false

/-- MIN or MAX of two contributions (R217): a NaN makes the result NaN. -/
def Num.extreme (max_ : Bool) (a b : Num) : Num :=
  match a, b with
  | .nan, _ => .nan
  | _, .nan => .nan
  | _, _ => if max_ then (if a.lt b then b else a) else (if b.lt a then b else a)

/-! ### Block scales (R204) -/

/-- Q_ρ × 2^52. -/
def qConst (rho : Nat) : Nat :=
  match rho with
  | 0 => 2 ^ 52
  | 1 => 0x1306fe0a31b715
  | 2 => 0x16a09e667f3bcd
  | _ => 0x1ae89f995ad3ad

/-- S(c) as a rational: c = 4(k + 32) + ρ. -/
def scaleVal (c : Nat) : Num := .fin false (qConst (c % 4) * 2 ^ (c / 4)) (2 ^ 84)

/-- QCHK: the check of Q_1 to Q_3 as binary64 (R224): biased exponent 0x3FF, fraction the low 52 bits. -/
def qChk : Nat :=
  crcStd ([1, 2, 3].flatMap fun r => leBytes 8 (0x3ff * 2 ^ 52 + qConst r % 2 ^ 52))

/-- The scale code of a block for the largest magnitude `n/d` (R210); `emax` is 480 or 6. -/
def scaleCode (emax n d : Nat) : Nat :=
  if n = 0 then 0x80
  else ((List.range 255).find? fun c => decide (n * 2 ^ 84 ≤ d * emax * (qConst (c % 4) * 2 ^ (c / 4)))).getD 0xfe

/-! ### Payload elements (R197, R198, R203) -/

/-- The element format of a code of R71; the block formats' elements are DF8 and DF4. -/
def fmtOf (c : Nat) : Fmt :=
  match c with
  | 0x0 => .fp32
  | 0x1 => .fp16
  | 0x2 => .bf16
  | 0x3 => .int 8
  | 0x4 => .int 16
  | 0x5 => .int 32
  | 0x6 => .int 64
  | 0x7 => .df8
  | 0x8 => .df4
  | 0x9 => .df8
  | _ => .df4

/-- Whether a format code is block-scaled. -/
def isBlock (c : Nat) : Bool := c == 0x9 || c == 0xa
/-- Whether a format code is an integer format. -/
def isIntFmt (c : Nat) : Bool := decide (3 ≤ c) && decide (c ≤ 6)

/-- Elements that `len` payload bytes hold. -/
def elemCount (fmt len : Nat) : Nat :=
  match fmtUnit fmt with
  | some (u, e) => len / u * e
  | none => 0

/-- Code of element `i` of a payload. -/
def elemCode (fmt : Nat) (b : List Byte) (i : Nat) : Nat :=
  match fmt with
  | 0x8 => leNat (slice b (i / 2) 1) / 2 ^ (i % 2 * 4) % 16
  | 0x9 => leNat (slice b (i / 16 * 17 + 1 + i % 16) 1)
  | 0xa => leNat (slice b (i / 16 * 9 + 1 + i % 16 / 2) 1) / 2 ^ (i % 2 * 4) % 16
  | _ => let w := (fmtOf fmt).bits / 8; leNat (slice b (i * w) w)

/-- Scale code of the block of element `i`. -/
def elemScale (fmt : Nat) (b : List Byte) (i : Nat) : Nat :=
  leNat (slice b (i / 16 * (if fmt = 0x9 then 17 else 9)) 1)

/-- Exact value of element `i` of a payload (R197 to R205). -/
def elemVal (fmt : Nat) (b : List Byte) (i : Nat) : Num :=
  let x := (fmtOf fmt).decode (elemCode fmt b i)
  if isBlock fmt then
    let c := elemScale fmt b i
    if c = 0xff then .nan else x.mul (scaleVal c)
  else x

/-- The bytes of element codes in a plain format. -/
def packCodes (fmt : Nat) (cs : List Nat) : List Byte :=
  match fmt with
  | 0x8 => (List.range (ceilDiv cs.length 2)).map fun j => BitVec.ofNat 8 (cs.getD (2 * j) 0 + 16 * cs.getD (2 * j + 1) 0)
  | _ => cs.flatMap fun c => leBytes ((fmtOf fmt).bits / 8) c

/-- The largest magnitude of a block, NaNs and infinities left out. -/
def maxMag (xs : List Num) : Nat × Nat :=
  xs.foldl (fun m x =>
    match x with
    | .fin _ n d => if m.1 * d < n * m.2 then (n, d) else m
    | _ => m) (0, 1)

/-- One block of 16 places as R210 writes it: scale byte, element bytes, what each real element became,
and the scale code. -/
def encodeBlock (fmt : Nat) (xs : List Num) (sr : Bool) (draw : Nat → Nat) (ovf : Bool) (pos : Nat) :
    List Byte × List Rounded × Nat :=
  let f := fmtOf fmt
  if xs.all (· = .nan) then
    (0xff#8 :: List.replicate (if fmt = 0x9 then 16 else 8) 0#8, xs.map fun _ => { code := 0, nan := true }, 0xff)
  else
    let mm := maxMag xs
    let c := scaleCode (if fmt = 0x9 then 480 else 6) mm.1 mm.2
    let rs := (xs.zipIdx).map fun (p : Num × Nat) =>
      f.encode (match p.1 with
        | .fin s n d => (Num.fin s n d).div (scaleVal c)
        | x => x) sr (draw (pos + p.2)) ovf
    let codes := rs.map Rounded.code ++ List.replicate (16 - rs.length) 0
    (BitVec.ofNat 8 c :: packCodes (if fmt = 0x9 then 0x7 else 0x8) codes, rs, c)

/-- Blocks of a list of values from position `pos` on. -/
def encodeBlocks (fmt : Nat) (sr : Bool) (draw : Nat → Nat) (ovf : Bool) :
    Nat → Nat → List Num → List Byte × List (Rounded × Nat)
  | 0, _, _ => ([], [])
  | fuel + 1, pos, xs =>
    if xs.isEmpty then ([], [])
    else
      let b := encodeBlock fmt (xs.take 16) sr draw ovf pos
      let r := encodeBlocks fmt sr draw ovf fuel (pos + 16) (xs.drop 16)
      (b.1 ++ r.1, b.2.1.map (fun x => (x, b.2.2)) ++ r.2)

/-- Values written as a payload of a format (R207, R210): the bytes, and each element's conversion with
the scale code of its block (0x80 for plain formats). -/
def encodeVals (fmt : Nat) (xs : List Num) (sr : Bool) (draw : Nat → Nat) (ovf : Bool) :
    List Byte × List (Rounded × Nat) :=
  if isBlock fmt then encodeBlocks fmt sr draw ovf (xs.length / 16 + 1) 0 xs
  else
    let rs := (xs.zipIdx).map fun (p : Num × Nat) => (fmtOf fmt).encode p.1 sr (draw p.2) ovf
    (packCodes fmt (rs.map Rounded.code), rs.map fun r => (r, 0x80))

/-- The stochastic draw of an element of a chunk's result (R209). -/
def srDraw (seed part comm cseq cidx e : Nat) : Nat :=
  crc32c seed (beBytes 2 part ++ beBytes 2 comm ++ beBytes 4 cseq ++ beBytes 4 cidx ++ beBytes 4 e) % 2 ^ 24

/-! ### Accumulator images (R212 to R218) -/

/-- The format of a FAST image. -/
def fastFmt (fmt : Nat) : Fmt :=
  match fmt with
  | 0x3 => .int 32
  | 0x4 => .int 32
  | 0x5 => .int 32
  | 0x6 => .int 64
  | _ => .fp32

/-- Bytes of an image per element (R212). -/
def imageSize (fmt : Nat) (exact : Bool) : Nat :=
  if exact then
    match fmt with
    | 0x0 => 40
    | 0x2 => 40
    | 0x1 => 8
    | 0x7 => 4
    | 0x8 => 4
    | 0x9 => 52
    | 0xa => 52
    | 0x3 => 4
    | 0x4 => 4
    | 0x5 => 8
    | _ => 16
  else if fmt = 0x6 then 8 else 4

/-- The weight of an EXACT image's unit is 2^-unit (R212). -/
def imageUnit (fmt : Nat) : Nat :=
  match fmt with
  | 0x0 => 149
  | 0x2 => 149
  | 0x1 => 24
  | 0x7 => 9
  | 0x8 => 1
  | 0x9 => 41
  | 0xa => 41
  | _ => 0

/-- A finite value as a whole number of image units. -/
def inUnits (x : Num) (unit : Nat) : Int :=
  match x with
  | .fin s n d => sgn s (n * 2 ^ unit / d)
  | _ => 0

/-- Codes of OP (R164). -/
def isMinMax (op : Nat) : Bool := op == 1 || op == 2
/-- AND, OR, XOR. -/
def isBitwise (op : Nat) : Bool := decide (3 ≤ op) && decide (op ≤ 5)

/-- The bitwise operation of an OP. -/
def bitOp (op a b : Nat) : Nat :=
  match op with
  | 3 => a &&& b
  | 4 => a ||| b
  | _ => a ^^^ b

/-- A contribution as the FAST image holds it: widened, a BS element rounded once (R214). -/
def widen (fmt : Nat) (x : Num) : Nat := (fastFmt fmt).rne x

/-- A contribution of element value `x` folded into a FAST image (R214); MIN and MAX keep the contribution
itself, whose exact value is compared (R217). -/
def accFast (op fmt : Nat) (im : Image) (x : Num) : Image :=
  let f := fastFmt fmt
  let w := widen fmt x
  if isMinMax op then
    match im with
    | .extreme y => .extreme (Num.extreme (op == 2) y x)
    | _ => .extreme x
  else
    match im with
    | .fast c =>
      if isBitwise op then .fast (bitOp op c w)
      else if isIntFmt fmt then .fast ((c + w) % 2 ^ f.bits)
      else .fast (f.rne ((f.decode c).add (f.decode w)))
    | _ => .fast w

/-- A contribution folded into an EXACT image (R215 to R217): `b` the element's own value without its
scale, `c` its scale code. -/
def accExact (op fmt : Nat) (im : Image) (x b : Num) (c : Nat) : Image :=
  if isMinMax op then
    match im with
    | .extreme y => .extreme (Num.extreme (op == 2) y x)
    | _ => .extreme x
  else if isBitwise op then
    -- the image's value field holds the code, as the integer image does
    let code := ofSigned 128 (inUnits x 0)
    match im with
    | .exact a _ _ _ _ _ _ _ => .exact (toSigned 128 (bitOp op (ofSigned 128 a) code)) 0 0 0 false false false false
    | _ => .exact (toSigned 128 code) 0 0 0 false false false false
  else
    let step (a0 a1 a2 a3 : Int) (nan pinf ninf nz : Bool) : Image :=
      match x with
      | .nan => .exact a0 a1 a2 a3 true pinf ninf nz
      | .inf s => .exact a0 a1 a2 a3 nan (pinf || !s) (ninf || s) nz
      | .fin s n _ =>
        let nz' := nz && n == 0 && s
        if isBlock fmt then
          -- element × 2^k with k = c/4 − 32, in units of 2^-41
          let v := inUnits b 9 * ((2 ^ (c / 4) : Nat) : Int)
          match c % 4 with
          | 0 => .exact (a0 + v) a1 a2 a3 nan pinf ninf nz'
          | 1 => .exact a0 (a1 + v) a2 a3 nan pinf ninf nz'
          | 2 => .exact a0 a1 (a2 + v) a3 nan pinf ninf nz'
          | _ => .exact a0 a1 a2 (a3 + v) nan pinf ninf nz'
        else .exact (a0 + inUnits x (imageUnit fmt)) a1 a2 a3 nan pinf ninf nz'
    match im with
    | .exact a0 a1 a2 a3 nan pinf ninf nz => step a0 a1 a2 a3 nan pinf ninf nz
    | _ => step 0 0 0 0 false false false true

/-- One contribution's payload folded into the images of a chunk index, and its NaN elements. -/
def accumulate (op fmt : Nat) (exact : Bool) (ims : List Image) (n : Nat) (b : List Byte) : List Image × Nat :=
  let xs := (List.range n).map (elemVal fmt b)
  let ims' := (List.range n).map fun i =>
    let x := xs.getD i .nan
    let im := ims.getD i .empty
    if exact then accExact op fmt im x ((fmtOf fmt).decode (elemCode fmt b i)) (if isBlock fmt then elemScale fmt b i else 0x80)
    else accFast op fmt im x
  (ims', (xs.filter (· = .nan)).length)

/-- The exact value of an EXACT image, in its order of R218, before an average. -/
def exactVal (fmt : Nat) (a0 a1 a2 a3 : Int) (nz : Bool) : Num :=
  if isBlock fmt then
    let v := a0 * (qConst 0 : Nat) + a1 * (qConst 1 : Nat) + a2 * (qConst 2 : Nat) + a3 * (qConst 3 : Nat)
    ofInt nz v (2 ^ 93)
  else ofInt nz a0 (2 ^ imageUnit fmt)

/-- The value that an image's single final rounding takes (R214, R217, R218): `w` the divisor of
AVERAGE. -/
def imageVal (op fmt w : Nat) (im : Image) : Num :=
  match im with
  | .empty => .fin false 0 1
  | .extreme x => x
  | .fast c =>
    let f := fastFmt fmt
    let x := f.decode c
    if op = 6 then
      (if isIntFmt fmt then x.divNat w else f.decode (f.rne (x.divNat w)))
    else x
  | .exact a0 a1 a2 a3 nan pinf ninf nz =>
    if nan || (pinf && ninf) then .nan
    else if pinf then .inf false
    else if ninf then .inf true
    else
      let v := exactVal fmt a0 a1 a2 a3 nz
      if op = 6 then v.divNat w else v

/-- An image's bytes in slot memory (R212), little-endian. -/
def imageBytes (fmt : Nat) (exact : Bool) (im : Image) : List Byte :=
  let n := imageSize fmt exact
  match im with
  | .empty => List.replicate n 0#8
  | .fast c => leBytes n c
  | .extreme x => leBytes n ((fastFmt fmt).rne x)
  | .exact a0 a1 a2 a3 nan pinf ninf nz =>
    let st := (if nan then 1 else 0) + (if pinf then 2 else 0) + (if ninf then 4 else 0) + (if nz then 8 else 0)
    match fmt with
    | 0x0 => leBytes 39 (ofSigned 312 a0) ++ leBytes 1 st
    | 0x2 => leBytes 39 (ofSigned 312 a0) ++ leBytes 1 st
    | 0x1 => leBytes 7 (ofSigned 56 a0) ++ leBytes 1 st
    | 0x7 => leBytes 4 (ofSigned 31 a0 + (if nan then 2 ^ 31 else 0))
    | 0x8 => leBytes 4 (ofSigned 31 a0 + (if nan then 2 ^ 31 else 0))
    | 0x9 => leBytes 12 (ofSigned 96 a0) ++ leBytes 12 (ofSigned 96 a1) ++ leBytes 12 (ofSigned 96 a2)
      ++ leBytes 12 (ofSigned 96 a3) ++ leBytes 4 st
    | 0xa => leBytes 12 (ofSigned 96 a0) ++ leBytes 12 (ofSigned 96 a1) ++ leBytes 12 (ofSigned 96 a2)
      ++ leBytes 12 (ofSigned 96 a3) ++ leBytes 4 st
    | _ => leBytes n (ofSigned (8 * n) a0)

/-! ### Histogram (R222, R223) -/

/-- The default histogram base of a result format (R223). -/
def histDefault (ofmt : Nat) : Int :=
  match ofmt with
  | 0x0 => -40
  | 0x2 => -40
  | 0x1 => -24
  | 0x7 => -9
  | 0x8 => -1
  | 0x9 => -41
  | 0xa => -33
  | _ => 0

/-- The histogram bin of a result element, from its code and the scale code of its block. -/
def histBin (ofmt : Nat) (h : Int) (r : Rounded) (scale : Nat) : Nat :=
  if r.nan then 51
  else
    match (fmtOf ofmt).decode r.code with
    | .nan => 51
    | .inf _ => 49
    | .fin s n d =>
      if n = 0 then 50
      else
        match (if isBlock ofmt then (Num.fin s n d).mul (scaleVal scale) else Num.fin s n d) with
        | .fin _ n' d' =>
          let e : Int := (ratLog n' d' 4096 : Int) - 4096
          if e < h then 48 else if h + 47 < e then 49 else (e - h).toNat
        | _ => 51

end Sys2Proof.Machine
end

