-- ==== Sys2Proof/Machine/Channels.lean ====
section
/-! DEFINITION. The common arbiter (R297, R298), the rings (R252 to R256), a memory channel's requests
(R276, R281 to R285), scrub, remap, map-out and margin (R288 to R296), and the aperture (R300). -/

namespace Sys2Proof.Machine

/-! ### Stops (R252) -/

/-- The ring stop of a Basin. -/
def basinStop (b : Nat) : Nat := b / 25 * 33 + (if b % 25 = 24 then 32 else b % 25 + b % 25 / 3)

/-- The memory stop of a stack. -/
def memStop (j : Nat) : Nat := j / 8 * 33 + 4 * (j % 8) + 3

/-- The Basin at a stop. -/
def stopBasin (t : Nat) : Option Nat := (List.range 50).find? fun b => basinStop b == t

/-- The ring that serves a pair of stops: 0 clockwise, 1 counter-clockwise. -/
def ringFor (src dst : Nat) : Nat :=
  let d := (dst + 66 - src) % 66
  if 1 ≤ d ∧ d ≤ 33 then 0 else 1

/-- The next stop on a ring. -/
def nextStop (ring t : Nat) : Nat := if ring = 0 then (t + 1) % 66 else (t + 65) % 66

/-- The arbiter instance of a stop, ring and class (R301). -/
def stopInst (stop ring cls : Nat) : Nat := 512 + stop * 4 + ring * 2 + cls

/-! ### The common arbiter (R298) -/

/-- An arbiter instance. -/
def State.arb (s : State) (i : Nat) : ArbSt := SMap.get (fun _ => {}) s.mem.arb i

/-- Hold an arbiter instance. -/
def State.setArb (s : State) (i : Nat) (v : ArbSt) : State :=
  { s with mem := { s.mem with arb := SMap.set (fun _ => {}) s.mem.arb i v } }

/-- Packets waiting for a requester of a ring-stop instance. -/
def State.stopPkts (s : State) (i r : Nat) : List RingPkt := SMap.get (fun _ => []) s.mem.stopQ (i * 32 + r)

/-- Hold them. -/
def State.setStopPkts (s : State) (i r : Nat) (l : List RingPkt) : State :=
  { s with mem := { s.mem with stopQ := SMap.set (fun _ => []) s.mem.stopQ (i * 32 + r) l } }

/-- The requester of a channel by which a request is served (R297). -/
def reqClass (r : MemReq) : Nat :=
  match r.src with
  | .host _ => 5
  | .reg _ => 5
  | _ => (match r.op with
    | .read => 0
    | .write => 1
    | _ => 2)

/-- Lines that the scrubber reads of a channel in a period: every row, spares aside. -/
def scrubLines : Nat := 64 * 4096 * 8

/-- Whether a channel's scrubber is due to read a line, at its even pace (R288). -/
def State.scrubDue (s : State) (c : Nat) : Bool :=
  let h := s.get F.MEMCFG_SCRUB_SCRUB_H
  h != 0 && s.chanLive c && s.passed (SMap.get (fun _ => 0) s.mem.scrubAt c) (secClocks (h * 3600) / scrubLines)

/-- Whether two requests touch a common codeword. -/
def overlaps (a b : MemReq) : Bool :=
  decide (a.addr / 64 ≤ (b.addr + b.len - 1) / 64) && decide (b.addr / 64 ≤ (a.addr + a.len - 1) / 64)

/-- Whether request `ix` of a list may be performed: it is not held behind a row (R290), and no older request touches
its codewords (R283). -/
def startable (l : List MemReq) (ix : Nat) (q : MemReq) : Bool := !q.held && !(l.take ix).any (overlaps q)

/-- Whether some request of a class may be performed. -/
def classRaised (l : List MemReq) (r : Nat) : Bool :=
  (l.zipIdx).any fun (p : MemReq × Nat) => reqClass p.1 == r && startable l p.2 p.1

/-- Whether a running bank map-out copies rows of a channel. -/
def State.mapCopies (s : State) (c : Nat) : Bool := s.copying c (s.get F.MEMCFG_MAPOUT_BANK)

/-- The request lines of an instance. -/
def State.arbReq (s : State) (i r : Nat) : Bool :=
  if i < 512 then
    match r with
    | 3 => s.scrubDue i
    | 4 => (s.mem.repairs.any fun x => x.chan == i) || s.mapCopies i
    | _ => classRaised (s.chanReqs i) r
  else if i = 776 then s.glassRaised r != 0
  else !(s.stopPkts i r).isEmpty

/-- The core clock, plus 1, since which a requester has waited; 0 where it does not. -/
def ArbSt.wait (a : ArbSt) (r : Nat) : Nat := SMap.get (fun _ => 0) a.waits r

/-- The core clock, plus 1, of a wait that starts now: the freeze's own while one stands, since waits do not
count frozen clocks. -/
def State.arbWaitFrom (s : State) (i : Nat) : Nat := (s.arb i).frozenAt.getD s.now + 1

/-- A request is raised: its wait starts. -/
def State.arbRaise (s : State) (i r : Nat) : State :=
  let a := s.arb i
  if a.wait r = 0 then s.setArb i { a with waits := SMap.set (fun _ => 0) a.waits r (s.arbWaitFrom i) } else s

/-- Whether a grant stands: one was made, and its owner has not dropped its request (rule 3). -/
def State.arbHolds (s : State) (i : Nat) : Bool := (s.arb i).busy && s.arbReq i (s.arb i).owner

/-- Whether a requester acts: it holds the grant, and the decision has taken effect (rules 1 and 3). -/
def State.arbOwns (s : State) (i r : Nat) : Bool := (s.arb i).busy && (s.arb i).owner == r && decide ((s.arb i).since ≤ s.now)

/-- Whether decisions grant nobody: FREEZE is 1 (rule 5), or a FULL margin has frozen the channel's arbiter (R295). -/
def State.arbFrozen (s : State) (i : Nat) : Bool := s.on (F.ARB_CTRL_FREEZE i) || (decide (i < 512) && s.chanState i == 1)

/-- The core clock, plus 1, at which a request was raised that no queue raises: the scrubber's line falling due, the
oldest row waiting for its copy, or the row that a map-out copies next, or the Glass bus's work; 0 for the others. -/
def State.raisedAt (s : State) (i r : Nat) : Nat :=
  if i = 776 then s.glassRaised r
  else if 512 ≤ i then 0
  else if r = 3 then
    SMap.get (fun _ => 0) s.mem.scrubAt i + secClocks (s.get F.MEMCFG_SCRUB_SCRUB_H * 3600) / scrubLines + 1
  else if r = 4 then
    (((s.mem.repairs.filter fun (x : Repair) => x.chan == i).map fun (x : Repair) => x.since + 1)
      ++ (if s.mapCopies i then [s.mem.copyAt + 1] else [])).foldl (fun m t => if m = 0 then t else min m t) 0
  else 0

/-- The core clock, plus 1, since which a requester has waited; 0 where it does not request. -/
def State.arbSince (s : State) (i r : Nat) : Nat :=
  let a := s.arb i
  if !s.arbReq i r then 0
  else if a.wait r ≠ 0 then a.wait r
  else max 1 (max (s.raisedAt i r) a.thaw)

/-- Whether a decision of this clock sees a request: it was raised before (rule 1). -/
def State.arbSeen (s : State) (i r : Nat) : Bool := s.arbReq i r && decide (s.arbSince i r ≤ s.now)

/-- A word as it stood at the start of this core clock, of those for which State.keepCfg keeps it. -/
def State.startWord (s : State) (a : Nat) : Word := ((SMap.get (fun _ => none) s.mem.cfgOld a).map (BitVec.ofNat 32)).getD (s.word a)

/-- REQCFG of a requester as it stood at the start of this core clock (rule 1). -/
def State.arbCfg (s : State) (i r : Nat) : Nat := (s.startWord (F.ARB_REQCFG_PRIO i r).addr).toNat

/-- The first write of a word in a core clock keeps what stood. -/
def State.keepCfg (s : State) (a old : Nat) : State :=
  match SMap.get (fun _ => none) s.mem.cfgOld a with
  | some _ => s
  | none => { s with mem := { s.mem with cfgOld := SMap.set (fun _ => none) s.mem.cfgOld a (some old) } }

/-- Rank of a requester in a decision: PRIO, then the order after the last owner. -/
def State.arbRank (s : State) (i r : Nat) : Nat :=
  nfield (s.arbCfg i r) 17 16 * 32 + (r + 31 - (s.arb i).owner) % 32

/-- The requester that a decision grants. -/
def State.arbPick (s : State) (i : Nat) : Option Nat :=
  ((List.range 32).filter (s.arbSeen i)).foldl (fun best r =>
    match best with
    | none => some r
    | some b => if s.arbRank i r < s.arbRank i b then some r else some b) none

/-- The stack at a memory stop. -/
def stopStack (t : Nat) : Option Nat := (List.range 16).find? fun j => memStop j == t

/-- The pages that count an instance's events: its stack's and the memory page, the Basin's, or the Glass
controller's (R509). -/
def State.countArb (s : State) (i ev : Nat) : State :=
  if i < 512 then s.countMem i ev 1
  else if i = 776 then s.countAt 0xc00 ev 1
  else
    match stopBasin ((i - 512) / 4) with
    | some b => s.countIn (fun p => p == 0xb00 || p == 0xa00 + b) ev 1
    | none => s.countIn (fun p => p == 0xb00 || (stopStack ((i - 512) / 4)).any fun j => p == 0xb10 + j) ev 1

/-- ARB_GRANT: a decision, once the current grant has ended, unless frozen (rules 2, 3 and 5).  The grant ends with the
unit that a command of the same core clock has moved, so a decision made in that clock takes effect at its break point. -/
def State.arbGrant (s : State) (i : Nat) : State :=
  let a := s.arb i
  if s.arbHolds i ∨ s.arbFrozen i then s
  else
    match s.arbPick i with
    | none => s
    | some r =>
      (s.setArb i { a with
        busy := true, owner := r, used := 0, limit := nfield (s.arbCfg i r) 7 0, since := s.now + 1
        waits := SMap.set (fun _ => 0) a.waits r 0 }).countArb i Ev.ARB_GRANT

/-- The owner has used units, and a break point stands: the grant ends where rule 3 ends it; a requester that
still requests waits again from now. -/
def State.arbUse (s : State) (i n : Nat) : State :=
  let a := s.arb i
  let used := a.used + n
  let more := s.arbReq i a.owner
  if a.limit ≤ used ∨ !more then
    s.setArb i { a with busy := false, used := 0
                        waits := SMap.set (fun _ => 0) a.waits a.owner (if more then s.arbWaitFrom i else 0) }
  else s.setArb i { a with used := used }

/-- The Sluice ends an instance's grant at the break point that stands (rule 3). -/
def State.arbEnd (s : State) (i : Nat) : State :=
  let a := s.arb i
  if a.busy then
    s.setArb i { a with busy := false, used := 0
                        waits := SMap.set (fun _ => 0) a.waits a.owner (if s.arbReq i a.owner then s.arbWaitFrom i else 0) }
  else s

/-- Clocks of an instance's island, in MHz: memory, Basin or Glass controller (R26). -/
def State.arbMhz (s : State) (i : Nat) : Nat :=
  if i < 512 ∨ i = 776 then 1000
  else
    match stopBasin ((i - 512) / 4) with
    | some b => 800 + 25 * s.get (F.BASIN_CLK_EFF b)
    | none => 1000

/-- The island that holds an instance. -/
def instIsland (i : Nat) : Nat :=
  if i < 512 then stackIsland (i % 16)
  else if i = 776 then glassIsland
  else
    match stopBasin ((i - 512) / 4) with
    | some b => basinIsland b
    | none => stackIsland ((stopStack ((i - 512) / 4)).getD 0)

/-- ARB_STARVE: a requester raised without a grant for STARVE_CLK clocks sets its bit (rule 7). -/
def State.arbStarve (s : State) (i r : Nat) : State :=
  let w := s.arbSince i r
  if w = 0 ∨ s.on (F.ARB_CTRL_FREEZE i) ∨ nbit (s.get (F.ARB_STARVE_STARVE i)) r = 1 ∨ (s.arbHolds i ∧ (s.arb i).owner = r)
      ∨ s.ranHalves (instIsland i) (w - 1) * s.arbMhz i < 2 * s.get (F.ARB_CTRL_STARVE_CLK i) * 1600 then s
  else
    let s1 := (s.orBits (F.ARB_STARVE_STARVE i) (2 ^ r)).countArb i Ev.ARB_STARVE
    let page := if i = 776 then 0xc00 else if i < 512 then 0xb10 + i % 16 else 0xb00
    let s2 := s1.logReport Ev.ARB_STARVE page (if i < 512 then memInst i 0 0 else i) r 0
    if i = 776 then s2 else s2.istat F.MEMCFG_ISTAT_ISTAT 7

/-- FREEZE of an instance changed: waits do not count frozen clocks (rule 7). -/
def State.arbFreeze (s : State) (i : Nat) (on : Bool) : State :=
  let a := s.arb i
  if on then
    if a.frozenAt = none then
      s.setArb i { a with
        frozenAt := some s.now
        waits := (List.range 32).foldl (fun m r => SMap.set (fun _ => 0) m r (s.arbSince i r)) a.waits }
    else s
  else
    match a.frozenAt with
    | none => s
    | some t => s.setArb i { a with
        frozenAt := none
        thaw := s.now + 1
        waits := a.waits.map fun (w : Nat × Nat) => (w.1, w.2 + (s.now - t)) }

/-! ### Accesses to the photonic die (R334) -/

/-- What a requester of the Glass bus does under its grant, as one bus transaction. -/
def State.onGlassBus (s : State) (r : Nat) (f : State → State) : State :=
  if s.arbOwns 776 r then (f s).arbUse 776 1 else s

/-- The words that BAR0 reads from the photonic die: rings, outputs and inputs (R340). -/
def glassReadable (a : Nat) : Bool :=
  (decide (0x9100000 ≤ a) && decide (a < 0x9108000)) || (decide (0x9110000 ≤ a) && decide (a < 0x9112400))
  || (decide (0x9120000 ≤ a) && decide (a < 0x9122000))

/-- Such a read waits for the HOST requester. -/
def State.glassAsk (s : State) (agent a : Nat) : State :=
  { s with glass := { s.glass with reads := s.glass.reads ++ [{ agent := agent, addr := a, since := s.now }] } }

/-- MIG, granted, arms the return that is asked for (R332). -/
def State.glassReturn (s : State) : State := if s.glass.returnAsk.isSome then s.onGlassBus 0 State.returnArmed else s

/-- The HOST requester, granted, reads the oldest one's entry: its word is that of one snapshot. -/
def State.glassAnswer (s : State) : State :=
  s.onGlassBus 5 fun t =>
    match t.glass.reads with
    | [] => t
    | q :: rest => ({ t with glass := { t.glass with reads := rest } } : State).answerRead q.agent (t.word (q.addr / 4 * 4)).toNat

def execGlassDriveLoaded (s : State) : Out := finish s (s.onGlassBus 4 State.driveLoaded)
def execGlassSearchDone (finds : List RingFind) (s : State) : Out := finish s (s.onGlassBus 6 fun t => t.searchDone finds)
def execRingLockStep (ring : Fin 2048) (mon : BitVec 16) (s : State) : Out :=
  finish s (s.onGlassBus 1 fun t => t.lockStep ring.val mon)
def execRingUnlock (ring : Fin 2048) (mon : BitVec 16) (s : State) : Out :=
  finish s (s.onGlassBus 1 fun t => t.ringUnlock ring.val mon)
def execRingRelock (ring : Fin 2048) (heater : Option (BitVec 12)) (mon : BitVec 16) (s : State) : Out :=
  finish s (s.onGlassBus 1 fun t => t.ringRelock ring.val heater mon)
def execGlassInLos (fibre : Fin 64) (lane : Fin 8) (power : BitVec 16) (s : State) : Out :=
  finish s (s.onGlassBus 1 fun t => t.inLos fibre.val lane.val power)
def execGlassInRestore (fibre : Fin 64) (lane : Fin 8) (power : BitVec 16) (s : State) : Out :=
  finish s (s.onGlassBus 1 fun t => t.inRestore fibre.val lane.val power)
def execGlassBiasStep (s : State) : Out := finish s (s.onGlassBus 2 State.biasStep)
def execGlassPowerUpdate (inputs : List (Fin 512 × BitVec 16)) (outputs : List (Fin 576 × BitVec 16)) (s : State) : Out :=
  finish s (s.onGlassBus 3 fun t => t.powerUpdate inputs outputs)
def execGlassMigArmed (s : State) : Out := finish s (s.onGlassBus 0 State.migArmed)

/-! ### Issue, and the rings (R253, R254) -/

/-- A packet waits at a stop for its injection. -/
def State.queuePkt (s : State) (stop r : Nat) (p : RingPkt) : State :=
  let i := stopInst stop p.ring p.cls
  (s.setStopPkts i r (s.stopPkts i r ++ [p])).arbRaise i r

/-- A Basin's requester issues a request within one page toward its channel; tells whether the address
exists. -/
def State.memIssue (s : State) (b r : Nat) (q : MemReq) : Option State :=
  match s.locate q.addr with
  | none => none
  | some l =>
    let src := basinStop b
    let dst := memStop (l.chan % 16)
    some (s.queuePkt src r ⟨ringFor src dst, 0, src, dst, src, .req l.chan q⟩)

/-- Buffers of a stop, ring and class that hold a packet. -/
def State.ringHeld (s : State) (ring cls stop : Nat) : Nat :=
  (s.mem.ring.filter fun p => p.ring == ring && p.cls == cls && p.at_ == stop).length

/-- Whether a Basin's crossings withhold credit at its stop: its clock changes (R268). -/
def State.stopHeld (s : State) (t : Nat) : Bool :=
  !s.bsn.clkBusy.isEmpty && (match stopBasin t with
    | some b => s.clkHeld b
    | none => false)

/-- Whether a packet that came from another stop may be forwarded on an output link now. -/
def State.transitWaits (s : State) (stop ring : Nat) : Bool :=
  s.mem.ring.any fun p => p.ring == ring && p.at_ == stop && p.dst != stop && p.src != stop
    && decide (s.ringHeld ring p.cls (nextStop ring stop) < 4)

/-- Transit packets forwarded in a row on an output link while an injection was eligible. -/
def State.transit (s : State) (stop ring : Nat) : Nat := SMap.get (fun _ => 0) s.mem.transit (stop * 2 + ring)

/-- Set that count. -/
def State.setTransit (s : State) (stop ring n : Nat) : State :=
  { s with mem := { s.mem with transit := SMap.set (fun _ => 0) s.mem.transit (stop * 2 + ring) n } }

/-- Whether an injection is eligible on an output link: a granted packet waits, and the bubble rule lets it enter. -/
def State.injectable (s : State) (stop ring : Nat) : Bool :=
  ([0, 1] : List Nat).any fun cls =>
    let a := s.arb (stopInst stop ring cls)
    a.busy && !(s.stopPkts (stopInst stop ring cls) a.owner).isEmpty && decide (s.ringHeld ring cls stop + 2 ≤ 4)

/-- RING_INJECT: the packet of the granted requester enters its ring while at least two buffers are free
(the bubble rule); otherwise it is held, and counted.  A packet in transit goes first, until 16 have gone in a row. -/
def State.ringInject (s : State) (stop ring cls : Nat) : State :=
  let i := stopInst stop ring cls
  let a := s.arb i
  if !s.arbOwns i a.owner || s.stopHeld stop || (s.transitWaits stop ring && decide (s.transit stop ring < 16)) then s
  else
    match s.stopPkts i a.owner with
    | [] => s.arbUse i 1
    | p :: rest =>
      let count (t : State) (ev : Nat) : State := match stopBasin stop with
        | some b => t.countBasin b ev 1
        | none => t
      if s.ringHeld ring cls stop + 2 ≤ 4 then
        let s1 := s.setStopPkts i a.owner rest
        let s2 : State := { s1 with mem := { s1.mem with ring := s1.mem.ring ++ [p] } }
        ((count s2 Ev.BSN_RING_INJ).setTransit stop ring 0).arbUse i 1
      else count s Ev.BSN_RING_HOLD

/-- Whether two packets belong to one pair of stops, one ring and one class: such packets keep their order (R252). -/
def samePair (p q : RingPkt) : Bool := p.ring == q.ring && p.cls == q.cls && p.src == q.src && p.dst == q.dst

/-- One packet advances to the next stop where a buffer of its class is free (R254), unless an older one of its pair
still stands beside it, or `stay` holds it at its link. -/
def advanceOne (stay : RingPkt → Bool) (done_ : List RingPkt) (p : RingPkt) (rest : List RingPkt) : RingPkt :=
  let n := nextStop p.ring p.at_
  let held := ((done_ ++ rest).filter fun (q : RingPkt) => q.ring == p.ring && q.cls == p.cls && q.at_ == n).length
  if p.at_ = p.dst ∨ 4 ≤ held ∨ stay p ∨ (done_.any fun q => samePair p q && q.at_ == p.at_) then p else { p with at_ := n }

/-- Every packet on the rings advances by at most one stop. -/
def ringAdvance (stay : RingPkt → Bool) : List RingPkt → List RingPkt → List RingPkt
  | done_, [] => done_
  | done_, p :: rest => ringAdvance stay (done_ ++ [advanceOne stay done_ p rest]) rest

/-- Whether a packet stays at its stop: a clock change withholds credit there or at the next stop (R268), or it is in
transit and an injection goes next on its link (R254). -/
def State.ringStay (s : State) (p : RingPkt) : Bool :=
  s.stopHeld p.at_ || s.stopHeld (nextStop p.ring p.at_)
    || (p.src != p.at_ && decide (16 ≤ s.transit p.at_ p.ring) && s.injectable p.at_ p.ring)

/-- Packets on the rings move by one stop; those forwarded in transit are counted while an injection is eligible. -/
def State.moveRings (s : State) : State :=
  let new := ringAdvance s.ringStay [] s.mem.ring
  let s1 := ((s.mem.ring.zip new).filter fun (p : RingPkt × RingPkt) => p.1.at_ != p.2.at_ && p.1.src != p.1.at_).foldl
    (fun t p => t.setTransit p.1.at_ p.1.ring (if s.injectable p.1.at_ p.1.ring then t.transit p.1.at_ p.1.ring + 1 else 0)) s
  { s1 with mem := { s1.mem with ring := new } }

/-- The oldest packet that stands at its destination. -/
def State.ringArrived (s : State) (ring cls stop : Nat) : Option (RingPkt × State) :=
  let ok (p : RingPkt) : Bool := p.ring == ring && p.cls == cls && p.dst == stop && p.at_ == stop
  match s.mem.ring.find? ok with
  | none => none
  | some p => some (p, { s with mem := { s.mem with ring := s.mem.ring.eraseP ok } })

/-- A request reaches its channel's queue. -/
def State.reachChannel (s : State) (c : Nat) (q : MemReq) : State :=
  ((s.setChanReqs c (s.chanReqs c ++ [q])).markHeld c).arbRaise c (reqClass q)

/-! ### A channel performs a request (R276, R281 to R285) -/

/-- The sum of two elements (R284). -/
def addElem (fmt a b : Nat) : Nat :=
  match fmt with
  | 0x0 => Fmt.fp32.rne ((Fmt.fp32.decode a).add (Fmt.fp32.decode b))
  | 0x2 => Fmt.bf16.rne ((Fmt.bf16.decode a).add (Fmt.bf16.decode b))
  | 0x5 => (a + b) % 2 ^ 32
  | _ => (a + b) % 2 ^ 64

/-- Bytes of an add's element. -/
def addSize (fmt : Nat) : Nat :=
  match fmt with
  | 0x0 => 4
  | 0x2 => 2
  | 0x5 => 4
  | _ => 8

/-- Bytes with the elements of `d` added to them. -/
def addBytes (fmt : Nat) (m d : List Byte) : List Byte :=
  let w := addSize fmt
  (List.range (d.length / w)).flatMap fun i => leBytes w (addElem fmt (leNat (slice m (i * w) w)) (leNat (slice d (i * w) w)))

/-- The word that an atomic leaves (R285): `old`, and the operand bytes. -/
def atomicNew (op : MemOp) (old : Nat) (d : List Byte) : Nat :=
  match op with
  | .fadd w => (old + leNat d) % 2 ^ (if w then 64 else 32)
  | .faddf => addElem 0x0 old (leNat d)
  | .swap _ => leNat d
  | .cas w => let n := if w then 8 else 4; if old = leNat (d.take n) then leNat (slice d n n) else old
  | .fmin => if toSigned 64 (leNat d) < toSigned 64 old then leNat d else old
  | .fmax => if toSigned 64 old < toSigned 64 (leNat d) then leNat d else old
  | _ => old

/-- Lines that a request touches. -/
def lineCount (q : MemReq) : Nat := (q.addr % 4096 + q.len - 1) / 512 - q.addr % 4096 / 512 + 1

/-- Poison codewords of the physical row at `k`, a row's first byte. -/
def State.poisonCws (s : State) (k : Nat) (cws : List Nat) : State :=
  cws.foldl (fun t c => t.setPoison (k / 64 + c) true) s

/-- Clear the poison of codewords of a row. -/
def State.cleanCws (s : State) (k : Nat) (cws : List Nat) : State :=
  cws.foldl (fun t c => t.setPoison (k / 64 + c) false) s

/-- A write: codewords covered in part are read first, and stay poisoned where that read is
uncorrectable; whole ones lose their poison. -/
def State.chanWrite (s : State) (l : Loc) (d : List Byte) (facts : CwFacts) : State :=
  let part := (cwsOf l.off d.length).filter fun c => !(cwsWhole l.off d.length).contains c
  let r := s.readCws l.chan l.bank l.row part facts
  let k := s.locKey { l with off := 0 }
  ((r.2.memPut (k + l.off) d).cleanCws k (cwsWhole l.off d.length)).poisonCws k r.1

/-- An add: each codeword is added indivisibly, or written back poisoned. -/
def State.chanAdd (s : State) (l : Loc) (fmt : Nat) (d : List Byte) (facts : CwFacts) : State :=
  let r := s.readCws l.chan l.bank l.row (cwsOf l.off d.length) facts
  let k := s.locKey { l with off := 0 }
  let new := addBytes fmt (r.2.memBytes (k + l.off) d.length) d
  let s1 := (cwsOf l.off d.length).foldl (fun t c =>
    if r.1.contains c then t
    else
      let lo := max l.off (c * 64)
      let hi := min (l.off + d.length) (c * 64 + 64)
      t.memPut (k + lo) ((new.drop (lo - l.off)).take (hi - lo))) r.2
  s1.poisonCws k r.1

/-- An atomic: the old value and whether it is marked uncorrectable. -/
def State.chanAtomic (s : State) (l : Loc) (q : MemReq) (facts : CwFacts) : List Byte × Bool × State :=
  let r := s.readCws l.chan l.bank l.row (cwsOf l.off q.len) facts
  let k := s.locKey { l with off := 0 }
  let old := r.2.memBytes (k + l.off) q.len
  let s1 := if r.1.isEmpty then r.2.memPut (k + l.off) (leBytes q.len (atomicNew q.op (leNat old) q.data))
    else r.2.poisonCws k r.1
  (old, !r.1.isEmpty, s1)

/-- Perform a request at its location: data returned, whether it is uncorrectable, and the state after. A
CONDEMNED channel discards what would write (R293). -/
def State.perform (s : State) (l : Loc) (q : MemReq) (facts : CwFacts) : List Byte × Bool × State :=
  let condemned := s.chanState l.chan == 2
  match q.op with
  | .read =>
    let r := s.readCws l.chan l.bank l.row (cwsOf l.off q.len) facts
    (r.2.memBytes (s.locKey l) q.len, !r.1.isEmpty, r.2)
  | .write => if condemned then ([], false, s) else ([], false, s.chanWrite l q.data facts)
  | .add f => if condemned then ([], false, s) else ([], false, s.chanAdd l f q.data facts)
  | _ => if condemned then (List.replicate q.len 0#8, true, s) else s.chanAtomic l q facts

/-- Count a performed request (R293, R304). -/
def State.countOp (s : State) (c : Nat) (op : MemOp) : State :=
  let condemned := s.chanState c == 2
  match op with
  | .read => s
  | .write => if condemned then s.countMem c Ev.MEM_DISCARD 1 else s
  | .add _ => s.countMem c (if condemned then Ev.MEM_DISCARD else Ev.MEM_ADD) 1
  | _ => s.countMem c (if condemned then Ev.MEM_DISCARD else Ev.MEM_ATOMIC) 1

/-- The Basin that a source belongs to. -/
def MemSrc.basin : MemSrc → Nat
  | .core b _ _ => b
  | .dma b _ _ => b
  | .spill b _ _ => b
  | .image b _ _ _ => b
  | .host _ => 0
  | .reg _ => 0
  | .hyper _ _ => 0

/-- The hyperparameter block of an instantiation has come (R259); one whose context has been taken anew is dropped. -/
def State.hyperCame (s : State) (c inst : Nat) (d : List Byte) (bad : Bool) : State :=
  let x := SMap.get (fun _ => {}) s.col.ctxs c
  if x.hyperWait && x.instances == inst then
    { s with col := { s.col with
      ctxs := SMap.set (fun _ => {}) s.col.ctxs c { x with hyper := d, hyperBad := bad, hyperWait := false } } }
  else s

/-- The answer of a performed request leaves: to the host (to no one, where a reset dropped the agent's request), to the
Rill frame or the TAP access that waits for it, to the context whose block it is, or on the RSP class toward its Basin.
Uncorrectable data reach the Rill chain and the TAP as a free value, for only PCIe marks them (R282). -/
def State.respond (s : State) (c : Nat) (q : MemReq) (d : List Byte) (bad : Bool) : State :=
  match q.src with
  | .host agent =>
    if q.op ≠ .read ∨ 4 ≤ agent then s
    else if bad then s.emit (.readPoison agent q.addr) else s.emit (.readData agent q.addr (leNat d))
  | .reg agent =>
    if bad then s.freshFree.answerRead agent ((Config.freeBits s.freeCtr q.addr).toNat % 2 ^ 32) else s.answerRead agent (leNat d)
  | .hyper ctx inst => s.hyperCame ctx inst d bad
  | src =>
    let st := memStop (c % 16)
    let dst := basinStop src.basin
    s.queuePkt st (c / 16) ⟨ringFor st dst, 1, st, dst, st, .rsp ⟨src, d, bad⟩⟩

/-- Whether the temperature of its stack holds back the next request of a channel: at most one starts in 2 memory
clocks of 1 ns above T_MEM, and one in 8 above 100 °C (R466). -/
def State.paced (s : State) (c : Nat) : Bool :=
  let hot (m : SMap Bool) : Bool := SMap.get (fun _ => false) m (c % 16)
  let ns := if hot s.pwr.memCrit then 8 else if hot s.pwr.memThr then 2 else 0
  let t := SMap.get (fun _ => 0) s.mem.startAt c
  t != 0 && decide (s.ranHalves (stackIsland (c % 16)) (t - 1) * 5 < 2 * ns * 8)

/-- Request `ix` of a channel may be performed now: it is startable, its requester acts under the grant, and no limit of
temperature holds back its start. -/
def State.mayPerform (s : State) (c ix : Nat) (q : MemReq) : Bool :=
  startable (s.chanReqs c) ix q && s.arbOwns c (reqClass q) && (q.begun || !s.paced c)

/-- A request starts on a channel. -/
def State.noteStart (s : State) (c : Nat) : State :=
  { s with mem := { s.mem with startAt := SMap.set (fun _ => 0) s.mem.startAt c (s.now + 1) } }

/-- Bytes of the first `n` lines of a request. -/
def partLen (q : MemReq) (n : Nat) : Nat := min q.len (n * 512 - q.addr % 512)

/-- What is left of a request whose first `n` lines gave `d`. -/
def MemReq.rest (q : MemReq) (n : Nat) (d : List Byte) (bad : Bool) : MemReq :=
  let m := partLen q n
  { q with addr := q.addr + m, len := q.len - m, data := q.data.drop m, begun := true, got := q.got ++ d, bad := q.bad || bad }

/-- A performed request leaves its channel's queue, is counted, and its answer goes out. -/
def State.finishReq (s : State) (c ix : Nat) (q : MemReq) : State :=
  ((s.setChanReqs c ((s.chanReqs c).eraseIdx ix)).countOp c q.op).respond c { q with addr := q.addr - q.got.length } q.got q.bad

/-- MEM_READ to MEM_FMAX: a channel performs request `ix` of its queue, where it is of the kind named: as many of its
lines as BURST leaves before the break point at which the grant ends (R297, R298). -/
def State.memPerform (s : State) (c ix : Nat) (kind : MemOp → Bool) (facts : CwFacts) : State :=
  match (s.chanReqs c)[ix]? with
  | none => s
  | some q =>
    if !kind q.op || !s.mayPerform c ix q then s
    else
      match s.locate q.addr with
      | none => s
      | some l =>
        let a := s.arb c
        let n := min (lineCount q) (max 1 (a.limit - a.used))
        let m := partLen q n
        let d := if m = q.len then q.data else q.data.take m
        let r := (if q.begun then s else s.noteStart c).perform l { q with len := m, data := d } facts
        let q1 := q.rest n r.1 r.2.1
        (if q1.len = 0 then r.2.2.finishReq c ix q1
          else r.2.2.setChanReqs c ((r.2.2.chanReqs c).set ix q1)).arbUse c n

/-! ### Scrub and remap (R288 to R290) -/

/-- The next line of a channel's scrubber: bank, row and line. -/
def State.scrubNext (s : State) (c : Nat) : Nat × Nat × Nat :=
  let p := SMap.get (fun _ => 0) s.mem.scrubPos c
  (p / 8 / 4096, p / 8 % 4096, p % 8)

/-- SCRUB_LINE: the scrubber reads its next line; at the end of its period the correction table and the
address faults start anew.  A poisoned or uncorrectable codeword is written poisoned (R282). -/
def State.scrubLine (s : State) (c : Nat) (facts : CwFacts) : State :=
  if !s.scrubDue c || !s.arbOwns c 3 then s
  else
    let n := s.scrubNext c
    let p := SMap.get (fun _ => 0) s.mem.scrubPos c
    let wrap := p + 1 == scrubLines
    let s1 : State := { s with mem := { s.mem with
      scrubPos := SMap.set (fun _ => 0) s.mem.scrubPos c (if wrap then 0 else p + 1)
      scrubAt := SMap.set (fun _ => 0) s.mem.scrubAt c s.now
      rowCe := if p = 0 then SMap.set (fun _ => []) s.mem.rowCe c [] else s.mem.rowCe
      addrFaults := if p = 0 then SMap.set (fun _ => 0) s.mem.addrFaults c 0 else s.mem.addrFaults } }
    let s2 := s1.countMem c Ev.MEM_SCRUB_LINE 1
    let r := s2.readCws c n.1 n.2.1 ((List.range 8).map (n.2.2 * 8 + ·)) facts
    (r.2.poisonCws (rowKey c n.1 (s.physRow c n.1 n.2.1)) (if s.chanState c = 2 then [] else r.1)).arbUse c 1

/-- A spare becomes RETIRED. -/
def State.retireSpare (s : State) (c bank k : Nat) : State :=
  ((s.orBits (F.BANK_W1_RETIRED (bankIx c bank)) (2 ^ k)).countMem c Ev.MEM_SPARE_RETIRE 1).culletAppend 2 1
    (c * 2 ^ 11 + bank * 2 ^ 5 + k)

/-- Copy a row's bytes and poison from one physical row to another; codewords in `bad` arrive as poison. -/
def State.copyRow (s : State) (src dst : Nat) (bad : List Nat) : State :=
  let s1 := s.memPut dst (s.memBytes src 4096)
  (List.range 64).foldl (fun t c => t.setPoison (dst / 64 + c) (s.poisoned (src / 64 + c) || bad.contains c)) s1

/-- The verified copy switches the entry (R290 event 5): the old spare, if the row lived in one, is retired; codewords
in `bad` were uncorrectable. -/
def State.switchRow (s : State) (r : Repair) (bad : List Nat) : State :=
  let bi := bankIx r.chan r.bank
  let old := s.physRow r.chan r.bank r.row
  let s1 := s.copyRow (rowKey r.chan r.bank old) (rowKey r.chan r.bank (4096 + r.spare)) bad
  let s2 := if old < 4096 then s1 else (s1.puts [(F.BANK_W32_VALID bi (old - 4096), 0), (F.BANK_W32_ROW bi (old - 4096), 0)]).retireSpare r.chan r.bank (old - 4096)
  let ev := if old < 4096 then Ev.MEM_REMAP else Ev.MEM_REREMAP
  let s3 := (s2.puts [(F.BANK_W32_VALID bi r.spare, 1), (F.BANK_W32_ROW bi r.spare, r.row)]).countMem r.chan ev 1
  ((s3.istat F.MEMCFG_ISTAT_ISTAT 1).logReport ev (0xb10 + r.chan % 16) (memInst r.chan r.bank r.row) r.spare 0).remapAppend 1
    (r.chan + r.bank * 2 ^ 9 + r.spare * 2 ^ 15 + r.row * 2 ^ 20)

/-- A failed read-back retires the spare, and the copy moves on to the next FREE one (R289). -/
def State.nextSpare (s : State) (r : Repair) : State :=
  let s1 := s.retireSpare r.chan r.bank r.spare
  match s1.freeSpare r.chan r.bank with
  | some k => { s1 with mem := { s1.mem with repairs := { r with spare := k, lines := 0, bad := [] } :: s1.mem.repairs } }
  | none => s1.requestMapout 0 r.chan r.bank 3 false

/-- Requests that are no longer held raise their requesters again. -/
def State.release (s : State) (c : Nat) : State :=
  let t := s.markHeld c
  ([0, 1, 2, 5] : List Nat).foldl (fun u r => if u.arbReq c r then u.arbRaise c r else u) t

/-- A row of the bank that a map-out empties is copied into the donor bank (R294 event 2), `bad` naming the codewords that
were uncorrectable; a read-back that fails takes a spare of the donor for the row, and the copy repeats. -/
def State.copyNext (s : State) (c bank row : Nat) (fail : Bool) (bad : List Nat) : State :=
  let donor := s.bankMap c (s.get (F.CHAN_W0_NC c) - 1)
  if fail then
    match s.freeSpare c donor with
    | some k => s.switchRow { chan := c, bank := donor, row := row, spare := k, since := s.now } []
    | none => s.requestMapout 0 c donor 3 false
  else
    let t := s.copyRow (rowKey c bank (s.physRow c bank row)) (rowKey c donor (s.physRow c donor row)) bad
    let u : State := { t with mem := { t.mem with copied := row + 1, copyAt := t.now } }
    u.put (F.BANK_W0_COPY (bankIx c bank)) (min 4095 (row + 1))

/-- The copy of a REPAIRING row ends: the entry switches, or the next spare is tried. -/
def State.repairEnd (s : State) (r : Repair) (fail : Bool) : State :=
  if fail then s.nextSpare r else s.switchRow r r.bad

/-- Whether two copies are of one row. -/
def Repair.same (x r : Repair) : Bool := x.chan == r.chan && x.bank == r.bank && x.row == r.row

/-- Lines that the REPAIR requester's grant leaves, of which a row has 8 and `n` are read: each ends at a break point. -/
def State.copyLeft (s : State) (c n : Nat) : Nat := min (8 - n) (max 1 ((s.arb c).limit - (s.arb c).used))

/-- The codewords of `n` lines of a row from line `i` on. -/
def lineCws (i n : Nat) : List Nat := (List.range (8 * n)).map (8 * i + ·)

/-- Lines of a REPAIRING row are read; with the last its copy ends. -/
def State.repairLines (s : State) (r : Repair) (fail : Bool) (facts : CwFacts) : State :=
  let n := s.copyLeft r.chan r.lines
  let rd := s.readCws r.chan r.bank r.row (lineCws r.lines n) facts
  let r1 : Repair := { r with lines := r.lines + n, bad := r.bad ++ rd.1 }
  let left := rd.2.mem.repairs.filter fun x => !x.same r
  let t : State := if r1.lines < 8 then { rd.2 with mem := { rd.2.mem with repairs := r1 :: left } }
    else (State.repairEnd { rd.2 with mem := { rd.2.mem with repairs := left } } r1 fail).release r.chan
  t.arbUse r.chan n

/-- Lines of the row that a map-out copies are read; with the last the row switches to the donor. -/
def State.mapLines (s : State) (c bank row : Nat) (fail : Bool) (facts : CwFacts) : State :=
  let n := s.copyLeft c s.mem.copyLines
  let rd := s.readCws c bank row (lineCws s.mem.copyLines n) facts
  let bad := s.mem.copyBad ++ rd.1
  let t : State := if s.mem.copyLines + n < 8 then
      { rd.2 with mem := { rd.2.mem with copyLines := s.mem.copyLines + n, copyBad := bad } }
    else (State.copyNext { rd.2 with mem := { rd.2.mem with copyLines := 0, copyBad := [] } } c bank row fail bad).release c
  t.arbUse c n

/-- ROW_REMAP_DONE: the copy of a REPAIRING row, or of the row that a map-out copies, moves as many lines as the REPAIR
requester's grant leaves, and ends with the last (R290, R294, R297). -/
def State.remapDone (s : State) (c bank row : Nat) (fail : Bool) (facts : CwFacts) : State :=
  if !s.arbOwns c 4 then s
  else
    match s.mem.repairs.find? fun r => r.chan == c && r.bank == bank && r.row == row with
    | some r => s.repairLines r fail facts
    | none => if s.copying c bank && s.mem.copied == row then s.mapLines c bank row fail facts else s

/-! ### Map-out (R292 to R294) -/

/-- Recompute LIVE, N, F, tail, capacity and the stacks' live channels. -/
def State.recomputeMap (s : State) : State :=
  let live := (List.range 512).filter s.chanLive
  let ns := live.map fun c => s.get (F.CHAN_W0_NC c)
  let total := ns.foldl (· + ·) 0
  let f := ns.foldl min 64
  let s1 := (live.zipIdx).foldl (fun t (p : Nat × Nat) => t.put (F.CHAN_W0_LIVEIDX p.1) p.2) s
  let s2 := s1.puts [(F.MEMCFG_CAP_LIVECH, live.length), (F.MEMCFG_CAP_CAP_16M, total),
    (F.MEMCFG_PLANES_FULL, f), (F.MEMCFG_PLANES_TAIL, total - f * live.length)]
  (List.range 16).foldl (fun t j => t.put (F.HBM_STACK_CH_LIVE j) (live.filter fun c => c % 16 == j).length) s2

/-- A bank's contents are gone: every byte of it holds a free value. -/
def State.scrambleBank (s : State) (b : Nat) : State :=
  let lo := b * 4128 * 4096
  let hi := (b + 1) * 4128 * 4096
  { s with mem := { s.mem with
    bytes := s.mem.bytes.filter fun (x : Nat × Byte) => !(decide (lo ≤ x.1) && decide (x.1 < hi))
    poison := s.mem.poison.filter fun (x : Nat × Bool) => !(decide (lo ≤ x.1 * 64) && decide (x.1 * 64 < hi))
    gen := SMap.set (fun _ => 0) s.mem.gen b s.mem.genCtr } }

/-- The banks of the affected range of a bank map-out: the tail banks from the first on, and the top full
plane where it becomes tail. -/
def State.affectedBanks (s : State) : List Nat :=
  let c := s.get F.MEMCFG_MAPOUT_GCH
  let bk (p : Nat × Nat) : Nat := let d := s.liveChan p.2; bankIx d (s.bankMap d p.1)
  if s.get (F.CHAN_W0_NC c) ≤ s.fullF then
    ((List.range s.liveN).map fun k => bk (s.fullF - 1, k)) ++ s.tailBanks.map bk
  else
    (s.tailBanks.dropWhile fun p => !(p.1 == s.get (F.CHAN_W0_NC c) - 1 && s.liveChan p.2 == c)).map bk

/-- Clear the map-out in MEMCFG.MAPOUT. -/
def State.clearMapout (s : State) : State := s.put (wordRef 0xb00110) 0

/-- A channel map-out takes effect: LIVE loses it and every logical content is undefined. -/
def State.channelMapout (s : State) : State :=
  let c := s.get F.MEMCFG_MAPOUT_GCH
  let g := s.mem.genCtr + 1
  let s1 : State := { s.put (F.CHAN_W0_STATE c) 3 with mem := { s.mem with
    bytes := [], poison := [], genCtr := g
    gen := (List.range 32768).map fun b => (b, g) } }
  let s2 := ((s1.clearMapout.recomputeMap).culletAppend 4 s.mem.mapReason c).countMem c Ev.MEM_CH_MAPOUT 1
  ((s2.istat F.MEMCFG_ISTAT_ISTAT 4).logReport Ev.MEM_CH_MAPOUT (0xb10 + c % 16) (memInst c 0 0) 0 0).remapAppend 3 c

/-- A donor bank, whose contents no window and no aperture access reaches any more, is made ready for the copy. -/
def State.emptyBank (s : State) (b : Nat) : State :=
  let lo := b * 4128 * 4096
  let hi := (b + 1) * 4128 * 4096
  { s with mem := { s.mem with
    bytes := s.mem.bytes.filter fun (x : Nat × Byte) => !(decide (lo ≤ x.1) && decide (x.1 < hi))
    poison := s.mem.poison.filter fun (x : Nat × Bool) => !(decide (lo ≤ x.1 * 64) && decide (x.1 * 64 < hi))
    gen := SMap.set (fun _ => 0) s.mem.gen b 0 } }

/-- MAPOUT_START: no valid window overlaps the affected range; a channel map-out completes at once, and a
bank map-out's bank is MOVING, its row copies ended (R290). -/
def State.mapoutStartNow (s : State) : State :=
  if ¬ s.on F.MEMCFG_MAPOUT_PENDING ∨ s.on F.MEMCFG_MAPOUT_MOVING ∨ s.mapBlockers ≠ [] then s
  else if s.on F.MEMCFG_MAPOUT_KIND then s.channelMapout
  else
    let c := s.get F.MEMCFG_MAPOUT_GCH
    let bank := s.get F.MEMCFG_MAPOUT_BANK
    match s.slotOf c bank with
    | none => s.clearMapout
    | some i =>
      let s1 := (s.put F.MEMCFG_MAPOUT_MOVING 1).put (F.BANK_W0_STATE (bankIx c bank)) 1
      let d := s.get (F.CHAN_W0_NC c) - 1
      let s2 : State := { s1 with mem := { s1.mem with
        mapSlot := i, copied := 0, copyAt := s1.now, copyLines := 0, copyBad := []
        repairs := s1.mem.repairs.filter fun r => !(r.chan == c && r.bank == bank) } }
      (if i = d then s2 else s2.emptyBank (bankIx c (s.bankMap c d))).release c

/-- BANK_MAPOUT_DONE: once every row has been copied, in one memory clock the donor takes the slot and the bank is
MAPPED_OUT (R294 event 3). -/
def State.bankMapoutDone (s : State) : State :=
  let c := s.get F.MEMCFG_MAPOUT_GCH
  let bank := s.get F.MEMCFG_MAPOUT_BANK
  if ¬ s.on F.MEMCFG_MAPOUT_MOVING ∨ s.copying c bank then s
  else
    let i := s.mem.mapSlot
    let d := s.get (F.CHAN_W0_NC c) - 1
    let donor := s.bankMap c d
    let s0 : State := { s with mem := { s.mem with genCtr := s.mem.genCtr + 1 } }
    let s2 := (s.affectedBanks.filter fun b => i == d || (b != bankIx c bank && b != bankIx c donor)).foldl State.scrambleBank s0
    let s3 := (s2.setByte (0x07000040 + 128 * c + i) (128 + donor)).setByte (0x07000040 + 128 * c + d) 0
    let s4 := (s3.put (F.CHAN_W0_NC c) d).puts [(F.BANK_W0_STATE (bankIx c bank), 2), (F.BANK_W0_COPY (bankIx c bank), 0)]
    let s5 := ((s4.clearMapout.recomputeMap).culletAppend 3 s.mem.mapReason (c * 64 + bank)).countMem c Ev.MEM_BANK_MAPOUT 1
    let s6 := ((s5.istat F.MEMCFG_ISTAT_ISTAT 3).logReport Ev.MEM_BANK_MAPOUT (0xb10 + c % 16) (memInst c bank 0) 0 0).remapAppend 2
      (c + i * 2 ^ 9 + d * 2 ^ 15)
    let s7 := s6.release c
    if s.get F.MEMCFG_POLICY_CHMAP_LIMIT ≤ 64 - d then s7.requestMapout 1 c 0 3 false else s7

/-- The checks of MEMCFG.MAPREQ (R299): kind, channel and physical bank. -/
def State.mapreqCheck (s : State) (kind c bank : Nat) : Nat :=
  if ¬ s.chanLive c then Rej.RANGE
  else if kind = 0 ∧ (s.slotOf c bank).isNone then Rej.RANGE
  else if s.on F.MEMCFG_MAPOUT_PENDING then Rej.BUSY else 0

/-- MAPREQ.GO. -/
def State.mapreq (s : State) (kind c bank : Nat) : State := s.requestMapout kind c bank 7 false

/-- The check of MEMCFG.REPAIR (R299). -/
def State.repairCheck (s : State) (c bank row : Nat) : Nat :=
  if s.repairing c bank row ∨ s.get (F.BANK_W0_STATE (bankIx c bank)) = 1 then Rej.BUSY else 0

/-! ### Margin (R295, R296) -/

/-- The procedure that a channel is in: 0 none, 1 FULL, 2 SCAN. -/
def State.margining (s : State) (c : Nat) : Nat := SMap.get (fun _ => 0) s.mem.margining c

/-- Whether event 4 of a run of the Annealer is measuring a channel (R470): 64 channels in a round of 5 ms.  DESIGN CHOICE:
the rounds follow one another from 101 ms on, in the order of the channels. -/
def State.annealScans (s : State) (c : Nat) : Bool :=
  s.pwr.run.any fun r =>
    let t := r.since + msClocks (101 + 5 * (c / 64))
    decide (t ≤ s.now) && decide (s.now < t + msClocks 5)

/-- The checks of MEMCFG.MARGIN. -/
def State.marginCheck (s : State) (c : Nat) : Nat :=
  if ¬ s.chanLive c then Rej.RANGE
  else if s.margining c ≠ 0 ∨ s.annealScans c ∨ (s.on F.MEMCFG_MAPOUT_MOVING ∧ s.get F.MEMCFG_MAPOUT_GCH = c) then Rej.BUSY else 0

/-- A margin starts; a FULL one takes the channel out of service (W0.STATE MARGINING), which freezes its arbiter: the
grant that stands runs to its end. -/
def State.marginStart (s : State) (c kind : Nat) : State :=
  let s1 : State := { s with mem := { s.mem with margining := SMap.set (fun _ => 0) s.mem.margining c kind } }
  if kind = 1 then s1.put (F.CHAN_W0_STATE c) 1 else s1

/-- RESULT of R296 for the smallest widths and heights. -/
def marginResult (w h : Nat) (err : Bool) : Nat :=
  if w < 10 ∨ h < 4 ∨ err then 2 else if w < 20 ∨ h < 8 then 1 else 0

/-- What a margin measured: read and write widths and heights, the worst pin, errors of the verification. -/
structure MarginFact where
  rdW : Nat
  rdH : Nat
  wrW : Nat
  wrH : Nat
  pin : Nat
  errors : Bool
  pins : List PinSet

/-- The settings of a channel's 64 pins, pin 0 first.  DESIGN CHOICE: before a FULL margin the delays stand in the middle
of their range and the references at its lowest step, for the spec gives them no reset value. -/
def phyDefault (_ : Nat) : List PinSet := List.replicate 64 {}
def State.pinSets (s : State) (c : Nat) : List PinSet := SMap.get phyDefault s.mem.phy c

/-- What a result does (R296): LOW is reported to the Annealer too, which shows it in MEM_LOW (R473). -/
def State.marginAct (s : State) (c r : Nat) : State :=
  match r with
  | 1 =>
    let old := (s.word 0xb00128).toNat
    ((s.istat F.MEMCFG_ISTAT_ISTAT 6).logState 0xb00128 old (old ||| 64)).istat F.ANN_ISTAT_ISTAT 4
  | 2 => (s.istat F.MEMCFG_ISTAT_ISTAT 5).requestMapout 1 c 0 4 true
  | _ => s

/-- MARGIN_DONE: a FULL one ends only once the channel's arbiter had drained; it sets the pins (R295). -/
def State.marginDone (s : State) (c : Nat) (m : MarginFact) : State :=
  let k := s.margining c
  if k = 0 ∨ (k = 1 ∧ s.arbHolds c) then s
  else
    let full := k == 1
    let w := if full then min m.rdW m.wrW else m.rdW
    let h := if full then min m.rdH m.wrH else m.rdH
    let r := marginResult w h (full && m.errors)
    let s1 : State := { s with mem := { s.mem with
      margining := SMap.set (fun _ => 0) s.mem.margining c 0
      untrained := if r = 2 then c :: s.mem.untrained else s.mem.untrained.filter (· ≠ c)
      phy := if full then SMap.set phyDefault s.mem.phy c (m.pins ++ (s.pinSets c).drop m.pins.length) else s.mem.phy } }
    let s2 := s1.puts [(F.MARGIN_W0_RDW c, m.rdW), (F.MARGIN_W0_RDH c, m.rdH),
      (F.MARGIN_W0_WRW c, if full then m.wrW else 0), (F.MARGIN_W0_WRH c, if full then m.wrH else 0),
      (F.MARGIN_W1_KIND c, k), (F.MARGIN_W1_RESULT c, r), (F.MARGIN_W1_PIN c, m.pin),
      (F.MARGIN_W2_TSEC c, s.time.sec), (F.MARGIN_W3_TNS c, s.time.ns)]
    let condemned := s.on F.MEMCFG_MAPOUT_PENDING && s.on F.MEMCFG_MAPOUT_KIND && s.get F.MEMCFG_MAPOUT_GCH == c
      && (s.mem.mapReason == 4 || s.mem.mapReason == 5)
    let s3 := if full then s2.put (F.CHAN_W0_STATE c) (if condemned then 2 else 0) else s2
    s3.marginAct c r

/-! ### The aperture (R300) -/

/-- The logical address of an aperture offset. -/
def State.apAddr (s : State) (o : Nat) : Nat := s.get F.MEMCFG_APBASE_BASE * 2 ^ 24 + o

/-- Whether an aperture access is refused. -/
def State.apRefused (s : State) (o n : Nat) : Bool :=
  let hi := s.apAddr o + n
  decide (s.capacity < hi) || s.inMoving (hi - 1)

/-- Aperture requests wait at their channels as the HOST requester, split at pages. -/
def State.apIssue (s : State) (agent o : Nat) (op : MemOp) (d : List Byte) (n : Nat) : State :=
  let a := s.apAddr o
  (pieces a n).foldl (fun t (p : Nat × Nat) =>
    match t.locate (a + p.1) with
    | some l => t.reachChannel l.chan { src := .host agent, op := op, addr := a + p.1, len := p.2, data := (d.drop p.1).take p.2 }
    | none => t) s

/-- APERTURE_READ: refused, a read returns all ones; a window that does not answer reads 0 (R558). -/
def State.apRead (s : State) (agent o n : Nat) : State :=
  if n = 0 then s
  else if !s.answers 0x8000000 then s.emit (.readData agent (0x08000000 + o) 0)
  else if s.apRefused o n then s.emit (.readData agent (0x08000000 + o) (256 ^ n - 1))
  else s.apIssue agent o .read [] n

/-- A word of the aperture that a Rill frame or the TAP reads waits as a HOST request (R297, R395). -/
def State.apWord (s : State) (agent o : Nat) : State :=
  let a := s.apAddr o
  match s.locate a with
  | some l => s.reachChannel l.chan { src := .reg agent, op := .read, addr := a, len := 4 }
  | none => s

/-- APERTURE_WRITE: refused, a write is discarded and leaves its traces. -/
def State.apWrite (s : State) (agent o : Nat) (d : List Byte) : State :=
  if d.isEmpty then s
  else if !s.answers 0x8000000 then s.reject agent (0x08000000 + o) (leNat (d.take 4)) Rej.BUSY
  else if s.apRefused o d.length then s.reject agent (0x08000000 + o) (leNat (d.take 4)) Rej.RANGE
  else s.apIssue agent o .write d d.length

/-! ### The commands -/

def execArbGrant (i : Fin 777) (s : State) : Out := finish s (s.arbGrant i)
def execArbStarve (i : Fin 777) (r : Fin 32) (s : State) : Out := finish s (s.arbStarve i r)
def execRingInject (stop : Fin 66) (ring cls : Fin 2) (s : State) : Out := finish s (s.ringInject stop ring cls)
def execMemRead (c : Fin 512) (ix : Nat) (facts : CwFacts) (s : State) : Out :=
  finish s (s.memPerform c ix (fun o => o == .read) facts)
def execMemWrite (c : Fin 512) (ix : Nat) (facts : CwFacts) (s : State) : Out :=
  finish s (s.memPerform c ix (fun o => o == .write) facts)
def execMemAdd (c : Fin 512) (ix : Nat) (facts : CwFacts) (s : State) : Out :=
  finish s (s.memPerform c ix (fun o => match o with
    | .add _ => true
    | _ => false) facts)
def execMemFadd (c : Fin 512) (ix : Nat) (facts : CwFacts) (s : State) : Out :=
  finish s (s.memPerform c ix (fun o => o == .fadd true || o == .fadd false) facts)
def execMemFaddf (c : Fin 512) (ix : Nat) (facts : CwFacts) (s : State) : Out :=
  finish s (s.memPerform c ix (fun o => o == .faddf) facts)
def execMemSwap (c : Fin 512) (ix : Nat) (facts : CwFacts) (s : State) : Out :=
  finish s (s.memPerform c ix (fun o => o == .swap true || o == .swap false) facts)
def execMemCas (c : Fin 512) (ix : Nat) (facts : CwFacts) (s : State) : Out :=
  finish s (s.memPerform c ix (fun o => o == .cas true || o == .cas false) facts)
def execMemFmin (c : Fin 512) (ix : Nat) (facts : CwFacts) (s : State) : Out :=
  finish s (s.memPerform c ix (fun o => o == .fmin) facts)
def execMemFmax (c : Fin 512) (ix : Nat) (facts : CwFacts) (s : State) : Out :=
  finish s (s.memPerform c ix (fun o => o == .fmax) facts)
def execScrubLine (c : Fin 512) (facts : CwFacts) (s : State) : Out := finish s (s.scrubLine c facts)
def execRowRemapDone (c : Fin 512) (bank : Fin 64) (row : Fin 4096) (fail : Bool) (facts : CwFacts) (s : State) : Out :=
  finish s (s.remapDone c bank row fail facts)
def execMapoutStart (s : State) : Out := finish s s.mapoutStartNow
def execBankMapoutDone (s : State) : Out := finish s s.bankMapoutDone
def execMarginDone (c : Fin 512) (rdW rdH wrW wrH : BitVec 8) (pin : Fin 64) (errors : Bool) (pins : List PinSet)
    (s : State) : Out :=
  finish s (s.marginDone c ⟨rdW.toNat, rdH.toNat, wrW.toNat, wrH.toNat, pin, errors, pins⟩)
def execApertureRead (agent : Agent) (o : Fin 16777216) (n : Fin 4097) (s : State) : Out := finish s (s.apRead agent o n)
def execApertureWrite (agent : Agent) (o : Fin 16777216) (d : List Byte) (s : State) : Out := finish s (s.apWrite agent o d)

end Sys2Proof.Machine
end

