-- ==== Sys2Proof/Machine/Collective.lean ====
section
/-! DEFINITION. The collective engine (chapter 6): its tables and ledger, the matcher, reduction, fences and
closes, completion and fallback, the command queues and teardown. -/

namespace Sys2Proof.Machine

/-! ### Parameter blocks (R164) -/

/-- Words P0 to P9 of a parameter block. -/
abbrev Params := List Nat

/-- Word `i` of a block. -/
def Params.w (p : Params) (i : Nat) : Nat := List.getD p i 0

def Params.type (p : Params) : Nat := nfield (p.w 0) 31 29
def Params.op (p : Params) : Nat := nfield (p.w 0) 28 26
def Params.exact (p : Params) : Bool := nbit (p.w 0) 25 == 1
def Params.paired (p : Params) : Bool := nbit (p.w 0) 24 == 1
def Params.spill (p : Params) : Bool := nbit (p.w 0) 23 == 1
def Params.sr (p : Params) : Bool := nbit (p.w 0) 22 == 1
def Params.ovf (p : Params) : Bool := nbit (p.w 0) 21 == 1
def Params.hist (p : Params) : Bool := nbit (p.w 0) 20 == 1
def Params.applyPartial (p : Params) : Bool := nbit (p.w 0) 19 == 1
def Params.fmt (p : Params) : Nat := nfield (p.w 0) 15 12
def Params.ofmt (p : Params) : Nat := nfield (p.w 0) 11 8
def Params.nchunk (p : Params) : Nat := p.w 1
def Params.clen (p : Params) : Nat := nfield (p.w 2) 28 16
def Params.lastlen (p : Params) : Nat := nfield (p.w 2) 12 0
def Params.mask (p : Params) : Nat := p.w 3 + nfield (p.w 4) 17 0 * 2 ^ 32
def Params.deadline (p : Params) : Nat := p.w 5
def Params.spillPage (p : Params) : Nat := nfield (p.w 6) 26 0
def Params.statePage (p : Params) : Nat := nfield (p.w 7) 26 0
def Params.kernel (p : Params) : Nat := nfield (p.w 8) 31 16
def Params.hyper (p : Params) : Nat := nfield (p.w 8) 15 0
def Params.srseed (p : Params) : Nat := p.w 9

/-- REDUCE or UPDATE. -/
def Params.reduces (p : Params) : Bool := p.type == 0 || p.type == 4

/-- The block with its reserved bits read as 0. -/
def Params.clean (p : Params) : Params :=
  [p.w 0 &&& 0xfff8ff00, p.w 1, p.w 2 &&& 0x1fff1fff, p.w 3, p.w 4 &&& 0x3ffff, p.w 5, p.w 6 &&& 0x7ffffff,
    p.w 7 &&& 0x7ffffff, p.w 8, p.w 9]

/-- The Basins of the mask in ascending order (R168). -/
def Params.basins (p : Params) : List Nat := (List.range 50).filter fun b => nbit p.mask b == 1

/-- E: the elements of a full chunk. -/
def Params.elems (p : Params) : Nat := elemCount p.fmt p.clen

/-- Payload bytes of chunk `c`. -/
def Params.lenOf (p : Params) (c : Nat) : Nat := if c + 1 = p.nchunk then p.lastlen else p.clen

/-- E_c: the elements of chunk `c`. -/
def Params.elemsOf (p : Params) (c : Nat) : Nat := elemCount p.fmt (p.lenOf c)

/-- The Basin at the position of chunk `c`; half 1 is the second of a pair (R173). -/
def Params.basinOf (p : Params) (c half : Nat) : Nat := p.basins.getD ((c + half) % p.basins.length) 0

/-- I_s of a spill image (R168), and the format of its adds. -/
def Params.spillSize (p : Params) : Nat := if p.fmt = 0x6 then 8 else 4
def Params.spillFmt (p : Params) : Nat := if p.fmt = 0x6 then 0x6 else if isIntFmt p.fmt then 0x5 else 0x0

/-! ### Kernels (R260, R261, R265) -/

/-- What a kernel declares: whether it needs the array, state bytes per element, scratch bytes per invocation
at E elements, concurrent invocations. -/
structure KernelInfo where
  array : Bool
  bpe : Nat
  scratch : Nat
  conc : Nat

/-- The kernel of a code, for chunks of `e` elements; none where it is absent. -/
def State.kernelInfo (s : State) (code e : Nat) : Option KernelInfo :=
  match code with
  | 0x0001 => some ⟨false, 8, 12 * e, 4⟩
  | 0x0002 => some ⟨false, 12, 16 * e, 4⟩
  | 0x0003 => some ⟨true, 0, 4 * e + 8192, 1⟩
  | 0x0004 => some ⟨false, 4, 8 * e, 4⟩
  | 0x0005 => some ⟨false, 4, 8 * e, 4⟩
  | _ =>
    if 0x100 ≤ code ∧ code < 0x200 ∧ nbit (s.get (F.KL_LOADED_LOADED ((code - 0x100) / 32))) ((code - 0x100) % 32) = 1 then
      let b := SMap.get (fun _ => []) s.bsn.kernels (code - 0x100)
      some ⟨leNat (slice b 6 2) % 2 == 1, leNat (slice b 22 2), leNat (slice b 16 4), leNat (slice b 20 2)⟩
    else none

/-- The window entry of a partition (R257, R258). -/
def State.windowOf (s : State) (part : Nat) : Option Nat :=
  s.windowsValid.find? fun i => s.get (F.PWIN_W0_PART i) == part

/-- Whether `n` bytes from page `page` lie inside the partition's window. -/
def State.inWindow (s : State) (part page n : Nat) : Bool :=
  (s.windowOf part).any fun i => decide (page * 4096 + n ≤ s.get (F.PWIN_W2_NPAGES i) * 4096)

/-- The logical address of window offset `o`. -/
def State.winAddr (s : State) (part o : Nat) : Option Nat :=
  (s.windowOf part).bind fun i =>
    if o < s.get (F.PWIN_W2_NPAGES i) * 4096 then some (s.get (F.PWIN_W1_BASE_PAGE i) * 4096 + o) else none

/-! ### The checks of a parameter block (R166, R211) -/

/-- The allowed result formats of a contribution format. -/
def ofmtAllowed (fmt ofmt : Nat) : Bool :=
  match fmt with
  | 0x0 => [0x0, 0x2, 0x1, 0x7, 0x9].contains ofmt
  | 0x2 => [0x2, 0x0, 0x7, 0x9].contains ofmt
  | 0x1 => [0x1, 0x0, 0x2, 0x7].contains ofmt
  | 0x7 => [0x7, 0x2, 0x1, 0x0, 0x9].contains ofmt
  | 0x8 => [0x8, 0x7, 0x2, 0x0].contains ofmt
  | 0x9 => [0x9, 0x7, 0x2, 0x0].contains ofmt
  | 0xa => [0xa, 0x9, 0x7, 0x2].contains ofmt
  | 0x3 => [0x3, 0x4, 0x5].contains ofmt
  | 0x4 => [0x4, 0x5].contains ofmt
  | 0x5 => [0x5, 0x6].contains ofmt
  | 0x6 => ofmt == 0x6
  | _ => false

/-- The result length of `e` elements. -/
def resultLen (ofmt e : Nat) : Nat :=
  match ofmt with
  | 0x9 => ceilDiv e 16 * 17
  | 0xa => ceilDiv e 16 * 9
  | 0x8 => ceilDiv e 2
  | _ => e * ((fmtOf ofmt).bits / 8)

/-- The tests of R166 on OP, formats and lengths, which judge REDUCE and UPDATE alone. -/
def Params.numbersOk (p : Params) : Bool :=
  !p.reduces ||
  (decide (p.op < 7) && decide (p.fmt ≤ 0xa) && decide (p.ofmt ≤ 0xa)
    && ofmtAllowed p.fmt p.ofmt
    && (!isBitwise p.op || (isIntFmt p.fmt && p.ofmt == p.fmt))
    && (match fmtUnit p.fmt with
        | some (u, _) => p.clen % u == 0 && p.lastlen % u == 0
        | none => false)
    && decide (1 ≤ p.clen) && decide (p.clen ≤ 4096) && decide (1 ≤ p.lastlen) && decide (p.lastlen ≤ p.clen)
    && decide (resultLen p.ofmt p.elems ≤ 4096))

/-- The region tests of R166. -/
def State.regionsOk (s : State) (part : Nat) (p : Params) : Bool :=
  (!p.spill || s.inWindow part p.spillPage (p.nchunk * p.elems * p.spillSize))
  && (p.type != 4 ||
      (match s.kernelInfo p.kernel p.elems with
        | none => false
        | some k =>
          s.inWindow part p.statePage (if p.kernel = 3 then 4096 else p.nchunk * p.elems * k.bpe)
          && (decide (p.kernel < 0x100) || (s.windowOf part).any fun i => s.on (F.PWIN_W0_UKERN i))
          && (!k.array || p.basins.all fun b => s.get (F.BASIN_STATE_ARRAY b) == 3)))

/-- R166: whether a parameter block may be placed for a partition. -/
def State.paramsOk (s : State) (part : Nat) (p : Params) : Bool :=
  decide (p.type ≤ 4) && p.numbersOk
  && decide (1 ≤ p.nchunk) && decide (p.nchunk ≤ 16777216)
  && (!(p.type == 2 || p.type == 3) || p.nchunk == 1)
  && !p.basins.isEmpty && p.basins.all (fun b => !s.on (F.COMMON_CTRL_FREEZE (0xa00 + b)))
  && (!p.paired || (p.exact && p.type == 0 && !p.spill && decide (2 ≤ p.basins.length)))
  && (!p.spill || (!p.exact && p.reduces))
  && s.regionsOk part p
  && decide (p.deadline ≠ 0)

/-! ### Reservations (R168, R169, R53) -/

/-- k_j: chunk indices on position j. -/
def Params.share (p : Params) (j : Nat) : Nat :=
  if p.nchunk ≤ j then 0 else (p.nchunk - 1 - j) / p.basins.length + 1

/-- Slot bytes on each Basin of the mask. -/
def State.slotNeeds (s : State) (p : Params) : List (Nat × Nat) :=
  let n := p.basins.length
  let img := p.elems * imageSize p.fmt p.exact
  let scratch := if p.type = 4 then (s.kernelInfo p.kernel p.elems).elim 0 fun k => k.scratch * k.conc else 0
  (p.basins.zipIdx).map fun (x : Nat × Nat) =>
    let j := x.2
    let base := if !p.reduces then 0
      else if p.spill then 32768
      else if p.paired then (p.share j + p.share ((j + n - 1) % n)) * img
      else p.share j * img
    (x.1, base + scratch)

/-- Arrival blocks of 512 bits. -/
def Params.blockNeeds (p : Params) (nmemb : Nat) : Nat :=
  ceilDiv (match p.type with
    | 1 => p.nchunk
    | 2 => nmemb
    | 3 => nmemb + 1
    | _ => p.nchunk * nmemb) 512

/-- Bytes the ledger shows reserved on a Basin. -/
def State.ledgerOn (s : State) (b : Nat) : Nat :=
  s.col.ledger.foldl (fun n (r : SlotRec) => if r.basin = b then n + r.bytes else n) 0

/-- A Basin's slot pool, and the free bytes that the ledger shows. -/
def State.slotPool (s : State) (b : Nat) : Nat := s.get (F.BASIN_SLOT_SLOT_64K b) * 65536
def State.slotFree (s : State) (b : Nat) : Nat :=
  s.slotPool b - (s.ledgerOn b + SMap.get (fun _ => 0) s.col.retired b)

/-- Blocks of the arrival store. -/
def arrivalStore : Nat := 524288

/-- Reserve slot bytes and arrival blocks for an owner, all or none (R169). -/
def State.reserveSlots (s : State) (owner : Nat) (need : List (Nat × Nat)) (blocks : Nat) : Option State :=
  if need.all (fun x => decide (x.2 ≤ s.slotFree x.1)) ∧ s.col.blocksUsed + blocks ≤ arrivalStore then
    let recs : List SlotRec := (need.filter fun x => x.2 != 0).map fun x => ⟨x.1, owner, x.2⟩
    let s1 : State := { s with col := { s.col with
      ledger := s.col.ledger ++ recs, held := s.col.held ++ recs, blocksUsed := s.col.blocksUsed + blocks } }
    some (recs.foldl (fun t r => t.put (F.BASIN_RESV_BYTES r.basin) (t.get (F.BASIN_RESV_BYTES r.basin) + r.bytes)) s1)
  else none

/-- What `need` asks beyond `have_`, Basin by Basin. -/
def needBeyond (need have_ : List (Nat × Nat)) : List (Nat × Nat) :=
  need.map fun x => (x.1, x.2 - ((have_.find? fun y => y.1 == x.1).map Prod.snd).getD 0)

/-- A communicator beside its entry. -/
def State.comm (s : State) (m : Nat) : CommSt := SMap.get (fun _ => {}) s.col.comms m

/-- Hold a communicator. -/
def State.setComm (s : State) (m : Nat) (v : CommSt) : State :=
  { s with col := { s.col with comms := SMap.set (fun _ => {}) s.col.comms m v } }

/-- The communicator of an owner of slot bytes: a context, or 16,384 + communicator. -/
def State.ownerComm (s : State) (o : Nat) : Nat := if o < 16384 then s.get (F.CTX_W10_COMMIDX o) else o - 16384

/-- Whether an owner's communicator is being torn down and its release messages are out. -/
def State.ownerTorn (s : State) (o : Nat) : Bool := (s.comm (s.ownerComm o)).releasing

/-- Arrival blocks of an owner come free, or stay in use until event 5 of R192. -/
def State.freeBlocks (s : State) (owner n : Nat) : State :=
  if s.ownerTorn owner then
    let m := s.ownerComm owner
    s.setComm m { s.comm m with tornBlocks := (s.comm m).tornBlocks + n }
  else { s with col := { s.col with blocksUsed := s.col.blocksUsed - n } }

/-- The Basins free an owner's bytes and send release messages; its arrival blocks go with the last, or at once
where it holds no slot bytes (R53, R169). -/
def State.releaseOwner (s : State) (owner blocks : Nat) : State :=
  let recs := s.col.held.filter fun r => r.owner == owner
  if recs.isEmpty then s.freeBlocks owner blocks
  else
    let msgs := (recs.zipIdx).map fun (x : SlotRec × Nat) => (x.1, if x.2 + 1 = recs.length then blocks else 0)
    let s1 : State := { s with col := { s.col with
      held := s.col.held.filter fun r => r.owner != owner
      releaseQ := s.col.releaseQ ++ msgs } }
    recs.foldl (fun t r => t.put (F.BASIN_RESV_BYTES r.basin) (t.get (F.BASIN_RESV_BYTES r.basin) - r.bytes)) s1

/-- Slot bytes come free in the ledger, or stay reserved until event 5 of R192. -/
def State.freeRec (s : State) (r : SlotRec) : State :=
  if s.ownerTorn r.owner then
    let m := s.ownerComm r.owner
    s.setComm m { s.comm m with torn := r :: (s.comm m).torn }
  else { s with col := { s.col with ledger := s.col.ledger.erase r } }

/-- SLOT_RELEASE_MSG: the ledger processes the oldest release message. -/
def State.slotRelease (s : State) : State :=
  match s.col.releaseQ with
  | [] => s
  | (r, blocks) :: rest =>
    ((({ s with col := { s.col with releaseQ := rest } } : State).freeRec r).freeBlocks r.owner blocks)

/-! ### Contexts and communicators -/

/-- A context beside its entry. -/
def State.ctx (s : State) (c : Nat) : CtxSt := SMap.get (fun _ => {}) s.col.ctxs c

/-- Hold a context. -/
def State.setCtx (s : State) (c : Nat) (v : CtxSt) : State :=
  { s with col := { s.col with ctxs := SMap.set (fun _ => {}) s.col.ctxs c v } }

/-- Change a context. -/
def State.modCtx (s : State) (c : Nat) (f : CtxSt → CtxSt) : State := s.setCtx c (f (s.ctx c))

/-- The valid communicators, by the words listed in their window. -/
def State.commsValid (s : State) : List Nat :=
  (s.bar.filter fun (x : Nat × Word) =>
      decide (0x04000000 ≤ x.1) && decide (x.1 < 0x04040000) && x.1 % 64 == 4 && decide (2 ^ 31 ≤ x.2.toNat)).map
    fun (x : Nat × Word) => (x.1 - 0x04000000) / 64

/-- The communicator of a key. -/
def State.commFind (s : State) (part comm : Nat) : Option Nat :=
  s.commsValid.find? fun m => s.get (F.COMM_W0_PART m) == part && s.get (F.COMM_W0_COMM m) == comm

/-- Whether a communicator is TEARING. -/
def State.tearing (s : State) (m : Nat) : Bool := s.on (F.COMM_W1_STATE m)

/-- Members of a communicator, and the map entry of one. -/
def State.nmemb (s : State) (m : Nat) : Nat := s.get (F.COMM_W1_NMEMB m)
def State.memEntry (s : State) (m i : Nat) : Nat := s.get (F.COMM_W3_MAPBASE m) + i

/-- The context entry of window position `k`, and the communicator of a context. -/
def State.posCtx (s : State) (m k : Nat) : Nat := s.get (F.COMM_W2_CTXBASE m) + k
def State.ctxComm (s : State) (c : Nat) : Nat := s.get (F.CTX_W10_COMMIDX c)

/-- A communicator's positions, as context indices. -/
def State.commCtxs (s : State) (m : Nat) : List Nat := (List.range (s.get (F.COMM_W3_WIN m))).map (s.posCtx m)

/-- The parameters in force of a context, and the template of a communicator. -/
def State.params (s : State) (c : Nat) : Params := (List.range 10).map fun i => (s.word (0x05000000 + 1024 * c + 4 * i)).toNat
def State.template (s : State) (m : Nat) : Params := (List.range 10).map fun i => (s.word (0x04000018 + 64 * m + 4 * i)).toNat

/-- The key of a context: PART, COMM, CSEQ. -/
def State.ctxKey (s : State) (c : Nat) : Nat × Nat × Nat :=
  let m := s.ctxComm c
  (s.get (F.COMM_W0_PART m), s.get (F.COMM_W0_COMM m), s.get (F.CTX_W11_CSEQ c))

/-- A context takes a state; the entry shows DRAINING while its communicator is tearing down (R170). -/
def State.setPhase (s : State) (c ph : Nat) : State :=
  (s.modCtx c fun x => { x with phase := ph }).put (F.CTX_W10_STATE c) (if s.tearing (s.ctxComm c) then 6 else ph)

/-- Add to a context's counter, which saturates (R181): 0 CHUNKS_SENT, 1 MATCHED, 2 DUPLICATES, 3 LATE,
4 MISMATCH, 5 FALLBACKS, 6 NAN_COUNT, 7 PARTIAL_CHUNKS, 8 PAIR_MISMATCH, 9 DELIVERY_SKIPS. -/
def State.ctxCount (s : State) (c i n : Nat) : State := s.addSat (F.CTX_W12_COUNTER c i) n

/-- BASE advances to the smallest CSEQ held or awaited (R171), serially. -/
def State.rebase (s : State) (m : Nat) : State :=
  let base := s.get (F.COMM_W5_BASE m)
  let ds := (s.commCtxs m).map fun c => (s.get (F.CTX_W11_CSEQ c) + 2 ^ 32 - base) % 2 ^ 32
  match ds with
  | [] => s
  | d :: rest => s.put (F.COMM_W5_BASE m) ((base + rest.foldl min d) % 2 ^ 32)

/-! ### Fence and close markers (R52, R175, R176) -/

/-- What stands on the path to a Basin. -/
def State.path (s : State) (b : Nat) : List BasinItem := SMap.get (fun _ => []) s.col.path b

/-- Hold a Basin's path. -/
def State.setPath (s : State) (b : Nat) (l : List BasinItem) : State :=
  { s with col := { s.col with path := SMap.set (fun _ => []) s.col.path b l } }

/-- Put an item on the path to a Basin. -/
def State.pushPath (s : State) (b : Nat) (i : BasinItem) : State := s.setPath b (s.path b ++ [i])

/-- Put a marker on the path to each Basin of a context's mask. -/
def State.markAll (s : State) (c : Nat) (i : BasinItem) : State := (s.params c).basins.foldl (fun t b => t.pushPath b i) s

/-- A member is fenced for a context that is instantiated: once; its marker is placed while the context is OPEN, and
stands behind the close markers, where it skips nothing, afterwards (R175, R441). -/
def State.fenceMember (s : State) (c i : Nat) : State :=
  if (s.ctx c).phase < 2 ∨ (s.ctx c).fenced.contains i then s
  else
    let s1 := s.modCtx c fun x => { x with fenced := i :: x.fenced }
    if (s.ctx c).phase = 2 then s1.markAll c (.fence c i) else s1

/-- The contexts that are OPEN. -/
def State.openCtxs (s : State) : List Nat :=
  (s.col.ctxs.filter fun (x : Nat × CtxSt) => x.2.phase == 2).map fun (x : Nat × CtxSt) => x.1

/-- The contexts that are instantiated: OPEN, NORES, CLOSING or DONE. -/
def State.liveCtxs (s : State) : List Nat :=
  (s.col.ctxs.filter fun (x : Nat × CtxSt) => decide (2 ≤ x.2.phase)).map fun (x : Nat × CtxSt) => x.1

/-- A leaf's fence bit sets: its members are fenced in every context (R175, R441). -/
def State.fenceLeaf (s : State) (leaf : Nat) : State :=
  s.liveCtxs.foldl (fun t c =>
    let m := t.ctxComm c
    ((List.range (t.nmemb m)).filter fun i => t.get (F.MEMB_W0_LEAF (t.memEntry m i)) == leaf).foldl
      (fun u i => u.fenceMember c i) t) s

/-- Members fenced when a context opens. -/
def State.fencedNow (s : State) (m : Nat) : List Nat :=
  (List.range (s.nmemb m)).filter fun i =>
    s.fenced (s.get (F.MEMB_W0_LEAF (s.memEntry m i))) || (s.comm m).fenced.contains i

/-- An OPEN context closes: CLOSING, close markers on every path; `status` where it did not complete. -/
def State.closeCtx (s : State) (c : Nat) (status : Option Nat) : State :=
  if (s.ctx c).phase ≠ 2 then s
  else ((s.setPhase c 4).modCtx c fun x => { x with close := status }).markAll c (.close c)

/-- STATUS codes of R179. -/
def stTimeout : Nat := 0x01
def stCountFault : Nat := 0x03
def stPair : Nat := 0x04
def stAborted : Nat := 0x05
def stHeld : Nat := 0x06
def stNores : Nat := 0x07

/-! ### Instantiation (R171, R223, R259) -/

/-- The histogram base that an instantiation takes: a write of the same core clock comes too late (R223). -/
def State.histBase (s : State) (m ofmt : Nat) : Int :=
  let w := s.startWord (F.HISTB_W0_AUTO m).addr
  if (F.HISTB_W0_AUTO m).ofWord w ≠ 0 then histDefault ofmt
  else toSigned (F.HISTB_W0_HBASE m).width ((F.HISTB_W0_HBASE m).ofWord w)

/-- Words of an entry cleared and the parameters placed. -/
def State.clearEntry (s : State) (c : Nat) (p : Params) : State :=
  let a := 0x05000000 + 1024 * c
  let s1 := ((List.range 136).map (fun i => a + 48 + 4 * i)).foldl (fun t x => t.setWord x 0#32) s
  ((p.clean).zipIdx).foldl (fun t (x : Nat × Nat) => t.setWord (a + 4 * x.2) (BitVec.ofNat 32 x.1)) s1

/-- T_OPEN is stamped: device time SEC [31:0] and NS. -/
def State.stampOpen (s : State) (c : Nat) : State :=
  s.puts [(F.CTX_W22_TIMES c 0, s.time.sec), (F.CTX_W22_TIMES c 1, s.time.ns)]

/-- Where the hyperparameter block lies that the Basins read at instantiation, and its channel (R259). -/
def State.hyperAt (s : State) (part : Nat) (p : Params) : Option (Nat × Nat) :=
  if p.type = 4 then (s.winAddr part (p.hyper * 64)).bind fun a => (s.locate a).map fun l => (a, l.chan) else none

/-- The read of the block goes to its channel, for instance `inst` of context `c`. -/
def State.askHyper (s : State) (c inst : Nat) (at_ : Option (Nat × Nat)) : State :=
  match at_ with
  | some (a, ch) => s.reachChannel ch { src := .hyper c inst, op := .read, addr := a, len := 64 }
  | none => s

/-- Whether the Sluice freezes or has frozen a Basin (R452). -/
def State.basinFrozen (s : State) (b : Nat) : Bool := s.on (F.COMMON_CTRL_FREEZE (0xa00 + b))

/-- A context opens with its reservation. -/
def State.openCtx (s : State) (m c : Nat) (p : Params) (slots : List (Nat × Nat)) (blocks : Nat) : State :=
  let x := s.ctx c
  let at_ := s.hyperAt (s.get (F.COMM_W0_PART m)) p
  let s1 := (s.askHyper c (x.instances + 1) at_).clearEntry c p
  let n : CtxSt := {
    phase := 2, openAt := s.now, h := s.histBase m p.ofmt, slots := slots, blocks := blocks
    hyper := if p.type = 4 then List.replicate 64 0#8 else [], hyperWait := at_.isSome, instances := x.instances + 1 }
  let s2 := ((s1.setCtx c n).setPhase c 2).stampOpen c
  let s3 := s2.puts [(F.CTX_W26_ARRIVAL c, (Config.arrivalPlace c (x.instances + 1)).toNat),
    (F.CTX_W27_SLOT_MAX c, (s.slotNeeds p).foldl (fun k y => max k y.2) 0)]
  (s.fencedNow m).foldl (fun t i => t.fenceMember c i) (s3.countCol Ev.COL_OPEN 1)

/-- A context opens without a reservation: NORES. -/
def State.openNores (s : State) (c : Nat) (p : Params) : State :=
  let x := s.ctx c
  let n : CtxSt := { phase := 3, openAt := s.now, instances := x.instances + 1 }
  ((((s.clearEntry c p).setCtx c n).setPhase c 3).stampOpen c).countCol Ev.COL_NORES 1

/-- What a context at a position must reserve beyond what its position holds. -/
def State.ctxNeeds (s : State) (m : Nat) (p : Params) : List (Nat × Nat) × Nat :=
  let need := s.slotNeeds p
  let blocks := p.blockNeeds (s.nmemb m)
  if s.on (F.COMM_W1_RESV m) then (needBeyond need (s.comm m).posSlots, blocks - (s.comm m).posBlocks) else (need, blocks)

/-- Open a position with parameters; none where it cannot reserve. -/
def State.tryOpen (s : State) (m c : Nat) (p : Params) : Option State :=
  let need := s.ctxNeeds m p
  (s.reserveSlots c need.1 need.2).map fun t => t.openCtx m c p need.1 need.2

/-- The first chunk for an awaited CSEQ instantiates from TEMPLATE (R171); as NORES where it cannot reserve,
or where the mask names a frozen Basin (R452). -/
def State.instantiate (s : State) (m c : Nat) : State :=
  let p := s.template m
  if p.basins.any s.basinFrozen then s.openNores c p
  else
    match s.tryOpen m c p with
    | some t => t
    | none => s.openNores c p

/-! ### Completion (R178 to R180) -/

/-- Bits of SKIP or MISSING: words at 32 or 64 of the entry. -/
def State.ctxBit (s : State) (c base i : Nat) : State :=
  s.orBits (wordRef (0x05000000 + 1024 * c + 4 * (base + i / 32))) (2 ^ (i % 32))

/-- The counter words of an entry. -/
def State.ctxCounter (s : State) (c i : Nat) : Nat := s.get (F.CTX_W12_COUNTER c i)

/-- A 1,024-bit bitmap as the record spells it: the first bit is member 0. -/
def State.bitmapBytes (s : State) (c base : Nat) : List Byte :=
  (List.range 128).map fun j =>
    let w := (s.word (0x05000000 + 1024 * c + 4 * (base + j / 4))).toNat
    BitVec.ofNat 8 ((List.range 8).foldl (fun n b => n * 2 + nbit w (j % 4 * 8 + b)) 0)

/-- Bits set in SKIP. -/
def State.skipCount (s : State) (c : Nat) : Nat :=
  (List.range 32).foldl (fun n w => n + popcount 32 (s.word (0x05000000 + 1024 * c + 4 * (32 + w))).toNat) 0

/-- The STATUS of a context as it goes to DONE (R179). -/
def State.statusOf (s : State) (c : Nat) : Nat :=
  let x := s.ctx c
  if x.phase = 3 then stNores
  else if s.ctxCounter c 1 ≠ min x.accd 0xffffffff then stCountFault
  else if s.ctxCounter c 8 ≠ 0 then stPair
  else if x.close = some stAborted then stAborted
  else if x.close = some stTimeout then stTimeout
  else if x.held then stHeld else 0

/-- RFLAGS of R180, PARTIAL in bit 15. -/
def State.rflagsOf (s : State) (c status : Nat) : Nat :=
  let x := s.ctx c
  (if s.ctxCounter c 7 ≠ 0 ∨ s.skipCount c ≠ 0 then 2 ^ 15 else 0) + (if status ≠ 0 then 2 ^ 14 else 0)
  + (if x.nan then 2 ^ 13 else 0) + (if x.sat then 2 ^ 12 else 0) + (if s.ctxCounter c 9 ≠ 0 then 2 ^ 11 else 0)
  + (if (s.params c).hist then 2 ^ 10 else 0)

/-- The completion record's payload (R180). -/
def State.recordBytes (s : State) (c status flags : Nat) : List Byte :=
  let key := s.ctxKey c
  let n := s.ctxCounter c
  let body := beBytes 1 1 ++ beBytes 1 status ++ beBytes 2 flags ++ beBytes 2 key.1 ++ beBytes 2 key.2.1 ++ beBytes 4 key.2.2
    ++ beBytes 4 (s.params c).nchunk ++ beBytes 4 (n 0) ++ beBytes 2 (s.nmemb (s.ctxComm c)) ++ beBytes 2 (s.skipCount c)
    ++ beBytes 4 (n 7) ++ beBytes 4 (n 2) ++ beBytes 4 (n 3) ++ beBytes 4 (n 4) ++ beBytes 4 (n 6) ++ beBytes 4 (n 9)
    ++ beBytes 4 (n 8) ++ beBytes 4 (n 5) ++ beBytes 4 s.time.sec ++ beBytes 4 s.time.ns
    ++ s.bitmapBytes c 32 ++ s.bitmapBytes c 64
  if (s.params c).hist then body ++ (List.range 52).flatMap (fun i => beBytes 4 (s.get (F.CTX_W96_HIST c i))) else body

/-- The difference of the matcher's count and the Basins', which a COUNT_FAULT logs (R51). -/
def State.countGap (s : State) (c : Nat) : Nat :=
  let m := s.ctxCounter c 1
  let a := min (s.ctx c).accd 0xffffffff
  (m - a) + (a - m)

/-- Events and interrupts that a status brings (R193, R196, R54). -/
def State.statusEvents (s : State) (c status flags : Nat) : State :=
  let s2 := if nbit flags 15 = 1 then s.countCol Ev.COL_PARTIAL 1 else s
  if status = stTimeout then s2.countCol Ev.COL_TIMEOUT 1
  else if status = stAborted then (s2.countCol Ev.COL_ABORT 1).raise F.COLCFG_ISTAT_ABORT
  else if status = stCountFault then s2.bookWith 6 c none (s.countGap c) else s2

/-- Stage a packet for the result writer. -/
def State.stageOut (s : State) (o : ColOut) : State := { s with col := { s.col with outQ := s.col.outQ ++ [o] } }

/-- A context goes to DONE: T_DONE stamped, status and counters frozen into the record, which is passed to
the result writer (R178). -/
def State.finishCtx (s : State) (c : Nat) : State :=
  let status := s.statusOf c
  let flags := s.rflagsOf c status
  let rec_ := s.recordBytes c status flags
  let s1 := s.puts [(F.CTX_W28_STATUS c, status), (F.CTX_W28_RFLAGS c, flags),
    (F.CTX_W22_TIMES c 2, s.time.sec), (F.CTX_W22_TIMES c 3, s.time.ns)]
  let s2 := (s1.modCtx c fun x => { x with doneAt := s.now }).setPhase c 5
  (s2.stageOut ⟨c, 0x9, 0xffffffff, { bytes := rec_, partial_ := nbit flags 15 == 1 }, false⟩).statusEvents c status flags

/-! ### Matching (R172) -/

/-- A drop at the matcher: counted, at the ingress port too, and its cells and credit released (R84). -/
def State.colDrop (s : State) (i ev : Nat) : State :=
  let p := ((s.pkt? i).bind Pkt.inPort).getD 0
  (s.countBoth 0x900 4 p ev 1).releasePkt i

/-- The bytes of a FALLBACK packet (R74, R182): `win` says WINDOW, else NORES. -/
def State.fallbackBytes (s : State) (m : Nat) (win : Bool) (b : List Byte) : List Byte :=
  let head := dfpHeader 5 5 s.activeBank 0 (s.get (F.COMM_W1_FCLASS m)) (s.get (F.COMM_W4_FALLBACK m)) (pSrc b) (pLen b) (pFlow b) (pTag b)
  let flags := if win then 16 else 32
  head ++ slice b 16 14 ++ [BitVec.ofNat 8 (cFmt b * 16 + 0xa), BitVec.ofNat 8 flags] ++ b.drop 32

/-- The chunk becomes a FALLBACK packet, still charged to its arrival port, and goes along its route; without an own
spine number it is freed where it is formed (R62). -/
def State.fallback (s : State) (m i : Nat) (win : Bool) : State :=
  match s.pkt? i with
  | none => s
  | some k =>
    if ¬ s.on F.FWDID_SELF_VALID then s.releasePkt i else
    let b := s.fallbackBytes m win k.bytes
    let s1 := s.setPkt i (some { k with bytes := b, bank := s.activeBank })
    let r := s1.route none s1.activeBank b
    match r.1 with
    | .drop ev => (r.2.countFwd ev 1).releasePkt i
    | route => r.2.dispatch i route

/-- Whether SUB belongs to a context type (R165). -/
def subOk (type sub : Nat) : Bool :=
  match type with
  | 0 => sub == 0x0
  | 1 => sub == 0x2
  | 2 => sub == 0x1
  | 3 => sub == 0x1 || sub == 0x2
  | _ => sub == 0x0

/-- Check 8: whether a chunk fits its context. -/
def State.chunkFits (s : State) (c : Nat) (b : List Byte) : Bool :=
  let p := s.params c
  subOk p.type (cSub b) && decide (cIdx b < p.nchunk)
  && (cSub b != 0x0 || (cFmt b == p.fmt && pLen b == p.lenOf (cIdx b)))
  && (cSub b == 0x2 || decide (cContrib b < s.nmemb (s.ctxComm c)))

/-- The key of a chunk's arrival bit. -/
def arrKey (b : List Byte) : Nat := cIdx b * 2048 + (if cSub b = 0x2 then 1024 else cContrib b)

/-- Whether an arrival bit is set. -/
def CtxSt.arrived (x : CtxSt) (k : Nat) : Bool := SMap.get (fun _ => false) x.arr k

/-- Check 12: a chunk is accepted and goes to the Basin of its index, in a pair to both. -/
def State.accept (s : State) (c i : Nat) (b : List Byte) : State :=
  let p := s.params c
  let s1 := (s.modCtx c fun x => { x with arr := SMap.set (fun _ => false) x.arr (arrKey b) true }).ctxCount c 1 1
  let s2 := s1.countCol Ev.COL_ACCEPT 1
  let idx := cIdx b
  let s3 := if p.paired then (s2.addRef i).pushPath (p.basinOf idx 1) (.chunk i c idx 1) else s2
  (s3.addRef i).pushPath (if cSub b = 0x1 then p.basinOf 0 0 else p.basinOf idx 0) (.chunk i c idx 0)

/-- Checks 8 to 12 on a chunk of a context. -/
def State.matchCtx (s : State) (c i : Nat) (b : List Byte) : State :=
  let x := s.ctx c
  if !s.chunkFits c b then (s.ctxCount c 4 1).colDrop i Ev.COL_MISMATCH
  else if cSub b ≠ 0x2 ∧ x.fenced.contains (cContrib b) then s.colDrop i Ev.COL_FENCED
  else if x.arrived (arrKey b) then (s.ctxCount c 2 1).colDrop i Ev.COL_DUP
  else if x.phase ≠ 2 then (s.ctxCount c 3 1).colDrop i Ev.COL_LATE
  else s.accept c i b

/-- Checks 4 to 12 on a chunk of an ACTIVE communicator. -/
def State.matchComm (s : State) (m i : Nat) (b : List Byte) : State :=
  let win := s.get (F.COMM_W3_WIN m)
  let d := (cSeq b + 2 ^ 32 - s.get (F.COMM_W5_BASE m)) % 2 ^ 32
  let c := s.posCtx m (cSeq b % win)
  let held := s.get (F.CTX_W11_CSEQ c)
  let ph := (s.ctx c).phase
  if 2 ^ 31 ≤ d then s.colDrop i Ev.COL_LATE
  else if held ≠ cSeq b ∧ d < win then s.colDrop i Ev.COL_LATE
  else if ph = 5 ∧ held = cSeq b ∧ ¬ (s.ctx c).arrived (arrKey b) then (s.ctxCount c 3 1).colDrop i Ev.COL_LATE
  else if win ≤ d then (s.fallback m i true).countCol Ev.COL_FB_WINDOW 1
  else
    let s1 := if ph = 1 then s.instantiate m c else s
    if (s1.ctx c).phase = 3 then ((s1.ctxCount c 5 1).fallback m i false).countCol Ev.COL_FB_NORES 1
    else s1.matchCtx c i b

/-- Bytes of a Basin's chunk staging (R228). -/
def State.stagingBytes (s : State) (b : Nat) : Nat := 1048576 + (96 - s.get (F.BASIN_SLOT_SLOT_64K b)) * 65536

/-- Bytes that chunk staging holds: deliveries waiting to be accumulated, and result bytes waiting for hand-off. -/
def State.stagedOn (s : State) (b : Nat) : Nat :=
  ((s.path b).map fun i => match i with
    | .chunk p _ _ _ => ((s.pkt? p).map fun k => (pPayload k.bytes).length).getD 0
    | _ => 0).foldl (· + ·) 0
  + (s.col.outQ.map fun o => if o.body.basin = b ∧ o.sub ≠ 0x9 then o.body.bytes.length else 0).foldl (· + ·) 0

/-- Whether a Basin holds more than its chunk staging: what would make it so waits for credit (R27). -/
def State.stagingOver (s : State) (b : Nat) : Bool := decide (s.stagingBytes b < s.stagedOn b)

/-- The matcher takes the oldest chunk (R172). -/
def State.matchChunk (s : State) : State :=
  match s.cis.chunkQ with
  | [] => s
  | i :: rest =>
    let s1 : State := { s with cis := { s.cis with chunkQ := rest } }
    match s1.pkt? i with
    | none => s1
    | some k =>
      let b := k.bytes
      if ¬ s1.on F.COLCFG_CTRL_EN then s1.colDrop i Ev.COL_DISABLED
      else
        match s1.commFind (cPart b) (cComm b) with
        | none => s1.colDrop i Ev.COL_NOCOMM
        | some m => if s1.tearing m then s1.colDrop i Ev.COL_TORN else s1.matchComm m i b

/-- COL_MATCH, which waits while the bridge has no credit for the Basin that the chunk goes to: its chunk staging has no
room, or its clock changes (R268). -/
def State.colMatch (s : State) : State :=
  let t := s.matchChunk
  if t.col.path.any fun (x : Nat × List BasinItem) => x.2 != s.path x.1 && (t.stagingOver x.1 || s.clkHeld x.1) then s else t

end Sys2Proof.Machine
end

