-- ==== Sys2Proof/Machine/Reduction.lean ====
section
/-! DEFINITION. What the Basins do for the collective engine: accumulation, markers, finishing and pairs, the
result writer, deadlines and completion (R173 to R187). -/

namespace Sys2Proof.Machine

/-! ### Reports to the health service (R450) -/

/-- What is recorded against a Basin. -/
def State.basinHealth (s : State) (b : Nat) : BasinHealth := SMap.get (fun _ => {}) s.hlth.basins b

/-- Record against a Basin. -/
def State.setBasinHealth (s : State) (b : Nat) (v : BasinHealth) : State :=
  { s with hlth := { s.hlth with basins := SMap.set (fun _ => {}) s.hlth.basins b v } }

/-- Mismatches of the last 24 h. -/
def State.recentPairs (s : State) (b : Nat) : List (Nat × Nat) :=
  (s.basinHealth b).pairs.filter fun (x : Nat × Nat) => decide (s.now < x.1 + secClocks 86400)

/-- A pair mismatch names a Basin and its partner: two within 24 h with two partners mark it SDC_SUSPECT. -/
def State.reportPair (s : State) (b partner : Nat) : State :=
  let l := (s.now, partner) :: s.recentPairs b
  let sus := decide (2 ≤ (l.map Prod.snd).eraseDups.length)
  let h := s.basinHealth b
  let s1 := s.setBasinHealth b { h with pairs := l, suspect := h.suspect || sus }
  if sus ∧ ¬ h.suspect then
    let old := (s.word 0xe0611c).toNat
    (s1.istat F.HLTH_ISTAT_ISTAT 6).logState 0xe0611c old (old ||| 64)
  else s1

/-- An ECC fault of a Basin. -/
def State.reportEcc (s : State) (b : Nat) : State :=
  let h := s.basinHealth b
  (s.setBasinHealth b { h with ecc := h.ecc + 1 }).istat F.HLTH_ISTAT_ISTAT 7

/-! ### Chunk indices on a Basin (R174) -/

/-- A chunk index of a context, by CIDX and half. -/
def CtxSt.index (x : CtxSt) (idx half : Nat) : IdxSt := SMap.get (fun _ => {}) x.idx (idx * 2 + half)

/-- Hold a chunk index. -/
def State.setIndex (s : State) (c idx half : Nat) (y : IdxSt) : State :=
  s.modCtx c fun x => { x with idx := SMap.set (fun _ => {}) x.idx (idx * 2 + half) y }

/-- Members whose fence marker a Basin has taken. -/
def CtxSt.skipOn (x : CtxSt) (b : Nat) : List Nat := SMap.get (fun _ => []) x.skipAt b

/-- Indices to complete: twice as many in a pair. -/
def Params.total (p : Params) : Nat := if p.paired then p.nchunk * 2 else p.nchunk

/-- Whether every index of a context is complete (R174, R184, R185). -/
def State.allComplete (s : State) (c : Nat) : Bool :=
  let x := s.ctx c
  let p := s.params c
  if p.type = 3 then x.complete == 1 && decide (1 ≤ x.recordsSent) else x.complete == p.total

/-- An OPEN context whose indices are all complete goes to CLOSING. -/
def State.closeIfComplete (s : State) (c : Nat) : State :=
  if (s.ctx c).phase = 2 ∧ s.allComplete c then s.closeCtx c none else s

/-- Members skipped for an index: SKIP bits, PARTIAL_CHUNKS once for each of `n` indices of half 0 (R175). -/
def State.noteSkips (s : State) (c half n : Nat) (skips : List Nat) : State :=
  if skips.isEmpty ∨ n = 0 then s
  else
    let s1 := skips.foldl (fun t i => t.ctxBit c 32 i) s
    if half = 0 then s1.ctxCount c 7 n else s1

/-- Finish items of a Basin. -/
def State.finItems (s : State) (b : Nat) : List (Nat × Nat × Nat) := SMap.get (fun _ => []) s.col.finQ b

/-- Hold them. -/
def State.setFinItems (s : State) (b : Nat) (l : List (Nat × Nat × Nat)) : State :=
  { s with col := { s.col with finQ := SMap.set (fun _ => []) s.col.finQ b l } }

/-- Indices complete with no contribution: nothing to round; an UPDATE holds them (R174, R187). -/
def State.emptyIndices (s : State) (c n half : Nat) : State :=
  s.modCtx c fun x => { x with complete := x.complete + n, held := x.held || ((s.params c).type == 4 && decide (0 < n) && half == 0) }

/-- The spill image of a chunk index: its logical address (R168). -/
def State.spillAddr (s : State) (c idx : Nat) : Option Nat :=
  let p := s.params c
  s.winAddr (s.ctxKey c).1 (p.spillPage * 4096 + idx * (p.elems * p.spillSize))

/-- The spill image of a complete index is read through the spill path, piece by piece of the pages (R174, R282). -/
def State.readImage (s : State) (c b idx : Nat) : State :=
  let p := s.params c
  let y := (s.ctx c).index idx 0
  match s.spillAddr c idx with
  | none => s.setIndex c idx 0 { y with reading := true, bad := true }
  | some a =>
    let ps := pieces a (p.elemsOf idx * p.spillSize)
    (ps.zipIdx).foldl (fun t (q : (Nat × Nat) × Nat) =>
      (t.memIssue b 25 { src := .image b c idx q.2, op := .read, addr := a + q.1.1, len := q.1.2 }).getD t)
      (s.setIndex c idx 0 { y with reading := true, out := y.out + ps.length })

/-- A finish item joins its Basin's; a spilled index whose requests are answered has its image read. -/
def State.pushFinish (s : State) (c b idx half : Nat) : State :=
  let t := s.setFinItems b (s.finItems b ++ [(c, idx, half)])
  if (s.params c).spill ∧ ((s.ctx c).index idx 0).out = 0 then t.readImage c b idx else t

/-- Complete an index if its count and its skips make up NMEMB: a finish item where there is a value. -/
def State.checkIndex (s : State) (c b idx half : Nat) : State :=
  let x := s.ctx c
  let y := x.index idx half
  let skips := (x.skipOn b).filter fun i => !y.arrived.contains i
  if y.done ∨ y.arrived.length + skips.length < s.nmemb (s.ctxComm c) then s
  else
    let s1 := (s.setIndex c idx half { y with done := true }).noteSkips c half 1 skips
    if y.arrived.isEmpty then s1.emptyIndices c 1 half
    else
      let s2 := s1.modCtx c fun z => { z with complete := z.complete + 1 }
      if (s.params c).reduces then s2.pushFinish c b idx half else s2

/-- Touched indices of a context on a Basin, one half: CIDX and state. -/
def State.touched (s : State) (c b half : Nat) : List (Nat × IdxSt) :=
  let p := s.params c
  ((s.ctx c).idx.filter fun (e : Nat × IdxSt) => e.1 % 2 == half && p.basinOf (e.1 / 2) half == b).map
    fun (e : Nat × IdxSt) => (e.1 / 2, e.2)

/-- Indices of a context that a Basin holds in one half; none of a BROADCAST, in which a fence therefore skips nothing
(the model's choice, log entry 150). -/
def Params.held (p : Params) (b half : Nat) : Nat :=
  let n := p.basins.length
  let j := p.basins.findIdx (· == b)
  if p.type = 1 then 0 else p.share ((j + n - half) % n)

/-- Indices that no contribution has touched. -/
def State.untouched (s : State) (c b half : Nat) : Nat := (s.params c).held b half - (s.touched c b half).length

/-- The halves that a context uses. -/
def Params.halves (p : Params) : List Nat := if p.paired then [0, 1] else [0]

/-! ### BSN_ACCUMULATE -/

/-- A contribution goes to the spill image: the first of an index as a store, later ones as memory-side adds,
each request within a page. -/
def State.spillContrib (s : State) (c b idx : Nat) (bytes : List Byte) : State :=
  let p := s.params c
  let y := (s.ctx c).index idx 0
  let n := p.elemsOf idx
  let data := (List.range n).flatMap fun i => leBytes p.spillSize (widen p.fmt (elemVal p.fmt bytes i))
  match s.spillAddr c idx with
  | none => s
  | some a =>
    let op : MemOp := if y.spilled then .add p.spillFmt else .write
    let ps := pieces a data.length
    let s1 := s.setIndex c idx 0 { y with spilled := true, out := y.out + ps.length }
    ps.foldl (fun t (q : Nat × Nat) =>
      (t.memIssue b 25 { src := .spill b c idx, op := op, addr := a + q.1, len := q.2, data := (data.drop q.1).take q.2 }).getD t) s1

/-- Fold a contribution into the index's images, or send it to the spill image. -/
def State.foldContrib (s : State) (c b idx half : Nat) (k : Pkt) : State :=
  let p := s.params c
  let n := p.elemsOf idx
  let pay := pPayload k.bytes
  if p.spill then (s.spillContrib c b idx pay)
  else
    let y := (s.ctx c).index idx half
    let r := accumulate p.op p.fmt p.exact y.images n pay
    (s.setIndex c idx half { y with images := r.1 }).countBasin b Ev.NUM_NAN_IN r.2

/-- NaN elements of a contribution that is spilled are counted too (R220). -/
def State.countNanIn (s : State) (c b idx : Nat) (k : Pkt) : State :=
  let p := s.params c
  if p.spill then
    s.countBasin b Ev.NUM_NAN_IN ((List.range (p.elemsOf idx)).filter fun i => elemVal p.fmt (pPayload k.bytes) i == .nan).length
  else s

/-- A delivered chunk is accounted at its Basin. -/
def State.accumulateChunk (s : State) (b i c idx half : Nat) : State :=
  match s.pkt? i with
  | none => s
  | some k =>
    let sub := cSub k.bytes
    let s1 := if half = 0 then s.modCtx c fun x => { x with accd := x.accd + 1 } else s
    let s2 : State :=
      if sub = 0x2 then
        let s3 := s1.stageOut ⟨c, 0xb, idx, { bytes := pPayload k.bytes, basin := b }, false⟩
        if (s.params c).type = 1 then s3.modCtx c fun x => { x with complete := x.complete + 1 } else s3
      else
        let y := (s1.ctx c).index idx half
        let s3 := if sub = 0x0 ∧ !y.done then (s1.foldContrib c b idx half k).countNanIn c b idx k else s1
        let z := (s3.ctx c).index idx half
        (s3.setIndex c idx half { z with arrived := cContrib k.bytes :: z.arrived }).checkIndex c b idx half
    ((s2.unref i).countBasin b Ev.BSN_ITEM_ACC 1).closeIfComplete c

/-- Whether a Basin takes no item at all: it is FROZEN.  DEDUCED: while it drains it still finishes what was accepted
before the close markers of its freeze (R176), and the contexts that name it being closed, nothing new reaches it
(R452). -/
def State.basinHalted (s : State) (b : Nat) : Bool := s.on (F.COMMON_STATUS_FROZEN (0xa00 + b))

/-- The lowest idle core. -/
def State.idleCore (s : State) (b : Nat) : Option Nat :=
  (List.range 24).find? fun k => (SMap.get (fun _ => ({} : CoreSt)) s.bsn.cores (b * 24 + k)).inv.isNone

/-- Whether a Basin's dispatcher can give an item to a core: it is not FROZEN, its clock is not changing (R268), its
temperature does not pause it (R464), and a core is idle (R229). -/
def State.takesItems (s : State) (b : Nat) : Bool :=
  !s.basinHalted b && !s.clkHeld b && !SMap.get (fun _ => false) s.bsn.paused b && (s.idleCore b).isSome

/-- Whether an accumulate item is ready on a Basin. -/
def State.chunkReady (s : State) (b : Nat) : Bool :=
  match s.path b with
  | .chunk _ _ _ _ :: _ => true
  | _ => false

/-- BSN_ACCUMULATE: the chunk at the head of the path to a Basin. -/
def State.bsnAccumulate (s : State) (b : Nat) : State :=
  match s.path b with
  | .chunk i c idx half :: rest => if s.takesItems b then (s.setPath b rest).accumulateChunk b i c idx half else s
  | _ => s

/-! ### MARKER_AT_BASIN (R52, R176) -/

/-- A fence marker: every index not accumulated before it counts the member as skipped. -/
def State.fenceAt (s : State) (b c i : Nat) : State :=
  let x := s.ctx c
  let p := s.params c
  let skips := if (x.skipOn b).contains i then x.skipOn b else i :: x.skipOn b
  let s1 := s.modCtx c fun z => { z with skipAt := SMap.set (fun _ => []) z.skipAt b skips }
  let s2 := p.halves.foldl (fun t half =>
    let u := t.untouched c b half
    let t1 := (t.touched c b half).foldl (fun v (e : Nat × IdxSt) => v.checkIndex c b e.1 half) t
    if skips.length = s.nmemb (s.ctxComm c) ∧ ¬ (x.skipOn b).contains i then
      (t1.noteSkips c half u skips).emptyIndices c u half
    else t1) s1
  s2.closeIfComplete c

/-- One incomplete index at the close marker: discarded, its members missing or skipped. -/
def State.discardIndex (s : State) (c b half idx : Nat) (y : IdxSt) : State :=
  if y.done then s
  else
    let x := s.ctx c
    let skips := (x.skipOn b).filter fun i => !y.arrived.contains i
    let missing := (List.range (s.nmemb (s.ctxComm c))).filter fun i => !y.arrived.contains i && !skips.contains i
    let s1 := (s.setIndex c idx half { y with images := [], done := true }).noteSkips c half 1 skips
    missing.foldl (fun t i => t.ctxBit c 64 i) s1

/-- A close marker: every index still incomplete is discarded. -/
def State.closeAt (s : State) (b c : Nat) : State :=
  let p := s.params c
  let nm := s.nmemb (s.ctxComm c)
  let skips := (s.ctx c).skipOn b
  let s1 := p.halves.foldl (fun t half =>
    let u := t.untouched c b half
    let t1 := (t.touched c b half).foldl (fun v (e : Nat × IdxSt) => v.discardIndex c b half e.1 e.2) t
    if u = 0 ∨ skips.length = nm then t1
    else
      ((List.range nm).filter fun i => !skips.contains i).foldl (fun v i => v.ctxBit c 64 i) (t1.noteSkips c half u skips)) s
  s1.modCtx c fun x => { x with closedAt := b :: x.closedAt }

/-- MARKER_AT_BASIN: the marker at the head of the path to a Basin, which the bridge holds while the Basin's clock changes
(R268). -/
def State.markerAt (s : State) (b : Nat) : State :=
  if s.clkHeld b then s else
  match s.path b with
  | .fence c i :: rest => (s.setPath b rest).fenceAt b c i
  | .close c :: rest => (s.setPath b rest).closeAt b c
  | _ => s

/-! ### BSN_FINISH (R174, R183, R187) -/

/-- W_c: the weights of the members that arrived. -/
def State.weightOf (s : State) (c : Nat) (arrived : List Nat) : Nat :=
  let m := s.ctxComm c
  arrived.foldl (fun n i => n + s.get (F.MEMB_W0_WEIGHT (s.memEntry m i))) 0

/-- The images of a finished index: those held, or the spill image as its pieces came; and whether any of it was
uncorrectable. -/
def State.finalImages (s : State) (c idx half : Nat) : List Image × Bool :=
  let p := s.params c
  let y := (s.ctx c).index idx half
  if p.spill then
    let d := ((List.range 10).map fun i => SMap.get (fun _ => []) y.got i).flatten
    ((List.range (p.elemsOf idx)).map fun i => .fast (leNat (slice d (i * p.spillSize) p.spillSize)), y.bad)
  else (y.images, false)

/-- Count the stochastic roundings of a conversion on a Basin's page (R226). -/
def State.countSr (s : State) (b : Nat) (l : List (Rounded × Nat)) : State :=
  (s.countBasin b Ev.NUM_SR_TOTAL (l.filter fun x => x.1.srTotal).length).countBasin b Ev.NUM_SR_UP (l.filter fun x => x.1.srUp).length

/-- The second of a pair arrives: equal results are handed once, different ones are not (R183). -/
def State.comparePair (s : State) (c idx : Nat) (a z : Staged) (first : Staged) : State :=
  let p := s.params c
  if a.bytes = z.bytes ∧ a.elems.map (fun x => (x.1.nan, x.1.sat)) = z.elems.map (fun x => (x.1.nan, x.1.sat)) then
    s.stageOut ⟨c, 0x8, idx, first, false⟩
  else
    let b0 := p.basinOf idx 0
    let b1 := p.basinOf idx 1
    let s1 := (s.ctxCount c 8 1).countCol Ev.COL_SDC 1
    let s2 := (s1.logReport Ev.COL_SDC 0x900 c idx (b0 * 65536 + b1)).raise F.COLCFG_ISTAT_SDC
    (s2.reportPair b0 b1).reportPair b1 b0

/-- A finished result: handed, or held until its pair's other half arrives. -/
def State.handFinished (s : State) (c idx : Nat) (r : Staged) : State :=
  if (s.params c).paired then
    match SMap.get (fun _ => none) (s.ctx c).pairs idx with
    | none => s.modCtx c fun x => { x with pairs := SMap.set (fun _ => none) x.pairs idx (some r) }
    | some f =>
      (s.modCtx c fun x => { x with pairs := SMap.set (fun _ => none) x.pairs idx none }).comparePair c idx f r f
  else s.stageOut ⟨c, 0x8, idx, r, false⟩

/-- Put a kernel item behind those of its Basin. -/
def State.pushKernel (s : State) (b : Nat) (k : KernelItem) : State :=
  { s with col := { s.col with kernQ := SMap.set (fun _ => []) s.col.kernQ b (SMap.get (fun _ => []) s.col.kernQ b ++ [k]) } }

/-- The values of a finished index go to their kernel, finished into FP32 (R218), with the index's images; or are held
for a skip; or are rounded once and handed. -/
def State.finishValues (s : State) (b c idx : Nat) (vals : List Num) (imgs : List Byte) (skip : Bool) : State :=
  let p := s.params c
  let key := s.ctxKey c
  let draw := srDraw p.srseed key.1 key.2.1 key.2.2 idx
  if p.type = 4 then
    if skip ∧ !p.applyPartial then s.modCtx c fun x => { x with held := true }
    else
      let r := encodeVals 0x0 vals p.sr draw p.ovf
      (s.countSr b r.2).pushKernel b { ctx := c, cidx := idx, vals := r.2.map fun x => x.1.code, partial_ := skip, imgs := imgs }
  else
    let r := encodeVals p.ofmt vals p.sr draw p.ovf
    (s.countSr b r.2).handFinished c idx { bytes := r.1, elems := r.2, basin := b, partial_ := skip }

/-- Whether a finish item may be taken: the index's spill requests are answered, and its image has come. -/
def State.finReady (s : State) (i : Nat × Nat × Nat) : Bool :=
  let y := (s.ctx i.1).index i.2.1 i.2.2
  y.out == 0 && (!(s.params i.1).spill || y.reading)

/-- The oldest finish item of a Basin that may be taken. -/
def State.nextFin (s : State) (b : Nat) : Option (Nat × Nat × Nat) := (s.finItems b).find? s.finReady

/-- A finish item is done; `bad` says that reading its spill image found an uncorrectable codeword, which closes the
context as ABORTED (R282). -/
def State.finishItem (s : State) (b c idx half : Nat) (bad : Bool) : State :=
  let y := (s.ctx c).index idx half
  let p := s.params c
  let im := s.finalImages c idx half
  let s1 := (s.setFinItems b ((s.finItems b).erase (c, idx, half))).countBasin b Ev.BSN_ITEM_FIN 1
  if p.spill ∧ (bad ∨ im.2) then
    let s2 := (s1.reportEcc b).modCtx c fun x => { x with close := if x.close = none then some stAborted else x.close }
    s2.closeCtx c (some stAborted)
  else
    let skip : Bool := !((s.ctx c).skipOn b).all fun i => y.arrived.contains i
    let w := s.weightOf c y.arrived
    let s2 := s1.setIndex c idx half { y with images := [], got := [], done := true }
    s2.finishValues b c idx (im.1.map (imageVal p.op p.fmt w))
      (if p.spill then [] else im.1.flatMap (imageBytes p.fmt p.exact)) skip

/-- BSN_FINISH: the oldest finish item of a Basin that is ready, once no accumulate item is (R229) and chunk staging has
room for its result. -/
def State.bsnFinish (s : State) (b : Nat) (bad : Bool) : State :=
  match s.nextFin b with
  | none => s
  | some (c, idx, half) =>
    if !s.takesItems b || s.chunkReady b then s
    else let t := s.finishItem b c idx half bad; if t.stagingOver b then s else t

/-! ### RESULT_HANDOFF (R130, R220 to R222) -/

/-- NaN elements of a result (R220): a whole NaN block counts its 16 elements, and the padding places of a
short last block are no result elements (R210). -/
def nanCount (l : List (Rounded × Nat)) : Nat := (l.filter fun x => x.1.nan).length

/-- The histogram counts of handed elements. -/
def State.countHist (s : State) (c ofmt : Nat) (h : Int) (l : List (Rounded × Nat)) : State :=
  let s1 := (l.filter fun x => !x.1.nan).foldl (fun t x => t.addSat (F.CTX_W96_HIST c (histBin ofmt h x.1 x.2)) 1) s
  s1.addSat (F.CTX_W96_HIST c 51) (nanCount l)

/-- The accounts of a handed RESULT's elements (R220 to R222, R226). -/
def State.accountElems (s : State) (c : Nat) (r : Staged) : State :=
  let l := r.elems
  let nan := nanCount l
  let sat := (l.filter fun x => x.1.sat).length
  let inf := (l.filter fun x => x.1.inf).length
  let s1 := (s.ctxCount c 6 nan).modCtx c fun x => { x with nan := x.nan || nan != 0, sat := x.sat || sat != 0 }
  let s2 := s1.orBits (wordRef 0x903100) ((if nan ≠ 0 then 1 else 0) + (if sat ≠ 0 then 2 else 0) + (if inf ≠ 0 then 4 else 0))
  let s3 := ((s2.countBasin r.basin Ev.NUM_NAN_OUT nan).countBasin r.basin Ev.NUM_SAT sat).countBasin r.basin Ev.NUM_INF_OUT inf
  s3.countHist c (s.params c).ofmt (s.ctx c).h l

/-- The packet of a staged result (R74, R174, R180). -/
def State.outBytes (s : State) (o : ColOut) : List Byte :=
  let m := s.ctxComm o.ctx
  let key := s.ctxKey o.ctx
  let err : Bool := o.sub == 0x9 && (slice o.body.bytes 1 1) != [0#8]
  let flags := (if o.body.partial_ then 0x80 else 0) + (if err then 0x40 else 0)
  dfpHeader 5 5 s.activeBank 0 (s.get (F.COMM_W1_RCLASS m)) (3 * 2 ^ 18 + s.get (F.COMM_W2_RDESC m)) (s.selfId 0x10)
      o.body.bytes.length 0 0
    ++ chunkHeader key.1 key.2.1 key.2.2 o.cidx 0 0 (if o.sub = 0x8 then (s.params o.ctx).ofmt else 0) o.sub flags
    ++ o.body.bytes

/-- What a hand-off leaves in the context's accounts. -/
def State.handed (s : State) (o : ColOut) : State :=
  if o.sub = 0x9 then s.countCol Ev.COL_COMPLETE 1
  else
    let s1 := (s.ctxCount o.ctx 0 1).countCol Ev.COL_RESULT 1
    if o.sub = 0x8 then s1.accountElems o.ctx o.body
    else (s1.modCtx o.ctx fun x => { x with recordsSent := x.recordsSent + 1 }).closeIfComplete o.ctx

/-- RESULT_HANDOFF: the result writer's oldest packet obtains VC5 pool cells, or waits; so it does while the clock of the
Basin that made it changes (R268). -/
def State.handoff (s : State) : State :=
  match s.col.outQ with
  | [] => s
  | o :: rest =>
    let b := s.outBytes o
    let wait : State := if o.waited then s else
      { s with col := { s.col with outQ := { o with waited := true } :: rest } }.countCis Ev.CIS_VC5_WAIT 1
    if o.sub ≠ 0x9 ∧ s.clkHeld o.body.basin then s
    else if s.get F.CISCFG_POOL_VC5_CELLS < s.chargedSeen .vc5 + cellsOf b.length then wait
    else
      match s.newPkt { bytes := b, acct := .vc5, cells := [], bank := s.activeBank } with
      | none => wait
      | some (i, t) =>
        let t1 : State := { t with col := { t.col with outQ := rest } }
        let t2 : State := { t1 with cis := { t1.cis with mcQ := t1.cis.mcQ ++ [⟨i, s.get (F.COMM_W2_RDESC (s.ctxComm o.ctx)), none⟩] } }
        t2.handed o

/-! ### Deadline, completion, linger (R171, R176, R178) -/

/-- CTX_DEADLINE: a context that is still OPEN or NORES closes at its deadline, which ISTAT.TIMEOUT reports whatever
STATUS it comes to have (R193). -/
def State.ctxDeadline (s : State) (c : Nat) : State :=
  let x := s.ctx c
  if ¬ s.passed x.openAt (usClocks (s.params c).deadline) then s
  else if x.phase = 2 then (s.closeCtx c (some stTimeout)).raise F.COLCFG_ISTAT_TIMEOUT
  else if x.phase = 3 then (s.finishCtx c).raise F.COLCFG_ISTAT_TIMEOUT else s

/-- Whether an invocation of a context runs on some core. -/
def State.ctxRuns (s : State) (c : Nat) : Bool :=
  s.bsn.cores.any fun (x : Nat × CoreSt) => x.2.inv.any fun v => v.ctx == c

/-- Whether a CLOSING context has finished all its work. -/
def State.ctxQuiet (s : State) (c : Nat) : Bool :=
  (s.params c).basins.all (fun b => (s.ctx c).closedAt.contains b)
  && (s.ctx c).idx.all (fun (x : Nat × IdxSt) => x.2.out == 0)
  && s.col.finQ.all (fun (x : Nat × List (Nat × Nat × Nat)) => x.2.all fun i => i.1 != c)
  && s.col.kernQ.all (fun (x : Nat × List KernelItem) => x.2.all fun k => k.ctx != c)
  && !s.ctxRuns c && s.col.outQ.all (fun o => o.ctx != c)

/-- CTX_COMPLETE. -/
def State.ctxComplete (s : State) (c : Nat) : State :=
  if (s.ctx c).phase = 4 ∧ s.ctxQuiet c then s.finishCtx c else s

/-- CTX_LINGER_EXPIRE: the position returns to IDLE with W11 advanced by WIN. -/
def State.lingerExpire (s : State) (c : Nat) : State :=
  let x := s.ctx c
  let m := s.ctxComm c
  if x.phase ≠ 5 ∨ s.tearing m ∨ ¬ s.passed x.doneAt (usClocks (s.get F.COLCFG_LINGER_LINGER_US)) ∨ s.col.outQ.any (fun o => o.ctx == c) then s
  else
    let s1 := s.setCtx c { phase := 1, instances := x.instances }
    let s2 := (s1.setPhase c 1).put (F.CTX_W11_CSEQ c) ((s.get (F.CTX_W11_CSEQ c) + s.get (F.COMM_W3_WIN m)) % 2 ^ 32)
    (s2.releaseOwner c x.blocks).rebase m

/-! ### The ledger's check (R53) -/

/-- Whether the owner of slot bytes exists. -/
def State.ownerLives (s : State) (o : Nat) : Bool :=
  s.ownerTorn o || (if o < 16384 then decide (2 ≤ (s.ctx o).phase) else s.on (F.COMM_W1_VALID (o - 16384)))

/-- A ledger record that nothing holds: released when two checks in a row find it so. -/
def State.checkLedger (s : State) (r : SlotRec) : State :=
  if s.ownerLives r.owner ∨ s.col.held.contains r then s
  else if s.col.suspects.contains r then
    ({ s with col := { s.col with ledger := s.col.ledger.erase r } }).book 7 r.basin none
  else s

/-- Slot bytes that a Basin holds and the ledger shows free: retired from its pool. -/
def State.checkHeld (s : State) (r : SlotRec) : State :=
  if s.col.ledger.contains r then s
  else
    let s1 : State := { s with col := { s.col with
      held := s.col.held.erase r
      retired := SMap.set (fun _ => 0) s.col.retired r.basin (SMap.get (fun _ => 0) s.col.retired r.basin + r.bytes) } }
    (s1.put (F.BASIN_RESV_BYTES r.basin) (s1.get (F.BASIN_RESV_BYTES r.basin) - r.bytes)).book 8 r.basin none

/-- SLOT_LEDGER_CHECK, every 1 ms. -/
def State.ledgerCheck (s : State) : State :=
  if ¬ s.passed s.col.lastCheck (msClocks 1) then s
  else
    let s1 := s.col.ledger.foldl State.checkLedger s
    let s2 := s1.col.held.foldl State.checkHeld s1
    let sus := s2.col.ledger.filter fun r => !s2.ownerLives r.owner && !s2.col.held.contains r
    { s2 with col := { s2.col with suspects := sus, lastCheck := s2.now } }

/-! ### The replicator's skips (R177) and the sweep -/

/-- The context of a packet that the engine sent. -/
def State.ctxOfPkt (s : State) (b : List Byte) : Option Nat :=
  (s.commFind (cPart b) (cComm b)).bind fun m =>
    (s.commCtxs m).find? fun c => s.get (F.CTX_W11_CSEQ c) == cSeq b

/-- MC_REPLICATE: the walk of the oldest packet waiting for the replicator; skips of the engine's packets are
reported to their context. -/
def State.mcReplicate (s : State) : State :=
  match s.cis.mcQ with
  | [] => s
  | m :: rest =>
    let s1 : State := { s with cis := { s.cis with mcQ := rest } }
    let k := s.pkt? m.pkt
    let r := s1.replicate m
    match k with
    | none => r.1
    | some p =>
      if p.acct ≠ .vc5 ∨ r.2.isEmpty then r.1
      else
        let s2 := r.1.countCol Ev.COL_DELIVERY_SKIP r.2.length
        match s2.ctxOfPkt p.bytes with
        | some c => s2.ctxCount c 9 r.2.length
        | none => s2

/-- Packets on the paths to the Basins. -/
def State.pathPkts (s : State) : List Nat :=
  s.col.path.flatMap fun (x : Nat × List BasinItem) => x.2.filterMap fun i =>
    match i with
    | .chunk p _ _ _ => some p
    | _ => none

/-! ### The commands -/

def execColMatch (s : State) : Out := finish s s.colMatch
def execBsnAccumulate (b : BasinIx) (s : State) : Out := finish s (s.bsnAccumulate b)
def execMarkerAtBasin (b : BasinIx) (s : State) : Out := finish s (s.markerAt b)
def execBsnFinish (b : BasinIx) (bad : Bool) (s : State) : Out := finish s (s.bsnFinish b bad)
def execResultHandoff (s : State) : Out := finish s s.handoff
def execCtxDeadline (c : Fin 16384) (s : State) : Out := finish s (s.ctxDeadline c)
def execCtxComplete (c : Fin 16384) (s : State) : Out := finish s (s.ctxComplete c)
def execCtxLingerExpire (c : Fin 16384) (s : State) : Out := finish s (s.lingerExpire c)
def execSlotReleaseMsg (s : State) : Out := finish s s.slotRelease
def execSlotLedgerCheck (s : State) : Out := finish s s.ledgerCheck
def execMcReplicate (s : State) : Out := finish s s.mcReplicate
def execCisternSweep (s : State) : Out := finish s (s.sweep s.pathPkts)

end Sys2Proof.Machine
end

