-- ==== Sys2Proof/Machine/ColCommands.lean ====
section
/-! DEFINITION. The collective engine's command queues, admission and teardown (R188 to R192). -/

namespace Sys2Proof.Machine

/-! ### Where a queue's entries and staging lie (R189, R190, R195) -/

/-- Base of a queue's window. -/
def colqBase (q : Nat) : Nat := 0x04200000 + 0x3000 * q

/-- The parameter block staged in a queue, with its reserved bits read as 0. -/
def State.stagedParams (s : State) (q : Nat) : Params :=
  Params.clean ((List.range 10).map fun i => (s.word (colqBase q + 0x1000 + 4 * i)).toNat)

/-- Communicator field W`i` staged in a queue, `i` from 1 to 5. -/
def State.stagedComm (s : State) (q i : Nat) : Nat := (s.word (colqBase q + 0x1040 + 4 * (i - 1))).toNat

/-- Member map entry `i` staged in a queue. -/
def State.stagedMember (s : State) (q i : Nat) : Nat := (s.word (colqBase q + 0x2000 + 4 * i)).toNat

/-- A command's outcome: its code (0 applied), OUT, and the state after. -/
structure CmdOut where
  code : Nat
  out : Nat
  st : State

/-- A rejected command changes nothing. -/
def CmdOut.no (s : State) (code : Nat) : CmdOut := ⟨code, 0, s⟩

/-! ### Admission (R167, R190) -/

/-- The lowest gap of `n` places below `limit` between used ranges. -/
def firstGap (used : List (Nat × Nat)) (n limit : Nat) : Option Nat :=
  ((0 :: used.map fun u => u.1 + u.2).filter fun a =>
      decide (a + n ≤ limit) && used.all fun u => decide (a + n ≤ u.1) || decide (u.1 + u.2 ≤ a)).foldl
    (fun m a => some (match m with
      | none => a
      | some x => min x a)) none

/-- Ranges of context entries and of member map entries in use. -/
def State.ctxRanges (s : State) : List (Nat × Nat) := s.commsValid.map fun m => (s.get (F.COMM_W2_CTXBASE m), s.get (F.COMM_W3_WIN m))
def State.mapRanges (s : State) : List (Nat × Nat) := s.commsValid.map fun m => (s.get (F.COMM_W3_MAPBASE m), s.nmemb m)

/-- Whether staged reserved bits are 0 (R13, R190). -/
def State.stagedRsvOk (s : State) (q nm : Nat) : Bool :=
  nfield (s.stagedComm q 1) 22 11 == 0 && nfield (s.stagedComm q 2) 15 14 == 0 && nfield (s.stagedComm q 3) 13 9 == 0
  && nfield (s.stagedComm q 4) 31 20 == 0 && (List.range nm).all fun i => nfield (s.stagedMember q i) 30 26 == 0

/-- The range tests of COMM_ADMIT. -/
def State.admitRangeOk (s : State) (q part nm win : Nat) : Bool :=
  [1, 2, 4, 8, 16, 32, 64, 128, 256].contains win && decide (1 ≤ nm) && decide (nm ≤ 1024)
  && (List.range nm).all (fun i => nfield (s.stagedMember q i) 15 0 != 0 && decide (nfield (s.stagedMember q i) 25 16 < s.gridSize))
  && decide (epKind (nfield (s.stagedComm q 4) 19 0) ≤ 1)
  && s.on (F.MDESC_W0_VALID (mdIx s.activeBank (nfield (s.stagedComm q 2) 31 16)))
  && s.paramsOk part (s.stagedParams q)

/-- Times a number of positions. -/
def timesAll (l : List (Nat × Nat)) (n : Nat) : List (Nat × Nat) := l.map fun x => (x.1, x.2 * n)

/-- The words of an admitted communicator. -/
def State.writeComm (s : State) (q m key base cb mb : Nat) : State :=
  let a := 0x04000000 + 64 * m
  let w1 := 2 ^ 31 + (s.stagedComm q 1 &&& 0x3f8007ff)
  let w2 := nfield (s.stagedComm q 2) 31 16 * 65536 + cb
  let w3 := mb * 2 ^ 14 + nfield (s.stagedComm q 3) 8 0
  ((([key, w1, w2, w3, nfield (s.stagedComm q 4) 19 0, base] ++ s.stagedParams q).zipIdx).foldl
    (fun t (x : Nat × Nat) => t.setWord (a + 4 * x.2) (BitVec.ofNat 32 x.1)) s)

/-- The member map entries of an admitted communicator, VALID set. -/
def State.writeMap (s : State) (q mb nm : Nat) : State :=
  (List.range nm).foldl (fun t i =>
    t.setWord (0x04100000 + 4 * (mb + i)) (BitVec.ofNat 32 (2 ^ 31 + s.stagedMember q i % 2 ^ 26))) s

/-- Window position `k` awaits its first CSEQ at or above BASE. -/
def State.initPos (s : State) (m win base c k : Nat) : State :=
  ((s.setCtx c { phase := 1, instances := (s.ctx c).instances }).puts [(F.CTX_W10_COMMIDX c, m), (F.CTX_W10_STATE c, 1),
    (F.CTX_W11_CSEQ c, (base + (k + win - base % win) % win) % 2 ^ 32)])

/-- COMM_ADMIT. -/
def State.commAdmit (s : State) (q part comm arg : Nat) : CmdOut :=
  let nm := nfield (s.stagedComm q 1) 10 0
  let win := nfield (s.stagedComm q 3) 8 0
  if (s.commFind part comm).isSome then .no s Rej.EXISTS
  else if ¬ s.stagedRsvOk q (min nm 1024) then .no s Rej.RESERVED
  else if ¬ s.admitRangeOk q part nm win then .no s Rej.RANGE
  else
    match (List.range 4096).find? (fun m => !s.on (F.COMM_W1_VALID m)), firstGap s.ctxRanges win 16384, firstGap s.mapRanges nm 262144 with
    | some m, some cb, some mb =>
      let p := s.stagedParams q
      let resv : Bool := nbit (s.stagedComm q 1) 29 == 1
      let need := if resv then s.slotNeeds p else []
      let blocks := if resv then p.blockNeeds nm else 0
      (match s.reserveSlots (16384 + m) (timesAll need win) (blocks * win) with
        | none => .no s Rej.FULL
        | some t =>
          let s1 := ((t.writeComm q m (part * 65536 + comm) arg cb mb).writeMap q mb nm).setComm m { posSlots := need, posBlocks := blocks }
          ⟨0, m, (List.range win).foldl (fun u k => u.initPos m win arg (cb + k) k) s1⟩)
    | _, _, _ => .no s Rej.FULL

/-! ### The other commands (R190) -/

/-- The position of a CSEQ within the window of BASE (R172). -/
def State.seqPos (s : State) (m cseq : Nat) : Option Nat :=
  let win := s.get (F.COMM_W3_WIN m)
  if (cseq + 2 ^ 32 - s.get (F.COMM_W5_BASE m)) % 2 ^ 32 < win then some (s.posCtx m (cseq % win)) else none

/-- CTX_ALLOC. -/
def State.ctxAlloc (s : State) (q m part cseq : Nat) : CmdOut :=
  match s.seqPos m cseq with
  | none => .no s Rej.RANGE
  | some c =>
    if ¬ s.paramsOk part (s.stagedParams q) then .no s Rej.RANGE
    else if s.tearing m ∨ (s.ctx c).phase ≠ 1 ∨ s.get (F.CTX_W11_CSEQ c) ≠ cseq then .no s Rej.BUSY
    else
      match s.tryOpen m c (s.stagedParams q) with
      | some t => ⟨0, 0, t⟩
      | none => .no s Rej.FULL

/-- CTX_ABORT. -/
def State.ctxAbort (s : State) (m cseq : Nat) : CmdOut :=
  let c := s.posCtx m (cseq % s.get (F.COMM_W3_WIN m))
  if s.get (F.CTX_W11_CSEQ c) ≠ cseq then .no s Rej.BUSY
  else if (s.ctx c).phase = 2 then ⟨0, 0, s.closeCtx c (some stAborted)⟩
  else if (s.ctx c).phase = 3 then ⟨0, 0, s.finishCtx c⟩
  else .no s Rej.BUSY

/-- MEMBER_FENCE. -/
def State.memberFence (s : State) (m arg : Nat) : CmdOut :=
  let i := nfield arg 9 0
  let x := s.comm m
  if s.nmemb m ≤ i then .no s Rej.RANGE
  else if nbit arg 31 = 1 then
    let s1 := s.setComm m { x with fenced := if x.fenced.contains i then x.fenced else i :: x.fenced }
    ⟨0, 0, (s.commCtxs m).foldl (fun t c => t.fenceMember c i) s1⟩
  else ⟨0, 0, s.setComm m { x with fenced := x.fenced.filter (· ≠ i) }⟩

/-- The larger of two reservations, Basin by Basin. -/
def needMax (a b : List (Nat × Nat)) : List (Nat × Nat) :=
  a ++ (needBeyond b a).filter fun x => x.2 != 0

/-- A position's reservation with both lists summed by Basin. -/
def needSum (l : List (Nat × Nat)) : List (Nat × Nat) :=
  ((List.range 50).map fun b => (b, l.foldl (fun n x => if x.1 = b then n + x.2 else n) 0)).filter fun x => x.2 != 0

/-- TEMPLATE_SET.  What it reserves for a communicator whose release messages are out (event 4 of R192) is released with
the rest, and returns at event 5. -/
def State.templateSet (s : State) (q m part : Nat) : CmdOut :=
  let p := s.stagedParams q
  let x := s.comm m
  let win := s.get (F.COMM_W3_WIN m)
  let place (t : State) : State :=
    (p.zipIdx).foldl (fun u (w : Nat × Nat) => u.setWord (0x04000018 + 64 * m + 4 * w.2) (BitVec.ofNat 32 w.1)) t
  if ¬ s.paramsOk part p then .no s Rej.RANGE
  else if ¬ s.on (F.COMM_W1_RESV m) then ⟨0, 0, place s⟩
  else
    let need := s.slotNeeds p
    let blocks := p.blockNeeds (s.nmemb m)
    let grown := (blocks - x.posBlocks) * win
    match s.reserveSlots (16384 + m) (timesAll (needBeyond need x.posSlots) win) grown with
    | none => .no s Rej.FULL
    | some t =>
      let t1 := t.setComm m { x with posSlots := needSum (needMax x.posSlots need), posBlocks := max x.posBlocks blocks }
      ⟨0, 0, place (if x.releasing then t1.releaseOwner (16384 + m) grown else t1)⟩

/-- COMM_TEARDOWN (R192 events 1 and 2). -/
def State.commTeardown (s : State) (m arg : Nat) : CmdOut :=
  if s.tearing m then .no s Rej.BUSY
  else
    let s1 := s.put (F.COMM_W1_STATE m) 1
    let s2 := (s.commCtxs m).foldl (fun t c => t.put (F.CTX_W10_STATE c) 6) s1
    ⟨0, 0, if nbit arg 0 = 1 then
        (s.commCtxs m).foldl (fun t c =>
          if (t.ctx c).phase = 2 then t.closeCtx c (some stAborted)
          else if (t.ctx c).phase = 3 then t.finishCtx c else t) s2
      else s2⟩

/-- A command of a queue: its opcode, target and argument (R190). -/
def State.colCommand (s : State) (q op part comm arg : Nat) : CmdOut :=
  if op = 0 ∨ 6 < op then .no s Rej.RANGE
  else if part ≠ s.get (F.COLQ_CTL_PART (q / 128) (q % 128)) then .no s Rej.RANGE
  else if op = 1 then s.commAdmit q part comm arg
  else
    match s.commFind part comm with
    | none => .no s Rej.ABSENT
    | some m =>
      match op with
      | 2 => s.commTeardown m arg
      | 3 => s.ctxAlloc q m part arg
      | 4 => s.ctxAbort m arg
      | 5 => s.memberFence m arg
      | _ => s.templateSet q m part

/-! ### Processing a queue (R188, R189) -/

/-- Write a command's outcome into its entry at address `a`, and count it. -/
def State.writeOutcome (s : State) (a op : Nat) (r : CmdOut) : State :=
  let w0 := op * 2 ^ 24 + 2 ^ 23 + (if r.code = 0 then 2 ^ 22 else r.code)
  ((r.st.setWord a (BitVec.ofNat 32 w0)).setWord (a + 12) (BitVec.ofNat 32 (if r.code = 0 then r.out else (s.word (a + 12)).toNat))).countCol
    (if r.code = 0 then Ev.COL_CMD_OK else Ev.COL_CMD_REJ) 1

/-- Process the entry at address `a` of queue `q`. -/
def State.runEntry (s : State) (q a : Nat) : State :=
  let op := nfield (s.word a).toNat 31 24
  let key := (s.word (a + 4)).toNat
  s.writeOutcome a op (s.colCommand q op (key / 65536) (key % 65536) (s.word (a + 8)).toNat)

/-- Whether a queue is enabled and not empty. -/
def State.queueReady (s : State) (q : Nat) : Bool :=
  s.on (F.COLQ_CTL_EN (q / 128) (q % 128)) && s.get (F.COLQ_HEAD_HEAD (q / 128) (q % 128)) != s.get (F.COLQ_TAIL_TAIL (q / 128) (q % 128))

/-- The queue that the round robin visits next: the first ready one from the cursor on (R188). -/
def State.nextQueue (s : State) : Option Nat :=
  ((List.range 256).map fun d => (s.col.cursor + d) % 256).find? s.queueReady

/-- The entry at the head of a queue. -/
def State.headEntry (s : State) (q : Nat) : Nat := colqBase q + 64 * s.get (F.COLQ_HEAD_HEAD (q / 128) (q % 128))

/-- A visit: the command at the head of a queue is processed, HEAD advances, and the round robin goes on behind it. -/
def State.visit (s : State) (q : Nat) : State :=
  let n := q / 128
  let i := q % 128
  ({ s.runEntry q (s.headEntry q) with col := { (s.runEntry q (s.headEntry q)).col with cursor := (q + 1) % 256 } } : State).puts
    [(F.COLQ_HEAD_HEAD n i, (s.get (F.COLQ_HEAD_HEAD n i) + 1) % 64), (F.COLQ_DONE_DONE_COUNT n i, s.get (F.COLQ_DONE_DONE_COUNT n i) + 1)]

/-- The engine visits a queue, where it is that queue's turn and the head entry's opcode is of the kind named. -/
def State.visitQueue (s : State) (q : Nat) (ok : Nat → Bool) : State :=
  if s.nextQueue = some q ∧ ok (nfield (s.word (s.headEntry q)).toNat 31 24) then s.visit q else s

/-- The check of a write of TAIL: it may not pass HEAD (R194). -/
def State.tailCheck (s : State) (q v : Nat) : Nat :=
  let h := s.get (F.COLQ_HEAD_HEAD (q / 128) (q % 128))
  let t := s.get (F.COLQ_TAIL_TAIL (q / 128) (q % 128))
  if (v + 64 - h) % 64 < (t + 64 - h) % 64 then Rej.RANGE else 0

/-! ### Teardown's end (R192 events 3 to 5) -/

/-- Whether a packet is a chunk or a FALLBACK packet of a communicator. -/
def Pkt.ofComm (k : Pkt) (part comm : Nat) : Bool :=
  pProto k.bytes == 1 && (pType k.bytes == 4 || (pType k.bytes == 5 && cSub k.bytes == 0xa))
    && cPart k.bytes == part && cComm k.bytes == comm

/-- Whether nothing of a communicator is left in the Cistern or the Basins, and its contexts have closed. -/
def State.commQuiet (s : State) (m : Nat) : Bool :=
  let part := s.get (F.COMM_W0_PART m)
  let comm := s.get (F.COMM_W0_COMM m)
  (s.commCtxs m).all (fun c => ((s.ctx c).phase == 1 || (s.ctx c).phase == 5) && s.col.outQ.all fun o => o.ctx != c)
  && s.cis.pkts.all fun (x : Nat × Option Pkt) => !x.2.any fun k => k.ofComm part comm

/-- TEARDOWN_RELEASE: the Basins send the communicator's release messages. -/
def State.teardownRelease (s : State) (m : Nat) : State :=
  if ¬ s.on (F.COMM_W1_VALID m) ∨ ¬ s.tearing m ∨ (s.comm m).releasing ∨ ¬ s.commQuiet m then s
  else
    let x := s.comm m
    let s0 := s.setComm m { x with releasing := true }
    let s1 := (s.commCtxs m).foldl (fun t c => (t.releaseOwner c (t.ctx c).blocks).modCtx c fun y => { y with blocks := 0, slots := [] }) s0
    s1.releaseOwner (16384 + m) (x.posBlocks * s.get (F.COMM_W3_WIN m))

/-- A context entry returns to FREE. -/
def State.freeEntry (s : State) (c : Nat) : State :=
  let s1 := ((List.range 148).map (fun i => 0x05000000 + 1024 * c + 4 * i)).foldl (fun t a => t.setWord a 0#32) s
  s1.setCtx c { instances := (s.ctx c).instances }

/-- TEARDOWN_DONE: every release has been processed; the communicator's resources are free. -/
def State.teardownDone (s : State) (m : Nat) : State :=
  let cs := s.commCtxs m
  if ¬ (s.comm m).releasing ∨ s.col.releaseQ.any (fun x => x.1.owner == 16384 + m || cs.contains x.1.owner) then s
  else
    let x := s.comm m
    let s0 : State := { s with col := { s.col with
      ledger := x.torn.foldl List.erase s.col.ledger, blocksUsed := s.col.blocksUsed - x.tornBlocks } }
    let s1 := cs.foldl State.freeEntry s0
    let s2 := (List.range (s.nmemb m)).foldl (fun t i => t.setWord (0x04100000 + 4 * (s.memEntry m i)) 0#32) s1
    let s3 := (List.range 16).foldl (fun t i => t.setWord (0x04000000 + 64 * m + 4 * i) 0#32) s2
    (s3.setComm m {}).raise F.COLCFG_ISTAT_TORN_DONE

/-! ### What COLCFG shows of the tables (R193) -/

/-- CTX_FREE, COMM_FREE, free arrival blocks and free map entries. -/
def State.ctxFree (s : State) : Nat := 16384 - (s.ctxRanges.foldl (fun n u => n + u.2) 0)
def State.commFree (s : State) : Nat := 4096 - s.commsValid.length
def State.blocksFree (s : State) : Nat := arrivalStore - s.col.blocksUsed
def State.mapFree (s : State) : Nat := 262144 - (s.mapRanges.foldl (fun n u => n + u.2) 0)

/-! ### The commands -/

def execCommAdmit (q : Fin 256) (s : State) : Out := finish s (s.visitQueue q (· == 1))
def execCommTeardown (q : Fin 256) (s : State) : Out := finish s (s.visitQueue q (· == 2))
def execCtxAlloc (q : Fin 256) (s : State) : Out := finish s (s.visitQueue q (· == 3))
def execCtxAbort (q : Fin 256) (s : State) : Out := finish s (s.visitQueue q (· == 4))
def execMemberFence (q : Fin 256) (s : State) : Out := finish s (s.visitQueue q (· == 5))
def execTemplateSet (q : Fin 256) (s : State) : Out := finish s (s.visitQueue q (· == 6))
def execColCmdInvalid (q : Fin 256) (s : State) : Out := finish s (s.visitQueue q fun o => o == 0 || decide (6 < o))
def execTeardownRelease (m : Fin 4096) (s : State) : Out := finish s (s.teardownRelease m)
def execTeardownDone (m : Fin 4096) (s : State) : Out := finish s (s.teardownDone m)

end Sys2Proof.Machine
end

