-- ==== Sys2Proof/Machine/Cores.lean ====
section
/-! DEFINITION. The vector cores of a Basin: registers, the address space of a kernel, faults, issue, tagging and
budget (R227 to R237, R264, R268 to R270). -/

namespace Sys2Proof.Machine

/-! ### Cores -/

/-- A core. -/
def State.core (s : State) (b k : Nat) : CoreSt := SMap.get (fun _ => {}) s.bsn.cores (b * 24 + k)

/-- Hold a core. -/
def State.setCore (s : State) (b k : Nat) (v : CoreSt) : State :=
  { s with bsn := { s.bsn with cores := SMap.set (fun _ => {}) s.bsn.cores (b * 24 + k) v } }

/-- Change a core. -/
def State.modCore (s : State) (b k : Nat) (f : CoreSt → CoreSt) : State := s.setCore b k (f (s.core b k))

/-- Scalar register: S0 reads 0. -/
def CoreSt.sreg (c : CoreSt) (r : Nat) : Nat := if r = 0 then 0 else SMap.get (fun _ => 0) c.s r

/-- Marks of a scalar register, two bits a byte: kind 0 saturated, 1 made of a NaN. -/
def CoreSt.sMark (c : CoreSt) (r kind : Nat) : Nat := SMap.get (fun _ => 0) c.sMarks (2 * r + kind)

/-- Write a scalar register with the marks of what is written: S0 ignores it. -/
def CoreSt.setSM (c : CoreSt) (r v sat nan : Nat) : CoreSt :=
  if r = 0 then c
  else { c with
    s := SMap.set (fun _ => 0) c.s r (v % 2 ^ 64)
    sMarks := SMap.set (fun _ => 0) (SMap.set (fun _ => 0) c.sMarks (2 * r) sat) (2 * r + 1) nan }

/-- Write a scalar register with a value that no mark goes with. -/
def CoreSt.setS (c : CoreSt) (r v : Nat) : CoreSt := c.setSM r v 0 0

/-- Vector register, 512 bits. -/
def CoreSt.vreg (c : CoreSt) (r : Nat) : Nat := SMap.get (fun _ => 0) c.v r

/-- Mask register, 64 bits. -/
def CoreSt.kreg (c : CoreSt) (r : Nat) : Nat := SMap.get (fun _ => 0) c.k r

/-- Write a mask register. -/
def CoreSt.setK (c : CoreSt) (r v : Nat) : CoreSt := { c with k := SMap.set (fun _ => 0) c.k r (v % 2 ^ 64) }

/-- The byte lanes that MASK enables: all for 0, else those of K1 to K7 (R236). -/
def CoreSt.laneMask (c : CoreSt) (m : Nat) : Nat := if m = 0 then 2 ^ 64 - 1 else c.kreg m

/-- `new` in the byte lanes of `mask`, `old` elsewhere. -/
def mergeBytes (mask old new : Nat) : Nat :=
  leNat ((List.range 64).map fun i => BitVec.ofNat 8 ((if nbit mask i = 1 then new else old) / 2 ^ (8 * i)))

/-- Marks of four-bit places, two to a byte lane: `new` in the lanes of `mask`, `old` elsewhere. -/
def mergeMarks (mask old new : Nat) : Nat :=
  if old = 0 ∧ new = 0 then 0
  else (List.range 64).foldl (fun m i => m + ((if nbit mask i = 1 then new else old) / 4 ^ i % 4) * 4 ^ i) 0

/-- Marks of a vector register: kind 0 saturated, 1 made of a NaN. -/
def CoreSt.mark (c : CoreSt) (r kind : Nat) : Nat := SMap.get (fun _ => 0) c.marks (2 * r + kind)

/-- Set marks of one kind in the enabled byte lanes. -/
def CoreSt.setMark (c : CoreSt) (r kind mask m : Nat) : CoreSt :=
  { c with marks := SMap.set (fun _ => 0) c.marks (2 * r + kind) (mergeMarks mask (c.mark r kind) m) }

/-- Write a vector register in the enabled byte lanes, with the marks of what is written. -/
def CoreSt.setVM (c : CoreSt) (r mask v sat nan : Nat) : CoreSt :=
  ({ c with v := SMap.set (fun _ => 0) c.v r (mergeBytes mask (c.vreg r) v) }.setMark r 0 mask sat).setMark r 1 mask nan

/-- Write a vector register in the enabled byte lanes. -/
def CoreSt.setV (c : CoreSt) (r mask v : Nat) : CoreSt := c.setVM r mask v 0 0

/-- Marks of byte lane `i` of a register: two bits saturated, two made of a NaN. -/
def CoreSt.byteMark (c : CoreSt) (r i : Nat) : Nat := c.mark r 0 / 4 ^ i % 4 + 4 * (c.mark r 1 / 4 ^ i % 4)

/-- The same of a scalar register. -/
def CoreSt.sByteMark (c : CoreSt) (r i : Nat) : Nat := c.sMark r 0 / 4 ^ i % 4 + 4 * (c.sMark r 1 / 4 ^ i % 4)

/-- Marks of one kind of a run of bytes, each byte's as byteMark gives them, from byte lane `i`. -/
def marksOf (kind i : Nat) (ms : List Nat) : Nat :=
  (ms.zipIdx).foldl (fun n (x : Nat × Nat) => n + x.1 / 4 ^ kind % 4 * 4 ^ (i + x.2)) 0

/-- Lane `i` of a register in lanes of `w` bits. -/
def laneOf (w v i : Nat) : Nat := v / 2 ^ (w * i) % 2 ^ w

/-- Lanes of `w` bits as a register. -/
def ofLanes (w : Nat) (l : List Nat) : Nat := l.foldr (fun x n => x % 2 ^ w + n * 2 ^ w) 0

/-! ### Fault codes (R235) -/

namespace KF
def ILLEGAL : Nat := 0x1
def PRIV : Nat := 0x2
def ALIGN : Nat := 0x3
def WINDOW : Nat := 0x4
def BOUND : Nat := 0x5
def BUDGET : Nat := 0x6
def ARRAY : Nat := 0x7
def KLEN : Nat := 0x8
def KFAIL : Nat := 0x9
def KPARAM : Nat := 0xa
def ECC : Nat := 0xb
end KF

/-! ### The array's owner -/

/-- A Basin's array. -/
def State.array (s : State) (b : Nat) : ArraySt := SMap.get (fun _ => {}) s.bsn.arrays b

/-- Hold a Basin's array. -/
def State.setArray (s : State) (b : Nat) (v : ArraySt) : State :=
  { s with bsn := { s.bsn with arrays := SMap.set (fun _ => {}) s.bsn.arrays b v } }

/-- The array is released by a core that owns it (R246: ownership ends with the invocation). -/
def State.freeArray (s : State) (b k : Nat) : State :=
  if (s.array b).owner = some k then s.setArray b { s.array b with owner := none, job := none, waiter := none } else s

/-! ### The DMA engine's queue (R287) -/

/-- A Basin's DMA engine. -/
def State.dma (s : State) (b : Nat) : DmaSt := SMap.get (fun _ => {}) s.bsn.dma b

/-- Hold it. -/
def State.setDma (s : State) (b : Nat) (v : DmaSt) : State :=
  { s with bsn := { s.bsn with dma := SMap.set (fun _ => {}) s.bsn.dma b v } }

/-! ### The barrier (R237) -/

/-- The cores of a Basin that run user kernels. -/
def State.kernelCores (s : State) (b : Nat) : List Nat :=
  (List.range 24).filter fun k => (s.core b k).inv.any fun v => decide (0x100 ≤ v.kernel)

/-- The barrier opens once every core of the Basin that runs a user kernel has arrived. -/
def State.openBarrier (s : State) (b : Nat) : State :=
  let l := s.kernelCores b
  if l.all fun k => (s.core b k).atBarrier then
    l.foldl (fun t k => t.modCore b k fun c => { c with atBarrier := false }) s
  else s

/-! ### The address space of an invocation (R232, R233) -/

/-- Shared SRAM in a core's address space, and `n` in whole lines of 64 bytes. -/
def sharedBase : Nat := 0x01000000
def lines64 (n : Nat) : Nat := ceilDiv n 64 * 64

/-- Where the dispatcher places what it grants: from the invocation's place in the slot pool on, the reduced values, the
index's images, the output buffer and the scratch; the held hyperparameter block lies in the firmware region (R228). -/
def valsAddr (v : Inv) : Nat := sharedBase + v.base
def imgsAddr (v : Inv) : Nat := valsAddr v + lines64 (4 * v.vals.length)
def outAddr (v : Inv) : Nat := imgsAddr v + lines64 v.imgs.length
def scratchAddr (v : Inv) : Nat := outAddr v + 4096
def hyperAddr (k : Nat) : Nat := 0x01780000 + k * 64

/-- Start of the window of stacked memory. -/
def windowBase : Nat := 0x800000000000

/-- What a local address is. -/
inductive Place where
  | code | priv | vals | imgs | out | hyper | scratch
  | window (w : Nat)
  | nothing
  deriving DecidableEq, Repr

/-- Bytes of an invocation's share of scratch (R261, R265). -/
def State.scratchSize (s : State) (v : Inv) : Nat := (s.kernelInfo v.kernel (s.params v.ctx).elems).elim 0 KernelInfo.scratch

/-- The grant that holds `n` bytes from local address `a` on core `k`. -/
def State.place (s : State) (k : Nat) (v : Inv) (a n : Nat) : Place :=
  let within (base size : Nat) : Bool := decide (base ≤ a) && decide (a + n ≤ base + size)
  if windowBase ≤ a then .window (a - windowBase)
  else if within 0 0x8000 then .code
  else if within 0x8000 0x8000 then .priv
  else if within (valsAddr v) (4 * v.vals.length) then .vals
  else if within (imgsAddr v) v.imgs.length then .imgs
  else if within (outAddr v) 4096 then .out
  else if within (hyperAddr k) 64 then .hyper
  else if within (scratchAddr v) (s.scratchSize v) then .scratch
  else .nothing

/-- The pages of the partition's window. -/
def State.windowBytes (s : State) (c : Nat) : Nat :=
  match s.windowOf (s.ctxKey c).1 with
  | none => 0
  | some i => s.get (F.PWIN_W2_NPAGES i) * 4096

/-- Why an access of `n` bytes at `a` faults, if it does. -/
def State.accessFault (s : State) (k : Nat) (v : Inv) (a n : Nat) (write : Bool) : Option Nat :=
  match s.place k v a n with
  | .window w => if w + n ≤ s.windowBytes v.ctx then none else some KF.WINDOW
  | .priv => none
  | .out => none
  | .scratch => none
  | .vals => if write then some KF.BOUND else none
  | .imgs => if write then some KF.BOUND else none
  | .hyper => if write then some KF.BOUND else none
  | _ => some KF.BOUND

/-- A byte of the invocation's local grants: what nothing has written is free (R232). -/
def State.localByte (s : State) (b k : Nat) (v : Inv) (a : Nat) : Byte :=
  let c := s.core b k
  match s.place k v a 1 with
  | .priv => SMap.get (fun _ => 0#8) c.priv a
  | .vals => BitVec.ofNat 8 (v.vals.getD ((a - valsAddr v) / 4) 0 / 2 ^ (8 * ((a - valsAddr v) % 4)))
  | .imgs => v.imgs.getD (a - imgsAddr v) 0#8
  | .out => SMap.get (fun x => Config.sramFree v.gen x) v.out a
  | .hyper => (s.ctx v.ctx).hyper.getD (a - hyperAddr k) 0#8
  | .scratch => SMap.get (fun x => Config.sramFree v.gen x) v.scratch a
  | _ => 0#8

/-- `n` bytes of the local grants. -/
def State.localBytes (s : State) (b k : Nat) (v : Inv) (a n : Nat) : List Byte :=
  (List.range n).map fun i => s.localByte b k v (a + i)

/-- Marks of `n` bytes of the local grants. -/
def Inv.marksAt (v : Inv) (a n : Nat) : List Nat := (List.range n).map fun i => SMap.get (fun _ => 0) v.marks (a + i)

/-- Put one byte, with its marks, into a core's private SRAM or its invocation's writable grants. -/
def State.localPutM (s : State) (b k : Nat) (a : Nat) (x : Byte) (m : Nat) : State :=
  match (s.core b k).inv with
  | none => s
  | some v =>
    let v1 : Inv := { v with marks := SMap.set (fun _ => 0) v.marks a m }
    match s.place k v a 1 with
    | .priv => s.modCore b k fun c => { c with priv := SMap.set (fun _ => 0#8) c.priv a x, inv := some v1 }
    | .out => s.modCore b k fun c => { c with inv := some { v1 with out := SMap.set (fun y => Config.sramFree v.gen y) v.out a x } }
    | .scratch => s.modCore b k fun c => { c with inv := some { v1 with scratch := SMap.set (fun y => Config.sramFree v.gen y) v.scratch a x } }
    | _ => s

/-- Put bytes with their marks. -/
def State.localPutsM (s : State) (b k a : Nat) (bs : List Byte) (m : Nat → Nat) : State :=
  (bs.zipIdx).foldl (fun t (x : Byte × Nat) => t.localPutM b k (a + x.2) x.1 (m x.2)) s

/-- Put bytes that no mark goes with. -/
def State.localPuts (s : State) (b k a : Nat) (bs : List Byte) : State := s.localPutsM b k a bs fun _ => 0

/-- Where a place of the local address space lies in stacked memory. -/
def State.physOf (s : State) (v : Inv) (a : Nat) : Option Nat :=
  if windowBase ≤ a then s.winAddr (s.ctxKey v.ctx).1 (a - windowBase) else none

/-! ### Accesses -/

/-- An access to stacked memory goes onto the ring; what awaits its answer is kept by its number. -/
def State.coreIssue (s : State) (b k : Nat) (v : Inv) (op : MemOp) (w n : Nat) (data : List Byte) (p : Pend) : State :=
  match s.winAddr (s.ctxKey v.ctx).1 w with
  | none => s
  | some a =>
    let tag := (s.core b k).nextTag
    match s.memIssue b k { src := .core b k tag, op := op, addr := a, len := n, data := data } with
    | none => s
    | some t => t.modCore b k fun c => { c with pend := c.pend ++ [⟨tag, p, c.pc, windowBase + w⟩], nextTag := tag + 1 }

/-! ### The DMA engine (R286, R287) -/

/-- Bytes of an element. -/
def Desc.esz (d : Desc) : Nat := if d.op = 2 then (fmtOf d.esize).bits / 8 else 2 ^ d.esize

/-- Runs of bytes that a descriptor moves: source, destination, length. -/
def Desc.moves (d : Desc) : List (Nat × Nat × Nat) :=
  if d.op = 1 then
    (List.range d.rows).flatMap fun i => (List.range d.cols).map fun j =>
      (d.src + i * d.sstride + j * d.esz, d.dst + j * d.dstride + i * d.esz, d.esz)
  else (List.range d.rows).map fun i => (d.src + i * d.sstride, d.dst + i * d.dstride, d.cols * d.esz)

/-- Pieces of a descriptor's sources in stacked memory, within pages (R279): the run, address and length. -/
def State.dmaPieces (s : State) (v : Inv) (d : Desc) : List (Nat × Nat × Nat) :=
  (d.moves.zipIdx).flatMap fun (m : (Nat × Nat × Nat) × Nat) =>
    match s.physOf v m.1.1 with
    | some x => (pieces x m.1.2.2).map fun p => (m.2, x + p.1, p.2)
    | none => []

/-- The engine issues a request onto the ring, as requester 24 of its stop (R256). -/
def State.dmaIssue (s : State) (b : Nat) (q : MemReq) : State := (s.memIssue b 24 q).getD s

/-- The oldest descriptor begins, unless it has begun: every piece of its source in stacked memory is asked for. -/
def State.dmaBegin (s : State) (b : Nat) : State :=
  match (s.dma b).q with
  | [] => s
  | i :: rest =>
    match (s.core b i.core).inv with
    | none => s
    | some v =>
      if i.phase ≠ 0 then s
      else
        let ps := s.dmaPieces v i.desc
        let s1 := s.setDma b { s.dma b with q := { i with phase := 1, out := ps.length } :: rest }
        (ps.zipIdx).foldl (fun t (q : (Nat × Nat × Nat) × Nat) =>
          t.dmaIssue b { src := .dma b i.ticket q.2, op := .read, addr := q.1.2.1, len := q.1.2.2 }) s1

/-- An answer reaches the engine: a piece of a source, or the acknowledgement of a write or add. -/
def State.dmaAnswer (s : State) (b ticket piece : Nat) (d : List Byte) (bad : Bool) : State :=
  match (s.dma b).q with
  | [] => s
  | i :: rest =>
    if i.ticket ≠ ticket then s
    else s.setDma b { s.dma b with q := { i with
      out := i.out - 1, bad := i.bad || bad
      got := if i.phase = 1 then SMap.set (fun _ => []) i.got piece d else i.got } :: rest }

/-- The bytes that a descriptor moves, run by run. -/
def State.dmaData (s : State) (b : Nat) (v : Inv) (i : DmaItem) : List (Nat × List Byte) :=
  let ps := (s.dmaPieces v i.desc).zipIdx
  (i.desc.moves.zipIdx).map fun (m : (Nat × Nat × Nat) × Nat) =>
    (m.1.2.1, if windowBase ≤ m.1.1 then
        ((ps.filter fun q => q.1.1 == m.2).map fun q => SMap.get (fun _ => []) i.got q.2).flatten
      else s.localBytes b i.core v m.1.1 m.1.2.2)

/-- The marks that go with each run, read in the local grants with its bytes. -/
def dmaMarks (v : Inv) (d : Desc) : List (List Nat) := d.moves.map fun m => v.marksAt m.1 m.2.2

/-- One run reaches its destination: at once in the local grants, with its marks; as writes, or memory-side adds, in stacked
memory. -/
def State.dmaPut (s : State) (b : Nat) (v : Inv) (i : DmaItem) (m : Nat × List Byte) (ms : List Nat) : State :=
  match s.physOf v m.1 with
  | none => s.localPutsM b i.core m.1 m.2 fun j => ms.getD j 0
  | some x =>
    let op : MemOp := if i.desc.op = 2 then .add i.desc.esize else .write
    (pieces x m.2.length).foldl (fun t p =>
      t.dmaIssue b { src := .dma b i.ticket 0, op := op, addr := x + p.1, len := p.2, data := (m.2.drop p.1).take p.2 }) s

/-- Requests that writing a descriptor's destination takes. -/
def State.dmaWrites (s : State) (v : Inv) (l : List (Nat × List Byte)) : Nat :=
  (l.map fun m => match s.physOf v m.1 with
    | none => 0
    | some x => (pieces x m.2.length).length).foldl (· + ·) 0

/-- The oldest descriptor ends with a status, 1 done or 2 faulted, and the next begins. -/
def State.dmaClose (s : State) (b ticket st : Nat) : State :=
  let p := s.dma b
  (s.setDma b { p with q := p.q.drop 1, status := SMap.set (fun _ => 0) p.status ticket st }).dmaBegin b

/-- DMA_DONE: the oldest descriptor of a Basin, its source read, is written, and completes once its writes are
acknowledged.  `ecc` says that reading its source in SRAM found uncorrectable data; then nothing is written. -/
def State.dmaDone (s : State) (b : Nat) (ecc : Bool) : State :=
  match (s.dma b).q with
  | [] => s
  | i :: rest =>
    match (s.core b i.core).inv with
    | none => s.dmaClose b i.ticket 2
    | some v =>
      if i.out ≠ 0 ∨ i.phase = 0 then s
      else if i.phase = 2 then s.dmaClose b i.ticket 1
      else if ecc ∨ i.bad then s.dmaClose b i.ticket 2
      else
        let l := s.dmaData b v i
        let n := s.dmaWrites v l
        let s1 := s.setDma b { s.dma b with q := { i with phase := 2, out := n } :: rest }
        let s2 := (l.zip (dmaMarks v i.desc)).foldl (fun t m => t.dmaPut b v i m.1 m.2) s1
        if n = 0 then s2.dmaClose b i.ticket 1 else s2

/-- Descriptors of a core whose invocation faulted move nothing more: they end as faulted. -/
def State.dropDescs (s : State) (b k : Nat) : State :=
  let q := s.dma b
  (s.setDma b { q with
    q := q.q.filter fun i => i.core != k
    status := (q.q.filter fun i => i.core == k).foldl (fun m i => SMap.set (fun _ => 0) m i.ticket 2) q.status }).dmaBegin b

/-! ### Tagging (R269, R270) -/

/-- One step of the LFSR x^24 + x^23 + x^22 + x^17 + 1. -/
def lfsr24 (v : Nat) : Nat :=
  v * 2 % 2 ^ 24 + (nbit v 23 ^^^ nbit v 22 ^^^ nbit v 21 ^^^ nbit v 16)

/-- The record of a retired tagged instruction; stage times and stall causes are free, and so are OP, PC and the address of
an access of firmware and of the built-in kernels, whose code no rule gives, and the context of firmware's work item.
SEQ counts the records before this one (the model's choice, log entry 194). -/
def State.tagRecord (s : State) (b k : Nat) (f : Follow) (kernel ctx : Nat) (mem : Bool) : State :=
  let n := s.get (F.BASIN_TAGSTAT_WPTR b)
  let a := 0x06100000 + b * 0x2000 + n * 32
  let free (w : Nat) : Nat := (Config.tagClocks s.freeCtr w).toNat
  let op := if kernel < 0x100 then free 5 % 512 else f.op
  let pc := if kernel < 0x100 then free 6 else f.pc
  let addr := if kernel < 0x100 ∧ mem then (free 7 * 2 ^ 16 + free 8) * 2 ^ 16 + free 9 else f.addr
  let cx := if kernel = 0 then free 10 % 2 ^ 14 else ctx
  let ws : List Nat := [k * 2 ^ 27 + f.cls * 2 ^ 22 + op * 2 ^ 13 + n * 2 ^ 5, kernel * 2 ^ 16 + pc, s.time.ns,
    free 0 * 2 ^ 16 + free 1, (if mem then free 2 * 2 ^ 16 else 0) + free 3, addr % 2 ^ 32,
    free 4 % 64 * 2 ^ 16 + addr / 2 ^ 32 % 2 ^ 16, cx]
  let s1 := (ws.zipIdx).foldl (fun t (x : Nat × Nat) => t.setWord (a + 4 * x.2) (BitVec.ofNat 32 x.1)) s.freshFree
  (s1.put (F.BASIN_TAGSTAT_WPTR b) ((n + 1) % 256)).countBasin b Ev.BSN_TAG 1

/-- The LFSR advances with an issued instruction; tells whether the instruction is selected. -/
def State.tagStep (s : State) (b k : Nat) : Bool × State :=
  let c := s.core b k
  let v := c.lfsr.getD (Config.tagSeed b k).toNat
  (s.on (F.BASIN_TAGCFG_EN b) && v % 2 ^ s.get (F.BASIN_TAGCFG_K b) == 0,
    s.setCore b k { c with lfsr := some (lfsr24 v) })

/-- A selected instruction: followed until its access is answered, recorded at once where none is awaited, or
skipped while another is followed; `mem`: it made an access. -/
def State.tagTake (s : State) (b k : Nat) (f : Follow) (kernel ctx : Nat) (awaits mem : Bool) : State :=
  if (s.core b k).follow.isSome then
    (s.addSat (F.BASIN_TAGSTAT_SKIPPED b) 1).countBasin b Ev.BSN_TAG_SKIP 1
  else if awaits then s.modCore b k fun c => { c with follow := some f }
  else s.tagRecord b k f kernel ctx mem

/-- An instruction of core `k` issues: its LFSR advances, and a selected one is followed or recorded. -/
def State.tagIssue (s : State) (b k : Nat) (f : Follow) (kernel ctx : Nat) (awaits mem : Bool) : State :=
  let p := s.tagStep b k
  if p.1 then p.2.tagTake b k f kernel ctx awaits mem else p.2

/-- An invocation ends: an instruction still followed retires with it. -/
def State.followEnd (s : State) (b k : Nat) : State :=
  match (s.core b k).follow, (s.core b k).inv with
  | some f, some v => (s.modCore b k fun c => { c with follow := none }).tagRecord b k f v.kernel v.ctx true
  | _, _ => s

/-! ### Taking a fault (R235) -/

/-- The fault record, if it is empty. -/
def State.faultRecord (s : State) (b k code ctx kernel pc addr : Nat) : State :=
  if s.on (F.BASIN_FAULT_VALID b) then s
  else (s.raise (F.BASIN_FAULT_VALID b)).puts [(F.BASIN_FAULT_CODE b, code), (F.BASIN_FAULT_CORE b, k), (F.BASIN_FAULT_CTX b, ctx),
    (F.BASIN_FAULT_PC_KERNEL b, kernel), (F.BASIN_FAULT_PC_PC b, pc), (F.BASIN_FAULT_ADDR_LO_ADDR b, addr % 2 ^ 32),
    (F.BASIN_FAULT_ADDR_HI_ADDR b, addr / 2 ^ 32)]

/-- A context is closed as ABORTED on the path of R176. -/
def State.abortCtx (s : State) (c : Nat) : State :=
  (s.modCtx c fun x => { x with close := if x.close = none then some stAborted else x.close }).closeCtx c (some stAborted)

/-- The core's registers and private SRAM are reset and it returns to the pool; answers still on their way find
no access waiting. -/
def CoreSt.reset (c : CoreSt) : CoreSt := { nextTag := c.nextTag, lfsr := c.lfsr }

/-- A fault of the instruction at `pc` ends the invocation on a core: no result, the context closes as ABORTED, the
record, the log and the count are made, and the core returns to the pool.  Where a built-in kernel's instructions lie no
rule says: their PC is free. -/
def State.kernelFaultAt (s : State) (b k code addr pc : Nat) : State :=
  match (s.core b k).inv with
  | none => s
  | some v =>
    let at_ := if v.kernel < 0x100 then (Config.tagClocks s.freeCtr 6).toNat else pc
    let s0 := s.freshFree.followEnd b k
    let s1 := ((s0.abortCtx v.ctx).faultRecord b k code v.ctx v.kernel at_ addr).logReport Ev.BSN_KFAULT (0xa00 + b) (b * 32 + k)
      (code * 2 ^ 16 + v.ctx) at_
    let s2 := ((s1.countBasin b Ev.BSN_KFAULT 1).freeArray b k).dropDescs b k
    let s3 := if code = KF.ECC then s2.reportEcc b else s2
    (s3.setCore b k (s3.core b k).reset).openBarrier b

/-- A fault of the instruction at the core's pc. -/
def State.kernelFault (s : State) (b k code addr : Nat) : State := s.kernelFaultAt b k code addr (s.core b k).pc


/-! ### Fetch and issue -/

/-- Whether a Basin's cores issue: no clock change under way (R268).  A thermal pause stops new items only (R464). -/
def State.issuing (s : State) (b : Nat) : Bool := !s.clkHeld b

/-- The instruction word at the core's pc in the loaded image of its user kernel (R236, R261). -/
def State.fetch (s : State) (b k : Nat) : Option Nat :=
  match (s.core b k).inv with
  | none => none
  | some v =>
    let img := SMap.get (fun _ => []) s.bsn.kernels (v.kernel - 0x100)
    let pc := (s.core b k).pc
    if pc % 8 = 0 ∧ pc + 8 ≤ leNat (slice img 8 4) then some (leNat (slice img (64 + pc) 8)) else none

/-- Fields of an instruction word (R236). -/
def iClass (w : Nat) : Nat := nfield w 63 59
def iOp (w : Nat) : Nat := nfield w 58 50
def iD (w : Nat) : Nat := nfield w 49 45
def iA (w : Nat) : Nat := nfield w 44 40
def iB (w : Nat) : Nat := nfield w 39 35
def iMask (w : Nat) : Nat := nfield w 34 32
def iExt (w : Nat) : Nat := nfield w 31 0
def iC (w : Nat) : Nat := nfield w 31 27

/-- EXT as a signed 64-bit value. -/
def iImm (w : Nat) : Nat := ofSigned 64 (toSigned 32 (iExt w))

/-- Whether R237 gives the class. -/
def classKnown (c : Nat) : Bool := decide (c ≤ 0xa) || c == 0x10 || c == 0x11

/-- What executing an instruction does: it waits, in a state that may show that it does; it completes, going on at the
next instruction or at `pc`; it faults with a code and an address. `access` is the local address it accessed, 0 where
none. -/
inductive InsnRes where
  | wait (s : State)
  | done_ (s : State) (access : Nat)
  | goto (s : State) (pc : Nat)
  | fault (code addr : Nat)

/-! ### Executing an instruction -/

/-- Count an issued instruction of the invocation; at BUDGET without a return it faults (R234). -/
def State.spend (s : State) (b k : Nat) : State :=
  let n := (s.core b k).issued + 1
  let s1 := s.modCore b k fun c => { c with issued := n }
  if s.get (F.BASIN_KBUDGET_BUDGET b) ≤ n then s1.kernelFault b k KF.BUDGET 0 else s1

/-- The instruction at `pc` completes; the core goes on at the next one unless BUDGET ends the invocation. -/
def State.retire (s t : State) (b k w : Nat) (v : Inv) (access pc : Nat) : State :=
  let f : Follow := ⟨iClass w, iOp w, (s.core b k).pc, access, (s.core b k).nextTag⟩
  let t1 := (t.tagIssue b k f v.kernel v.ctx ((s.core b k).nextTag != (t.core b k).nextTag) (access != 0)).spend b k
  t1.modCore b k fun c => if c.inv.isSome then { c with pc := pc } else c

/-- An instruction that issues and faults: it is tagged like any other. -/
def State.faultInsn (s : State) (b k w : Nat) (v : Inv) (code addr : Nat) : State :=
  (s.tagIssue b k ⟨iClass w, iOp w, (s.core b k).pc, addr, 0⟩ v.kernel v.ctx false (addr != 0)).kernelFault b k code addr

/-- The classes whose instructions make an access: SMEM and VMEM. -/
def accesses (cls : Nat) : Bool := cls == 0x2 || cls == 0x5

/-- An instruction of firmware: only its tagging shows, since what it does is the work item's command. -/
def State.firmwareInsn (s : State) (b k cls : Nat) : State := s.tagIssue b k ⟨cls, 0, 0, 0, 0⟩ 0 0 false (accesses cls)

/-- An instruction of a built-in kernel: tagged, and counted against BUDGET; what it computes is R267's. -/
def State.builtinInsn (s : State) (b k cls : Nat) (v : Inv) : State :=
  (s.tagIssue b k ⟨cls, 0, 0, 0, 0⟩ v.kernel v.ctx false (accesses cls)).spend b k

/-- The instruction at the pc of a core that runs a user kernel, if it is of class `cls`. -/
def State.userInsn (s : State) (b k cls : Nat) (legal : Bool) (body : Inv → Nat → InsnRes) (v : Inv) : State :=
  match s.fetch b k with
  | none => s.kernelFault b k KF.BOUND (s.core b k).pc
  | some w =>
    if !classKnown (iClass w) then s.faultInsn b k w v KF.ILLEGAL 0
    else if iClass w ≠ cls then s
    else if !legal then s.faultInsn b k w v KF.ILLEGAL 0
    else
      match body v w with
      | .wait t => t
      | .fault code addr => s.faultInsn b k w v code addr
      | .goto t pc => s.retire t b k w v 0 pc
      | .done_ t access => s.retire t b k w v access ((s.core b k).pc + 8)

/-- Execute an instruction of class `cls` on a core: of a user kernel, of a built-in one, or of firmware where no
invocation runs; `legal` is false where its OP or a reserved field makes it illegal. -/
def State.execInsn (s : State) (b k cls : Nat) (legal : Bool) (body : Inv → Nat → InsnRes) : State :=
  if !s.issuing b ∨ (s.core b k).atBarrier then s
  else
    match (s.core b k).inv with
    | none => s.firmwareInsn b k cls
    | some v => if v.kernel < 0x100 then s.builtinInsn b k cls v else s.userInsn b k cls legal body v

/-- A firmware-only class: PRIV in a kernel (R237). -/
def State.firmwareOnly (s : State) (b k cls : Nat) : State := s.execInsn b k cls true fun _ _ => .fault KF.PRIV 0

/-! ### Answers from stacked memory -/

/-- Bytes of a load as a register value. -/
def loadValue (bytes : Nat) (signed : Bool) (d : List Byte) : Nat :=
  let n := leNat (d.take bytes)
  if signed then ofSigned 64 (toSigned (8 * bytes) n) else n

/-- A scalar load, with the marks of the bytes loaded. -/
def CoreSt.loadS (c : CoreSt) (r n : Nat) (signed : Bool) (d : List Byte) (ms : List Nat) : CoreSt :=
  c.setSM r (loadValue n signed d) (marksOf 0 0 ms) (marksOf 1 0 ms)

/-- What an answer writes; no marks come from stacked memory. -/
def CoreSt.answer (c : CoreSt) (p : Pend) (d : List Byte) : CoreSt :=
  match p with
  | .field i => { c with inv := c.inv.map fun v => { v with got := SMap.set (fun _ => []) v.got i d } }
  | .desc i => { c with desc := SMap.set (fun _ => []) c.desc i d }
  | .scalar r n sg => c.setS r (loadValue n sg d)
  | .vector r m => c.setV r m (leNat d)
  | .lane r i n => c.setV r ((2 ^ n - 1) * 2 ^ (n * i)) (leNat (d.take n) * 2 ^ (8 * n * i))
  | .none => c

/-- An answer reaches the core that waits for it; uncorrectable data faults the load with ECC (R282). -/
def State.coreAnswer (s : State) (b k tag : Nat) (d : List Byte) (bad : Bool) : State :=
  let c := s.core b k
  match c.pend.find? fun x => x.tag == tag with
  | none => s
  | some p =>
    let s1 := s.setCore b k { (if bad then c else c.answer p.pend d) with pend := c.pend.filter fun x => x.tag != tag }
    let s2 : State := match c.follow with
      | some f => if f.tag = tag then s1.followEnd b k else s1
      | none => s1
    if bad ∧ p.pend ≠ .none then s2.kernelFaultAt b k KF.ECC p.addr p.pc else s2

end Sys2Proof.Machine
end

