-- ==== Sys2Proof/Machine/Insns.lean ====
section
/-! DEFINITION. The instruction classes of the vector cores (R237 to R242) and the DMA class (R286, R287). -/

namespace Sys2Proof.Machine

/-! ### SALU -/

/-- A two-operand operation on 64-bit values; `free` is the result of a shift by 64 or more, which no rule
gives. -/
def saluBin (op : SaluBin) (a b free : Nat) : Nat :=
  let sa := toSigned 64 a
  let sb := toSigned 64 b
  let bool (x : Bool) : Nat := if x then 1 else 0
  match op with
  | .add => (a + b) % 2 ^ 64
  | .sub => ofSigned 64 (sa - sb)
  | .mul => a * b % 2 ^ 64
  | .and_ => a &&& b
  | .or_ => a ||| b
  | .xor_ => a ^^^ b
  | .shl => if b < 64 then a * 2 ^ b % 2 ^ 64 else free
  | .shr => if b < 64 then a / 2 ^ b else free
  | .sar => if b < 64 then ofSigned 64 (sa / (2 ^ b : Nat)) else free
  | .eq => bool (a == b)
  | .ne => bool (a != b)
  | .lt => bool (decide (sa < sb))
  | .ltu => bool (decide (a < b))

/-- Body of a scalar instruction. -/
def State.saluBody (s : State) (b k : Nat) (op : SaluOp) (w : Nat) : InsnRes :=
  let c := s.core b k
  let free := (Config.freeBits s.freeCtr 0).toNat
  let r : Nat := match op with
    | .bin o imm => saluBin o (c.sreg (iA w)) (if imm then iImm w else c.sreg (iB w)) free
    | .not_ => 2 ^ 64 - 1 - c.sreg (iA w)
    | .movi => iImm w
  .done_ (s.freshFree.setCore b k (c.setS (iD w) r)) 0

/-! ### SBR -/

/-- Body of a branch, call or return from a call: the target is the branch's own address plus EXT, or the value of
register A. -/
def State.sbrBody (s : State) (b k : Nat) (op : SbrOp) (w : Nat) : InsnRes :=
  let c := s.core b k
  let target := (c.pc + iImm w) % 2 ^ 64
  match op with
  | .jump => .goto s target
  | .ifZero => if c.sreg (iA w) = 0 then .goto s target else .done_ s 0
  | .ifNonzero => if c.sreg (iA w) ≠ 0 then .goto s target else .done_ s 0
  | .call => .goto (s.setCore b k (c.setS (iD w) (c.pc + 8))) target
  | .back => .goto s (c.sreg (iA w))

/-! ### SMEM and VMEM -/

/-- One aligned access of `n` bytes: where it goes, or why it faults. -/
def State.checkAccess (s : State) (k : Nat) (v : Inv) (a n : Nat) (write : Bool) : Except Nat (Option Nat) :=
  if a % n ≠ 0 then .error KF.ALIGN
  else
    match s.accessFault k v a n write with
    | some f => .error f
    | none =>
      match s.place k v a n with
      | .window w => .ok (some w)
      | _ => .ok none

/-- The memory-side operation of an atomic, and the format that FADDF takes. -/
def atomicOp (op : AtomicOp) (wide : Bool) : MemOp :=
  match op with
  | .fadd => .fadd wide
  | .faddf => .faddf
  | .swap => .swap wide
  | .cas => .cas wide
  | .fmin => .fmin
  | .fmax => .fmax

/-- The bytes an atomic operates on: 4 for FADDF, 8 for FMIN and FMAX (R285). -/
def atomicSize (op : AtomicOp) (wide : Bool) : Nat :=
  match op with
  | .faddf => 4
  | .fmin => 8
  | .fmax => 8
  | _ => if wide then 8 else 4

/-- Whether a load of SRAM finds uncorrectable data: `ecc` says so, or it reads a hyperparameter block that came so. -/
def State.loadBad (s : State) (k : Nat) (v : Inv) (a n : Nat) (ecc : Bool) : Bool :=
  ecc || (s.place k v a n == .hyper && (s.ctx v.ctx).hyperBad)

/-- Body of a scalar load, store or atomic. -/
def State.smemBody (s : State) (b k : Nat) (op : SmemOp) (ecc : Bool) (v : Inv) (w : Nat) : InsnRes :=
  let c := s.core b k
  match op with
  | .load sz sg =>
    let a := (c.sreg (iA w) + iImm w) % 2 ^ 64
    let n := 2 ^ sz.val
    match s.checkAccess k v a n false with
    | .error f => .fault f a
    | .ok (some o) => .done_ (s.coreIssue b k v .read o n [] (.scalar (iD w) n sg)) a
    | .ok none =>
      if s.loadBad k v a n ecc then .fault KF.ECC a
      else .done_ (s.setCore b k (c.loadS (iD w) n sg (s.localBytes b k v a n) (v.marksAt a n))) a
  | .store sz =>
    let a := (c.sreg (iA w) + iImm w) % 2 ^ 64
    let n := 2 ^ sz.val
    let d := leBytes n (c.sreg (iB w))
    match s.checkAccess k v a n true with
    | .error f => .fault f a
    | .ok (some o) => .done_ (s.coreIssue b k v .write o n d .none) a
    | .ok none => .done_ (s.localPutsM b k a d (c.sByteMark (iB w))) a
  | .atomic o wide =>
    let a := c.sreg (iA w)
    let n := atomicSize o wide
    let d := leBytes n (c.sreg (iB w)) ++ (if o = .cas then leBytes n (c.sreg (iC w)) else [])
    match s.checkAccess k v a n true with
    | .error f => .fault f a
    | .ok (some o') => .done_ (s.coreIssue b k v (atomicOp o wide) o' n d (.scalar (iD w) n false)) a
    | .ok none => .fault KF.BOUND a

/-- Whether the byte lanes of a vector lane of `n` bytes are enabled. -/
def laneOn (mask n i : Nat) : Bool := nbit mask (n * i) == 1

/-- The address of lane `i` of a gather or scatter: base in A, byte offsets in vector B. -/
def laneAddr (c : CoreSt) (w n i : Nat) : Nat := (c.sreg (iA w) + laneOf (8 * n) (c.vreg (iB w)) i) % 2 ^ 64

/-- The first enabled lane that faults. -/
def State.laneFault (s : State) (b k : Nat) (v : Inv) (w n mask : Nat) (write : Bool) : Option (Nat × Nat) :=
  (List.range (64 / n)).findSome? fun i =>
    if laneOn mask n i then
      match s.checkAccess k v (laneAddr (s.core b k) w n i) n write with
      | .error f => some (f, laneAddr (s.core b k) w n i)
      | .ok _ => none
    else none

/-- The first enabled lane of a gather that loads uncorrectable data from SRAM. -/
def State.laneBad (s : State) (b k : Nat) (v : Inv) (w n mask : Nat) (ecc : Bool) : Option Nat :=
  ((List.range (64 / n)).map fun i => (i, laneAddr (s.core b k) w n i)).findSome? fun (p : Nat × Nat) =>
    if laneOn mask n p.1 && decide (p.2 < windowBase) && s.loadBad k v p.2 n ecc then some p.2 else none

/-- One lane of a gather. -/
def State.gatherLane (s : State) (b k : Nat) (v : Inv) (d n a i : Nat) : State :=
  match s.checkAccess k v a n false with
  | .ok (some o) => s.coreIssue b k v .read o n [] (.lane d i n)
  | _ =>
    let ms := v.marksAt a n
    s.modCore b k fun c => c.setVM d ((2 ^ n - 1) * 2 ^ (n * i)) (leNat (s.localBytes b k v a n) * 2 ^ (8 * n * i))
      (marksOf 0 (n * i) ms) (marksOf 1 (n * i) ms)

/-- One lane of a scatter; bytes that stay in SRAM go with their marks. -/
def State.scatterLane (s : State) (b k : Nat) (v : Inv) (a : Nat) (d : List Byte) (m : Nat → Nat) : State :=
  match s.checkAccess k v a d.length true with
  | .ok (some o) => s.coreIssue b k v .write o d.length d .none
  | _ => s.localPutsM b k a d m

/-- A gather or scatter whose lanes are all allowed. -/
def State.lanes (s : State) (b k : Nat) (v : Inv) (w n mask : Nat) (write : Bool) : State :=
  let c := s.core b k
  ((List.range (64 / n)).filter fun i => laneOn mask n i).foldl (fun t i =>
    if write then t.scatterLane b k v (laneAddr c w n i) (leBytes n (laneOf (8 * n) (c.vreg (iD w)) i)) (fun j => c.byteMark (iD w) (n * i + j))
    else t.gatherLane b k v (iD w) n (laneAddr c w n i) i) s

/-- A masked store of register `r`, byte by enabled byte, with its marks. -/
def State.storeBytes (s : State) (b k : Nat) (v : Inv) (a mask r : Nat) (o : Option Nat) : State :=
  let c := s.core b k
  let d := leBytes 64 (c.vreg r)
  ((List.range 64).filter fun i => nbit mask i == 1).foldl (fun t i =>
    match o with
    | some x => t.coreIssue b k v .write (x + i) 1 (slice d i 1) .none
    | none => t.localPutM b k (a + i) (d.getD i 0#8) (c.byteMark r i)) s

/-- A 64-byte store of register `r`: one request where every byte is enabled. -/
def State.storeVec (s : State) (b k : Nat) (v : Inv) (a mask r : Nat) (o : Option Nat) : State :=
  match o with
  | some x =>
    if mask = 2 ^ 64 - 1 then s.coreIssue b k v .write x 64 (leBytes 64 ((s.core b k).vreg r)) .none
    else s.storeBytes b k v a mask r o
  | none => s.storeBytes b k v a mask r o

/-- A 64-byte memory-side add of register `r` in format `f` (R284): one request where every lane is enabled, else one for
each enabled element (R236). -/
def State.addVec (s : State) (b k : Nat) (v : Inv) (a mask r f : Nat) : State :=
  let d := leBytes 64 ((s.core b k).vreg r)
  let n := (fmtOf f).bits / 8
  let on := (List.range (64 / n)).filter (laneOn mask n)
  if on.length = 64 / n then s.coreIssue b k v (.add f) a 64 d .none
  else on.foldl (fun t i => t.coreIssue b k v (.add f) (a + n * i) n (slice d (n * i) n) .none) s

/-- Body of a vector memory instruction.  Memory-side adds reach stacked memory only (R232). -/
def State.vmemBody (s : State) (b k : Nat) (op : VmemOp) (ecc : Bool) (v : Inv) (w : Nat) : InsnRes :=
  let c := s.core b k
  let mask := c.laneMask (iMask w)
  let a := (c.sreg (iA w) + iImm w) % 2 ^ 64
  match op with
  | .load =>
    match s.checkAccess k v a 64 false with
    | .error f => .fault f a
    | .ok (some o) => .done_ (s.coreIssue b k v .read o 64 [] (.vector (iD w) mask)) a
    | .ok none =>
      if s.loadBad k v a 64 ecc then .fault KF.ECC a
      else .done_ (s.setCore b k (c.setVM (iD w) mask (leNat (s.localBytes b k v a 64))
        (marksOf 0 0 (v.marksAt a 64)) (marksOf 1 0 (v.marksAt a 64)))) a
  | .store =>
    match s.checkAccess k v a 64 true with
    | .error f => .fault f a
    | .ok o => .done_ (s.storeVec b k v a mask (iD w) o) a
  | .gather wide =>
    let n := if wide then 8 else 4
    match s.laneFault b k v w n mask false with
    | some (f, x) => .fault f x
    | none =>
      match s.laneBad b k v w n mask ecc with
      | some x => .fault KF.ECC x
      | none => .done_ (s.lanes b k v w n mask false) (c.sreg (iA w))
  | .scatter wide =>
    let n := if wide then 8 else 4
    match s.laneFault b k v w n mask true with
    | some (f, x) => .fault f x
    | none => .done_ (s.lanes b k v w n mask true) (c.sreg (iA w))
  | .add f =>
    if !([0x0, 0x2, 0x5, 0x6].contains f.val) then .fault KF.ILLEGAL a
    else
      match s.checkAccess k v a 64 true with
      | .error x => .fault x a
      | .ok (some o) => .done_ (s.addVec b k v o mask (iD w) f.val) a
      | .ok none => .fault KF.BOUND a

/-! ### VFP (IEEE 754 binary32, R237) -/

/-- The whole square root of `n`, bit by bit from bit `k`. -/
def isqrtFrom (n : Nat) : Nat → Nat → Nat
  | 0, r => r
  | k + 1, r => isqrtFrom n k (if (r + 2 ^ k) * (r + 2 ^ k) ≤ n then r + 2 ^ k else r)

/-- The whole square root. -/
def isqrt (n : Nat) : Nat := isqrtFrom n (Nat.log2 n / 2 + 1) 0

/-- A value between whose neighbours in binary32 lies the square root, exact where the root is: enough for one
rounding. -/
def Num.sqrt : Num → Num
  | .nan => .nan
  | .inf neg => if neg then .nan else .inf false
  | .fin neg n d =>
    if n = 0 then .fin neg 0 1
    else if neg then .nan
    else
      let m := n * d * 2 ^ 256
      let q := isqrt m
      .fin false (2 * q + (if q * q = m then 0 else 1)) (2 * d * 2 ^ 128)

/-- The value of a binary32 code, and one operation with one rounding. -/
def f32 (c : Nat) : Num := Fmt.fp32.decode c
def fAdd (a b : Nat) : Nat := Fmt.fp32.rne ((f32 a).add (f32 b))
def fNeg (a : Nat) : Nat := a ^^^ 0x80000000
def fSub (a b : Nat) : Nat := Fmt.fp32.rne ((f32 a).add (f32 b).neg)
def fMul (a b : Nat) : Nat := Fmt.fp32.rne ((f32 a).mul (f32 b))
def fDiv (a b : Nat) : Nat := Fmt.fp32.rne ((f32 a).div (f32 b))
def fFma (a b c : Nat) : Nat := Fmt.fp32.rne (((f32 a).mul (f32 b)).add (f32 c))
def fSqrt (a : Nat) : Nat := Fmt.fp32.rne (f32 a).sqrt
def fMin (a b : Nat) : Nat := Fmt.fp32.rne (Num.extreme false (f32 a) (f32 b))
def fMax (a b : Nat) : Nat := Fmt.fp32.rne (Num.extreme true (f32 a) (f32 b))

/-- IEEE 754 comparison: zeros are equal, a NaN is unordered. -/
def isZero : Num → Bool
  | .fin _ n _ => n == 0
  | _ => false
def fLt (a b : Nat) : Bool :=
  let x := f32 a
  let y := f32 b
  x != .nan && y != .nan && !(isZero x && isZero y) && x.lt y
def fEq (a b : Nat) : Bool :=
  let x := f32 a
  let y := f32 b
  x != .nan && y != .nan && ((isZero x && isZero y) || (!x.lt y && !y.lt x))

/-- A lane of an arithmetic instruction. -/
def vfpLane (op : VfpOp) (a b c : Nat) : Nat :=
  match op with
  | .add => fAdd a b
  | .sub => fSub a b
  | .mul => fMul a b
  | .fma => fFma a b c
  | .min => fMin a b
  | .max => fMax a b
  | .sqrt => fSqrt a
  | .div => fDiv a b
  | .eq => if fEq a b then 1 else 0
  | .lt => if fLt a b then 1 else 0
  | .le => if fLt a b || fEq a b then 1 else 0

/-- Whether an operation compares: its result goes to a mask register, four bits a lane. -/
def vfpCompares : VfpOp → Bool
  | .eq => true
  | .lt => true
  | .le => true
  | _ => false

/-- Lane results of a compare as a mask: a lane's byte bits all say its result; disabled lanes keep theirs. -/
def laneBits (n mask old : Nat) (l : List Nat) : Nat :=
  (List.range 64).foldl (fun m i =>
    m + (if nbit mask i = 1 then (if l.getD (i / n) 0 = 0 then 0 else 2 ^ i) else nbit old i * 2 ^ i)) 0

/-- Body of a VFP instruction. -/
def State.vfpBody (s : State) (b k : Nat) (op : VfpOp) (w : Nat) : InsnRes :=
  let c := s.core b k
  let mask := c.laneMask (iMask w)
  let l := (List.range 16).map fun i =>
    vfpLane op (laneOf 32 (c.vreg (iA w)) i) (laneOf 32 (c.vreg (iB w)) i) (laneOf 32 (c.vreg (iC w)) i)
  .done_ (s.setCore b k (if vfpCompares op then c.setK (iD w % 8) (laneBits 4 mask (c.kreg (iD w % 8)) l)
    else c.setV (iD w) mask (ofLanes 32 l))) 0

/-! ### VINT -/

/-- A lane of `w` bits; `free` is a shift by the width or more. -/
def vintLane (op : VintBin) (w a b free : Nat) : Nat :=
  let sa := toSigned w a
  let sb := toSigned w b
  let bool (x : Bool) : Nat := if x then 1 else 0
  match op with
  | .add => (a + b) % 2 ^ w
  | .sub => ofSigned w (sa - sb)
  | .mul => a * b % 2 ^ w
  | .and_ => a &&& b
  | .or_ => a ||| b
  | .xor_ => a ^^^ b
  | .shl => if b < w then a * 2 ^ b % 2 ^ w else free
  | .shr => if b < w then a / 2 ^ b else free
  | .sar => if b < w then ofSigned w (sa / (2 ^ b : Nat)) else free
  | .min => if sa ≤ sb then a else b
  | .max => if sa ≤ sb then b else a
  | .minu => min a b
  | .maxu => max a b
  | .eq => bool (a == b)
  | .lt => bool (decide (sa < sb))
  | .ltu => bool (decide (a < b))

/-- Whether an operation compares. -/
def vintCompares : VintBin → Bool
  | .eq => true
  | .lt => true
  | .ltu => true
  | _ => false

/-- Body of a VINT instruction. -/
def State.vintBody (s : State) (b k : Nat) (op : VintOp) (w : Nat) : InsnRes :=
  let c := s.core b k
  let n := 2 ^ op.lane.val
  let bits := 8 * n
  let mask := c.laneMask (iMask w)
  let l := (List.range (64 / n)).map fun i =>
    vintLane op.op bits (laneOf bits (c.vreg (iA w)) i) (laneOf bits (c.vreg (iB w)) i) (Config.freeBits s.freeCtr i).toNat
  .done_ (s.freshFree.setCore b k (if vintCompares op.op then c.setK (iD w % 8) (laneBits n mask (c.kreg (iD w % 8)) l)
    else c.setV (iD w) mask (ofLanes bits l))) 0

/-! ### VPERM -/

/-- A horizontal reduction over 16 lanes: neighbouring pairs in four rounds. -/
def pairRound (f : Nat → Nat → Nat) : List Nat → List Nat
  | a :: b :: rest => f a b :: pairRound f rest
  | l => l

/-- The four rounds. -/
def horizontal (f : Nat → Nat → Nat) (l : List Nat) : Nat :=
  (pairRound f (pairRound f (pairRound f (pairRound f l)))).getD 0 0

/-- Body of a VPERM instruction: broadcast of scalar A; lanes of A chosen by the indices in B; lane EXT of A to a
scalar; scalar A into lane EXT of D; horizontal add and minimum into lane 0 of D. -/
def State.vpermBody (s : State) (b k : Nat) (op : VpermOp) (w : Nat) : InsnRes :=
  let c := s.core b k
  let mask := c.laneMask (iMask w)
  let a := (List.range 16).map fun i => laneOf 32 (c.vreg (iA w)) i
  let lane := iExt w % 16
  let one (i x sat nan : Nat) : CoreSt :=
    c.setVM (iD w) (mask &&& (15 * 2 ^ (4 * i))) (x * 2 ^ (32 * i)) (sat * 2 ^ (8 * i)) (nan * 2 ^ (8 * i))
  let m32 (kind : Nat) : Nat := c.sMark (iA w) kind % 256
  .done_ (s.setCore b k (match op with
    | .broadcast =>
      c.setVM (iD w) mask (ofLanes 32 (List.replicate 16 (c.sreg (iA w) % 2 ^ 32)))
        (ofLanes 8 (List.replicate 16 (m32 0))) (ofLanes 8 (List.replicate 16 (m32 1)))
    | .permute =>
      let ix := (List.range 16).map fun i => laneOf 32 (c.vreg (iB w)) i % 16
      let m (kind : Nat) : Nat := ofLanes 8 (ix.map fun i => laneOf 8 (c.mark (iA w) kind) i)
      c.setVM (iD w) mask (ofLanes 32 (ix.map fun i => a.getD i 0)) (m 0) (m 1)
    | .extract => c.setSM (iD w) (a.getD lane 0) (laneOf 8 (c.mark (iA w) 0) lane) (laneOf 8 (c.mark (iA w) 1) lane)
    | .insert => one lane (c.sreg (iA w) % 2 ^ 32) (m32 0) (m32 1)
    | .hadd => one 0 (horizontal fAdd a) 0 0
    | .hmin => one 0 (horizontal fMin a) 0 0)) 0

/-! ### VCVT (R239 to R242) -/

/-- Bits of an element in a register. -/
def cvtBits (fmt : Nat) : Nat := (fmtOf fmt).bits

/-- Elements that one convert instruction converts. -/
def cvtCount (sf df : Nat) : Nat :=
  if isBlock sf || isBlock df then 16 else 512 / max (cvtBits sf) (cvtBits df)

/-- Whether a side uses portion BLK: the narrower side, and a BS side, whose portion is one block (R240, R241).
DEDUCED: of two sides of one width both do. -/
def cvtUsesBlk (f other : Nat) : Bool := isBlock f || decide (cvtBits f ≤ cvtBits other)

/-- Portions of the registers that use BLK. -/
def cvtPortions (sf df : Nat) : Nat :=
  let n (f other : Nat) : Nat := if cvtUsesBlk f other then 512 / cvtBits f / cvtCount sf df else 512
  min (n sf df) (n df sf)

/-- The portion that a side uses. -/
def cvtPortion (f other blk : Nat) : Nat := if cvtUsesBlk f other then blk else 0

/-- The draw of R242. -/
def cvtDraw (seed key pos i : Nat) : Nat := crc32c (seed % 2 ^ 32) (beBytes 8 key ++ beBytes 8 ((pos + i) % 2 ^ 64)) % 2 ^ 24

/-- The exact source values. -/
def CoreSt.cvtSource (c : CoreSt) (w sf df blk : Nat) : List Num :=
  let n := cvtCount sf df
  let base := cvtPortion sf df blk * n
  let sc := c.sreg (iB w) / 2 ^ (8 * blk) % 256
  (List.range n).map fun i =>
    let x := (fmtOf sf).decode (laneOf (cvtBits sf) (c.vreg (iA w)) (base + i))
    if isBlock sf then (if sc = 0xff then .nan else x.mul (scaleVal sc)) else x

/-- Byte lanes of a portion. -/
def cvtMask (df other blk n : Nat) : Nat :=
  let lo := cvtPortion df other blk * n * cvtBits df / 8
  (2 ^ (n * cvtBits df / 8) - 1) * 2 ^ lo

/-- Marks of a portion that begins at four-bit place `lo`: the places of the elements that `is` selects. -/
def cvtMarks (df lo : Nat) (rs : List Rounded) (is : Rounded → Bool) : Nat :=
  let w := cvtBits df / 4
  (rs.zipIdx).foldl (fun m (x : Rounded × Nat) => if is x.1 then m + (2 ^ w - 1) * 2 ^ (lo + x.2 * w) else m) 0

/-- Write converted codes with their marks, and a block's scale into byte BLK of scalar B. -/
def CoreSt.cvtWrite (c : CoreSt) (w sf df blk : Nat) (xs : List Num) (sr : Bool) (draw : Nat → Nat) (ovf : Bool) :
    CoreSt × List (Rounded × Nat) :=
  let n := cvtCount sf df
  let mask := cvtMask df sf blk n &&& c.laneMask (iMask w)
  let sh := cvtPortion df sf blk * n * cvtBits df
  if isBlock df then
    let r := encodeBlock df xs sr draw ovf 0
    let codes := r.2.1.map Rounded.code
    let c1 := c.setVM (iD w) mask (ofLanes (cvtBits df) codes * 2 ^ sh)
      (cvtMarks df (sh / 4) r.2.1 Rounded.sat) (cvtMarks df (sh / 4) r.2.1 Rounded.nan)
    let old := c.sreg (iB w)
    let cur := old / 2 ^ (8 * blk) % 256
    (c1.setS (iB w) (old - cur * 2 ^ (8 * blk) + r.2.2 * 2 ^ (8 * blk)), r.2.1.map fun x => (x, r.2.2))
  else
    let rs := (xs.zipIdx).map fun (x : Num × Nat) => (fmtOf df).encode x.1 sr (draw x.2) ovf
    (c.setVM (iD w) mask (ofLanes (cvtBits df) (rs.map Rounded.code) * 2 ^ sh)
      (cvtMarks df (sh / 4) rs Rounded.sat) (cvtMarks df (sh / 4) rs Rounded.nan), rs.map fun x => (x, 0x80))

/-- Body of a convert instruction. -/
def State.vcvtBody (s : State) (b k : Nat) (w : Nat) : InsnRes :=
  let c := s.core b k
  let e := iExt w
  let sf := nfield e 31 28
  let df := nfield e 27 24
  let blk := nfield e 21 19
  if nfield e 3 0 ≠ 0 ∨ 0xa < sf ∨ 0xa < df then .fault KF.ILLEGAL 0
  else if sf = df then
    .done_ (s.setCore b k (c.setVM (iD w) (c.laneMask (iMask w)) (c.vreg (iA w)) (c.mark (iA w) 0) (c.mark (iA w) 1))) 0
  else if cvtPortions sf df ≤ blk then .fault KF.ILLEGAL 0
  else
    let sr := nbit e 23 == 1
    let draw := cvtDraw (c.sreg (nfield e 18 14)) (c.sreg (nfield e 13 9)) (c.sreg (nfield e 8 4))
    let r := c.cvtWrite w sf df blk (c.cvtSource w sf df blk) sr draw (nbit e 22 == 1)
    .done_ ((s.setCore b k r.1).countSr b r.2) 0

/-! ### SYNC (R238) -/

/-- Body of a SYNC instruction: fence and wait end once no access is outstanding. -/
def State.syncBody (s : State) (b k : Nat) (op : SyncOp) : InsnRes :=
  match op with
  | .barrier => .done_ ((s.modCore b k fun c => { c with atBarrier := true }).openBarrier b) 0
  | _ => if (s.core b k).pend.isEmpty then .done_ s 0 else .wait s

/-! ### DMA (R286, R287) -/

/-- A descriptor's fields. -/
def descOf (d : List Byte) : Desc :=
  ⟨leNat (slice d 0 8), leNat (slice d 8 8), leNat (slice d 16 2), leNat (slice d 18 2), leNat (slice d 20 4),
    leNat (slice d 24 4), leNat (slice d 28 1), leNat (slice d 29 1)⟩

/-- Whether the fields are ones that R286 gives. -/
def Desc.legal (d : Desc) (raw : List Byte) : Bool :=
  slice raw 30 2 == [0#8, 0#8] && decide (1 ≤ d.rows) && decide (d.rows ≤ 4096) && decide (1 ≤ d.cols) && decide (d.cols ≤ 4096)
  && decide (d.op ≤ 2) && (if d.op = 2 then [0x0, 0x2, 0x5, 0x6].contains d.esize else decide (d.esize ≤ 3))

/-- START's check of a whole descriptor. -/
def State.descFault (s : State) (k : Nat) (v : Inv) (d : Desc) (raw : List Byte) : Option Nat :=
  if !d.legal raw then some KF.ILLEGAL
  else if d.src % d.esz ≠ 0 ∨ d.dst % d.esz ≠ 0 ∨ d.sstride % d.esz ≠ 0 ∨ d.dstride % d.esz ≠ 0 then some KF.ALIGN
  else
    d.moves.findSome? fun (m : Nat × Nat × Nat) =>
      match s.accessFault k v m.1 m.2.2 false with
      | some f => some f
      | none =>
        match s.accessFault k v m.2.1 m.2.2 true with
        | some f => some f
        | none => if d.op = 2 ∧ m.2.1 < windowBase then some KF.WINDOW else none

/-- The bytes of the descriptor that a START names: at once from SRAM; from stacked memory once every piece of it has
come, and before that the state in which they are asked for. -/
def State.descBytes (s : State) (b k : Nat) (v : Inv) (a : Nat) : Except State (List Byte) :=
  match s.physOf v a with
  | none => .ok (s.localBytes b k v a 32)
  | some x =>
    let c := s.core b k
    let ps := pieces x 32
    if c.pend.any fun p => match p.pend with
      | .desc _ => true
      | _ => false
    then .error s
    else if c.desc.isEmpty then
      .error ((ps.zipIdx).foldl (fun t (p : (Nat × Nat) × Nat) =>
        t.coreIssue b k v .read (a - windowBase + p.1.1) p.1.2 [] (.desc p.2)) s)
    else .ok ((List.range ps.length).map fun i => SMap.get (fun _ => []) c.desc i).flatten

/-- START: the descriptor at A is read from the invocation's address space and checked whole, then queued; while the
queue is full it waits. -/
def State.dmaStart (s : State) (b k : Nat) (v : Inv) (w : Nat) : InsnRes :=
  let c := s.core b k
  let a := c.sreg (iA w)
  match s.accessFault k v a 32 false with
  | some f => .fault f a
  | none =>
    match s.descBytes b k v a with
    | .error t => .wait t
    | .ok raw =>
      let d := descOf raw
      match s.descFault k v d raw with
      | some f => .fault f a
      | none =>
        let q := s.dma b
        if 16 ≤ q.q.length then .wait s
        else
          let t := s.setDma b { q with q := q.q ++ [{ ticket := q.next, core := k, desc := d }], next := q.next + 1 }
          .done_ ((t.setCore b k { c.setS (iD w) q.next with desc := [] }).dmaBegin b) a

/-- The status of a ticket: 0 pending, 1 done, 2 faulted. -/
def State.ticket (s : State) (b t : Nat) : Nat := SMap.get (fun _ => 0) (s.dma b).status t

/-- POLL. -/
def State.dmaPoll (s : State) (b k : Nat) (w : Nat) : InsnRes :=
  let c := s.core b k
  .done_ (s.setCore b k (c.setS (iD w) (s.ticket b (c.sreg (iA w))))) 0

/-- WAIT: until the ticket is done; ECC where its descriptor faulted. -/
def State.dmaWait (s : State) (b k : Nat) (w : Nat) : InsnRes :=
  match s.ticket b ((s.core b k).sreg (iA w)) with
  | 0 => .wait s
  | 1 => .done_ s 0
  | _ => .fault KF.ECC 0

/-- A DMA instruction whose OP is `op`; other OPs of the class are reserved. -/
def State.dmaInsn (s : State) (b k op : Nat) (body : Inv → Nat → InsnRes) : State :=
  match (s.core b k).inv.bind fun v => if v.kernel < 0x100 then none else s.fetch b k with
  | none => s.execInsn b k 0x9 true body
  | some w => if iOp w = op ∨ iClass w ≠ 0x9 then s.execInsn b k 0x9 true body else if iOp w ≤ 2 then s else s.execInsn b k 0x9 false body

/-! ### The commands -/

def execInsnSalu (b : BasinIx) (k : CoreIx) (op : Option SaluOp) (s : State) : Out :=
  finish s (s.execInsn b k 0x0 op.isSome fun _ w => s.saluBody b k (op.getD .movi) w)
def execInsnSbr (b : BasinIx) (k : CoreIx) (op : Option SbrOp) (s : State) : Out :=
  finish s (s.execInsn b k 0x1 op.isSome fun _ w => s.sbrBody b k (op.getD .jump) w)
def execInsnSmem (b : BasinIx) (k : CoreIx) (op : Option SmemOp) (ecc : Bool) (s : State) : Out :=
  finish s (s.execInsn b k 0x2 op.isSome fun v w => s.smemBody b k (op.getD (.load 0 false)) ecc v w)
def execInsnVfp (b : BasinIx) (k : CoreIx) (op : Option VfpOp) (s : State) : Out :=
  finish s (s.execInsn b k 0x3 op.isSome fun _ w => s.vfpBody b k (op.getD .add) w)
def execInsnVint (b : BasinIx) (k : CoreIx) (op : Option VintOp) (s : State) : Out :=
  finish s (s.execInsn b k 0x4 op.isSome fun _ w => s.vintBody b k (op.getD ⟨.add, 0⟩) w)
def execInsnVmem (b : BasinIx) (k : CoreIx) (op : Option VmemOp) (ecc : Bool) (s : State) : Out :=
  finish s (s.execInsn b k 0x5 op.isSome fun v w => s.vmemBody b k (op.getD .load) ecc v w)
def execInsnVcvt (b : BasinIx) (k : CoreIx) (s : State) : Out :=
  finish s (s.execInsn b k 0x6 true fun _ w => s.vcvtBody b k w)
def execInsnVperm (b : BasinIx) (k : CoreIx) (op : Option VpermOp) (s : State) : Out :=
  finish s (s.execInsn b k 0x7 op.isSome fun _ w => s.vpermBody b k (op.getD .hadd) w)
def execInsnSync (b : BasinIx) (k : CoreIx) (op : Option SyncOp) (s : State) : Out :=
  finish s (s.execInsn b k 0xa op.isSome fun _ _ => s.syncBody b k (op.getD .wait))
def execInsnVxa (b : BasinIx) (k : CoreIx) (s : State) : Out := finish s (s.firmwareOnly b k 0x10)
def execInsnSys (b : BasinIx) (k : CoreIx) (s : State) : Out := finish s (s.firmwareOnly b k 0x11)
def execDmaStart (b : BasinIx) (k : CoreIx) (s : State) : Out :=
  finish s (s.dmaInsn b k 0 fun v w => s.dmaStart b k v w)
def execDmaPoll (b : BasinIx) (k : CoreIx) (s : State) : Out :=
  finish s (s.dmaInsn b k 1 fun _ w => s.dmaPoll b k w)
def execDmaWait (b : BasinIx) (k : CoreIx) (s : State) : Out :=
  finish s (s.dmaInsn b k 2 fun _ w => s.dmaWait b k w)
def execDmaDone (b : BasinIx) (ecc : Bool) (s : State) : Out := finish s (s.dmaDone b ecc)

end Sys2Proof.Machine
end

