-- ==== Sys2Proof/Machine/Arrays.lean ====
section
/-! DEFINITION. The matrix arrays (R243 to R251): operations, self-test and retirement. -/

namespace Sys2Proof.Machine

/-! ### Shapes (R243, R244) -/

/-- Whether the array takes a format. -/
def mtxFormat (fmt : Nat) : Bool := [0x7, 0x3, 0x8, 0x2, 0x1].contains fmt

/-- T_k, and T_m = T_n. -/
def tileK (fmt : Nat) : Nat := if fmt = 0x8 then 128 else if fmt = 0x7 ∨ fmt = 0x3 then 64 else 32
def tileM (fmt : Nat) : Nat := if fmt = 0x2 ∨ fmt = 0x1 then 32 else 64

/-- Values of k that an OS step carries for each position, and steps of a fill. -/
def stepK (fmt : Nat) : Nat := if fmt = 0x8 then 2 else 1
def fillSteps (fmt : Nat) : Nat := tileK fmt / stepK fmt

/-- Bytes of `n` elements. -/
def rowBytes (fmt n : Nat) : Nat := n * (fmtOf fmt).bits / 8

/-- Rows and row elements of a stationary tile; none in OS. -/
def tileShape (fmt choice : Nat) : Nat × Nat :=
  if choice = 0 then (tileK fmt, tileM fmt) else if choice = 1 then (tileM fmt, tileK fmt) else (0, 0)

/-- Elements of a streamed row. -/
def streamLen (fmt choice : Nat) : Nat := if choice = 2 then tileM fmt * stepK fmt else tileK fmt

/-! ### Arithmetic (R245) -/

/-- One more product into a sum: INT8 wraps in INT32, others round to binary32. -/
def mtxAdd (fmt : Nat) (sum x : Num) : Num :=
  if fmt = 0x3 then
    match sum, x with
    | .fin s n d, .fin t m e => let i := toSigned 32 (ofSigned 32 (sgn s n * e + sgn t m * d)); .fin (decide (i < 0)) i.natAbs 1
    | _, _ => .nan
  else f32 (Fmt.fp32.rne (sum.add x))

/-- The accumulator code of a value, and the value of a code. -/
def mtxCode (fmt : Nat) (x : Num) : Nat := if fmt = 0x3 then (Fmt.int 32).rne x else Fmt.fp32.rne x
def mtxVal (fmt c : Nat) : Num := if fmt = 0x3 then (Fmt.int 32).decode c else f32 c

/-- A sum of exact products in ascending k. -/
def mtxSum (fmt : Nat) (xs ys : List Nat) : Num :=
  let f := fmtOf fmt
  match (xs.zip ys).map fun (p : Nat × Nat) => (f.decode p.1).mul (f.decode p.2) with
  | [] => .fin false 0 1
  | p :: rest => rest.foldl (mtxAdd fmt) p

/-- One row of C (WS) or of Cᵀ (IS) from a streamed row. -/
def mtxRow (fmt choice : Nat) (tile : List (List Nat)) (row : List Nat) : List Nat :=
  if choice = 0 then (List.range (tileM fmt)).map fun j => mtxCode fmt (mtxSum fmt row (tile.map fun r => r.getD j 0))
  else tile.map fun r => mtxCode fmt (mtxSum fmt r row)

/-- One OS step into the accumulators. -/
def mtxStep (fmt : Nat) (acc : List (List Nat)) (ra rb : List Nat) : List (List Nat) :=
  let f := fmtOf fmt
  let q := stepK fmt
  (acc.zipIdx).map fun (r : List Nat × Nat) =>
    (r.1.zipIdx).map fun (c : Nat × Nat) =>
      mtxCode fmt ((List.range q).foldl (fun sum t =>
        mtxAdd fmt sum ((f.decode (ra.getD (r.2 * q + t) 0)).mul (f.decode (rb.getD (c.2 * q + t) 0)))) (mtxVal fmt c.1))

/-- The value already in the destination is added last. -/
def mtxInto (fmt : Nat) (row : List Nat) (old : List Byte) : List Nat :=
  (row.zipIdx).map fun (x : Nat × Nat) => mtxCode fmt (mtxAdd fmt (mtxVal fmt x.1) (mtxVal fmt (leNat (slice old (4 * x.2) 4))))

/-! ### Rows in the invocation's grants -/

/-- Codes of `n` elements from a local address. -/
def State.rowCodes (s : State) (b k : Nat) (v : Inv) (fmt a n : Nat) : List Nat :=
  let d := s.localBytes b k v a (rowBytes fmt n)
  (List.range n).map fun i => elemCode fmt d i

/-- Write an output row, added into the destination where ACC is set. -/
def State.putRow (s : State) (b k : Nat) (v : Inv) (fmt a : Nat) (acc : Bool) (row : List Nat) : State :=
  let r := if acc then mtxInto fmt row (s.localBytes b k v a (4 * row.length)) else row
  s.localPuts b k a (r.flatMap fun c => leBytes 4 c)

/-- The invocation of a core, with what it has written so far. -/
def State.invOf (s : State) (b k : Nat) (v : Inv) : Inv := ((s.core b k).inv).getD v

/-- Load the stationary tile, or clear the accumulators. -/
def State.mtxLoad (s : State) (b k : Nat) (v : Inv) (j : MtxJob) : State :=
  let sh := tileShape j.fmt j.choice
  let a := s.array b
  let zero := List.replicate (tileM j.fmt) (List.replicate (tileM j.fmt) 0)
  s.setArray b { a with
    fmt := j.fmt, choice := j.choice
    tile := (List.range sh.1).map fun i => s.rowCodes b k v j.fmt (j.tile + i * j.tileStride) sh.2
    acc := if j.choice = 2 then zero else [] }

/-- Stream one row or step. -/
def State.mtxStreamOne (s : State) (b k : Nat) (v : Inv) (j : MtxJob) (i : Nat) : State :=
  let a := s.array b
  let w := s.invOf b k v
  let ra := s.rowCodes b k w a.fmt (j.a + i * j.aStride) (streamLen a.fmt a.choice)
  if a.choice = 2 then
    let rb := s.rowCodes b k w a.fmt (j.b + i * j.bStride) (streamLen a.fmt a.choice)
    s.setArray b { a with acc := mtxStep a.fmt a.acc ra rb }
  else s.putRow b k w a.fmt (j.dst + i * j.dstStride) j.acc (mtxRow a.fmt a.choice a.tile ra)

/-- Stream `n` rows or steps, each counted. -/
def State.mtxStream (s : State) (b k : Nat) (v : Inv) (j : MtxJob) (n : Nat) : State :=
  ((List.range n).foldl (fun t i => t.mtxStreamOne b k v j i) s).countBasin b Ev.BSN_MTX_ROWS n

/-- Drain the accumulators. -/
def State.mtxDrain (s : State) (b k : Nat) (v : Inv) (j : MtxJob) : State :=
  let a := s.array b
  (a.acc.zipIdx).foldl (fun t (r : List Nat × Nat) =>
    t.putRow b k (t.invOf b k v) a.fmt (j.dst + r.2 * j.dstStride) j.acc r.1) s

/-- Rows that one fill streams. -/
def fillCount (fmt choice : Nat) : Nat := if choice = 2 then fillSteps fmt else tileM fmt

/-- What an operation does. -/
def State.mtxRun (s : State) (b k : Nat) (v : Inv) (j : MtxJob) : State :=
  match j.kind with
  | 0 => s.mtxLoad b k v j
  | 1 => s.mtxStream b k v j j.count
  | 2 => s.mtxDrain b k v j
  | _ =>
    let s1 := (s.mtxLoad b k v j).mtxStream b k v j (fillCount j.fmt j.choice)
    if j.choice = 2 then s1.mtxDrain b k (s1.invOf b k v) j else s1

/-- MATRIX_DONE: the operation in progress ends; `fault` says that the array found uncorrectable data, so that
it wrote nothing. MFILL releases the array. While the clock changes the array stands after its row (R268). -/
def State.matrixDone (s : State) (b : Nat) (fault : Bool) : State :=
  let a := s.array b
  if s.clkHeld b then s
  else
  match a.job, a.owner with
  | some j, some k =>
    match (s.core b k).inv with
    | none => s.setArray b { a with job := none }
    | some v =>
      let s1 := if fault then s else s.mtxRun b k v j
      let a1 := s1.array b
      s1.setArray b { a1 with job := none, faulted := fault, owner := if j.kind = 3 then none else a1.owner }
  | _, _ => s

/-! ### Issue of matrix instructions (R246) -/

/-- The array's state code (R248). -/
def State.arrayState (s : State) (b : Nat) : Nat := s.get (F.BASIN_STATE_ARRAY b)

/-- The job that registers name. -/
def mtxJob (c : CoreSt) (kind fmt choice : Nat) (acc : Bool) (r : MtxRegs) : MtxJob :=
  ⟨kind, fmt, choice, c.sreg r.tile, c.sreg r.tileStride, c.sreg r.a, c.sreg r.aStride, c.sreg r.b, c.sreg r.bStride,
    c.sreg r.dst, c.sreg r.dstStride, c.sreg r.count, acc⟩

/-- Rows that a job touches: count, address, stride, bytes, write. -/
def mtxSpans (j : MtxJob) (fmt choice : Nat) : List (Nat × Nat × Nat × Nat × Bool) :=
  let sh := tileShape fmt choice
  let load := if j.kind = 0 ∨ j.kind = 3 then [(sh.1, j.tile, j.tileStride, rowBytes fmt sh.2, false)] else []
  let n := if j.kind = 1 then j.count else if j.kind = 3 then fillCount fmt choice else 0
  let sl := rowBytes fmt (streamLen fmt choice)
  let out := if choice = 2 then (if j.kind = 2 ∨ j.kind = 3 then tileM fmt else 0) else n
  load ++ [(n, j.a, j.aStride, sl, false), (if choice = 2 then n else 0, j.b, j.bStride, sl, false),
    (out, j.dst, j.dstStride, 4 * tileM fmt, true)]

/-- Why a span faults: strides are multiples of 64; every row lies in a grant in shared SRAM, which is what the
array's port reaches (R247). The first and the last row judge a span whose rows rise by its stride, each row in
between where its grant is another. -/
def State.spanFault (s : State) (k : Nat) (v : Inv) (p : Nat × Nat × Nat × Nat × Bool) : Option (Nat × Nat) :=
  let n := p.1
  let a := p.2.1
  let st := p.2.2.1
  let len := p.2.2.2.1
  if n = 0 then none
  else if st % 64 ≠ 0 then some (KF.ALIGN, a)
  else
    -- rows beyond the address space of shared SRAM fault at the first of them
    (List.range (min n 0x40000)).findSome? fun i =>
      let x := a + i * st
      match s.place k v x len with
      | .window _ => some (KF.BOUND, x)
      | .priv => some (KF.BOUND, x)
      | _ => (s.accessFault k v x len p.2.2.2.2).map fun f => (f, x)

/-- Issue an operation on the array: it waits while one is in progress.  An MDRAIN on an array not loaded OS, a count
outside its range and a format the array does not take fault ILLEGAL (the model's choice, log entry 193). -/
def State.mtxIssue (s : State) (b k : Nat) (v : Inv) (j : MtxJob) (take testing : Bool) : InsnRes :=
  let a := s.array b
  let st := s.arrayState b
  let own : Bool := a.owner == some k || (take && a.owner == none)
  if !own ∨ !(st == 3 || (testing && st == 2)) then .fault KF.ARRAY 0
  else if a.job.isSome then .wait s
  else
    let fmt := if take then j.fmt else a.fmt
    let choice := if take then j.choice else a.choice
    if (take ∧ !mtxFormat j.fmt) ∨ (j.kind = 2 ∧ choice ≠ 2) ∨ (j.kind = 1 ∧ (j.count = 0 ∨ 2 ^ 40 ≤ j.count)) then .fault KF.ILLEGAL 0
    else
      match (mtxSpans j fmt choice).findSome? (s.spanFault k v) with
      | some (f, x) => .fault f x
      | none => .done_ (s.setArray b { a with owner := some k, job := some j, faulted := false }) 0

/-- MWAIT: until the array has finished; the status to D.  A core that waits since it owned the array still gets the
status where the operation, an MFILL, has released it. -/
def State.mtxWait (s : State) (b k w : Nat) : InsnRes :=
  let a := s.array b
  if a.owner ≠ some k ∧ a.waiter ≠ some k then .fault KF.ARRAY 0
  else if a.owner = some k ∧ a.job.isSome then .wait (s.setArray b { a with waiter := some k })
  else
    .done_ ((s.setArray b { a with waiter := if a.waiter = some k then none else a.waiter }).modCore b k
      fun c => c.setS (iD w) (if a.faulted then 1 else 0)) 0

/-- MREL: waits for an operation in progress, then releases. -/
def State.mtxRelease (s : State) (b k : Nat) : InsnRes :=
  let a := s.array b
  if a.owner ≠ some k then .fault KF.ARRAY 0
  else if a.job.isSome then .wait s
  else .done_ (s.freeArray b k) 0

/-! ### Self-test and retirement (R248 to R250) -/

/-- ARRAYS_LIVE counts the READY arrays. -/
def State.countArrays (s : State) : State :=
  s.put F.GLOBAL_CAP_ARRAYS_LIVE ((List.range 50).filter fun b => s.arrayState b == 3).length

/-- A context in OPEN, NORES, CLOSING or DONE that has a Basin in its mask and a kernel that needs the array. -/
def State.usesArray (s : State) (b c : Nat) : Bool :=
  let p := s.params c
  decide (2 ≤ (s.ctx c).phase) && p.type == 4 && nbit p.mask b == 1 && (s.kernelInfo p.kernel p.elems).any KernelInfo.array

/-- The contexts that the engine holds. -/
def State.heldCtxs (s : State) : List Nat := s.col.ctxs.map fun (x : Nat × CtxSt) => x.1

/-- Why ATEST.GO is refused; 0 if it is not. -/
def State.atestCheck (s : State) (b : Nat) : Nat :=
  if [0, 2, 4].contains (s.arrayState b) then Rej.RANGE
  else if (s.array b).owner.isSome ∨ s.heldCtxs.any (s.usesArray b) then Rej.BUSY else 0

/-- Why ATEST.RETIRE is refused. -/
def State.retireCheck (s : State) (b : Nat) : Nat := if s.arrayState b = 0 ∨ s.arrayState b = 4 then Rej.RANGE else 0

/-- The self-test starts: the array is TESTING. -/
def State.arrayTest (s : State) (b : Nat) : State := (s.put (F.BASIN_STATE_ARRAY b) 2).countArrays

/-- Start-up tests an array that is UNTESTED. -/
def State.startupTest (s : State) (b : Nat) : State := if s.arrayState b = 1 then s.arrayTest b else s

/-- An array is disabled, and listed in the Cullet list. -/
def State.disableArray (s : State) (b reason : Nat) : State :=
  ((s.put (F.BASIN_STATE_ARRAY b) 4).countArrays).culletAppend 5 reason b

/-- Rows and steps that a self-test streams: four fills for each format and choice (R249). -/
def testRows : Nat :=
  4 * ([0x7, 0x3, 0x8, 0x2, 0x1].flatMap fun f => [0, 1, 2].map (fillCount f)).foldl (· + ·) 0

/-- What a self-test that ends does: one differing bit disables the array. -/
def State.testEnds (s : State) (b : Nat) (equal : Bool) : State :=
  if s.arrayState b ≠ 2 then s
  else
    let s1 := s.countBasin b Ev.BSN_MTX_ROWS testRows
    if equal then (s1.put (F.BASIN_STATE_ARRAY b) 3).countArrays
    else ((s1.disableArray b 2).countBasin b Ev.BSN_ARRAY_FAIL 1).logReport Ev.BSN_ARRAY_FAIL (0xa00 + b) (b * 32) 0 0

/-- Whether an item of a higher priority than a self-test waits on a Basin (R229). -/
def State.itemsWait (s : State) (b : Nat) : Bool :=
  s.chunkReady b || (s.nextFin b).isSome || !(SMap.get (fun _ => []) s.col.kernQ b).isEmpty

/-- ARRAY_SELFTEST_DONE: the self-test, an item of the lowest priority that a core runs, ends. -/
def State.testDone (s : State) (b : Nat) (equal : Bool) : State :=
  if s.takesItems b && !s.itemsWait b then s.testEnds b equal else s

/-- RETIRE: the owning invocation ends with ARRAY, and every OPEN context that uses the array here closes as
ABORTED. -/
def State.retireArray (s : State) (b : Nat) : State :=
  let s1 : State := match (s.array b).owner with
    | some k => s.kernelFault b k KF.ARRAY 0
    | none => s
  let s2 := (s1.heldCtxs.filter fun c => (s1.ctx c).phase == 2 && s1.usesArray b c).foldl State.abortCtx s1
  s2.disableArray b 7

/-! ### The commands of the class MTX -/

def execMload (b : BasinIx) (k : CoreIx) (legal : Bool) (fmt : Fin 16) (choice : Fin 3) (r : MtxRegs) (s : State) : Out :=
  finish s (s.execInsn b k 0x8 legal fun v _ => s.mtxIssue b k v (mtxJob (s.core b k) 0 fmt choice false r) true false)
def execMstream (b : BasinIx) (k : CoreIx) (legal : Bool) (acc : Bool) (r : MtxRegs) (s : State) : Out :=
  finish s (s.execInsn b k 0x8 legal fun v _ => s.mtxIssue b k v (mtxJob (s.core b k) 1 0 0 acc r) false false)
def execMdrain (b : BasinIx) (k : CoreIx) (legal : Bool) (acc : Bool) (r : MtxRegs) (s : State) : Out :=
  finish s (s.execInsn b k 0x8 legal fun v _ => s.mtxIssue b k v (mtxJob (s.core b k) 2 0 0 acc r) false false)
def execMfill (b : BasinIx) (k : CoreIx) (legal : Bool) (fmt : Fin 16) (choice : Fin 3) (acc : Bool) (r : MtxRegs) (s : State) : Out :=
  finish s (s.execInsn b k 0x8 legal fun v _ => s.mtxIssue b k v (mtxJob (s.core b k) 3 fmt choice acc r) true true)
def execMwait (b : BasinIx) (k : CoreIx) (legal : Bool) (s : State) : Out := finish s (s.execInsn b k 0x8 legal fun _ w => s.mtxWait b k w)
def execMrel (b : BasinIx) (k : CoreIx) (legal : Bool) (s : State) : Out := finish s (s.execInsn b k 0x8 legal fun _ _ => s.mtxRelease b k)
def execMatrixDone (b : BasinIx) (fault : Bool) (s : State) : Out := finish s (s.matrixDone b fault)
def execArraySelftestDone (b : BasinIx) (equal : Bool) (s : State) : Out := finish s (s.testDone b equal)

end Sys2Proof.Machine
end

