-- ==== Sys2Proof/Machine/Kernels.lean ====
section
/-! DEFINITION. Kernel invocations (R229 to R235), the built-in kernels (R265 to R267), the kernel loader (R261 to
R263), and packets that leave a ring at their stop (R253). -/

namespace Sys2Proof.Machine

/-! ### KERNEL_INVOKE -/

/-- Invocations of a context that run on a Basin. -/
def State.running (s : State) (b c : Nat) : List Inv :=
  (List.range 24).filterMap fun k => (s.core b k).inv.bind fun v => if v.ctx = c then some v else none

/-- Scratch bytes of an invocation of the item's kernel. -/
def State.itemScratch (s : State) (i : KernelItem) : Nat :=
  let p := s.params i.ctx
  (s.kernelInfo p.kernel p.elems).elim 0 KernelInfo.scratch

/-- Bytes of the slot pool that the grants of an item take. -/
def State.itemBytes (s : State) (i : KernelItem) : Nat :=
  lines64 (4 * i.vals.length) + lines64 i.imgs.length + 4096 + lines64 (s.itemScratch i)

/-- The spans of the slot pool that running invocations hold. -/
def State.spans (s : State) (b : Nat) : List (Nat × Nat) :=
  (List.range 24).filterMap fun k => (s.core b k).inv.map fun v => (v.base, scratchAddr v + lines64 (s.scratchSize v) - sharedBase)

/-- The lowest place of the slot pool where `n` bytes stand apart from every running invocation's. -/
def State.placeFor (s : State) (b n : Nat) : Option Nat :=
  let l := s.spans b
  let fits (a : Nat) : Bool := decide (a + n ≤ s.slotPool b) && l.all fun x => decide (a + n ≤ x.1) || decide (x.2 ≤ a)
  ((0 :: l.map Prod.snd).filter fits).min?

/-- Whether an item may start: fewer than CONC of its context run here, the array it needs is not owned, and its grants
have a place. -/
def State.mayInvoke (s : State) (b : Nat) (i : KernelItem) : Bool :=
  let p := s.params i.ctx
  match s.kernelInfo p.kernel p.elems with
  | none => false
  | some k => !(s.ctx i.ctx).hyperWait && decide ((s.running b i.ctx).length < k.conc) && !(k.array && (s.array b).owner.isSome)
      && (s.placeFor b (s.itemBytes i)).isSome

/-- Window offset of an index's state block (R265). -/
def State.stateOffset (s : State) (c idx : Nat) : Nat :=
  let p := s.params c
  p.statePage * 4096 + (if p.kernel = 3 then 0 else idx * p.elems * (s.kernelInfo p.kernel p.elems).elim 0 KernelInfo.bpe)

/-- S1 to S11 at entry (R233). -/
def State.entryRegs (s : State) (k : Nat) (v : Inv) : List Nat :=
  let p := s.params v.ctx
  let key := s.ctxKey v.ctx
  let sz := s.scratchSize v
  [p.elemsOf v.cidx, valsAddr v, s.stateOffset v.ctx v.cidx, outAddr v, hyperAddr k, v.cidx,
    key.1 * 2 ^ 48 + key.2.1 * 2 ^ 32 + key.2.2,
    p.srseed + (if p.sr then 2 ^ 32 else 0) + (if p.ovf then 2 ^ 33 else 0) + p.ofmt * 2 ^ 36,
    scratchAddr v, sz, p.elems]

/-- The registers of a core as an invocation finds them, by draw `n`: R233 says what S1 to S11 hold, and nothing of
the others, which are free. -/
def freeRegs (c : CoreSt) (n : Nat) : CoreSt :=
  let x (i : Nat) : Nat := (Config.freeBits n i).toNat
  { c with
    s := (List.range 31).foldl (fun m r => SMap.set (fun _ => 0) m (r + 1) (x (r + 1))) []
    v := (List.range 32).foldl (fun m r => SMap.set (fun _ => 0) m r (ofLanes 64 ((List.range 8).map fun i => x (64 + 8 * r + i)))) []
    k := (List.range 8).foldl (fun m r => SMap.set (fun _ => 0) m r (x (512 + r))) [] }

/-- Word `o` of a hyperparameter block. -/
def hyperWord (h : List Byte) (o : Nat) : Nat := leNat (slice h o 4)

/-- Whether a built-in kernel can use its hyperparameters and OFMT (R267). -/
def kparamOk (kernel ofmt : Nat) (h : List Byte) : Bool :=
  match kernel with
  | 3 => [8, 16, 32].contains (hyperWord h 0) && [0x0, 0x2, 0x1].contains ofmt
  | 4 => hyperWord h 0 != 0
  | 5 => [0x7, 0x9, 0xa].contains ofmt
  | _ => true

/-- Fields of a built-in kernel's state block. -/
def fieldCount (kernel : Nat) : Nat := if kernel = 1 then 2 else if kernel = 2 then 3 else if kernel = 3 then 0 else 1

/-- What a built-in kernel reads of its state block (R265): window offset and length of each field, or of the basis. -/
def State.fieldSpans (s : State) (v : Inv) : List (Nat × Nat) :=
  let p := s.params v.ctx
  let o := s.stateOffset v.ctx v.cidx
  if v.kernel = 3 then [(o, 128 * hyperWord (s.ctx v.ctx).hyper 0)]
  else (List.range (fieldCount v.kernel)).map fun i => (o + 4 * i * p.elems, 4 * v.vals.length)

/-- The pieces of spans of the window, each within a page: span, window offset, length. -/
def spanPieces (l : List (Nat × Nat)) : List (Nat × Nat × Nat) :=
  (l.zipIdx).flatMap fun (x : (Nat × Nat) × Nat) => (pieces x.1.1 x.1.2).map fun p => (x.2, x.1.1 + p.1, p.2)

/-- A built-in kernel asks for its state block. -/
def State.askFields (s : State) (b k : Nat) (v : Inv) : State :=
  if !kparamOk v.kernel (s.params v.ctx).ofmt (s.ctx v.ctx).hyper then s
  else ((spanPieces (s.fieldSpans v)).zipIdx).foldl (fun t (x : (Nat × Nat × Nat) × Nat) =>
    t.coreIssue b k v .read x.1.2.1 x.1.2.2 [] (.field x.2)) s

/-- An invocation starts on a core. -/
def State.startInv (s : State) (b k : Nat) (i : KernelItem) : State :=
  let p := s.params i.ctx
  let v : Inv := {
    ctx := i.ctx, cidx := i.cidx, kernel := p.kernel, vals := i.vals, partial_ := i.partial_, imgs := i.imgs
    base := (s.placeFor b (s.itemBytes i)).getD 0, gen := s.bsn.invs + 1 }
  let img := SMap.get (fun _ => []) s.bsn.kernels (p.kernel - 0x100)
  let c := freeRegs (s.core b k) s.freeCtr
  let c1 := ((s.entryRegs k v).zipIdx).foldl (fun (c : CoreSt) (x : Nat × Nat) => c.setS (x.2 + 1) x.1) c
  let s1 := s.freshFree.setCore b k { c1 with
    inv := some v, pc := if p.kernel < 0x100 then 0 else leNat (slice img 12 4), priv := [], issued := 0, pend := [], desc := []
    marks := [], atBarrier := false }
  let s2 : State := { s1 with bsn := { s1.bsn with invs := s1.bsn.invs + 1 } }
  let s3 := if p.kernel = 3 then s2.setArray b { s2.array b with owner := some k, job := none, waiter := none } else s2
  if p.kernel < 0x100 then s3.askFields b k v else s3

/-- KERNEL_INVOKE: the oldest item that may start takes an idle core, once no item of a higher priority is ready. -/
def State.kernelInvoke (s : State) (b : Nat) : State :=
  let q := SMap.get (fun _ => []) s.col.kernQ b
  if !s.takesItems b || s.chunkReady b || (s.nextFin b).isSome then s
  else
    match s.idleCore b, q.find? (s.mayInvoke b) with
    | some k, some i =>
      ({ s with col := { s.col with kernQ := SMap.set (fun _ => []) s.col.kernQ b (q.erase i) } }).startInv b k i
    | _, _ => s

/-! ### The built-in kernels (R265 to R267) -/

/-- Binary32 codes of 1 and 0. -/
def fOne : Nat := 0x3f800000

/-- What a built-in kernel gives: result elements, exact; the fields of the state block as codes; or KPARAM. -/
structure KernelOut where
  vals : List Num
  fields : List (List Nat)
  /-- The result bytes where they are not one conversion of `vals` (error feedback needs them first). -/
  made : Option (List Byte × List (Rounded × Nat)) := none

/-- SGDM on one element: parameter and momentum after. -/
def sgdmElem (h : List Byte) (x w v : Nat) : Nat × Nat :=
  let g := fMul (hyperWord h 12) x
  let v1 := fFma (hyperWord h 4) v g
  let d := if nbit (hyperWord h 16) 0 = 1 then fFma (hyperWord h 4) v1 g else v1
  (fSub w (fMul (hyperWord h 0) (fFma (hyperWord h 8) w d)), v1)

/-- ADAMD on one element: w, m and u2 after. -/
def adamdElem (h : List Byte) (x w m u2 : Nat) : Nat × Nat × Nat :=
  let hw := hyperWord h
  let g0 := fMul (hw 28) x
  let g := if fEq (hw 32) 0 then g0 else fMin (fMax g0 (fNeg (hw 32))) (hw 32)
  let m1 := fFma (hw 4) m (fMul (fSub fOne (hw 4)) g)
  let u1 := fFma (hw 8) u2 (fMul (fMul (fSub fOne (hw 8)) g) g)
  let q := fDiv (fMul m1 (hw 20)) (fAdd (fSqrt (fMul u1 (hw 24))) (hw 12))
  (fSub w (fMul (hw 0) (fFma (hw 16) w q)), m1, u1)

/-- Whether |a| ranks before |b| for TOPK: a NaN is largest. -/
def magBefore (a b : Nat) : Bool :=
  match f32 a, f32 b with
  | .nan, .nan => false
  | .nan, _ => true
  | _, .nan => false
  | x, y => y.abs.lt x.abs

/-- Whether element `e` is among the `k` kept; ties keep the lower element. -/
def topKept (a : List Nat) (k e : Nat) : Bool :=
  let x := a.getD e 0
  decide (((a.zipIdx).filter fun (y : Nat × Nat) => magBefore y.1 x || (decide (y.2 < e) && !magBefore x y.1)).length < k)

/-- The residuals a − value(out) of the first elements. -/
def residuals (ofmt : Nat) (a : List Nat) (out : List Byte) : List Nat :=
  (a.zipIdx).map fun (x : Nat × Nat) => Fmt.fp32.rne ((f32 x.1).add (elemVal ofmt out x.2).neg)

/-- LOWRANK: rows times the basis, each sum in two halves. -/
def lowrank (rank : Nat) (basis a : List Nat) : List Nat :=
  (List.range (ceilDiv a.length 64)).flatMap fun i => (List.range rank).map fun j =>
    let half (o : Nat) : Nat := Fmt.fp32.rne (mtxSum 0x2 ((List.range 32).map fun t => a.getD (64 * i + o + t) 0)
      ((List.range 32).map fun t => basis.getD ((o + t) * rank + j) 0))
    fAdd (half 0) (half 32)

/-- The kernels on reduced values `x` with the fields of their state block. -/
def builtin (p : Params) (draw : Nat → Nat) (h : List Byte) (x : List Nat) (f : List (List Nat)) : KernelOut :=
  let fd (i e : Nat) : Nat := (f.getD i []).getD e 0
  let n := List.range x.length
  match p.kernel with
  | 1 =>
    let r := n.map fun e => sgdmElem h (x.getD e 0) (fd 0 e) (fd 1 e)
    ⟨r.map fun y => f32 y.1, [r.map Prod.fst, r.map Prod.snd], none⟩
  | 2 =>
    let r := n.map fun e => adamdElem h (x.getD e 0) (fd 0 e) (fd 1 e) (fd 2 e)
    ⟨r.map fun y => f32 y.1, [r.map (·.1), r.map (·.2.1), r.map (·.2.2)], none⟩
  | 3 =>
    let a := n.map fun e => Fmt.bf16.rne (f32 (fMul (hyperWord h 4) (x.getD e 0)))
    ⟨(lowrank (hyperWord h 0) (f.getD 0 []) a).map f32, [], none⟩
  | _ =>
    let g := hyperWord h (if p.kernel = 4 then 4 else 0)
    let a := n.map fun e => fFma g (x.getD e 0) (fd 0 e)
    let vals := n.map fun e => if p.kernel = 5 ∨ topKept a (hyperWord h 0) e then f32 (a.getD e 0) else Num.fin false 0 1
    let o := encodeVals p.ofmt vals p.sr draw p.ovf
    ⟨vals, [residuals p.ofmt a o.1], some o⟩

/-! ### KERNEL_RETURN -/

/-- The invocation on a core ends: the array is released and the core returns to the pool. -/
def State.endInv (s : State) (b k : Nat) : State :=
  (((s.followEnd b k).freeArray b k).modCore b k fun c =>
    { c with inv := none, pend := [], desc := [], issued := 0, follow := none }).openBarrier b

/-- A result is staged for hand-off. -/
def State.kernelResult (s : State) (b : Nat) (v : Inv) (r : List Byte × List (Rounded × Nat)) : State :=
  (s.stageOut ⟨v.ctx, 0x8, v.cidx, { bytes := r.1, elems := r.2, basin := b, partial_ := v.partial_ }, false⟩).countBasin b Ev.BSN_KINVOKE 1

/-- The state block as codes, from the pieces that came. -/
def State.readFields (s : State) (v : Inv) : List (List Nat) :=
  let ps := (spanPieces (s.fieldSpans v)).zipIdx
  ((s.fieldSpans v).zipIdx).map fun (x : (Nat × Nat) × Nat) =>
    let d := ((ps.filter fun q => q.1.1 == x.2).map fun q => SMap.get (fun _ => []) v.got q.2).flatten
    if v.kernel = 3 then (List.range (x.1.2 / 2)).map fun i => leNat (slice d (2 * i) 2)
    else (List.range (x.1.2 / 4)).map fun e => leNat (slice d (4 * e) 4)

/-- The state is written back, each field in pieces within pages. -/
def State.writeFields (s : State) (b k : Nat) (v : Inv) (f : List (List Nat)) : State :=
  let ds := (f.zip (s.fieldSpans v)).map fun (x : List Nat × (Nat × Nat)) => (x.2.1, x.1.flatMap fun c => leBytes 4 c)
  ds.foldl (fun t (x : Nat × List Byte) =>
    (pieces x.1 x.2.length).foldl (fun u p => u.coreIssue b k v .write (x.1 + p.1) p.2 ((x.2.drop p.1).take p.2) .none) t) s

/-- Rows that LOWRANK streams through the array: its rows once for each half of k (R267). -/
def lowrankRows (n : Nat) : Nat := 2 * ceilDiv n 64

/-- Once its state block has come, a built-in kernel computes: its state goes back, its result stands in the output
buffer. -/
def State.builtinStep (s : State) (b k : Nat) : State :=
  match (s.core b k).inv with
  | none => s
  | some v =>
    if 0x100 ≤ v.kernel ∨ v.made.isSome ∨ !(s.core b k).pend.isEmpty then s
    else if v.kernel = 3 ∧ s.arrayState b ≠ 3 then s.kernelFault b k KF.ARRAY 0
    else
      let p := s.params v.ctx
      let key := s.ctxKey v.ctx
      let draw := srDraw p.srseed key.1 key.2.1 key.2.2 v.cidx
      let o := builtin p draw (s.ctx v.ctx).hyper v.vals (s.readFields v)
      let r := o.made.getD (encodeVals p.ofmt o.vals p.sr draw p.ovf)
      let s1 := s.modCore b k fun c => { c with inv := some { v with made := some r } }
      let s2 := if v.kernel = 3 then s1.countBasin b Ev.BSN_MTX_ROWS (lowrankRows v.vals.length) else s1
      (s2.writeFields b k v o.fields).countSr b r.2

/-- The end of a built-in kernel, once what it wrote is acknowledged. -/
def State.builtinReturn (s : State) (b k : Nat) (v : Inv) (ecc budget : Bool) : State :=
  let p := s.params v.ctx
  let x := s.ctx v.ctx
  if !kparamOk v.kernel p.ofmt x.hyper then s.kernelFault b k KF.KPARAM 0
  else if budget then s.kernelFault b k KF.BUDGET 0
  else if (s.winAddr (s.ctxKey v.ctx).1 (s.stateOffset v.ctx v.cidx)).isNone then
    s.kernelFault b k KF.WINDOW (windowBase + s.stateOffset v.ctx v.cidx)
  else if ecc ∨ x.hyperBad then s.kernelFault b k KF.ECC 0
  else if v.kernel = 3 ∧ s.arrayState b ≠ 3 then s.kernelFault b k KF.ARRAY 0
  else
    match v.made with
    | none => s
    | some r => if (s.core b k).pend.isEmpty then (s.endInv b k).kernelResult b v r else s

/-- The four-bit place, in a result's bytes, where the code of element `i` begins (R198, R203). -/
def elemPlace (ofmt i : Nat) : Nat :=
  match ofmt with
  | 0x9 => (i / 16 * 17 + 1 + i % 16) * 2
  | 0xa => (i / 16 * 9 + 1) * 2 + i % 16
  | _ => i * (fmtOf ofmt).bits / 4

/-- What the elements of a user kernel's result are: NaN and infinite codes, by OFMT; and by the marks `m` of their
bytes, what a convert instruction saturated, or made of a NaN for an integer format (R208). -/
def resultElems (ofmt : Nat) (d : List Byte) (m : Nat → Nat) : List (Rounded × Nat) :=
  (List.range (elemCount ofmt d.length)).map fun i =>
    let c := elemCode ofmt d i
    let x := (fmtOf ofmt).decode c
    let n := elemPlace ofmt i
    let made := m (n / 2)
    ({ code := c, nan := x == .nan || (isIntFmt ofmt && nbit made (2 + n % 2) == 1), inf := x == .inf false || x == .inf true
       sat := nbit made (n % 2) == 1 }, if isBlock ofmt then elemScale ofmt d i else 0x80)

/-- Why a return faults: a status that is not 0, or a length that is no whole number of units from 1 to 4,096. -/
def returnFault (ofmt len status : Nat) : Option Nat :=
  if status ≠ 0 then some KF.KFAIL
  else if len = 0 ∨ 4096 < len ∨ (match fmtUnit ofmt with
    | some (u, _) => len % u != 0
    | none => true) = true then some KF.KLEN
  else none

/-- The return of a user kernel waits until its descriptors are done; `ecc` says that reading its output buffer found
uncorrectable data. -/
def State.userReturn (s : State) (b k : Nat) (v : Inv) (ecc : Bool) : State :=
  let c := s.core b k
  if ((s.dma b).q.any fun i => i.core == k) ∨ c.atBarrier then s
  else
    match s.fetch b k with
    | none => s.kernelFault b k KF.BOUND c.pc
    | some w =>
      if iClass w ≠ 0x1 then s
      else
        let s1 := s.tagIssue b k ⟨1, iOp w, c.pc, 0, 0⟩ v.kernel v.ctx false false
        match returnFault (s.params v.ctx).ofmt (c.sreg 1) (c.sreg 2) with
        | some f => s1.kernelFault b k f 0
        | none =>
          if ecc then s1.kernelFault b k KF.ECC (outAddr v)
          else
            let d := s.localBytes b k v (outAddr v) (c.sreg 1)
            (s1.endInv b k).kernelResult b v (d, resultElems (s.params v.ctx).ofmt d fun i => SMap.get (fun _ => 0) v.marks (outAddr v + i))

/-- KERNEL_RETURN, which waits while the core may not issue or chunk staging has no room for the result. `ecc` says that
uncorrectable data was met in SRAM; `budget` that a built-in kernel issued more instructions than BUDGET. -/
def State.kernelReturn (s : State) (b k : Nat) (ecc budget : Bool) : State :=
  match (s.core b k).inv with
  | none => s
  | some v =>
    if !s.issuing b then s
    else
      let t := if v.kernel < 0x100 then s.builtinReturn b k v ecc budget else s.userReturn b k v ecc
      if t.stagingOver b then s else t

/-! ### RING_DELIVER (R253) -/

/-- An acknowledgement of the spill path; once a complete index has them all, its image is read. -/
def State.spillAnswer (s : State) (b c idx : Nat) : State :=
  let y := (s.ctx c).index idx 0
  let t := s.setIndex c idx 0 { y with out := y.out - 1 }
  if y.out ≤ 1 ∧ y.done ∧ !y.reading ∧ (t.finItems b).any (fun i => i.1 == c && i.2.1 == idx) then t.readImage c b idx else t

/-- A piece of a spill image reaches its Basin. -/
def State.imageAnswer (s : State) (c idx piece : Nat) (d : List Byte) (bad : Bool) : State :=
  let y := (s.ctx c).index idx 0
  s.setIndex c idx 0 { y with out := y.out - 1, bad := y.bad || bad, got := SMap.set (fun _ => []) y.got piece d }

/-- An answer reaches its requester. -/
def State.answered (s : State) (r : MemRsp) : State :=
  match r.src with
  | .core b k tag => (s.coreAnswer b k tag r.data r.bad).builtinStep b k
  | .dma b ticket piece => s.dmaAnswer b ticket piece r.data r.bad
  | .spill b c idx => s.spillAnswer b c idx
  | .image _ c idx piece => s.imageAnswer c idx piece r.data r.bad
  | .host _ => s
  | .reg _ => s
  | .hyper _ _ => s

/-- What leaves the ring at its stop: a request goes to its channel's queue, an answer to its requester. -/
def State.ringDeliver (s : State) (stop ring cls : Nat) : State :=
  if s.stopHeld stop then s
  else
    match s.ringArrived ring cls stop with
    | none => s
    | some (p, t) =>
      match p.body with
      | .req gch q => t.reachChannel gch q
      | .rsp r => t.answered r

/-! ### The kernel loader (R261 to R263) -/

/-- Whether an image's header obeys R261. -/
def imageOk (img : List Byte) (len : Nat) : Bool :=
  let f (o n : Nat) : Nat := leNat (slice img o n)
  f 0 4 == 0x314e424b && f 4 2 == 1 && decide (f 6 2 ≤ 1)
  && decide (8 ≤ f 8 4) && decide (f 8 4 ≤ 32704) && f 8 4 % 8 == 0
  && f 12 4 % 8 == 0 && decide (f 12 4 < f 8 4)
  && f 16 4 % 64 == 0 && decide (f 16 4 ≤ 1048576)
  && decide (1 ≤ f 20 2) && decide (f 20 2 ≤ 8) && decide (f 22 2 ≤ 64)
  && (slice img 24 40).all (· == 0#8) && len == 64 + f 8 4

/-- The staged image, LEN bytes. -/
def State.staged (s : State) : List Byte := (s.barBytes 0x06010000 8192).take (s.get F.KL_LEN_BYTES)

/-- Whether a user slot is loaded. -/
def State.slotLoaded (s : State) (i : Nat) : Bool := nbit (s.get (F.KL_LOADED_LOADED (i / 32))) (i % 32) == 1

/-- The whole cube root of `n`, bit by bit from bit `k`. -/
def icbrtFrom (n : Nat) : Nat → Nat → Nat
  | 0, r => r
  | k + 1, r => icbrtFrom n k (if (r + 2 ^ k) ^ 3 ≤ n then r + 2 ^ k else r)

/-- The primes below 312, of which there are 64. -/
def primes64 : List Nat := (List.range 312).filter fun p => decide (2 ≤ p) && [2, 3, 5, 7, 11, 13, 17].all fun d => p == d || p % d != 0

/-- The digest function of R262: its initial words are the first 32 fraction bits of the square roots of the first 8
primes, and its round constants those of the cube roots of the first 64. -/
def digestInit : List (BitVec 32) := (primes64.take 8).map fun p => BitVec.ofNat 32 (isqrt (p * 2 ^ 64))
def digestRound : List (BitVec 32) := primes64.map fun p => BitVec.ofNat 32 (icbrtFrom (p * 2 ^ 96) 36 0)

/-- The exclusive or of three right rotations, or of two and a right shift, which the rounds use. -/
def rot3 (i j k : Nat) (x : BitVec 32) : BitVec 32 := x.rotateRight i ^^^ x.rotateRight j ^^^ x.rotateRight k
def rot2 (i j k : Nat) (x : BitVec 32) : BitVec 32 := x.rotateRight i ^^^ x.rotateRight j ^^^ (x >>> k)

/-- The word that follows the 16 last words of the schedule. -/
def nextWord (w : List (BitVec 32)) : BitVec 32 :=
  w.getD 0 0 + rot2 7 18 3 (w.getD 1 0) + w.getD 9 0 + rot2 17 19 10 (w.getD 14 0)

/-- One round with its constant, on the working words and the 16 words of the schedule that come next. -/
def digestStep (st : List (BitVec 32) × List (BitVec 32)) (c : BitVec 32) : List (BitVec 32) × List (BitVec 32) :=
  match st.1 with
  | [p, q, r, t, u, v, x, y] =>
    let add := y + rot3 6 11 25 u + ((u &&& v) ||| (~~~u &&& x)) + c + st.2.getD 0 0
    let maj := (p &&& (q ||| r)) ||| (q &&& r)
    ([add + rot3 2 13 22 p + maj, p, q, r, t + add, u, v, x], st.2.drop 1 ++ [nextWord st.2])
  | _ => st

/-- One block of 64 bytes into the running words. -/
def digestBlock (rounds : List (BitVec 32)) (h : List (BitVec 32)) (d : List Byte) : List (BitVec 32) :=
  let w := (List.range 16).map fun i => BitVec.ofNat 32 (beNat (slice d (4 * i) 4))
  (h.zip (rounds.foldl digestStep (h, w)).1).map fun x => x.1 + x.2

/-- Blocks of a padded message, from its front. -/
def digestBlocks (rounds : List (BitVec 32)) : Nat → List (BitVec 32) → List Byte → List (BitVec 32)
  | 0, h, _ => h
  | n + 1, h, d => digestBlocks rounds n (digestBlock rounds h (d.take 64)) (d.drop 64)

/-- SHA-256 of bytes (R262): a one bit, zeros and the length in bits fill the last block. -/
def sha256 (bs : List Byte) : List Byte :=
  let tail := 0x80#8 :: (List.replicate ((119 - bs.length % 64) % 64) 0#8 ++ beBytes 8 (8 * bs.length))
  let words := digestBlocks digestRound ((bs.length + tail.length) / 64) digestInit (bs ++ tail)
  words.flatMap fun x => beBytes 4 x.toNat

/-- The first check of R263 that a load fails; 0 where none does. -/
def State.loadCheck (s : State) (slot : Nat) : Nat :=
  let img := s.staged
  if s.on F.KL_STATUS_BUSY ∨ s.slotLoaded slot then Rej.BUSY
  else if !s.on (F.ALLOW_W0_VALID slot) then Rej.ABSENT
  else if sha256 img ≠ s.barBytes (0x06001000 + 64 * slot + 32) 8 then Rej.DIGEST
  else if !imageOk img (s.get F.KL_LEN_BYTES) then Rej.RANGE
  else if s.get F.KL_FREE_BYTES < leNat (slice img 8 4) then Rej.FULL
  else 0

/-- The loader ends an operation: DONE with OK, or with a code and the traces of a rejected write (R403). -/
def State.loaderEnd (s : State) (agent val code : Nat) : State :=
  let s1 := (s.raise F.KL_STATUS_DONE).puts [(F.KL_STATUS_OK, if code = 0 then 1 else 0), (F.KL_STATUS_CODE, code)]
  if code = 0 then s1 else s1.reject agent 0x06018000 val code

/-- KL_LOAD: checks 1 to 5; the copy starts where they hold. -/
def State.klLoad (s : State) (agent slot : Nat) : State :=
  match s.loadCheck slot with
  | 0 => ({ s with bsn := { s.bsn with loading := some slot } }).put F.KL_STATUS_BUSY 1
  | code => s.loaderEnd agent (2 ^ 31 + slot) code

/-- KL_LOAD_DONE: the code is in every Basin's code store and the slot is loaded. -/
def State.klLoadDone (s : State) : State :=
  match s.bsn.loading with
  | none => s
  | some slot =>
    let img := (s.barBytes 0x06010000 8192).take (64 + leNat (slice (s.barBytes 0x06010000 16) 8 4))
    let s1 : State := { s with bsn := { s.bsn with loading := none, kernels := SMap.set (fun _ => []) s.bsn.kernels slot img } }
    let s2 := s1.orBits (F.KL_LOADED_LOADED (slot / 32)) (2 ^ (slot % 32))
    ((s2.put F.KL_FREE_BYTES (s.get F.KL_FREE_BYTES - leNat (slice img 8 4))).put F.KL_STATUS_BUSY 0).loaderEnd 0 0 0

/-- Whether a valid communicator's TEMPLATE or a held context names a slot. -/
def State.slotNamed (s : State) (slot : Nat) : Bool :=
  (s.commsValid.any fun m => (s.template m).kernel == 0x100 + slot)
  || s.heldCtxs.any fun c => decide (2 ≤ (s.ctx c).phase) && (s.params c).kernel == 0x100 + slot

/-- KL_UNLOAD. -/
def State.klUnload (s : State) (agent slot : Nat) : State :=
  let val := 2 ^ 31 + 2 ^ 29 + slot
  if s.on F.KL_STATUS_BUSY ∨ s.slotNamed slot then s.loaderEnd agent val Rej.BUSY
  else if !s.slotLoaded slot then s.loaderEnd agent val Rej.ABSENT
  else
    let img := SMap.get (fun _ => []) s.bsn.kernels slot
    let s1 : State := { s with bsn := { s.bsn with kernels := SMap.set (fun _ => []) s.bsn.kernels slot [] } }
    ((s1.clearBits (F.KL_LOADED_LOADED (slot / 32)) (2 ^ (slot % 32))).put F.KL_FREE_BYTES
      (s.get F.KL_FREE_BYTES + leNat (slice img 8 4))).loaderEnd agent val 0

/-! ### The commands -/

def execKernelInvoke (b : BasinIx) (s : State) : Out := finish s (s.kernelInvoke b)
def execKernelReturn (b : BasinIx) (k : CoreIx) (ecc budget : Bool) (s : State) : Out := finish s (s.kernelReturn b k ecc budget)
def execRingDeliver (stop : Fin 66) (ring cls : Fin 2) (s : State) : Out := finish s (s.ringDeliver stop ring cls)
def execKlLoadDone (s : State) : Out := finish s s.klLoadDone

end Sys2Proof.Machine
end

