-- ==== Sys2Proof/Machine/Health.lean ====
section
/-! DEFINITION. The health service: leaves, scores, fences, the budget and recommendations (R434 to R446). -/

namespace Sys2Proof.Machine

/-- A leaf as the health service sees it. -/
def State.leaf (s : State) (l : Nat) : LeafSt := SMap.get (fun _ => {}) s.hlth.leaves l

/-- Hold a leaf. -/
def State.setLeaf (s : State) (l : Nat) (v : LeafSt) : State :=
  { s with hlth := { s.hlth with leaves := SMap.set (fun _ => {}) s.hlth.leaves l v } }

/-- Associate a port with a leaf, or with none. -/
def State.associate (s : State) (p : Nat) (l : Option Nat) : State :=
  { s with hlth := { s.hlth with portLeaf := SMap.set (fun _ => 0) s.hlth.portLeaf p (l.elim 0 (· + 1)) } }

/-- The ports of a leaf. -/
def State.leafPorts (s : State) (l : Nat) : List Nat :=
  (s.hlth.portLeaf.filter fun (x : Nat × Nat) => x.2 == l + 1).map fun (x : Nat × Nat) => x.1

/-- Whether some port of a leaf is UP. -/
def State.leafUp (s : State) (l : Nat) : Bool := (s.leafPorts l).any s.portUp

/-! ### The budget (R443) -/

/-- Fences that are still in the window. -/
def State.inBudget (s : State) : List Nat :=
  s.hlth.window.filter fun t => !s.passed t (secClocks (s.get F.HLTH_BUDGET_WINDOW_S))

/-- IN_WINDOW and EXHAUSTED as the window and BUDGET give them; EXHAUSTED rising is logged. -/
def State.judgeBudget (s : State) : State :=
  let n := s.hlth.window.length
  let ex : Bool := decide (s.get F.HLTH_BUDGET_BUDGET ≤ n)
  let old := (s.word 0xe06110).toNat
  let was := s.on F.HLTH_STAT_EXHAUSTED
  let s1 := (s.putSat F.HLTH_STAT_IN_WINDOW n).put F.HLTH_STAT_EXHAUSTED (if ex then 1 else 0)
  if ex ∧ !was then (s1.istat F.HLTH_ISTAT_ISTAT 3).logState 0xe06110 old (s1.word 0xe06110).toNat else s1

/-- Entries older than WINDOW_S leave the window. -/
def State.expireFences (s : State) : State := ({ s with hlth := { s.hlth with window := s.inBudget } }).judgeBudget

/-- RECS counts the recommendations held. -/
def State.countRecs (s : State) : State :=
  s.put F.HLTH_STAT_RECS (s.hlth.leaves.filter fun (x : Nat × LeafSt) => x.2.rec_.isSome).length

/-- The last decision: leaf, cause, and whether it was a recommendation. -/
def State.lastDecision (s : State) (l cause : Nat) (r : Bool) : State :=
  s.puts [(F.HLTH_LAST_VALID, 1), (F.HLTH_LAST_REC, if r then 1 else 0), (F.HLTH_LAST_CAUSE, cause), (F.HLTH_LAST_LEAF, l)]

/-! ### Fences (R441, R442) -/

/-- The bit of a leaf in FWDFENCE.LEAF. -/
def State.fenceBit (s : State) (l : Nat) (on : Bool) : State :=
  if on then s.orBits (F.FWDFENCE_LEAF_FENCED (l / 32)) (2 ^ (l % 32)) else s.clearBits (F.FWDFENCE_LEAF_FENCED (l / 32)) (2 ^ (l % 32))

/-- A fence of a leaf applies: state, forwarding bit, window, records, and its members in every context. `shown`
is the cause that its record keeps, `confirmed` that it was a recommendation confirmed. -/
def State.applyFence (s : State) (l cause shown : Nat) (restore confirmed : Bool) : State :=
  let s1 := s.expireFences
  let s2 := (s1.setLeaf l { s1.leaf l with state := 3, rec_ := none, cause := shown, confirmed := confirmed, fencedRx := false }).fenceBit l true
  let s3 : State := if restore then s2 else { s2 with hlth := { s2.hlth with window := s2.now :: s2.hlth.window } }
  let s4 := (((s3.lastDecision l cause false).istat F.HLTH_ISTAT_ISTAT 0).logReport Ev.HLTH_FENCE 0xe06 l cause 0).countMgmt Ev.HLTH_FENCE 1
  (s4.judgeBudget.countRecs).fenceLeaf l

/-- The conditions of hard link-down (R438), `clocks` after the end of HARD_MS: 1 to act on it, since a port that reaches UP
in the clock in which HARD_MS ends prevents it (R445). -/
def State.hardDown (s : State) (l clocks : Nat) : Bool :=
  let ps := s.leafPorts l
  !ps.isEmpty && !ps.any s.portUp
    && (ps.any (fun p => s.get (F.LANE_PORTSTAT_STATE p) == 7)
      || (s.leaf l).downAt.any fun t => s.passed t (msClocks (s.get F.HLTH_CFG_HARD_MS) + clocks))

/-- A leaf enters SUSPECT. -/
def State.suspected (s : State) : State := (s.istat F.HLTH_ISTAT_ISTAT 4).countMgmt Ev.HLTH_SUSPECT 1

/-- UNFENCE applies: the automatic causes that hold now, or begin in this core clock, are noted as holding (R439, R445), so
that only a new beginning fences; the bit, the state by R437, any recommendation. -/
def State.applyUnfence (s : State) (l : Nat) (reset : Bool) : State :=
  let x := s.leaf l
  let alive : Bool := x.seen.any fun t => !s.passed t (usClocks (s.get F.HLTH_CFG_SUSPECT_US))
  let y := { x with
    state := if alive then 1 else 2, rec_ := none, cause := 0, confirmed := false, fencedRx := false, freedAt := some s.now
    hard := x.hard || s.hardDown l 0, low := decide (x.score ≤ s.get F.HLTH_SCORE_FENCE) }
  let s0 := s.setLeaf l (if reset then { y with score := 255, warned := false, low := false } else y)
  let s1 := if alive then s0 else s0.suspected
  ((((s1.fenceBit l false).istat F.HLTH_ISTAT_ISTAT 1).logReport Ev.HLTH_UNFENCE 0xe06 l 0 0).countMgmt Ev.HLTH_UNFENCE 1).countRecs

/-- A recommendation: one per leaf, the first cause kept (R444). -/
def State.recommend (s : State) (l cause : Nat) : State :=
  if (s.leaf l).rec_.isSome then s
  else
    let s1 := (s.setLeaf l { s.leaf l with rec_ := some cause, cause := cause }).lastDecision l cause true
    (((s1.istat F.HLTH_ISTAT_ISTAT 2).logReport Ev.HLTH_REC 0xe06 l cause 0).countMgmt Ev.HLTH_REC 1).countRecs

/-- An automatic cause begins: its decision is due at the end of the core clock (R445). -/
def State.autoCause (s : State) (l cause : Nat) : State :=
  { s with hlth := { s.hlth with due := s.hlth.due ++ [(l, cause)] } }

/-- An automatic decision that was due ends before it is taken, since its cause did. -/
def State.dropCause (s : State) (l cause : Nat) : State :=
  { s with hlth := { s.hlth with due := s.hlth.due.filter fun x => x != (l, cause) } }

/-- An automatic decision (R443).  It finds a leaf that management fenced in its core clock already fenced, and a cause
that begins in the core clock of an unfence of the leaf counts as holding at it (R445). -/
def State.decide_ (s : State) (l cause : Nat) : State :=
  if (s.leaf l).state = 3 ∨ (s.leaf l).freedAt = some s.now then s
  else
    let s1 := s.expireFences
    if s1.hlth.window.length < s1.get F.HLTH_BUDGET_BUDGET then s1.applyFence l cause cause false false else s1.recommend l cause

/-- Decisions in ascending leaf number; of one leaf, in the order in which its causes began. -/
def insertDue (x : Nat × Nat) : List (Nat × Nat) → List (Nat × Nat)
  | [] => [x]
  | y :: l => if x.1 < y.1 then x :: y :: l else y :: insertDue x l

/-- The automatic decisions of the core clock that ends, in ascending leaf number (R445). -/
def State.fencesClose (s : State) : State :=
  (s.hlth.due.foldl (fun l x => insertDue x l) []).foldl (fun t x => t.decide_ x.1 x.2)
    { s with hlth := { s.hlth with due := [] } }

/-- A recommendation whose cause has ended is withdrawn (R444). -/
def State.withdraw (s0 : State) (l cause : Nat) : State :=
  let s := s0.dropCause l cause
  if (s.leaf l).rec_ = some cause then
    ((s.setLeaf l { s.leaf l with rec_ := none, cause := 0 }).logReport Ev.HLTH_REC_WITHDRAWN 0xe06 l cause 0).countMgmt Ev.HLTH_REC_WITHDRAWN 1
      |>.countRecs
  else s

/-! ### Scores (R440) -/

/-- The score falls to FENCE or below, or rises above it. The service decides nothing while the SPC restarts
(R498). -/
def State.judgeScore (s : State) (l : Nat) : State :=
  if s.mgmt.spcDown then s
  else
    let x := s.leaf l
    let low : Bool := decide (x.score ≤ s.get F.HLTH_SCORE_FENCE)
    let s1 := s.setLeaf l { x with low := low }
    if low ∧ !x.low then (if s.on F.HLTH_AUTO_SCORE_EN then s1.autoCause l 3 else s1)
    else if !low ∧ x.low then s1.withdraw l 3 else s1

/-- The score falls to WARN or below, which is logged once until it has risen above WARN. -/
def State.judgeWarn (s : State) (l : Nat) : State :=
  let x := s.leaf l
  let w : Bool := decide (x.score ≤ s.get F.HLTH_SCORE_WARN)
  let s1 := s.setLeaf l { x with warned := w }
  if w ∧ !x.warned then (s1.istat F.HLTH_ISTAT_ISTAT 5).logReport Ev.STATE 0xe06 0x108 l x.score else s1

/-- A penalty on a leaf. -/
def State.penalty (s : State) (l n : Nat) : State :=
  ((s.setLeaf l { s.leaf l with score := (s.leaf l).score - n, paidAt := s.now }).judgeWarn l).judgeScore l

/-- A penalty for an event on a port. -/
def State.portPenalty (s : State) (p n : Nat) : State :=
  match s.leafOfPort p with
  | some l => s.penalty l n
  | none => s

/-- SCORE_RECOVER: RECOVER_S without a penalty. -/
def State.scoreRecover (s : State) (l : Nat) : State :=
  let x := s.leaf l
  if x.score = 255 ∨ ¬ s.passed x.paidAt (secClocks (s.get F.HLTH_SCORE_RECOVER_S)) then s
  else
    ((s.setLeaf l { x with score := x.score + 1, paidAt := x.paidAt + secClocks (s.get F.HLTH_SCORE_RECOVER_S) }).judgeWarn l).judgeScore l

/-! ### Liveness (R435 to R437) -/

/-- Liveness on a port that is UP. -/
def State.liveness (s : State) (p : Nat) : State :=
  match s.leafOfPort p with
  | none => s
  | some l =>
    let x := s.leaf l
    match x.state with
    | 0 => ((s.setLeaf l { x with state := 1, seen := some s.now, score := 255 }).judgeWarn l).judgeScore l
    | 3 =>
      let s1 := (s.setLeaf l { x with seen := some s.now, fencedRx := true }).countBoth 0xe00 16 p Ev.HLTH_FENCED_RX 1
      if x.fencedRx then s1 else s1.istat F.HLTH_ISTAT_ISTAT 9
    | _ => s.setLeaf l { x with state := 1, seen := some s.now }

/-- LEAF_SUSPECT: SUSPECT_US has ended without liveness, which in the clock of its end still counts (R445). -/
def State.leafSuspect (s : State) (l : Nat) : State :=
  let x := s.leaf l
  if x.state = 1 ∧ (x.seen.any fun t => s.passed t (usClocks (s.get F.HLTH_CFG_SUSPECT_US) + 1)) then
    (s.setLeaf l { x with state := 2 }).suspected
  else s

/-! ### Hard link-down (R438) -/

/-- HARD_LINK_DOWN: hard link-down has begun; where enabled, an automatic decision is due. -/
def State.hardLinkDown (s : State) (l : Nat) : State :=
  let x := s.leaf l
  if x.hard ∨ s.mgmt.spcDown ∨ !s.hardDown l 1 then s
  else
    let s1 := s.setLeaf l { x with hard := true }
    if s.on F.HLTH_AUTO_HARD_EN then s1.autoCause l 2 else s1

/-- A port of a leaf has left UP. -/
def State.leafPortDown (s : State) (p : Nat) : State :=
  match s.leafOfPort p with
  | none => s
  | some l => if s.leafUp l then s else s.setLeaf l { s.leaf l with downAt := some s.now }

/-- A port of a leaf is UP: hard link-down ends. -/
def State.leafPortUp (s : State) (p : Nat) : State :=
  match s.leafOfPort p with
  | none => s
  | some l => (s.setLeaf l { s.leaf l with hard := false, downAt := none }).withdraw l 2

/-! ### The commands -/

def execLeafSuspect (l : Fin 1024) (s : State) : Out := finish s (s.leafSuspect l)
def execHardLinkDown (l : Fin 1024) (s : State) : Out := finish s (s.hardLinkDown l)
def execScoreRecover (l : Fin 1024) (s : State) : Out := finish s (s.scoreRecover l)
def execFenceWindowExpire (s : State) : Out := finish s s.expireFences

end Sys2Proof.Machine
end

