-- ==== Sys2Proof/Machine/Fec.lean ====
section
/-! DEFINITION. The forward error correction of the lanes (R347, R348): the field, both codes, encoding, decoding, and
the dealing of blocks to lanes. -/

namespace Sys2Proof.Machine

/-! ### GF(2^10) (R348) -/

/-- Times α: the field polynomial is x^10 + x^3 + 1. -/
def gxDouble (a : Nat) : Nat := if 512 ≤ a then (2 * a) ^^^ 0x409 else 2 * a

/-- The product of two symbols, by the `n` lowest bits of the second. -/
def gxMul : Nat → Nat → Nat → Nat
  | 0, _, _ => 0
  | n + 1, a, b => (if b % 2 = 1 then a else 0) ^^^ gxMul n (gxDouble a) (b / 2)

/-- The product. -/
def gx (a b : Nat) : Nat := gxMul 10 a b

/-- Square, `n` times. -/
def gxSquares : Nat → Nat → Nat
  | 0, a => a
  | n + 1, a => gxSquares n (gx a a)

/-- The inverse of a symbol: its power 2^10 − 2, the product of its powers 2, 4 … 512. -/
def gxInv (a : Nat) : Nat := (List.range 9).foldl (fun v i => gx v (gxSquares (i + 1) a)) 1

/-- The power `n` of α. -/
def gxPow (n : Nat) : Nat := (List.range n).foldl (fun v _ => gxDouble v) 1

/-- A polynomial's value at a point, lowest coefficient first. -/
def gxEval (p : List Nat) (x : Nat) : Nat := p.foldr (fun c v => c ^^^ gx v x) 0

/-! ### The codes (R347) -/

/-- A mode's codeword and check symbols: RS(544,514), or the fabric's RS(272,257). -/
def fecLen (mode : Nat) : Nat := if mode = 0 then 544 else 272
def fecChecks (mode : Nat) : Nat := if mode = 0 then 30 else 15

/-- Symbols that a mode corrects in a codeword. -/
def fecCorrects (mode : Nat) : Nat := fecChecks mode / 2

/-- The generator (x − α^0) … (x − α^(n−1)), highest coefficient first. -/
def gxGen (n : Nat) : List Nat :=
  (List.range n).foldl (fun g i => ((g ++ [0]).zip (0 :: g)).map fun (p : Nat × Nat) => p.1 ^^^ gx p.2 (gxPow i)) [1]

/-- The check symbols of a message: the remainder by the generator. -/
def fecCheck (mode : Nat) (msg : List Nat) : List Nat :=
  let n := fecChecks mode
  let g := (gxGen n).drop 1
  msg.foldl (fun r m =>
    let f := m ^^^ r.headD 0
    ((r.drop 1 ++ [0]).zip g).map fun (p : Nat × Nat) => p.1 ^^^ gx f p.2) (List.replicate n 0)

/-- Bits, first transmitted first, as symbols of 10 bits, the first bit the most significant. -/
def bitSymbols : Nat → List Bool → List Nat
  | 0, _ => []
  | n + 1, bits => (bits.take 10).foldl (fun v b => 2 * v + b.toNat) 0 :: bitSymbols n (bits.drop 10)

/-- A codeword of fabric FEC: ten consecutive blocks of 257 bits of one lane, then the 15 checks (R348). -/
def fabricWord (blocks : List (List Bool)) : List Nat :=
  let msg := bitSymbols 257 blocks.flatten
  msg ++ fecCheck 1 msg

/-- The blocks between two alignment markers as codewords, `n` of them: none spans a marker. -/
def fabricWords : Nat → List (List Bool) → List (List Nat)
  | 0, _ => []
  | n + 1, blocks => fabricWord (blocks.take 10) :: fabricWords n (blocks.drop 10)

/-- The blocks that lane `i` of `n` carries: dealt round robin. -/
def dealt {α : Type} (n i : Nat) (blocks : List α) : List α :=
  (blocks.zipIdx.filter fun (x : α × Nat) => x.2 % n == i).map fun (x : α × Nat) => x.1

/-- The skew in units of 0.5 ns that a receiver of fabric FEC tolerates between a port's lanes: 40 ns (R348). -/
def fabricSkew : Nat := 80

/-! ### Decoding -/

/-- A codeword's syndromes under an error pattern, symbol place first: the code is linear. -/
def syndromes (mode : Nat) (errors : List (Nat × Nat)) : List Nat :=
  (List.range (fecChecks mode)).map fun j =>
    errors.foldl (fun v (e : Nat × Nat) => v ^^^ gx e.2 (gxPow (j * (fecLen mode - 1 - e.1) % 1023))) 0

/-- One step of Berlekamp and Massey: locator, previous locator, length, gap and previous discrepancy. -/
def masseyStep (syn : List Nat) (t : List Nat × List Nat × Nat × Nat × Nat) (n : Nat) : List Nat × List Nat × Nat × Nat × Nat :=
  let (c, b, l, m, bd) := t
  let d := (List.range (l + 1)).foldl (fun v i => v ^^^ gx (c.getD i 0) (syn.getD (n - i) 0)) 0
  if d = 0 then (c, b, l, m + 1, bd)
  else
    let f := gx d (gxInv bd)
    let shift := List.replicate m 0 ++ b.map (gx f)
    let len := max c.length shift.length
    let c' := (List.range len).map fun i => c.getD i 0 ^^^ shift.getD i 0
    if 2 * l ≤ n then (c', c, n + 1 - l, 1, d) else (c', b, l, m + 1, bd)

/-- The locator of the errors and their number. -/
def locator (syn : List Nat) : List Nat × Nat :=
  let t := (List.range syn.length).foldl (masseyStep syn) ([1], [1], 0, 1, 1)
  (t.1, t.2.2.1)

/-- The places of a codeword that a locator names. -/
def located (mode : Nat) (c : List Nat) : List Nat :=
  (List.range (fecLen mode)).filter fun p => gxEval c (gxPow ((1023 - (fecLen mode - 1 - p)) % 1023)) == 0

/-- What decoding a codeword gives: the symbols corrected; none where it is uncorrectable. -/
def fecDecode (mode : Nat) (errors : List (Nat × Nat)) : Option Nat :=
  let syn := syndromes mode (errors.filter fun (e : Nat × Nat) => decide (e.1 < fecLen mode))
  if syn.all (· == 0) then some 0
  else
    let (c, l) := locator syn
    if l ≤ fecCorrects mode ∧ (located mode c).length = l then some l else none

/-- An error pattern as numbers. -/
def cwErrors (c : CwRx) : List (Nat × Nat) := c.errors.map fun e => (e.1.val, e.2.toNat)

/-- What decoding gave each codeword that arrived with errors. -/
def laneDecodes (mode : Nat) (f : LaneFec) : List (Option Nat) := f.bad.map fun c => fecDecode mode (cwErrors c)

/-- Whether a frame contains a symbol of an uncorrectable codeword (R349). -/
def fecBroken (mode : Nat) (fec : List LaneFec) : Bool :=
  fec.any fun f => f.bad.any fun c => c.hit && (fecDecode mode (cwErrors c)).isNone

end Sys2Proof.Machine
end

