-- ==== Sys2Proof/Machine/Ports.lean ====
section
/-! DEFINITION. Ports and the link layer (R342 to R364): frames received, credit and census, bring-up, leaving UP,
and the stall of an egress queue (R33, R157). -/

namespace Sys2Proof.Machine

/-- Change a port's link. -/
def State.modPort (s : State) (p : Nat) (f : PortSt → PortSt) : State := s.setPort p (f (s.portSt p))

/-- The state of a port (R356). -/
def State.portState (s : State) (p : Nat) : Nat := s.get (F.LANE_PORTSTAT_STATE p)

/-- A port takes a state. -/
def State.setPortState (s : State) (p st : Nat) : State :=
  (s.put (F.LANE_PORTSTAT_STATE p) st).modPort p fun x => { x with since := s.now }

/-- The port that a lane belongs to, named by its first lane (R344). -/
def State.portOfLane (s : State) (l : Nat) : Option Nat :=
  (List.range 8).findSome? fun i =>
    if i ≤ l ∧ s.isPort (l - i) ∧ i < s.portLanes (l - i) then some (l - i) else none

/-- The lane page of a cage's registers, and its cage state. -/
def cagePage (c : Nat) : Nat := 8 * c
def State.cageState (s : State) (c : Nat) : Nat := s.get (F.LANE_CAGESTAT_CSTATE (cagePage c))

/-- Whether a port's cage is READY. -/
def State.cageReady (s : State) (p : Nat) : Bool := s.cageState (p / 8) == 3

/-! ### Link control frames (R351, R357) -/

/-- An 8-byte body. -/
def lcBody (type vc count : Nat) : List Byte := beBytes 1 type ++ beBytes 1 (vc * 32) ++ beBytes 2 0 ++ beBytes 4 (count % 2 ^ 32)

/-- A link control frame leaves with its check. -/
def State.sendLc (s : State) (p : Nat) (b : List Byte) : State := s.emit (.linkControl p (b ++ linkCheck b))

/-- LCTYPE, VC and COUNT of a received frame. -/
def lcType (b : List Byte) : Nat := hbits b 2 7
def lcVc (b : List Byte) : Nat := hbits b 8 10
def lcCount (b : List Byte) : Nat := hbits b 32 63

/-- Fields of an ADVERT. -/
def advVer (b : List Byte) : Nat := hbits b 8 15
def advAccept (b : List Byte) : Nat := hbits b 16 23
def advRole (b : List Byte) : Nat := hbits b 24 25
def advNumber (b : List Byte) : Nat := hbits b 32 41
def advFec (b : List Byte) : Nat := hbits b 42 43
def advLanes (b : List Byte) : Nat := hbits b 44 47
def advH (b : List Byte) : Nat := hbits b 48 63
def advG (b : List Byte) (v : Nat) : Nat := hbits b (64 + 8 * v) (71 + 8 * v)
def advCensus (b : List Byte) : Nat := hbits b 128 128

/-- The ADVERT that the part sends, with the headroom entry staged. -/
def State.advertBody (s : State) (p : Nat) (h : Nat × Nat × Nat) : List Byte :=
  let number := if s.on F.FWDID_SELF_VALID then s.get F.FWDID_SELF_SPINE else 0
  let n := s.portLanes p
  let g := [nfield h.2.1 7 0, nfield h.2.1 15 8, nfield h.2.1 23 16, nfield h.2.1 31 24, nfield h.2.2 7 0, 0, nfield h.2.2 15 8, 0]
  beBytes 1 0x10 ++ beBytes 1 1 ++ beBytes 1 0xfb ++ beBytes 1 0x40
    ++ beBytes 2 (number * 64 + s.get (F.LANE_PORTCFG_FEC p) * 16 + n) ++ beBytes 2 (nfield h.1 11 0 * n)
    ++ g.flatMap (beBytes 1) ++ beBytes 4 0x80000000 ++ beBytes 4 (s.portSt p).attempt

/-- Whether the part accepts a peer's ADVERT (R358). -/
def State.advertOk (s : State) (p : Nat) (b : List Byte) : Bool :=
  let acc (v : Nat) : Bool := nbit (advAccept b) (7 - v) == 1
  advVer b == 1 && advCensus b == 1
  && advFec b == s.get (F.LANE_PORTCFG_FEC p) && advLanes b == s.portLanes p
  && advRole b == 0
  && ([0, 1, 2, 3, 5, 6, 7].all acc)
  && decide (1 ≤ advG b 1)
  && ([0, 2, 3, 4, 5, 6].all fun v => !acc v || decide (17 ≤ advG b v))
  && advG b 7 == 0 && decide (64 ≤ advH b)

/-! ### The retrain budget (R361) -/

/-- Entries into DOWN of the last 10 s. -/
def State.recentDowns (s : State) (p : Nat) : List Nat := (s.portSt p).entries.filter fun t => !s.passed t (secClocks 10)

/-- RETRIES shows the entries counted. -/
def State.countRetries (s : State) (p : Nat) (l : List Nat) : State :=
  (s.modPort p fun x => { x with entries := l }).putSat (F.LANE_PORTSTAT_RETRIES p) l.length

/-- The port goes to FAILED: logged, counted, and a hard link-down reported with its penalty. -/
def State.portFailed (s : State) (p : Nat) : State :=
  (((s.setPortState p 7).logReport Ev.LINK_FAILED (0x100 + p) p 0 0).countPort p Ev.LINK_FAILED 1).portPenalty p 128

/-- Entry into DOWN from SIGNAL, ALIGN, ADVERT or UP: it counts against the budget, beyond which the port goes to
FAILED. -/
def State.enterDown (s : State) (p reason : Nat) : State :=
  let s1 := ((s.setPortState p 1).put (F.LANE_PORTSTAT_LASTDOWN p) reason).modPort p fun x => { x with
    downAt := s.now, acked := false, answered := false, peerBody := [], ownBody := [], advAt := none, early := []
    badAt := none, miswired := false }
  let s2 := (s1.put (F.LANE_PORTPEER_VALID p) 0).countRetries p (s.now :: s1.recentDowns p)
  if s2.get (F.LANE_PORTLINK_RETRAIN_MAX p) < (s2.portSt p).entries.length then s2.portFailed p else s2

/-! ### Leaving UP (R360) -/

/-- MISWIRE of the member that a port is. -/
def State.setMiswire (s : State) (p : Nat) (on : Bool) : State :=
  match s.groupOf p with
  | none => s
  | some (g, i) => if on then s.orBits (F.GROUP_GRPSTAT_MISWIRE g) (2 ^ i) else s.clearBits (F.GROUP_GRPSTAT_MISWIRE g) (2 ^ i)

/-- A frame partly sent is lost, and a decision made ahead is void. -/
def State.loseTx (s : State) (p : Nat) : State :=
  match (s.portSt p).tx with
  | none => s.modPort p fun x => { x with next := none }
  | some (e, _, _) => ((s.modPort p fun x => { x with tx := none, next := none }).countPort p Ev.LINK_TX_LOST 1).unref e.pkt

/-- Every S becomes 0. -/
def State.zeroCredit (s : State) (p : Nat) : State :=
  (List.range 8).foldl (fun t v => t.setVc p v { t.vcSt p v with credits := 0 }) s

/-- Whether the reference input that feeds a port's octet is present (R29, R547): its transmitter runs from it. -/
def State.octetClock (s : State) (p : Nat) : Bool := if p < 512 then s.board.refA else s.board.refB

/-- What leaving UP does, whatever state follows: DOWN is sent for a reason of the part's own, where the transmitter
still runs, credit is void, the
frame being sent is lost, and the port stops being live in its group. -/
def State.dropLink (s : State) (p reason : Nat) : State :=
  let s1 := if reason = 7 ∨ !s.octetClock p then s else s.sendLc p (lcBody 0x03 0 reason)
  ((s1.zeroCredit p).loseTx p).setMiswire p false

/-- A port that has left UP: counted, its group spliced, the failure detector told, and penalised. -/
def State.linkDowned (s : State) (p reason : Nat) : State :=
  let s1 := ((s.countPort p Ev.LINK_DOWN 1).refreshPort p).markPort p
  let s2 := s1.leafPortDown p
  if [2, 3, 4, 5, 7].contains reason then s2.portPenalty p 32 else s2

/-- A port leaves UP for DOWN; in another state it stays. -/
def State.leaveUp (s : State) (p reason : Nat) : State :=
  if s.portState p ≠ 5 then s else ((s.dropLink p reason).enterDown p reason).linkDowned p reason

/-- An attempt ends in DOWN. -/
def State.failAttempt (s : State) (p reason : Nat) : State :=
  if 2 ≤ s.portState p ∧ s.portState p ≤ 4 then s.enterDown p reason else s

/-- A port's cage is not READY any more. -/
def State.cageLost (s : State) (p : Nat) : State :=
  let s1 := (s.leaveUp p 10).failAttempt p 10
  if s1.portState p = 1 then s1.put (F.LANE_PORTSTAT_LASTDOWN p) 10 else s1

/-! ### Frames received (R350, R516) -/

/-- The sampling LFSR advances for a frame; tells whether it is selected. -/
def State.sampleStep (s : State) (p vc : Nat) : Bool × State :=
  if s.on (F.LANE_PORTSAMP_EN p) ∧ nbit (s.get (F.LANE_PORTSAMP_VCMASK p)) vc = 1 then
    let v := lfsr24 ((s.portSt p).lfsr.getD (Config.sampleSeed p).toNat)
    (v % 2 ^ s.get (F.LANE_PORTSAMP_K p) == 0, s.modPort p fun x => { x with lfsr := some v })
  else (false, s)

/-- The receive timestamp of a frame now, with the port's trim (R383), in 2^-16 ns. -/
def State.rxStamp (s : State) (p : Nat) : Nat := ((s.dev16 : Int) + s.gets (F.LANE_PORTTSADJ_RX_PS p) * 65536 / 1000).toNat

/-- A data frame with a good check enters its pipeline's input buffer: received cells, counts and sampling. -/
def State.rxData (s : State) (f : RxFrame) : State :=
  let p := f.port
  let v := pVc f.bytes
  let x := s.vcSt p v
  let s1 := s.setVc p v { x with received := (x.received + cellsOf f.bytes.length) % 2 ^ 32 }
  let q := s1.sampleStep p v
  let f1 := { f with sampled := q.1 }
  q.2.setInBuf (p / 32) (q.2.inBuf (p / 32) ++ [f1])

/-- The frame with its timestamp. -/
def State.rxFrame (s : State) (p : Nat) (b : List Byte) : RxFrame :=
  let t := s.rxStamp p
  { port := p, bytes := b, sec := t / 65536 / 1000000000, ns := t / 65536 % 1000000000, frac := t % 65536, epoch := s.time.steps }

/-- Liveness is any frame with a good check on a port that is UP (R435). -/
def State.rxLive (s : State) (p : Nat) : State := if s.portUp p then s.liveness p else s

/-- Codewords of one lane as decoded: FEC_CW, FEC_CW_CORR, FEC_CW_UNCORR and FEC_SYM_CORR (R370), on the page of the lane
that heads the port: a page inside a wider port counts nothing (R508). -/
def State.countLane (s : State) (p mode : Nat) (f : LaneFec) : State :=
  let d := laneDecodes mode f
  let sym := d.foldl (fun n (x : Option Nat) => n + x.getD 0) 0
  let corr := (d.filter fun x => x.any (0 < ·)).length
  (((s.countPort p Ev.FEC_CW (f.clean + d.length)).countPort p Ev.FEC_CW_CORR corr).countPort p Ev.FEC_CW_UNCORR
    (d.filter Option.isNone).length).countPort p Ev.FEC_SYM_CORR sym

/-- The mode that a port runs in. -/
def State.portFec (s : State) (p : Nat) : Nat := s.get (F.LANE_PORTCFG_FEC p)

/-- Uncorrectable codewords of a port's lanes. -/
def uncorrOf (mode : Nat) (fec : List LaneFec) : Nat :=
  fec.foldl (fun n f => n + ((laneDecodes mode f).filter Option.isNone).length) 0

/-- The codewords decoded on the lanes of a port, counted; more than UCW_LIMIT uncorrectable in the interval break the
hold of ALIGN (R359). -/
def State.countFec (s : State) (p : Nat) (fec : List LaneFec) : State :=
  let s1 := fec.foldl (fun t f => t.countLane p (s.portFec p) f) s
  let n := (s1.portSt p).ucw + uncorrOf (s.portFec p) fec
  let many := decide (s.get (F.LANE_PORTLINK_UCW_LIMIT p) < n)
  s1.modPort p fun y => { y with ucw := n, badAt := if many ∧ s.portState p = 3 then some s.now else y.badAt }

/-! ### Entry to UP (R359) -/

/-- A member that is UP with the wrong peer: MISWIRE, and once per bring-up counted, logged, penalised (R364). -/
def State.checkMiswire (s : State) (p : Nat) : State :=
  match s.groupOf p with
  | none => s
  | some (g, _) =>
    if s.get (F.LANE_PORTPEER_ROLE p) = 0 ∧ s.get (F.LANE_PORTPEER_NUMBER p) = s.get (F.GROUP_GRPCFG_LEAF g) then s
    else if (s.portSt p).miswired then s.setMiswire p true
    else ((((s.modPort p fun x => { x with miswired := true }).setMiswire p true).countIn (fun q => q == 0x500 + g || q == 0x100 + p)
      Ev.GROUP_MISWIRE 1).logReport Ev.GROUP_MISWIRE (0x500 + g) g 0 0).portPenalty p 64

/-- The counts of every VC start at 0 and S at C. -/
def State.startVcs (s : State) (p : Nat) : State :=
  (List.range 8).foldl (fun t v => t.setVc p v { credits := t.peerC p v, sentAt := t.now }) s

/-- The port enters UP: counts, credit, the staged reservation; then the frames received before are processed. -/
def State.enterUp (s : State) (p : Nat) : State :=
  let x := s.portSt p
  let s1 := (s.setPortState p 5).modPort p fun y => { y with headActive := y.headAdv, early := [] }
  let s2 := ((s1.startVcs p).recomputeLossy).countPort p Ev.LINK_UP 1
  let s3 := ((s2.leafPortUp p).checkMiswire p).refreshPort p
  x.early.foldl State.rxData (s3.markPort p)

/-- Lanes of a port. -/
def State.lanesOf (s : State) (p : Nat) : List Nat := (List.range (s.portLanes p)).map (p + ·)

/-- Whether every lane of a port has its signal, and its locks (R344). -/
def State.lanesLit (s : State) (p : Nat) : Bool := (s.lanesOf p).all fun l => s.on (F.LANE_LANESTAT_SIGNAL l)
def State.lanesLocked (s : State) (p : Nat) : Bool := s.lanesLit p && (s.lanesOf p).all fun l => s.on (F.LANE_LANESTAT_ALIGNED l)

/-- UP once the part has acknowledged and been answered, with all of the port's lanes (R344, R359). -/
def State.tryUp (s : State) (p : Nat) : State :=
  let x := s.portSt p
  if s.portState p = 4 ∧ x.acked ∧ x.answered ∧ s.lanesLocked p ∧ !s.portFrozen p then s.enterUp p else s

/-- A frame of protocols 01, 10 or 11: at once where UP; before UP it waits, and answers the exchange. -/
def State.rxProto (s : State) (p : Nat) (b : List Byte) : State :=
  let s1 := (s.countPort p Ev.RX_FRAME 1).countPort p Ev.RX_BYTES b.length
  if s1.portUp p then s1.rxData (s1.rxFrame p b)
  else (s1.modPort p fun x => { x with early := x.early ++ [s1.rxFrame p b], answered := true }).tryUp p

/-- Whether every lane of a port in TEST is in far-end loopback (R362). -/
def State.farLoop (s : State) (p : Nat) : Bool :=
  s.portState p == 6 && (s.lanesOf p).all fun l => s.get (F.LANE_LANECFG_LOOP l) == 2

/-- LINK_FRAME_RX: a frame, its check bytes last.  In far-end loopback it is sent back; TEST takes in nothing. -/
def State.linkFrameRx (s : State) (p : Nat) (bytes : List Byte) (fec : List LaneFec) : State :=
  if s.isPort p ∧ s.farLoop p then s.emit (.looped p bytes)
  else if !s.isPort p ∨ s.portState p < 3 ∨ 5 < s.portState p then s
  else
    let s1 := s.countFec p fec
    let body := bytes.take (bytes.length - 4)
    if fecBroken (s.portFec p) fec then s1.countPort p Ev.FEC_FRAME_DISCARD 1
    else if bytes.length < 5 ∨ linkCheck body ≠ bytes.drop (bytes.length - 4) then s1.countPort p Ev.LINK_CHECK_ERR 1
    else if s1.portState p < 4 then s1
    else
      let s2 := s1.rxLive p
      if pProto body = 0 then { s2 with lcQ := s2.lcQ ++ [⟨p, body⟩] } else s2.rxProto p body

/-! ### Link control received -/

/-- The oldest link control frame of a port, if it is of the type asked, and the state without it. -/
def State.takeLc (s : State) (p : Nat) (ok : Nat → Bool) : Option (List Byte × State) :=
  match s.lcQ.find? fun f => f.port == p with
  | none => none
  | some f => if ok (lcType f.bytes) then some (f.bytes, { s with lcQ := s.lcQ.eraseP fun g => g.port == p }) else none

/-- A census fault or an over-return (R45 steps 4 and 5): logged, CREDIT_FAULT, the registers and the penalty. -/
def State.creditFault (s : State) (p v : Nat) : State :=
  let s1 := ((s.book 1 (p * 8 + v) (some p)).addSat (F.LANE_PORTCENSUS1_FAULTS p) 1).put (F.LANE_PORTCENSUS1_LASTVC p) v
  (s1.countPort p Ev.CENSUS_FAULT 1).portPenalty p 16

/-- Credit that raises S ends the stall of the queues that it held (R33). -/
def State.endStalls (s : State) (p v : Nat) : State :=
  (s.usedQueues p).foldl (fun t q =>
    let x := t.queue p q
    if x.stalled ∧ x.stallVc = v then t.setQueue p q { x with stalled := false, blockedSince := none } else t) s

/-- A CREDIT applies: S = C − (consumed by starts − COUNT), clamped to C (R352), and to 0 (the model's choice,
log entry 186). -/
def State.applyCredit (s : State) (p v count : Nat) : State :=
  let x := s.vcSt p v
  let c := s.peerC p v
  let out := toSigned 32 (ofSigned 32 ((x.started : Int) - count))
  let raw := (c : Int) - out
  let sv := if (c : Int) < raw then c else raw.toNat
  let s1 := (s.setVc p v { x with credits := sv }).countPort p Ev.LINK_CREDIT_RX 1
  let s2 := if (c : Int) < raw then s1.creditFault p v else s1
  (if x.credits < sv then s2.endStalls p v else s2).markPort p

/-- CREDIT_RX. -/
def State.creditRx (s : State) (p : Nat) : State :=
  match s.takeLc p (· == 0x01) with
  | none => s
  | some (b, t) =>
    if t.portUp p then t.applyCredit p (lcVc b) (lcCount b)
    else (t.modPort p fun x => { x with answered := true }).tryUp p

/-- The census compares counts: lost credit is repaired, a negative difference is a fault. -/
def State.census (s : State) (p v count : Nat) : State :=
  let x := s.vcSt p v
  let d := toSigned 32 (ofSigned 32 ((count : Int) - x.received))
  if d = 0 then s
  else if d < 0 then s.creditFault p v
  else
    let n := d.toNat
    let s1 := s.setVc p v { x with
      received := (x.received + n) % 2 ^ 32, returned := (x.returned + n) % 2 ^ 32, force := true
      unsentSince := match x.unsentSince with
        | some t => some t
        | none => some s.now }
    ((s1.book 0 (p * 8 + v) (some p)).addSat (F.LANE_PORTCENSUS0_REPAIRED p) n).countPort p Ev.CENSUS_REPAIR n

/-- CENSUS_RX: on every VC that the part accepts but VC7 (R354). -/
def State.censusRx (s : State) (p : Nat) : State :=
  match s.takeLc p (· == 0x02) with
  | none => s
  | some (b, t) => if t.portUp p ∧ lcVc b ≠ 5 ∧ lcVc b ≠ 7 then t.census p (lcVc b) (lcCount b) else t

/-- DOWN_RX. -/
def State.downRx (s : State) (p : Nat) : State :=
  match s.takeLc p (· == 0x03) with
  | none => s
  | some (_, t) => t.leaveUp p 7

/-- An accepted ADVERT: kept, shown, the leaf associated, and acknowledged. -/
def State.acceptAdvert (s : State) (p : Nat) (b : List Byte) : State :=
  let g (v : Nat) : Nat := advG b v
  let s1 := (s.modPort p fun x => { x with acked := true, peerBody := b }).puts [
    (F.LANE_PORTPEER_VALID p, 1), (F.LANE_PORTPEER_ROLE p, advRole b), (F.LANE_PORTPEER_NUMBER p, advNumber b),
    (F.LANE_PEERADV0_ACCEPT p, advAccept b), (F.LANE_PEERADV0_H p, advH b),
    (F.LANE_PEERADV1_G0 p, g 0), (F.LANE_PEERADV1_G1 p, g 1), (F.LANE_PEERADV1_G2 p, g 2), (F.LANE_PEERADV1_G3 p, g 3),
    (F.LANE_PEERADV2_G4 p, g 4), (F.LANE_PEERADV2_G5 p, g 5), (F.LANE_PEERADV2_G6 p, g 6), (F.LANE_PEERADV2_G7 p, g 7)]
  ((s1.associate p (some (advNumber b))).sendLc p (lcBody 0x11 0 (crcStd b))).tryUp p

/-- A refused ADVERT: counted and penalised, and the port goes to DOWN, with a DOWN frame, for reason 6. -/
def State.refuseAdvert (s : State) (p : Nat) : State :=
  let s1 := (s.countPort p Ev.LINK_ADV_REFUSED 1).portPenalty p 16
  if s1.portState p = 4 then (s1.sendLc p (lcBody 0x03 0 6)).failAttempt p 6 else s1.leaveUp p 6

/-- ADVERT_RX. -/
def State.advertRx (s : State) (p : Nat) : State :=
  match s.takeLc p (· == 0x10) with
  | none => s
  | some (b, t) =>
    match t.portState p with
    | 4 => if t.advertOk p b then t.acceptAdvert p b else t.refuseAdvert p
    | 5 =>
      if b = (t.portSt p).peerBody then t.sendLc p (lcBody 0x11 0 (crcStd b))
      else if t.advertOk p b then t.leaveUp p 6 else t.refuseAdvert p
    | _ => t

/-- ADVACK_RX: of the part's own current ADVERT. -/
def State.advackRx (s : State) (p : Nat) : State :=
  match s.takeLc p (· == 0x11) with
  | none => s
  | some (b, t) =>
    let own := (t.portSt p).ownBody
    if t.portState p = 4 ∧ own ≠ [] ∧ lcCount b = crcStd own then (t.modPort p fun x => { x with answered := true }).tryUp p else t

/-- LINK_LC_RSV: a reserved type is discarded and counted. -/
def State.lcReserved (s : State) (p : Nat) : State :=
  match s.takeLc p fun t => !([0x01, 0x02, 0x03, 0x10, 0x11].contains t) with
  | none => s
  | some (_, t) => t.countPort p Ev.LINK_LC_RSV 1

/-! ### Link control sent -/

/-- Whether a CREDIT of a VC is due (R352). -/
def State.creditDue (s : State) (p v : Nat) : Bool :=
  let x := s.vcSt p v
  x.force || decide (16 ≤ (x.returned + 2 ^ 32 - x.sentCount) % 2 ^ 32)
    || x.unsentSince.any (fun t => s.passed t (nsClocks 200)) || s.passed x.sentAt (usClocks 10)

/-- CREDIT_TX. -/
def State.creditTx (s : State) (p v : Nat) : State :=
  if !s.portUp p ∨ !s.creditDue p v then s
  else
    let x := s.vcSt p v
    let s1 := s.setVc p v { x with sentCount := x.returned, sentAt := s.now, unsentSince := none, force := false }
    (s1.sendLc p (lcBody 0x01 v x.returned)).countPort p Ev.LINK_CREDIT_TX 1

/-- CENSUS_TX: at v × 1.25 µs into each 10 µs period of the UP period, on every VC that the peer accepts but
VC7. -/
def State.censusTx (s : State) (p v : Nat) : State :=
  let x := s.vcSt p v
  if !s.portUp p ∨ v = 7 ∨ nbit (s.get (F.LANE_PEERADV0_ACCEPT p)) (7 - v) = 0
    ∨ !s.passed (s.portSt p).since (nsClocks (1250 * v) + usClocks 10 * x.markers) then s
  else (s.setVc p v { x with markers := x.markers + 1 }).sendLc p (lcBody 0x02 v x.consumed)

/-- ADVERT_TX: every 10 µs in state ADVERT. -/
def State.advertTx (s : State) (p : Nat) : State :=
  let x := s.portSt p
  if s.portState p ≠ 4 ∨ !(x.advAt.elim true fun t => s.passed t (usClocks 10)) then s
  else
    let h := x.headAdv.getD (s.headStaged p)
    let b := if x.ownBody = [] then s.advertBody p h else x.ownBody
    (s.modPort p fun y => { y with headAdv := some h, ownBody := b, advAt := some s.now }).sendLc p b

/-! ### Bring-up (R359) -/

/-- PORT_ENABLE: from DISABLED to DOWN. -/
def State.portEnable (s : State) (p : Nat) : State :=
  let s1 := s.put (F.LANE_PORTCFG_EN p) 1
  if s1.portState p = 0 then
    let s2 := (s1.setPortState p 1).modPort p fun x => { x with downAt := s1.now, tried := false }
    if s2.cageReady p then s2 else s2.put (F.LANE_PORTSTAT_LASTDOWN p) 10
  else s1

/-- PORT_DISABLE: leaves UP for reason 1 and goes to DISABLED; the retrain count empties. -/
def State.portDisable (s : State) (p : Nat) : State :=
  let s1 := s.put (F.LANE_PORTCFG_EN p) 0
  let st := s1.portState p
  let clear (t : State) : State :=
    (((t.setPortState p 0).put (F.LANE_PORTPEER_VALID p) 0).countRetries p []).modPort p fun x => { x with
      acked := false, answered := false, peerBody := [], ownBody := [], advAt := none, headAdv := none, early := []
      badAt := none, miswired := false }
  if st = 5 then
    ((clear (s1.dropLink p 1)).put (F.LANE_PORTSTAT_LASTDOWN p) 1).linkDowned p 1
  else if 2 ≤ st ∧ st ≤ 4 then (clear s1).put (F.LANE_PORTSTAT_LASTDOWN p) 1
  else if st = 6 then s1
  else clear s1

/-- When the attempt that a port in DOWN waits for may start: at once the first time, else 100 ms after the entry
into DOWN. -/
def PortSt.attemptAt (x : PortSt) : Nat := if x.tried then x.downAt + msClocks 100 else x.since

/-- BRINGUP_ATTEMPT: SIGNAL once the port account is empty; DOWN with reason 11 where the wait runs out. -/
def State.bringupAttempt (s : State) (p : Nat) : State :=
  let x := s.portSt p
  if s.portState p ≠ 1 ∨ !s.on (F.LANE_PORTCFG_EN p) ∨ !s.cageReady p ∨ s.portFrozen p ∨ !s.octetClock p ∨ !s.passed x.attemptAt 0 then s
  else if s.portHeld p = 0 then
    (s.setPortState p 2).modPort p fun y => { y with
      tried := true, attempt := (y.attempt + 1) % 2 ^ 32, acked := false, answered := false, peerBody := [], ownBody := []
      advAt := none, headAdv := none, early := [] }
  else if s.passed x.attemptAt (usClocks (s.get F.CISCFG_STALL_STALL_US)) then
    (s.put (F.LANE_PORTSTAT_LASTDOWN p) 11).modPort p fun y => { y with tried := true, downAt := s.now }
  else s

/-- SIGNAL_ACQUIRED: every lane shows SIGNAL, with the latest eye measurements; in ALIGN a lane that had lost its
signal has it again. -/
def State.signalAcquired (s : State) (p : Nat) (eyes : List (Nat × Nat)) : State :=
  if s.portState p ≠ 2 ∧ s.portState p ≠ 3 then s
  else
    ((s.lanesOf p).zipIdx).foldl (fun t (l : Nat × Nat) =>
      let e := eyes.getD l.2 (0, 0)
      t.puts [(F.LANE_LANESTAT_SIGNAL l.1, 1), (F.LANE_LANESTAT_EYE_H l.1, e.1), (F.LANE_LANESTAT_EYE_W l.1, e.2)])
      (if s.portState p = 2 then s.setPortState p 3 else s)

/-- Core clock from which the locks of a port in ALIGN have held, with codeword errors in limit (R359). -/
def PortSt.heldFrom (x : PortSt) : Nat := max x.since (x.badAt.getD 0)

/-- ALIGN_ACHIEVED: every lane's locks held, with codeword errors in limit, for 1 ms; fabric FEC bounds the skew. -/
def State.alignAchieved (s : State) (p : Nat) (skew : List Nat) : State :=
  if s.portState p ≠ 3 ∨ !s.lanesLit p ∨ !s.passed (s.portSt p).heldFrom (msClocks 1)
    ∨ s.get (F.LANE_PORTLINK_UCW_LIMIT p) < (s.portSt p).ucw ∨ (s.portFec p = 1 ∧ skew.any (fabricSkew < ·)) then s
  else
    ((s.lanesOf p).zipIdx).foldl (fun t (l : Nat × Nat) =>
      t.puts [(F.LANE_LANESTAT_ALIGNED l.1, 1), (F.LANE_LANESTAT_SKEW l.1, skew.getD l.2 0)]) (s.setPortState p 4)

/-- A lane loses its lock; its skew then reads 0. -/
def State.unlock (s : State) (l : Nat) : State := s.puts [(F.LANE_LANESTAT_ALIGNED l, 0), (F.LANE_LANESTAT_SKEW l, 0)]

/-- A lane loses its signal. -/
def State.darken (s : State) (l : Nat) : State :=
  (s.puts [(F.LANE_LANESTAT_SIGNAL l, 0), (F.LANE_LANESTAT_EYE_H l, 0), (F.LANE_LANESTAT_EYE_W l, 0)]).unlock l

/-- BRINGUP_TIMEOUT: a stage has run out of time; `locked` says that in ALIGN the locks stood, so that codeword
errors held it. -/
def State.bringupTimeout (s : State) (p : Nat) (locked : Bool) : State :=
  let since := (s.portSt p).since
  match s.portState p with
  | 2 => if s.passed since (msClocks 100) then s.failAttempt p 2 else s
  | 3 => if s.passed since (msClocks 2) then s.failAttempt p (if locked then 4 else 3) else s
  | 4 => if s.passed since (msClocks 10) then s.failAttempt p 5 else s
  | _ => s

/-- In ALIGN a lost signal or lock breaks the hold of 1 ms. -/
def State.breakHold (s : State) (p : Nat) : State :=
  if s.portState p = 3 then s.modPort p fun x => { x with badAt := some s.now } else s

/-- LANE_LOS. -/
def State.laneLos (s : State) (l : Nat) : State :=
  match s.portOfLane l with
  | none => s.darken l
  | some p => ((s.darken l).breakHold p).leaveUp p 2

/-- LOCK_LOSS. -/
def State.lockLoss (s : State) (l : Nat) : State :=
  match s.portOfLane l with
  | none => s.unlock l
  | some p => ((s.unlock l).breakHold p).leaveUp p 3

/-- The fixed 1 ms intervals that have ended since reset, counted in core clocks (R369). -/
def State.msIntervals (s : State) : Nat := (s.now - s.time.resetAt) / msClocks 1

/-- UCW_INTERVAL: a fixed 1 ms interval ends; `idle` lists the codewords of it decoded outside frames. -/
def State.ucwInterval (s : State) (p : Nat) (idle : List LaneFec) : State :=
  if !s.isPort p ∨ !s.passed s.time.resetAt (msClocks ((s.portSt p).ucwAt + 1)) then s
  else
    let s0 := s.countFec p idle
    let n := (s0.portSt p).ucw
    let s1 := s0.modPort p fun x => { x with ucw := 0, ucwAt := s.msIntervals }
    let s2 := if n = 0 then s1 else s1.portPenalty p 2
    if s2.get (F.LANE_PORTLINK_UCW_LIMIT p) < n then s2.leaveUp p 4 else s2

/-- RETRAIN_ENTRY_EXPIRE. -/
def State.retrainExpire (s : State) (p : Nat) : State := s.countRetries p (s.recentDowns p)

/-- PORTCTL.CLEAR_FAIL: FAILED for DOWN, with an empty count. -/
def State.clearFail (s : State) (p : Nat) : State :=
  ((s.setPortState p 1).countRetries p []).modPort p fun x => { x with downAt := s.now }

/-! ### Lanes under test (R362) -/

/-- Whether a lane is in loopback or PRBS. -/
def State.laneTest (s : State) (l : Nat) : Bool := s.on (F.LANE_LANECFG_LOOP l) || s.on (F.LANE_LANECFG_PRBS l)

/-- A port is in TEST while one of its lanes is under test. -/
def State.judgeTest (s : State) (p : Nat) : State :=
  if (s.lanesOf p).any s.laneTest then (if s.portState p = 6 then s else s.setPortState p 6)
  else if s.portState p = 6 then s.setPortState p 0 else s

/-- Why a LANECFG write, which gives LOOP, PRBS, TXINV and RXINV, is refused: EN of the lane's port is 1. -/
def State.laneCfgCheck (s : State) (l : Nat) : Nat :=
  match s.portOfLane l with
  | none => 0
  | some p => if s.on (F.LANE_PORTCFG_EN p) then Rej.BUSY else 0

/-- The PRBS checker of a lane runs, or does not. -/
def State.setPrbs (s : State) (l : Nat) (on : Bool) : State :=
  let rest := s.board.prbs.filter fun (x : Nat) => x != l
  { s with board := { s.board with prbs := if on then l :: rest else rest } }

/-- One core clock of the PRBS checkers: what each finds adds to LANEBER. -/
def State.prbsTick (s : State) : State :=
  if s.board.prbs.isEmpty then s
  else s.board.prbs.foldl (fun t l => t.addSat (F.LANE_LANEBER_ERRORS l) (Config.prbsErrors l s.freeCtr)) s.freshFree

/-- An accepted LANECFG write: PRBS written clears the lane's count. -/
def State.laneCfg (s : State) (l w : Nat) : State :=
  let s0 := (s.setWord (0x100180 + 0x1000 * l) (BitVec.ofNat 32 w)).put (F.LANE_LANEBER_ERRORS l) 0
  let s1 := s0.setPrbs l (nfield w 29 27 != 0)
  match s1.portOfLane l with
  | none => s1
  | some p => s1.judgeTest p

/-! ### The stall of a queue (R33, R157) -/

/-- QUEUE_STALL: the packets of a queue blocked for the stall time are dropped, and arrivals until credit comes. -/
def State.queueStall (s : State) (p q : Nat) : State :=
  let x := s.queue p q
  match x.blockedSince, s.headPkt p q with
  | some t, some (_, k) =>
    if !s.passed t (usClocks (s.get F.CISCFG_STALL_STALL_US)) then s
    else
      let s1 := s.setQueue p q { x with ents := [], deficit := 0, stalled := true, stallVc := pVc k.bytes, blockedSince := none, blockedHead := 0 }
      let s2 := x.ents.foldl (fun u e => ((u.countCisPort p Ev.CIS_STALL_DROP 1).leftQueue p q e).unref e.pkt) s1
      ((s2.countCisPort p Ev.CIS_STALL 1).logReport Ev.CIS_STALL 0x700 (64 * p + q) x.ents.length 0).portPenalty p 64
  | _, _ => s

/-! ### The commands -/

def execLinkFrameRx (p : PortIx) (bytes : List Byte) (fec : List LaneFec) (s : State) : Out :=
  finish s (s.linkFrameRx p bytes fec)
def execCreditRx (p : PortIx) (s : State) : Out := finish s (s.creditRx p)
def execCensusRx (p : PortIx) (s : State) : Out := finish s (s.censusRx p)
def execDownRx (p : PortIx) (s : State) : Out := finish s (s.downRx p)
def execAdvertRx (p : PortIx) (s : State) : Out := finish s (s.advertRx p)
def execAdvackRx (p : PortIx) (s : State) : Out := finish s (s.advackRx p)
def execLinkLcRsv (p : PortIx) (s : State) : Out := finish s (s.lcReserved p)
def execCreditTx (p : PortIx) (v : Vc) (s : State) : Out := finish s (s.creditTx p v)
def execCensusTx (p : PortIx) (v : Vc) (s : State) : Out := finish s (s.censusTx p v)
def execAdvertTx (p : PortIx) (s : State) : Out := finish s (s.advertTx p)
def execBringupAttempt (p : PortIx) (s : State) : Out := finish s (s.bringupAttempt p)
def execSignalAcquired (p : PortIx) (eyes : List (BitVec 8 × BitVec 8)) (s : State) : Out :=
  finish s (s.signalAcquired p (eyes.map fun e => (e.1.toNat, e.2.toNat)))
def execAlignAchieved (p : PortIx) (skew : List (BitVec 8)) (s : State) : Out := finish s (s.alignAchieved p (skew.map BitVec.toNat))
def execBringupTimeout (p : PortIx) (locked : Bool) (s : State) : Out := finish s (s.bringupTimeout p locked)
def execLaneLos (l : PortIx) (s : State) : Out := finish s (s.laneLos l)
def execLockLoss (l : PortIx) (s : State) : Out := finish s (s.lockLoss l)
def execUcwInterval (p : PortIx) (idle : List LaneFec) (s : State) : Out := finish s (s.ucwInterval p idle)
def execRetrainEntryExpire (p : PortIx) (s : State) : Out := finish s (s.retrainExpire p)
def execQueueStall (p : PortIx) (q : Fin 64) (s : State) : Out := finish s (s.queueStall p q)

end Sys2Proof.Machine
end

