-- ==== Sys2Proof/Machine/Cages.lean ====
section
/-! DEFINITION. Module cages: insertion, the states of R365, retries and faults (R365 to R367), and module access by
the host (R368). -/

namespace Sys2Proof.Machine

/-- A cage beside its registers. -/
def State.cage (s : State) (c : Nat) : CageSt := SMap.get (fun _ => {}) s.cages c

/-- Hold a cage. -/
def State.setCage (s : State) (c : Nat) (v : CageSt) : State := { s with cages := SMap.set (fun _ => {}) s.cages c v }

/-- The ports of a cage's octet. -/
def State.cagePorts (s : State) (c : Nat) : List Nat := ((List.range 8).map (8 * c + ·)).filter s.isPort

/-- A cage's ResetL takes a level. -/
def State.resetL (s : State) (c : Nat) (level : Bool) : State := s.emit (.pin ("ResetL" ++ toString c) level)

/-- A two-wire access goes out on the pins: the cage's channel of the switch is selected first (R365). -/
def State.cmisOut (s : State) (c : Nat) (x : CmisTxn) : State :=
  (s.emit (.twoWire (c / 8) 0x70 (2 ^ (c % 8)))).emit (.cmis c x.write x.bank x.page x.off x.bytes)

/-- A two-wire access to a module, kept until something shows that it is acknowledged (R366, R367). -/
def State.cmis (s : State) (c : Nat) (write : Bool) (bank page off : Nat) (bytes : List Byte) : State :=
  s.onPins fun t =>
    (t.cmisOut c ⟨write, bank, page, off, bytes⟩).setCage c { t.cage c with sent := (t.cage c).sent ++ [⟨write, bank, page, off, bytes⟩] }

/-- A cage takes a state; leaving READY takes its ports down for reason 10. -/
def State.setCageState (s : State) (c st : Nat) : State :=
  let was := s.cageState c
  let s1 := (s.put (F.LANE_CAGESTAT_CSTATE (cagePage c)) st).setCage c { s.cage c with since := s.now, retries := 0, sent := [] }
  if was = 3 ∧ st ≠ 3 then (s1.cagePorts c).foldl State.cageLost s1 else s1

/-- A cage's LPMode takes a level. -/
def State.lpMode (s : State) (c : Nat) (level : Bool) : State := s.emit (.pin ("LPMode" ++ toString c) level)

/-- Event 1 of R367: RESET, and a pulse on ResetL; the module starts in low power, which event 4 releases. -/
def State.cageStart (s : State) (c : Nat) : State := (((s.setCageState c 1).lpMode c true).resetL c false).resetL c true

/-- CAGE_INSERT: ModPrsL is asserted. -/
def State.cageInsert (s : State) (c : Nat) : State :=
  ((s.put (F.LANE_CAGESTAT_PRESENT (cagePage c)) 1).setCage c { s.cage c with insertedAt := some s.now }).countPort (cagePage c) Ev.CAGE_INSERT 1

/-- Whether a module is present and its presence debounced: 50 ms since ModPrsL was asserted. -/
def State.cageHere (s : State) (c : Nat) : Bool :=
  s.on (F.LANE_CAGESTAT_PRESENT (cagePage c)) && (s.cage c).insertedAt.any fun t => s.passed t (msClocks 50)

/-- CAGE_DEBOUNCE: presence has stood for 50 ms; a cage that is not managed has its ResetL held. -/
def State.cageDebounce (s : State) (c : Nat) : State :=
  if s.cageState c = 0 ∧ s.cageHere c then
    if s.on (F.LANE_CAGECFG_EN (cagePage c)) then s.cageStart c else (s.setCageState c 1).resetL c false
  else s

/-- CAGE_REMOVE: every port of the octet goes down, and the cage is EMPTY; a module access under way still ends. -/
def State.cageRemove (s : State) (c : Nat) : State :=
  let s1 := (s.setCageState c 0).puts [(F.LANE_CAGESTAT_PRESENT (cagePage c), 0), (F.LANE_CAGESTAT_INT (cagePage c), 0),
    (F.LANE_CAGESTAT_POWER (cagePage c), 0)]
  (s1.setCage c { req := (s1.cage c).req }).countPort (cagePage c) Ev.CAGE_REMOVE 1

/-- The code of the application that a port of an octet takes: its host interface the C2M one of the port's width, and
starting at the port's first host lane (R366). -/
def State.appFor (s : State) (apps : List ModuleApp) (p : Nat) : Option Nat :=
  (apps.find? fun a => a.c2m && a.lanes.val == s.portLanes p && nbit a.starts.toNat (p % 8) == 1).map fun a => a.code.val

/-- Staged control set 0 of a cage: each host lane's application and the first lane of its data path. -/
def State.stageFor (s : State) (apps : List ModuleApp) (c : Nat) : List (Option (Nat × Nat)) :=
  (List.range 8).map fun i =>
    match (s.cagePorts c).find? fun p => decide (p ≤ 8 * c + i) && decide (8 * c + i < p + s.portLanes p) with
    | some p => (s.appFor apps p).map fun a => (a, p % 8)
    | none => none

/-- Bits of the host lanes for which a condition holds on what is staged. -/
def stagedBits (l : List (Option (Nat × Nat))) (p : Option (Nat × Nat) → Bool) : Byte :=
  BitVec.ofNat 8 ((l.zipIdx).foldl (fun n (x : Option (Nat × Nat) × Nat) => if p x.1 then n + 2 ^ x.2 else n) 0)

/-- The accesses of event 4 of R367.  PRESUMED from CMIS 5: LowPwr is released at byte 26; page 10h holds the transmit
disables at 130, the staged set's apply register at 143 and its lanes from 145, the flag masks from 213, and the data
path deinitialisation at 128. -/
def State.stageApps (s : State) (c : Nat) (l : List (Option (Nat × Nat))) : State :=
  let dp : List Byte := l.map fun x => match x with
    | some (a, first) => BitVec.ofNat 8 (a * 16 + first * 2)
    | none => 0#8
  let used := stagedBits l Option.isSome
  let s1 := s.setCage c { s.cage c with staged := l, masks := List.replicate 32 0#8, paths := [] }
  ((((((s1.lpMode c false).cmis c true 0 0 26 [0x00#8]).cmis c true 0 0x10 145 dp).cmis c true 0 0x10 130 [stagedBits l Option.isNone]).cmis
    c true 0 0x10 213 (List.replicate 32 0#8)).cmis c true 0 0x10 143 [used]).cmis c true 0 0x10 128 [~~~used]

/-- Whether each port of a cage's octet has an application of the module (R365). -/
def State.appsFit (s : State) (apps : List ModuleApp) (c : Nat) : Bool := (s.cagePorts c).all fun p => (s.appFor apps p).isSome

/-- The ports of the octet of a managed module changed: each has an application selected anew, or the cage is REFUSED
(R365, R366).  A data path that is not active yet takes the cage to INIT; where ports only went, it stays as it is. -/
def State.restage (s : State) (c : Nat) : State :=
  let x := s.cage c
  let l := s.stageFor x.apps c
  if !([2, 3, 5].contains (s.cageState c)) || !s.on (F.LANE_CAGECFG_EN (cagePage c)) || !x.suits then s
  else if !s.appsFit x.apps c then (if s.cageState c = 5 then s else s.setCageState c 5)
  else if s.cageState c ≠ 5 ∧ l = x.staged then s
  else if s.cageState c ≠ 5 ∧ (l.zip x.staged).all fun y => y.1.isNone || y.1 == y.2 then s.stageApps c l
  else (s.setCageState c 2).stageApps c l

/-- FAULT (R367): counted and logged; the module is reset once and starts again, but a second FAULT within 60 s
holds the cage in FAULT. -/
def State.cageFault (s : State) (c : Nat) : State :=
  let x := s.cage c
  let again : Bool := x.faultAt.any fun t => !s.passed t (secClocks 60)
  let s1 := ((s.setCageState c 4).countPort (cagePage c) Ev.CMIS_FAULT 1).logReport Ev.CMIS_FAULT (0x100 + cagePage c) (cagePage c) 0 0
  let s2 := s1.setCage c { s1.cage c with faultAt := some s.now, stuck := again }
  if again then s2 else s2.cageStart c

/-- Whether a cage has been in its state for the 60 s within which R367 has ModuleReady and the data paths come. -/
def State.cageLate (s : State) (c : Nat) : Bool := s.passed (s.cage c).since (secClocks 60 + 1)

/-- MODULE_READY: identity, revision and power class are read; REFUSED where R365 says so, else INIT, LowPwr released,
an application staged for each port and its data path asked for.  Past 60 s it comes too late: FAULT. -/
def State.moduleReady (s : State) (c : Nat) (f : ModuleFacts) : State :=
  if s.cageState c ≠ 1 ∨ !s.on (F.LANE_CAGECFG_EN (cagePage c)) then s
  else if s.cageLate c then s.cageFault c
  else
    let suits : Bool := f.major == 5 && decide (f.power.toNat ≤ s.get (F.LANE_CAGECFG_PMAX (cagePage c)))
    let s1 := (s.put (F.LANE_CAGESTAT_POWER (cagePage c)) f.power.toNat).setCage c { s.cage c with
      modState := 3, apps := f.apps, suits := suits }
    if !suits || !s.appsFit f.apps c then s1.setCageState c 5
    else (s1.setCageState c 2).stageApps c (s.stageFor f.apps c)

/-- READY, and the ports with EN 1 start bring-up. -/
def State.cageUp (s : State) (c : Nat) : State :=
  let s1 := s.setCageState c 3
  (s1.cagePorts c).foldl (fun t p => if t.portState p = 1 then t.modPort p fun x => { x with since := t.now, tried := false } else t) s1

/-- The data path state of CMIS in which a data path carries traffic (PRESUMED: DPActivated). -/
def dpActive : Nat := 4

/-- DATAPATH_READY: the data paths of the ports' lanes are activated. -/
def State.datapathReady (s : State) (c : Nat) : State :=
  if s.cageState c ≠ 2 then s
  else if s.cageLate c then s.cageFault c
  else (s.setCage c { s.cage c with paths := (s.cage c).staged.map fun x => if x.isSome then dpActive else 1 }).cageUp c

/-- The read by which the SPC polls a module's state (PRESUMED from CMIS 5: byte 3 of the lower page). -/
def cmisPoll : CmisTxn := ⟨false, 0, 0, 3, []⟩

/-- CMIS_TIMEOUT: after `acked` transactions that were acknowledged, one was not: it is issued again, at most three times;
then FAULT. -/
def State.cmisTimeout (s : State) (c acked : Nat) : State :=
  let x := s.cage c
  let sent := x.sent.drop acked
  let tried := if acked = 0 then x.retries else 0
  if [0, 4].contains (s.cageState c) || (s.cageState c == 5 && x.req.isNone) then s
  else if tried < 3 then
    ((s.setCage c { x with sent := sent, retries := tried + 1 }).countPort (cagePage c) Ev.CMIS_RETRY 1).onPins fun t =>
      t.cmisOut c (sent.head?.getD cmisPoll)
  else s.cageFault c

/-- CMIS_STATE_TIME_EXPIRE: the power-up or data path time that the module advertises, at most 60 s, has run out. -/
def State.stageExpire (s : State) (c ms : Nat) : State :=
  if (s.cageState c = 1 ∨ s.cageState c = 2) ∧ s.on (F.LANE_CAGECFG_EN (cagePage c))
    ∧ s.passed (s.cage c).since (msClocks (min ms 60000)) then s.cageFault c else s

/-- What a module reports is followed (R365, R368): a fault of its own is FAULT, and a cage whose ports' data paths are
no longer all active goes back to INIT.  PRESUMED from CMIS 5: module state 5 is its fault state. -/
def State.followModule (s : State) (c : Nat) (r : ModuleRead) : State :=
  let s1 := s.setCage c { s.cage c with modState := r.state.toNat, paths := r.paths.map BitVec.toNat, flags := r.flags, retries := 0, sent := [] }
  let idle := ((s.cage c).staged.zip r.paths).any fun (x : Option (Nat × Nat) × BitVec 4) => x.1.isSome && x.2.toNat != dpActive
  if r.state.toNat = 5 then s1.cageFault c else if idle then s1.setCageState c 2 else s1

/-- CMIS_MONITOR_POLL: the monitors, and the module's state, are read every 1 s. -/
def State.monitorPoll (s : State) (c : Nat) (r : ModuleRead) : State :=
  let x := s.cage c
  if s.cageState c ≠ 3 ∨ s.mgmt.spcDown ∨ !s.passed x.polledAt (secClocks 1) then s
  else ((s.setCage c { x with polledAt := s.now, retries := 0 }).cmis c false 0 0x11 128 []).followModule c r

/-- CAGE_INTL: IntL is asserted and the flags are read; `cleared` says that the module deasserts it then. -/
def State.cageIntl (s : State) (c : Nat) (cleared : Bool) (r : ModuleRead) : State :=
  let s1 := s.put (F.LANE_CAGESTAT_INT (cagePage c)) (if cleared then 0 else 1)
  if s.cageState c = 3 then (s1.cmis c false 0 0 8 []).followModule c r else s1

/-- CAGECFG.EN: 0 holds ResetL asserted; 1 after 0 releases the cage, which starts at event 1 where a module is
present and debounced; before that CAGE_DEBOUNCE starts it. -/
def State.cageEn (s : State) (c : Nat) (en : Bool) : State :=
  let was := s.on (F.LANE_CAGECFG_EN (cagePage c))
  let s1 := s.put (F.LANE_CAGECFG_EN (cagePage c)) (if en then 1 else 0)
  let here := s.cageHere c
  if was ∧ !en then (if here then s1.setCageState c 1 else s1).resetL c false
  else if !was ∧ en then
    let s2 := s1.setCage c { s1.cage c with stuck := false, faultAt := none }
    if here then s2.cageStart c else s2.resetL c true
  else s1

/-! ### Module access (R368) -/

/-- Why a module access is refused; 0 if it is not. -/
def State.cageAccCheck (s : State) (c : Nat) (write : Bool) (off len : Nat) : Nat :=
  if s.on (F.LANE_CAGEACCST_BUSY (cagePage c)) then Rej.BUSY
  else if s.cageState c ≤ 1 then Rej.ABSENT
  else if 256 < off + len ∨ (off < 128 ∧ 128 < off + len) then Rej.RANGE
  else if write ∧ off ≤ 127 ∧ 126 < off + len then Rej.RANGE
  else 0

/-- An access ends. -/
def State.cageAccEnd (s : State) (c code : Nat) : State :=
  (s.raise (F.LANE_CAGEACCST_DONE (cagePage c))).puts [(F.LANE_CAGEACCST_OK (cagePage c), if code = 0 then 1 else 0),
    (F.LANE_CAGEACCST_CODE (cagePage c), code)]

/-- The access buffer. -/
def State.cageBuf (s : State) (c n : Nat) : List Byte := (s.barBytes (0x100200 + 0x1000 * cagePage c) 32).take n

/-- CAGEACC_GO: the request is checked and goes to the SPC; refused, it leaves the traces of a rejected write (R403). -/
def State.cageAcc (s : State) (agent c w : Nat) : State :=
  let write : Bool := nbit w 30 == 1
  let len := nfield w 29 23 + 1
  let off := nfield w 7 0
  match s.cageAccCheck c write off len with
  | 0 =>
    let s1 := s.setCage c { s.cage c with req := some ⟨write, off, len⟩ }
    (s1.put (F.LANE_CAGEACCST_BUSY (cagePage c)) 1).cmis
      c write (s.get (F.LANE_CAGEBANK_BANK (cagePage c))) (nfield w 15 8) off (if write then s.cageBuf c len else [])
  | code => (s.reject agent (0x1001c8 + 0x1000 * cagePage c) w code).cageAccEnd c code

/-- CAGEACC_DONE: the module has acknowledged, and a read's data stand in the buffer; or it has not after the retries, and
a cage that CMIS_TIMEOUT has not already sent to FAULT goes there (R367). -/
def State.cageAccDone (s : State) (c : Nat) (ack : Bool) (data : List Byte) : State :=
  match (s.cage c).req with
  | none => s
  | some r =>
    let s1 := (s.setCage c { s.cage c with req := none }).put (F.LANE_CAGEACCST_BUSY (cagePage c)) 0
    if !ack then
      let s2 := s1.cageAccEnd c Rej.IO
      if [2, 3, 5].contains (s.cageState c) then s2.cageFault c else s2
    else
      let s2 : State := if r.write then s1
        else ((slice data 0 r.len).zipIdx).foldl (fun t (x : Byte × Nat) => t.setByte (0x100200 + 0x1000 * cagePage c + x.2) x.1.toNat) s1
      (s2.setCage c { s2.cage c with retries := 0, sent := [] }).cageAccEnd c 0

/-! ### The commands -/

def execCageInsert (c : CageIx) (s : State) : Out := finish s (s.cageInsert c)
def execCageDebounce (c : CageIx) (s : State) : Out := finish s (s.cageDebounce c)
def execCageRemove (c : CageIx) (s : State) : Out := finish s (s.cageRemove c)
def execModuleReady (c : CageIx) (f : ModuleFacts) (s : State) : Out := finish s (s.onPins fun t => t.moduleReady c f)
def execDatapathReady (c : CageIx) (s : State) : Out := finish s (s.onPins fun t => t.datapathReady c)
def execCmisTimeout (c : CageIx) (acked : Fin 8) (s : State) : Out := finish s (s.cmisTimeout c acked)
def execCmisMonitorPoll (c : CageIx) (r : ModuleRead) (s : State) : Out := finish s (s.onPins fun t => t.monitorPoll c r)
def execCageIntl (c : CageIx) (cleared : Bool) (r : ModuleRead) (s : State) : Out := finish s (s.onPins fun t => t.cageIntl c cleared r)
def execCageaccDone (c : CageIx) (ack : Bool) (data : List Byte) (s : State) : Out := finish s (s.cageAccDone c (ack && !s.mgmt.tap.extest) data)
def execCmisStateTimeExpire (c : CageIx) (ms : BitVec 16) (s : State) : Out := finish s (s.stageExpire c ms.toNat)

end Sys2Proof.Machine
end

