-- ==== Sys2Proof/Machine/Ptp.lean ====
section
/-! DEFINITION. The time protocol on links (R380 to R385), and the packets that the SPC and the time block
originate (R130). -/

namespace Sys2Proof.Machine

/-! ### Messages (R380, R381) -/

/-- The PTP message of a TIME packet. -/
def ptpMsg (b : List Byte) : List Byte := b.drop 16

/-- messageType, majorSdoId, versions, messageLength, domainNumber, twoStepFlag, sequenceId. -/
def ptpType (b : List Byte) : Nat := hbits b 132 135
def ptpSdo (b : List Byte) : Nat := hbits b 128 131
def ptpVersion (b : List Byte) : Nat := hbits b 136 143
def ptpLength (b : List Byte) : Nat := hbits b 144 159
def ptpDomain (b : List Byte) : Nat := hbits b 160 167
def ptpTwoStep (b : List Byte) : Bool := hbits b 182 182 == 1
def ptpSeq (b : List Byte) : Nat := hbits b 368 383

/-- correctionField, in 2^-16 ns. -/
def ptpCorr (b : List Byte) : Int := toSigned 64 (hbits b 192 255)

/-- The timestamp of a message with its seconds and ns, in 2^-16 ns. -/
def ptpTime (b : List Byte) : Int := (((hbits b 400 447) * 1000000000 + hbits b 448 479) * 65536 : Nat)

/-- sourcePortIdentity and requestingPortIdentity. -/
def ptpSource (b : List Byte) : List Byte := slice b 36 10
def ptpRequester (b : List Byte) : List Byte := slice b 60 10

/-- Bytes that a message kind requires; none for kinds the part does not take.  PRESUMED: message types and
lengths are those of IEEE 1588-2019, by which R381 lays messages out. -/
def ptpNeeds (type : Nat) : Option Nat :=
  match type with
  | 0x0 => some 44
  | 0x1 => some 44
  | 0x8 => some 44
  | 0x9 => some 54
  | 0xb => some 64
  | _ => none

/-! ### Port roles (R380) -/

/-- The slave port, in source PORT. -/
def State.slavePort (s : State) : Option Nat :=
  if s.get F.TIME_CTL_SRC = 1 ∧ s.isPort (s.get F.TIME_CTL_SLAVE_PORT) then some (s.get F.TIME_CTL_SLAVE_PORT) else none

/-- Whether a port serves time: MASTER, which SLAVE_PORT ignores (R393). -/
def State.servesTime (s : State) (p : Nat) : Bool :=
  s.isPort p && s.on (F.LANE_PORTTIME_MASTER p) && s.slavePort != some p

/-- The message kind by which the time block takes a TIME packet: messageType, or none where it drops it as
unsupported, of another domain, malformed, or on a port without the role for it. -/
def State.timeKind (s : State) (x : TimeRx) : Option Nat :=
  let b := x.bytes
  let role : Bool := if ptpType b = 0x1 then s.servesTime x.port else s.slavePort == some x.port
  if ptpSdo b = 0 ∧ ptpVersion b = 0x12 ∧ ptpDomain b = s.get F.TIME_CTL_DOMAIN ∧ role
      ∧ pLen b = ptpLength b ∧ ptpLength b = b.length - 16 ∧ ((ptpNeeds (ptpType b)).any fun n => decide (n ≤ ptpLength b))
  then some (ptpType b) else none

/-- The receive timestamp of a packet (R383). -/
def TimeRx.stamp (x : TimeRx) : Stamp := ⟨(x.sec * 1000000000 + x.ns) * 65536 + x.frac, x.epoch⟩

/-- Take the packet at the front if the time block finds it of kind `k`. -/
def State.takeTime (s : State) (k : Option Nat) (f : TimeRx → State → State) : State :=
  match s.time.rxQ with
  | [] => s
  | x :: rest =>
    if s.timeKind x = k then f x (({ s with time := { s.time with rxQ := rest } }).consume x.pkt) else s

/-! ### Originated packets (R130, R382) -/

/-- A packet is handed for origination; without an own spine number it is freed where it is formed (R62). -/
def State.originate (s : State) (r : OrigReq) : State :=
  if s.on F.FWDID_SELF_VALID then { s with cis := { s.cis with origQ := s.cis.origQ ++ [r] } } else s

/-- The base header of a TIME packet on a port (R382). -/
def State.timeHeader (s : State) (p len : Nat) : List Byte :=
  dfpHeader 1 1 s.activeBank 0 (s.get (F.LANE_PORTTIME_CLASS p))
    (epId 1 (s.get (F.LANE_PORTPEER_NUMBER p)) (s.get (F.LANE_PORTTIME_LEAFFUNC p))) (s.selfId 0) len 0 0

/-- sourcePortIdentity of a port: the EUI-64, and the port index + 1 (R380). -/
def portIdentity (p : Nat) : List Byte := beBytes 8 Config.eui64.toNat ++ beBytes 2 (p + 1)

/-- A message header of 34 bytes: type, length, domain, second octet of flagField, correctionField, port,
sequenceId and logMessageInterval.  PRESUMED: controlField is 0, as the standard has it on transmission. -/
def State.ptpHeader (s : State) (p type len flags corr seq log : Nat) : List Byte :=
  beBytes 1 type ++ beBytes 1 0x12 ++ beBytes 2 len ++ beBytes 1 (s.get F.TIME_CTL_DOMAIN) ++ beBytes 1 0
    ++ beBytes 1 0 ++ beBytes 1 flags ++ beBytes 8 corr ++ beBytes 4 0 ++ portIdentity p ++ beBytes 2 seq
    ++ beBytes 1 0 ++ beBytes 1 log

/-- Originate a TIME packet on a port. -/
def State.sendTime (s : State) (p : Nat) (msg : List Byte) (k : PtpTx) : State :=
  s.originate { bytes := s.timeHeader p msg.length ++ msg, port := some p, ptp := k }

/-- ORIGIN_POOL_GRANT: the oldest originated packet obtains origin pool cells and goes to its port, or is resolved
in the active bank, which its E then names (R89); or it waits.  `launch` is the launch time that the originator gave it, if any (R155): one
with NS above 999,999,999 is refused and the packet is not queued (R390). -/
def State.originGrant (s : State) (launch : Option Nat) : State :=
  match s.cis.origQ with
  | [] => s
  | o :: rest =>
    let gone : State := { s with cis := { s.cis with origQ := rest } }
    let wait : State := if o.waited then s else
      { s with cis := { s.cis with origQ := { o with waited := true } :: rest } }.countCis Ev.CIS_ORIG_WAIT 1
    if launch.any fun l => decide (999999999 < l % 2 ^ 30) then gone
    else if s.get F.CISCFG_ORIG_ORIG_CELLS < s.chargedSeen .origin + cellsOf o.bytes.length then wait
    else
      let bank := s.activeBank
      let bytes := setEpoch o.bytes bank
      match gone.newPkt { bytes := bytes, acct := .origin, cells := [], bank := bank, launch := launch, ptp := o.ptp } with
      | none => wait
      | some (i, t) =>
        match o.port with
        | some p => t.offerOne p i
        | none =>
          let r := t.route none bank bytes
          match r.1 with
          | .drop ev => (r.2.countFwd ev 1).releasePkt i
          | x => r.2.dispatch i x

/-! ### The slave port (R376, R380, R385) -/

/-- PTP_SYNC_RX: the Sync is timestamped and handed to the SPC; a two-step Sync awaits its Follow_Up. -/
def State.syncRx (s : State) : State :=
  s.takeTime (some 0x0) fun x s1 =>
    let s2 : State := { s1 with time := { s1.time with
      syncSeq := ptpSeq x.bytes
      syncT1 := (if ptpTwoStep x.bytes then 0 else ptpTime x.bytes) + ptpCorr x.bytes
      syncT2 := x.stamp
      syncWait := ptpTwoStep x.bytes
      syncValid := !ptpTwoStep x.bytes } }
    s2.countBoth 0xd00 1 x.port Ev.TIME_SYNC_RX 1

/-- PTP_FOLLOW_UP_RX: the origin time of the two-step Sync it names. -/
def State.followUpRx (s : State) : State :=
  s.takeTime (some 0x8) fun x s1 =>
    if s1.time.syncWait ∧ s1.time.syncSeq = ptpSeq x.bytes then
      { s1 with time := { s1.time with
        syncT1 := s1.time.syncT1 + ptpTime x.bytes + ptpCorr x.bytes
        syncWait := false
        syncValid := true } }
    else s1

/-- The exchange's times: meanPathDelay, and the offset with delayAsymmetry taken as IEEE 1588 takes it, in
2^-16 ns.  DEDUCED: t4 is the answer's receiveTimestamp and what its correctionField adds to that of the
Delay_Req (R384), whose own is FRAC of its transmit timestamp. -/
def State.exchange (s : State) (b : List Byte) : Int × Int :=
  let t1 := s.time.syncT1
  let t2 : Int := s.time.syncT2.t
  let t3 : Int := s.time.dreqT3.t
  let t4 := ptpTime b + ptpCorr b - ((s.time.dreqT3.t % 65536 : Nat) : Int)
  let mpd := ((t2 - t1) + (t4 - t3)) / 2
  (mpd, t2 - t1 - mpd - s.gets (F.LANE_PORTASYM_ASYM (s.get F.TIME_CTL_SLAVE_PORT)))

/-- PTP_DELAY_RESP_RX: the answer to the outstanding Delay_Req completes the exchange with the latest Sync, and
the SPC writes one sample; without a matching request it is ignored and counted. -/
def State.delayRespRx (s : State) : State :=
  s.takeTime (some 0x9) fun x s1 =>
    if s1.time.dreqSeq ≠ some (ptpSeq x.bytes) ∨ ptpRequester x.bytes ≠ portIdentity x.port then
      s1.countAt 0xd00 Ev.TIME_SAMPLE_DROP 1
    else
      let e := s1.exchange x.bytes
      let ok := s1.time.syncValid
      let epoch := if s1.time.syncT2.epoch = s1.time.steps then s1.time.dreqT3.epoch else s1.time.syncT2.epoch
      let s2 : State := { s1 with time := { s1.time with dreqSeq := none, syncValid := false } }
      if !ok then s2
      else (s2.put (F.LANE_PORTMPD_MPD x.port) (clampInt 0 4294967295 e.1).toNat).sampleArrives e.2 epoch

/-- PTP_ANNOUNCE_RX: the Announce is kept for re-announcement. -/
def State.announceRx (s : State) : State :=
  s.takeTime (some 0xb) fun x s1 => { s1 with time := { s1.time with announce := (ptpMsg x.bytes).take 64 } }

/-- TIME_MSG_UNSUP: the packet is dropped and counted. -/
def State.timeUnsup (s : State) : State :=
  s.takeTime none fun x s1 => s1.countBoth 0xd00 1 x.port Ev.TIME_MSG_UNSUP 1

/-- PTP_DELAY_REQ_TX: the slave port asks. -/
def State.delayReqTx (s : State) : State :=
  match s.slavePort with
  | none => s
  | some p =>
    if !s.portUp p then s
    else
      let n := s.time.seqDreq
      let s1 : State := { s with time := { s.time with seqDreq := (n + 1) % 65536, dreqSeq := some n, dreqT3 := {} } }
      s1.sendTime p (s.ptpHeader p 0x1 44 0 0 n 0x7f ++ List.replicate 10 0#8) .delayReq

/-! ### Master ports (R380, R384) -/

/-- PTP_DELAY_REQ_RX: answered with the receive timestamp and the correction. -/
def State.delayReqRx (s : State) : State :=
  s.takeTime (some 0x1) fun x s1 =>
    let b := x.bytes
    let corr := ofSigned 64 (ptpCorr b + (x.frac : Int))
    let msg := s1.ptpHeader x.port 0x9 54 0 corr (ptpSeq b) 0 ++ beBytes 6 (x.sec % 2 ^ 48) ++ beBytes 4 x.ns ++ ptpSource b
    (s1.countBoth 0xd00 1 x.port Ev.TIME_DREQ_RX 1).sendTime x.port msg .delayResp

/-- Whether a message that a port last sent at `at_` (plus 1; 0 none) is due after `d` core clocks. -/
def State.txDue (s : State) (at_ d : Nat) : Bool := at_ == 0 || s.passed (at_ - 1) d

/-- PTP_SYNC_TX: a one-step Sync, whose timestamp is inserted as it leaves. -/
def State.syncTx (s : State) (p : Nat) : State :=
  let log := s.get (F.LANE_PORTTIME_SYNC_LOG p)
  if s.servesTime p ∧ s.portUp p ∧ s.txDue (SMap.get (fun _ => 0) s.time.lastSyncTx p) (secClocks 1 / 2 ^ log) then
    let n := SMap.get (fun _ => 0) s.time.seqSync p
    let s1 : State := { s with time := { s.time with
      lastSyncTx := SMap.set (fun _ => 0) s.time.lastSyncTx p (s.now + 1)
      seqSync := SMap.set (fun _ => 0) s.time.seqSync p ((n + 1) % 65536) } }
    s1.sendTime p (s.ptpHeader p 0x0 44 0 0 n (ofSigned 8 (-(log : Int))) ++ List.replicate 10 0#8) .sync
  else s

/-- The body of the Announces sent, with flagField's second octet: the latest Announce of the slave port with
stepsRemoved raised, or the staged defaultDS. -/
def State.announceBody (s : State) : List Byte × Nat :=
  let a := s.time.announce
  let d := (s.time.ddsStaged).getD s.time.dds
  if s.get F.TIME_CTL_SRC = 1 ∧ a ≠ [] then
    (slice a 44 17 ++ beBytes 2 ((beNat (slice a 61 2) + 1) % 65536) ++ slice a 63 1, beNat (slice a 7 1) % 64)
  else
    ((slice d 8 2).reverse ++ [0#8] ++ slice d 0 1 ++ slice d 2 1 ++ slice d 3 1 ++ (slice d 4 2).reverse ++ slice d 1 1
      ++ beBytes 8 Config.eui64.toNat ++ beBytes 2 0 ++ slice d 6 1, beNat (slice d 7 1) % 64)

/-- PTP_ANNOUNCE_TX: once a second on a MASTER port. -/
def State.announceTx (s : State) (p : Nat) : State :=
  if s.servesTime p ∧ s.portUp p ∧ s.txDue (SMap.get (fun _ => 0) s.time.lastAnnTx p) (secClocks 1) then
    let n := SMap.get (fun _ => 0) s.time.seqAnn p
    let b := s.announceBody
    let s1 : State := { s with time := { s.time with
      lastAnnTx := SMap.set (fun _ => 0) s.time.lastAnnTx p (s.now + 1)
      seqAnn := SMap.set (fun _ => 0) s.time.seqAnn p ((n + 1) % 65536)
      dds := s.time.ddsStaged.getD s.time.dds
      ddsStaged := none } }
    s1.sendTime p (s.ptpHeader p 0xb 64 b.2 0 n 0 ++ List.replicate 10 0#8 ++ b.1) .announce
  else s

/-! ### The commands -/

def execPtpSyncRx (s : State) : Out := finish s s.syncRx
def execPtpFollowUpRx (s : State) : Out := finish s s.followUpRx
def execPtpDelayReqRx (s : State) : Out := finish s s.delayReqRx
def execPtpDelayRespRx (s : State) : Out := finish s s.delayRespRx
def execPtpAnnounceRx (s : State) : Out := finish s s.announceRx
def execTimeMsgUnsup (s : State) : Out := finish s s.timeUnsup
def execPtpSyncTx (port : PortIx) (s : State) : Out := finish s (s.syncTx port)
def execPtpDelayReqTx (s : State) : Out := finish s s.delayReqTx
def execPtpAnnounceTx (port : PortIx) (s : State) : Out := finish s (s.announceTx port)
def execOriginPoolGrant (launch : Option (BitVec 64)) (s : State) : Out := finish s (s.originGrant (launch.map BitVec.toNat))

end Sys2Proof.Machine
end

