-- ==== Sys2Proof/Machine/Sluice.lean ====
section
/-! DEFINITION. The Sluice: freezing, draining and returning a port, Basin, stack or plane (R451, R452). -/

namespace Sys2Proof.Machine

/-- The blocks that the Sluice can freeze, by page (R452). -/
inductive Block where
  | port (p : Nat)
  | basin (b : Nat)
  | stack (j : Nat)
  | plane (k : Nat)
  deriving DecidableEq, Repr

/-- The block of a page; none for pages that do not freeze. -/
def State.blockOf (s : State) (page : Nat) : Option Block :=
  if 0x100 ≤ page ∧ page < 0x500 then (if s.isPort (page - 0x100) then some (.port (page - 0x100)) else none)
  else if 0xa00 ≤ page ∧ page < 0xa32 then some (.basin (page - 0xa00))
  else if 0xb10 ≤ page ∧ page < 0xb20 then some (.stack (page - 0xb10))
  else if 0xc10 ≤ page ∧ page ≤ 0xc18 then some (.plane (page - 0xc10))
  else none

/-- The arbiters of a stack's 32 channels. -/
def stackChans (j : Nat) : List Nat := (List.range 32).map fun i => 16 * i + j

/-- Why a write of CTRL is refused (R451, R452); 0 if it is not. -/
def State.freezeCheck (s : State) (page : Nat) (freeze : Bool) : Nat :=
  if freeze = s.on (F.COMMON_CTRL_FREEZE page) then 0
  else if freeze then
    match s.blockOf page with
    | none => Rej.RANGE
    | some (.plane 8) => if s.get F.GLASS_GLMIG_STATUS_SPARE ≠ 0 then Rej.BUSY else 0
    | _ => 0
  else if s.on (F.COMMON_STATUS_DRAINING page) then Rej.BUSY
  else 0

/-! ### At freeze -/

/-- The contexts that are OPEN with a Basin in their mask. -/
def State.ctxsOn (s : State) (b : Nat) : List Nat := s.openCtxs.filter fun c => (s.params c).basins.contains b

/-- FREEZE of an arbiter. -/
def State.freezeArb (s : State) (i : Nat) (on : Bool) : State := (s.put (F.ARB_CTRL_FREEZE i) (if on then 1 else 0)).arbFreeze i on

/-- What freezing a block does at once.  A port that is not UP ends its attempt, since it may not reach UP before it is
unfrozen.  Of the contexts of a Basin, those that are OPEN close (R171). -/
def State.freezeBlock (s : State) : Block → State
  | .port p => (s.refreshPort p).failAttempt p 8
  | .basin b => (s.ctxsOn b).foldl (fun t c => t.closeCtx c (some stAborted)) s
  | .stack j => (stackChans j).foldl (fun t i => t.freezeArb i true) s
  | .plane _ => s

/-- A block becomes FROZEN. -/
def State.sluiceFrozen (s : State) (page : Nat) : State :=
  ({ s with hlth := { s.hlth with freezeAt := SMap.set (fun _ => 0) s.hlth.freezeAt page 0 } }).puts
    [(F.COMMON_STATUS_DRAINING page, 0), (F.COMMON_STATUS_FROZEN page, 1)]

/-- FREEZE written 1: DRAINING. -/
def State.sluiceFreeze (s : State) (page : Nat) : State :=
  match s.blockOf page with
  | none => s
  | some b =>
    let s1 := s.puts [(F.COMMON_CTRL_FREEZE page, 1), (F.COMMON_STATUS_DRAINING page, 1)]
    let s2 : State := { s1 with hlth := { s1.hlth with freezeAt := SMap.set (fun _ => 0) s1.hlth.freezeAt page (s.now + 1) } }
    (s2.countMgmt Ev.SLUICE_FREEZE 1).freezeBlock b

/-! ### Draining -/

/-- Whether a port's queues are empty and nothing is being sent. -/
def State.queuesEmpty (s : State) (p : Nat) : Bool :=
  (s.usedQueues p).all (fun q => (s.queue p q).ents.isEmpty) && (s.portSt p).tx == none

/-- Whether a memory request of a Basin, or its answer, is on its way. -/
def State.ringBusy (s : State) (b : Nat) : Bool :=
  let mine (x : MemSrc) : Bool := match x with
    | .host _ => false
    | .reg _ => false
    | .hyper _ _ => false
    | y => y.basin == b
  let pkt (p : RingPkt) : Bool := match p.body with
    | .req _ r => mine r.src
    | .rsp r => mine r.src
  s.mem.ring.any pkt || s.mem.stopQ.any (fun (x : Nat × List RingPkt) => x.2.any pkt)
    || s.mem.chanQ.any (fun (x : Nat × List MemReq) => x.2.any fun r => mine r.src)

/-- The drain condition of a block. -/
def State.drained (s : State) : Block → Bool
  | .port p => s.queuesEmpty p
  | .basin b =>
    (List.range 24).all (fun k => (s.core b k).inv.isNone) && (s.dma b).q.isEmpty && !s.ringBusy b
      && (s.array b).owner.isNone && (s.array b).job.isNone
      && s.col.releaseQ.all (fun (x : SlotRec × Nat) => x.1.basin != b)
      && (s.path b).isEmpty && (s.finItems b).isEmpty && (SMap.get (fun _ => []) s.col.kernQ b).isEmpty
  | .stack j => (stackChans j).all fun i => !s.arbHolds i
  | .plane 8 => true
  | .plane k => (s.plane k).frozenIn || (s.plane k).entry.isNone || s.spareServes == some k

/-- SLUICE_DRAINED: the drain condition holds and the block is FROZEN; a port leaves UP first and is FROZEN once
its account is empty. -/
def State.sluiceDrained (s : State) (page : Nat) : State :=
  match s.blockOf page with
  | none => s
  | some b =>
    if !s.on (F.COMMON_STATUS_DRAINING page) ∨ !s.drained b then s
    else
      let s1 : State := match b with
        | .port p => s.leaveUp p 8
        | .plane k => if k = 8 then s else s.holdUnlit
        | _ => s
      let wait : Bool := match b with
        | .port p => s1.portHeld p != 0
        | _ => false
      if wait then s1 else (s1.sluiceFrozen page).istat F.HLTH_ISTAT_ISTAT 10

/-! ### Flush at the timeout -/

/-- The packets of a port's queues are dropped. -/
def State.dropQueues (s : State) (p : Nat) : State :=
  (s.usedQueues p).foldl (fun t q =>
    let es := (t.queue p q).ents
    let t1 := (t.setQueue p q { t.queue p q with ents := [] }).countMgmt Ev.SLUICE_DROP es.length
    (es.foldl (fun u e => (u.leftQueue p q e).unref e.pkt) t1).markQueue p q) s

/-- A core stops and is reset; the array it owns is released and its descriptors are dropped. -/
def State.stopCore (s : State) (b k : Nat) : State :=
  let s1 := (s.freeArray b k).dropDescs b k
  s1.setCore b k (s1.core b k).reset

/-- Spill answers of one context that are still to come to a Basin are discarded. -/
def State.dropCtxSpills (s : State) (b c : Nat) : State :=
  ((s.ctx c).idx.filter fun (y : Nat × IdxSt) => (s.params c).basinOf (y.1 / 2) (y.1 % 2) == b).foldl
    (fun t (y : Nat × IdxSt) => t.setIndex c (y.1 / 2) (y.1 % 2) { y.2 with out := 0 }) s

/-- Spill answers that are still to come to a Basin are discarded. -/
def State.dropSpills (s : State) (b : Nat) : State :=
  s.col.ctxs.foldl (fun t (x : Nat × CtxSt) => t.dropCtxSpills b x.1) s

/-- What the flush of a block ends, counted: packets, running cores, grants. -/
def State.flushWork (s : State) : Block → Nat
  | .port p => (s.usedQueues p).foldl (fun n q => n + (s.queue p q).ents.length) 0
  | .basin b => ((List.range 24).filter fun k => (s.core b k).inv.isSome).length
  | .stack j => ((stackChans j).filter s.arbHolds).length
  | .plane _ => 0

/-- The flush of a block. -/
def State.flushBlock (s : State) : Block → State
  | .port p => (s.dropQueues p).leaveUp p 8
  | .basin b => (((List.range 24).foldl (fun t k => t.stopCore b k) s).setArray b { s.array b with owner := none, job := none, waiter := none }).dropSpills b
  | .stack j => (stackChans j).foldl State.arbEnd s
  | .plane _ => s

/-- SLUICE_TIMEOUT: TIMEOUT_MS has passed in DRAINING. -/
def State.sluiceTimeout (s : State) (page : Nat) : State :=
  let at_ := SMap.get (fun _ => 0) s.hlth.freezeAt page
  match s.blockOf page with
  | none => s
  | some b =>
    if !s.on (F.COMMON_STATUS_DRAINING page) ∨ at_ = 0 ∨ !s.passed (at_ - 1) (msClocks (s.get F.HLTH_SLUICE_TIMEOUT_MS)) then s
    else
      let s1 := ((s.flushBlock b).sluiceFrozen page).istat F.HLTH_ISTAT_ISTAT 8
      (s1.logReport Ev.SLUICE_FLUSH 0xe06 0 page (s.flushWork b)).countMgmt Ev.SLUICE_FLUSH 1

/-! ### At unfreeze -/

/-- Chunks staged for a Basin, and its waiting items, are cleared; markers stay and close what they close. -/
def State.clearStaging (s : State) (b : Nat) : State :=
  let l := s.path b
  let pk := l.filterMap fun i => match i with
    | .chunk p _ _ _ => some p
    | _ => none
  let s1 := s.setPath b (l.filter fun i => match i with
    | .chunk _ _ _ _ => false
    | _ => true)
  let s2 : State := { s1 with col := { s1.col with
    finQ := SMap.set (fun _ => []) s1.col.finQ b []
    kernQ := SMap.set (fun _ => []) s1.col.kernQ b []
    retired := SMap.set (fun _ => 0) s1.col.retired b 0 } }
  pk.foldl State.unref s2

/-- A Basin is reset: cores, private SRAM, staging, and the slot pool with the bytes retired from it. -/
def State.basinReset (s : State) (b : Nat) : State :=
  let s1 := (List.range 24).foldl (fun t k => t.stopCore b k) s
  (s1.clearStaging b).dropSpills b

/-- FREEZE written 0 while FROZEN: the block returns to service. -/
def State.sluiceUnfreeze (s : State) (page : Nat) : State :=
  let s1 := s.puts [(F.COMMON_CTRL_FREEZE page, 0), (F.COMMON_STATUS_FROZEN page, 0)]
  match s.blockOf page with
  | some (.port p) => (if s1.portState p = 1 then s1.modPort p fun x => { x with since := s.now } else s1).refreshPort p
  | some (.basin b) => s1.basinReset b
  | some (.stack j) => (stackChans j).foldl (fun t i => t.freezeArb i false) s1
  | _ => s1

/-- An accepted write of CTRL: FREEZE changes, or stays. -/
def State.freezeWrite (s : State) (page : Nat) (freeze : Bool) : State :=
  if freeze = s.on (F.COMMON_CTRL_FREEZE page) then s
  else if freeze then s.sluiceFreeze page else s.sluiceUnfreeze page

/-! ### The commands -/

def execSluiceDrained (page : Fin 4096) (s : State) : Out := finish s (s.sluiceDrained page)
def execSluiceTimeout (page : Fin 4096) (s : State) : Out := finish s (s.sluiceTimeout page)

end Sys2Proof.Machine
end

