-- ==== Sys2Proof/Machine/Mailbox.lean ====
section
/-! DEFINITION. The SPC's two request paths and its request format (R427 to R430): mailboxes and the
fabric queue. -/

namespace Sys2Proof.Machine

/-- Request and response buffers of mailbox `m`. -/
def mbReqAt (m : Nat) : Nat := 0x0a000000 + m * 0x2000
def mbRspAt (m : Nat) : Nat := mbReqAt m + 0x1000

/-- A request as the SPC takes it (R428): SVC, REQID, LEN, the body, the bytes that were given, and for
a fabric request its packet. -/
structure SvcReq where
  svc : Nat
  reqid : Nat
  len : Nat
  body : List Byte
  given : Nat
  packet : List Byte

/-- The request that bytes spell. -/
def svcParse (b : List Byte) (given : Nat) (packet : List Byte) : SvcReq :=
  let len := leNat (slice b 4 2)
  { svc := leNat (slice b 0 2), reqid := leNat (slice b 2 2), len := len, body := slice b 8 len
    given := given, packet := packet }

/-- Whether a mailbox's request is already in work: an Annealer run or an NVM write answers it. -/
def State.mbInWork (s : State) (m : Nat) : Bool :=
  s.pwr.run.any (fun r => r.mailbox == some m) || s.mgmt.copyFor == some m || s.nvm.streams.any (fun w => w.mailbox == some m)

/-- The number of a path in the SPC's round robin. -/
def svcPath : SvcSrc → Nat
  | .mailbox m => m.val
  | .fabric => 8

/-- Whether a path has a request for the SPC to take. -/
def State.svcWaits (s : State) (i : Nat) : Bool :=
  if i = 8 then !s.mgmt.fabQ.isEmpty else s.on (F.MB_MBSTAT_BUSY i) && !s.mbInWork i

/-- The path whose request the SPC takes next, round robin over the mailboxes and the fabric queue (R427). -/
def State.svcPick (s : State) : Option Nat :=
  ((List.range 9).map fun k => (s.mgmt.svcTurn + k) % 9).find? s.svcWaits

/-- A request of a path has been taken: the next path's turn comes. -/
def State.svcTook (s : State) (src : SvcSrc) : State :=
  { s with mgmt := { s.mgmt with svcTurn := (svcPath src + 1) % 9 } }

/-- The request that the SPC takes from a path, where it is the path's turn. -/
def State.svcTake (s : State) (src : SvcSrc) : Option SvcReq :=
  if s.mgmt.spcDown || s.svcPick != some (svcPath src) then none
  else match src with
  | .mailbox m =>
    if s.on (F.MB_MBSTAT_BUSY m) ∧ !s.mbInWork m then
      let n := nfield (s.word (mbReqAt m + 4)).toNat 15 0
      some (svcParse (s.barBytes (mbReqAt m) (ceilDiv (8 + min n 4088) 4)) (SMap.get (fun _ => 0) s.mgmt.mbLen m) [])
    else none
  | .fabric =>
    match s.mgmt.fabQ with
    | [] => none
    | r :: _ => some (svcParse (pPayload r.bytes) (pPayload r.bytes).length r.bytes)

/-- The 8-byte header of a response and its body; a code leaves the body out. -/
def svcResponse (r : SvcReq) (code : Nat) (body : List Byte) : List Byte :=
  let b := if code = 0 then body else []
  leBytes 2 r.svc ++ leBytes 2 r.reqid ++ leBytes 2 b.length ++ leBytes 2 code ++ b

/-- The answer to the request of mailbox `m`, whose header still stands in its request buffer. -/
def State.mbAnswer (s : State) (m code : Nat) (body : List Byte) : State :=
  let r := svcParse (s.barBytes (mbReqAt m) 2) 0 []
  let s1 := s.setBarBytes (mbRspAt m) (svcResponse r code body)
  let s2 := (s1.raise (F.MB_MBSTAT_DONE m)).puts [(F.MB_MBSTAT_BUSY m, 0), (F.MB_MBSTAT_OK m, if code = 0 then 1 else 0),
    (F.MB_MBSTAT_CODE m, code)]
  (s2.orBits F.MB_MBISTAT_DONE (2 ^ m)).countMgmt Ev.SPC_REQ 1

/-- The answer to the request at the front of the fabric queue (R430): a CTRL packet from the same FUNC to
the request's SRC, with its TAG. -/
def State.fabAnswer (s : State) (r : SvcReq) (code : Nat) (body : List Byte) : State :=
  let p := svcResponse r code body
  let h := dfpHeader 0 0 s.activeBank 0 (pClass r.packet) (pSrc r.packet) (s.selfId (epFunc (pDest r.packet))) p.length 0
    (pTag r.packet)
  let s1 := ({ s with mgmt := { s.mgmt with fabQ := s.mgmt.fabQ.drop 1 } } : State).consume (s.mgmt.fabQ.head?.bind FabReq.pkt)
  (s1.originate { bytes := h ++ p }).countMgmt Ev.SPC_REQ 1

/-- The answer on the path of the request. -/
def State.svcAnswer (s : State) (src : SvcSrc) (r : SvcReq) (code : Nat) (body : List Byte) : State :=
  match src with
  | .mailbox m => s.mbAnswer m code body
  | .fabric => s.fabAnswer r code body

/-- The services of R429. -/
def svcKnown : List Nat :=
  [0x0001, 0x0002, 0x0100, 0x0200, 0x0201, 0x0202, 0x0203, 0x0300, 0x0400, 0x0401, 0x0500, 0x0501, 0x0600]

/-- The service that a function code offers through the fabric (R430). -/
def fabOffers (func svc : Nat) : Bool :=
  match func with
  | 0x00 => svc == 0x0001 || svc == 0x0002
  | 0x01 => svc == 0x0100
  | 0x02 => svc == 0x0200
  | _ => false

/-- The code with which a request is refused before its service sees it (R428, R430, R496); 0 if it is not. -/
def State.svcRefusal (s : State) (src : SvcSrc) (r : SvcReq) : Nat :=
  if 4088 < r.len ∨ r.given < 8 + r.len then Rej.RANGE
  else
    match src with
    | .mailbox _ => if !svcKnown.contains r.svc ∨ (s.romMode ∧ r.svc ≠ 0x0001) then Rej.ABSENT else 0
    | .fabric => if fabOffers (epFunc (pDest r.packet)) r.svc then 0 else Rej.DENIED

/-- A service serves the request of a path, if it is one of `svc` that no rule refuses. -/
def State.serve (s : State) (src : SvcSrc) (svc : Nat) (f : SvcReq → State) : State :=
  match s.svcTake src with
  | none => s
  | some r => if r.svc = svc ∧ s.svcRefusal src r = 0 then (f r).svcTook src else s

/-- FABRIC_REQUEST: an arrived request enters the queue of 64, or is dropped (R430). -/
def State.fabricRequest (s : State) : State :=
  match s.mgmt.fabIn with
  | [] => s
  | r :: rest =>
    let s1 : State := { s with mgmt := { s.mgmt with fabIn := rest } }
    if s.mgmt.fabQ.length < 64 then { s1 with mgmt := { s1.mgmt with fabQ := s1.mgmt.fabQ ++ [r] } }
    else (s1.consume r.pkt).countMgmt Ev.SPC_FAB_DROP 1

/-- SVC_UNKNOWN: a request that a rule refuses is answered with its code. -/
def State.svcUnknown (s : State) (src : SvcSrc) : State :=
  match s.svcTake src with
  | none => s
  | some r =>
    let c := s.svcRefusal src r
    if c = 0 then s else (s.svcAnswer src r c []).svcTook src

def execFabricRequest (s : State) : Out := finish s s.fabricRequest
def execSvcUnknown (src : SvcSrc) (s : State) : Out := finishSpc s (s.svcUnknown src)

end Sys2Proof.Machine
end

