-- ==== Sys2Proof/Machine/Power.lean ====
section
/-! DEFINITION. Power, temperature and ageing (chapter 15): the clock code of a Basin, droop, temperature
limits, the power cap, the thermal trip and the Annealer. -/

namespace Sys2Proof.Machine

/-! ### The Basin's clock (R268, R465) -/

/-- The code in force and the term that binds, the lowest on a tie (R465, R478). -/
def bindCode (target fmax tl pl : Nat) : Nat × Nat :=
  let c := min (min target fmax) (min tl pl)
  (c, if target = c then 0 else if fmax = c then 1 else if tl = c then 2 else 3)

/-- Judge a Basin's code again: a lower code starts the events of R268, which end at BSN_CLK_CHANGE; for a higher one
the voltage ramps first (R459). -/
def State.reclock (s : State) (b : Nat) : State :=
  let r := bindCode (s.get (F.BASIN_CLK_TARGET b)) (s.get (F.THERM_BLIM_FMAX b)) (s.get (F.THERM_BLIM_TL b))
    (s.get (F.THERM_BLIM_PL b))
  let s1 := s.puts [(F.THERM_BLIM_CODE b, r.1), (F.THERM_BLIM_BIND b, r.2)]
  let s2 : State := { s1 with bsn := { s1.bsn with
    clkBusy := SMap.set (fun _ => false) s1.bsn.clkBusy b (r.1 != s1.get (F.BASIN_CLK_EFF b)) } }
  if s2.get (F.BASIN_CLK_EFF b) < r.1 ∨ (SMap.get (fun _ => none) s.pwr.ramps b).isSome then s2.rampFrom b (s.volt b) else s2

/-- BSN_CLK_CHANGE: the island runs at the new frequency and issue resumes; after a lower code the voltage ramps
down. -/
def State.clkChange (s : State) (b : Nat) : State :=
  if s.clkHeld b then
    let s1 := (s.put (F.BASIN_CLK_EFF b) (s.get (F.THERM_BLIM_CODE b))).countBasin b Ev.BSN_CLK_CHANGE 1
    ({ s1 with bsn := { s1.bsn with clkBusy := SMap.set (fun _ => false) s1.bsn.clkBusy b false } } : State).rampFrom b (s.volt b)
  else s

/-- A Basin's clock and voltage as a reset leaves them: at the code in force. -/
def State.settleClock (s : State) (b : Nat) : State :=
  let s1 := s.reclock b
  let s2 := s1.put (F.BASIN_CLK_EFF b) (s1.get (F.THERM_BLIM_CODE b))
  { s2 with
    bsn := { s2.bsn with clkBusy := SMap.set (fun _ => false) s2.bsn.clkBusy b false }
    pwr := { s2.pwr with ramps := SMap.set (fun _ => none) s2.pwr.ramps b none } }

/-! ### Status bits of THERM and ANN -/

/-- A bit of THERM.ISTAT is set, and its change logged. -/
def State.thermLog (s : State) (bit : Nat) : State :=
  let t := s.istat F.THERM_ISTAT_ISTAT bit
  t.logState 0xf04110 (s.word 0xf04110).toNat (t.word 0xf04110).toNat

/-! ### Droop (R461) -/

/-- DROOP_TRIP: the island's clock is stretched from its first trip on. -/
def State.droopTrip (s : State) (i : Nat) : State :=
  let first := SMap.get (fun _ => 0) s.pwr.stretch i
  { s with pwr := { s.pwr with
    stretch := SMap.set (fun _ => 0) s.pwr.stretch i (if first = 0 then s.now + 1 else first)
    tripAt := SMap.set (fun _ => 0) s.pwr.tripAt i (s.now + 1) } }

/-- The set frequency of an island in kHz (R26): octets, the core, Basins, and the others. -/
def State.islandKhz (s : State) (i : Nat) : Nat :=
  if i < 128 then 1328125 else if i = 128 then 1600000
  else if 129 ≤ i ∧ i < 179 then 800000 + 25000 * s.get (F.BASIN_CLK_EFF (i - 129)) else 1000000

/-- Whether 16 clocks of an island, stretched, have passed since its last trip. -/
def State.tripPassed (s : State) (i : Nat) : Bool :=
  decide (16 * 2 * 1600000 ≤ (s.now + 1 - SMap.get (fun _ => 0) s.pwr.tripAt i) * s.islandKhz i)

/-- STRETCH_END, 16 of the island's clocks after its last trip: the stretch is counted; one of more than 10 µs is logged
with its length in core clocks. -/
def State.stretchEnd (s : State) (i : Nat) : State :=
  let t := SMap.get (fun _ => 0) s.pwr.stretch i
  if t = 0 ∨ !s.tripPassed i then s
  else
    let s1 : State := { s with pwr := { s.pwr with
      stretch := SMap.set (fun _ => 0) s.pwr.stretch i 0
      slow := SMap.set (fun _ => []) s.pwr.slow i ((t - 1, s.now) :: SMap.get (fun _ => []) s.pwr.slow i) } }
    let s2 := s1.countLog Ev.PWR_STRETCH 1
    if usClocks 10 < s.now + 1 - t then
      (s2.istat F.THERM_ISTAT_ISTAT 6).logReport Ev.PWR_STRETCH 0xf04 i (s.now + 1 - t) 0
    else s2

/-! ### Temperature (R462 to R466) -/

/-- The highest of the readings of sensors `first` to `first + n − 1`, in 0.125 °C. -/
def State.hottest (s : State) (first n : Nat) : Int :=
  (List.range n).foldl (fun m i => max m (s.gets (F.THERM_SENS_T (first + i)))) (s.gets (F.THERM_SENS_T first))

/-- Temperatures of the dies by kind: switch, port, compute, HBM, photonic. -/
def State.dieTemps (s : State) : List Int :=
  [s.hottest 0 16, s.hottest 16 32, s.hottest 48 50, s.hottest 98 16, s.hottest 114 8]

/-- One sensor converts. -/
def State.sense (s : State) (i : Nat) (v : Nat) : State :=
  let t := toSigned 16 v
  let top := if SMap.get (fun _ => false) s.pwr.seen i then max (s.gets (F.THERM_SENS_TMAX i)) t else t
  let s1 := (s.put (F.THERM_SENS_T i) v).puti (F.THERM_SENS_TMAX i) top
  { s1 with pwr := { s1.pwr with seen := SMap.set (fun _ => false) s1.pwr.seen i true } }

/-- A flag that is set from a threshold up and lifted from another down. -/
def hyst (was : Bool) (t on_ off : Int) : Bool := decide (on_ ≤ t) || (was && decide (off < t))

/-- The pause of issue on a Basin (R464). -/
def State.basinHold (s : State) (b : Nat) : State :=
  let t := s.gets (F.THERM_SENS_T (48 + b))
  let was := SMap.get (fun _ => false) s.bsn.paused b
  let h := hyst was t (105 * 8) (104 * 8 - 1)
  if h = was then s
  else
    let s1 := s.put (F.THERM_BLIM_HOLD b) (if h then 1 else 0)
    let s2 : State := { s1 with bsn := { s1.bsn with paused := SMap.set (fun _ => false) s1.bsn.paused b h } }
    if h then (s2.countLog Ev.THERM_HOLD 1).logReport Ev.THERM_HOLD 0xf04 (48 + b) 0 0 else s2

/-- The limit of the switch die (0) or of port die n − 1 (n) (R466). -/
def State.dieLimit (s : State) (d : Nat) : State :=
  let t := if d = 0 then s.hottest 0 16 else s.hottest (8 + 8 * d) 8
  let was := SMap.get (fun _ => false) s.pwr.warn d
  let w := decide (((s.get F.THERM_LIM_T_WARN * 8 : Nat) : Int) ≤ t)
  let s1 : State := { s with pwr := { s.pwr with warn := SMap.set (fun _ => false) s.pwr.warn d w } }
  if w ∧ !was then s1.thermLog 2 else if w then s1.istat F.THERM_ISTAT_ISTAT 2 else s1

/-- The limits of a stack (R466): refresh from 85 °C, one request per 2 memory clocks from T_MEM, per 8
from 100 °C, each lifted 3 °C below its threshold. -/
def State.stackLimit (s : State) (j : Nat) : State :=
  let t := s.gets (F.THERM_SENS_T (98 + j))
  let mem : Int := ((s.get F.THERM_LIM_T_MEM * 8 : Nat) : Int)
  let g (m : SMap Bool) : Bool := SMap.get (fun _ => false) m j
  let m := hyst (g s.pwr.memThr) t mem (mem - 24)
  let c := hyst (g s.pwr.memCrit) t 800 776
  let s1 : State := { s with pwr := { s.pwr with
    hot85 := SMap.set (fun _ => false) s.pwr.hot85 j (hyst (g s.pwr.hot85) t 680 656)
    memThr := SMap.set (fun _ => false) s.pwr.memThr j m
    memCrit := SMap.set (fun _ => false) s.pwr.memCrit j c } }
  let s2 := s1.puti (F.HBM_STACK_TEMP j) (t / 8)
  let s3 := if m ∧ !g s.pwr.memThr then s2.countLog Ev.THERM_MEM_THROT 1 else s2
  if c then s3.istat F.THERM_ISTAT_ISTAT 3 else s3

/-- The limit of the photonic die (R466). -/
def State.picLimit (s : State) : State :=
  let w := decide (((s.get F.THERM_LIM_T_PIC * 8 : Nat) : Int) ≤ s.hottest 114 8)
  let s1 : State := { s with pwr := { s.pwr with pic := w } }
  if w ∧ !s.pwr.pic then s1.thermLog 4 else if w then s1.istat F.THERM_ISTAT_ISTAT 4 else s1

/-- THERM_SENSOR_SAMPLE: sensors convert every 5 µs; an unlisted sensor reads as before. -/
def State.sensorSample (s : State) (l : List (Nat × Nat)) : State :=
  if !s.passed s.pwr.sampledAt (usClocks 5) then s
  else
    let s0 : State := { s with pwr := { s.pwr with sampledAt := s.now } }
    let s1 : State := l.foldl (fun (t : State) (p : Nat × Nat) => t.sense p.1 p.2) s0
    let s2 : State := (List.range 50).foldl State.basinHold s1
    let s3 : State := (List.range 5).foldl State.dieLimit s2
    let s4 : State := ((List.range 16).foldl State.stackLimit s3).picLimit
    { s4 with pwr := { s4.pwr with
      run := s4.pwr.run.map fun r => { r with temps := List.zipWith max r.temps s4.dieTemps } } }

/-- The change of TL of a Basin that is not hot (R463). -/
def State.coolStep (s : State) (b : Nat) (t : Int) : State :=
  let low : Int := (((s.get F.THERM_CFG_T_THROT : Nat) : Int) - ((s.get F.THERM_CFG_HYST : Nat) : Int)) * 8
  if low ≤ t then { s with pwr := { s.pwr with coolSince := SMap.set (fun _ => 0) s.pwr.coolSince b 0 } }
  else
    let since := match SMap.get (fun _ => 0) s.pwr.coolSince b with
      | 0 => s.now + 1
      | n => n
    let rose := SMap.get (fun _ => 0) s.pwr.roseAt b
    let s1 : State := { s with pwr := { s.pwr with coolSince := SMap.set (fun _ => 0) s.pwr.coolSince b since } }
    let tl := s.get (F.THERM_BLIM_TL b)
    if tl < 48 ∧ s.passed (since - 1) (msClocks 1) ∧ (rose = 0 ∨ s.passed (rose - 1) (usClocks 100)) then
      let s2 : State := { s1 with pwr := { s1.pwr with roseAt := SMap.set (fun _ => 0) s1.pwr.roseAt b (s.now + 1) } }
      (s2.put (F.THERM_BLIM_TL b) (tl + 1)).reclock b
    else s1

/-- The evaluation of one Basin (R463). -/
def State.thermEvalOne (s : State) (b : Nat) : State :=
  let t := s.gets (F.THERM_SENS_T (48 + b))
  let tl := s.get (F.THERM_BLIM_TL b)
  let cut (n : Nat) : State :=
    let s1 := s.put (F.THERM_BLIM_TL b) n
    ({ s1 with pwr := { s1.pwr with coolSince := SMap.set (fun _ => 0) s1.pwr.coolSince b 0 } } : State).reclock b
  if ((s.get F.THERM_CFG_T_EMERG * 8 : Nat) : Int) ≤ t then
    ((cut 0).countLog Ev.THERM_EMERG 1).istat F.THERM_ISTAT_ISTAT 1
  else if ((s.get F.THERM_CFG_T_THROT * 8 : Nat) : Int) ≤ t then
    let s1 := cut (min tl (s.get (F.THERM_BLIM_CODE b)) - s.get F.THERM_CFG_STEP)
    if tl = 48 then (s1.countLog Ev.THERM_THROT 1).istat F.THERM_ISTAT_ISTAT 0 else s1
  else s.coolStep b t

/-- THERM_EVAL, every 10 µs. -/
def State.thermEval (s : State) : State :=
  if s.passed s.pwr.evalAt (usClocks 10) then
    (List.range 50).foldl State.thermEvalOne { s with pwr := { s.pwr with evalAt := s.now } }
  else s

/-! ### Power (R458, R467) -/

/-- The sum of the domain readings, in 0.125 W. -/
def State.power (s : State) : Nat := ((List.range 11).map fun d => s.get (F.THERM_PWR_DOM_P d)).sum

/-- One domain's reading. -/
def State.powerRead (s : State) (d v : Nat) : State :=
  let top := if SMap.get (fun _ => false) s.pwr.seen (128 + d) then max (s.get (F.THERM_PWR_DOM_PMAX d)) v else v
  let s1 := s.puts [(F.THERM_PWR_DOM_P d, v), (F.THERM_PWR_DOM_PMAX d, top)]
  { s1 with pwr := { s1.pwr with seen := SMap.set (fun _ => false) s1.pwr.seen (128 + d) true } }

/-- PWR_READING_UPDATE, every 100 µs. -/
def State.domainUpdate (s : State) (l : List (Nat × Nat)) : State :=
  if !s.passed s.pwr.readAt (usClocks 100) then s
  else
    let s0 : State := { s with pwr := { s.pwr with readAt := s.now } }
    let s1 : State := l.foldl (fun (t : State) (p : Nat × Nat) => t.powerRead p.1 p.2) s0
    s1.putSat F.THERM_PWR_TOTAL_P s1.power

/-- PL, one code for all Basins. -/
def State.powerLimit (s : State) : Nat := s.get (F.THERM_BLIM_PL 0)

/-- PL takes a value and every Basin's code is judged again. -/
def State.setPowerLimit (s : State) (pl : Nat) : State :=
  (List.range 50).foldl (fun (t : State) (b : Nat) => (t.put (F.THERM_BLIM_PL b) pl).reclock b) s

/-- The stamps of R467: P below CAP_W − 20 W, and P above CAP_W with PL at 0. -/
def State.capStamps (s : State) : State :=
  let cap := s.get F.THERM_PWR_CAP_CAP_W * 8
  let keep (c : Bool) (o : Option Nat) : Option Nat := if c then some (o.getD s.now) else none
  { s with pwr := { s.pwr with
    capAt := s.now
    lowSince := keep (decide (s.power + 160 < cap)) s.pwr.lowSince
    overSince := keep (decide (cap < s.power) && s.powerLimit == 0) s.pwr.overSince
    capFailed := s.pwr.capFailed && decide (cap < s.power) } }

/-- PWR_CAP_EVAL, every 100 µs. -/
def State.capEval (s : State) : State :=
  if !s.passed s.pwr.capAt (usClocks 100) then s
  else
    let pl := s.powerLimit
    let above : Bool := decide (s.get F.THERM_PWR_CAP_CAP_W * 8 < s.power)
    let s1 := (if above && pl != 0 then (s.setPowerLimit (pl - 1)).countLog Ev.PWR_CAP 1 else s).capStamps
    if !above ∧ pl < 48 ∧ s1.pwr.lowSince.any (fun t => s.passed t (msClocks 1)) then s1.setPowerLimit (pl + 1)
    else s1

/-- CAP_FAIL: power has stayed above CAP_W for 10 ms with PL at 0. -/
def State.capFail (s : State) : State :=
  if !s.pwr.capFailed ∧ s.pwr.overSince.any (fun t => s.passed t (msClocks 10)) then
    { s.thermLog 5 with pwr := { (s.thermLog 5).pwr with capFailed := true } }
  else s

/-! ### The Annealer's history (R476) -/

/-- Powered hours since manufacture. -/
def State.onHours (s : State) : Nat := s.pwr.onBase + (s.now - s.pwr.onSince) / (3600 * secClocks 1)

/-- What a record holds beside the state: KIND, FLAGS, shift and monitor, least slack and its island, EYE_WORST,
MEM, TEMP and TRIP. -/
structure RecordFacts where
  kind : Nat
  flags : Nat := 0
  ro : Nat := 0
  roIndex : Nat := 0
  slack : Nat := 0
  island : Nat := 0
  eye : Nat × Nat × Nat := (0, 0, 0)
  mem : List (Nat × Nat) := List.replicate 16 (0, 0)
  temps : List Int := [0, 0, 0, 0, 0]
  trip : Nat × Nat := (0, 0)

/-- The 256 bytes of a record with run number `run`. -/
def State.historyBytes (s : State) (run : Nat) (r : RecordFacts) : List Byte :=
  let b := leBytes 4 run ++ leBytes 1 r.kind ++ leBytes 1 r.flags ++ leBytes 2 0
    ++ leBytes 4 (s.time.sec % 2 ^ 32) ++ leBytes 4 s.time.ns ++ leBytes 4 s.onHours
    ++ leBytes 2 r.ro ++ leBytes 2 r.roIndex
    ++ (List.range 11).flatMap (fun d => leBytes 1 (s.get (F.ANN_DOM_GUARD d))) ++ leBytes 1 0
    ++ (List.range 50).flatMap (fun k => leBytes 1 (s.get (F.ANN_BASIN_GUARD k)))
    ++ (List.range 50).flatMap (fun k => leBytes 1 (s.get (F.ANN_BASIN_FMAX k)))
    ++ leBytes 2 r.slack ++ leBytes 2 r.island
    ++ leBytes 1 r.eye.1 ++ leBytes 1 r.eye.2.1 ++ leBytes 2 r.eye.2.2
    ++ r.mem.flatMap (fun (p : Nat × Nat) => leBytes 1 p.1 ++ leBytes 1 p.2)
    ++ (List.range 9).flatMap (fun p => leBytes 2 (s.get (F.PLANE_PSTATE_HEADROOM p)))
    ++ r.temps.flatMap (fun t => leBytes 2 (ofSigned 16 (t / 4)))
    ++ leBytes 1 r.trip.1 ++ leBytes 2 r.trip.2 ++ leBytes 1 0 ++ List.replicate 44 0#8
  b ++ leBytes 4 (crcStd b)

/-- Offset of the record area in NVM, which holds the newest 1,024. -/
def historyBase : Nat := 0x3e0000

/-- Append a record under the next run number. -/
def State.appendRecord (s : State) (r : RecordFacts) : State :=
  let run := (s.get F.ANN_STAT_LAST_RUN + 1) % 2 ^ 31
  let s1 := s.nvmAppend ⟨.history, historyBase + run % 1024 * 256, s.historyBytes run r, run, none⟩
  s1.put F.ANN_STAT_LAST_RUN run

/-- A record of the area, where its CHECK is good. -/
def State.record (s : State) (i : Nat) : Option (List Byte) :=
  let b := s.nvmBytes (historyBase + 256 * i) 256
  if leNat (slice b 252 4) = crcStd (b.take 252) then some b else none

/-- RUN of a record. -/
def recordRun (b : List Byte) : Nat := leNat (slice b 0 4)

/-- The newest record whose CHECK is good. -/
def State.newestRecord (s : State) : Option (List Byte) :=
  ((List.range 1024).filterMap s.record).foldl
    (fun o b => match o with
      | none => some b
      | some a => if recordRun a < recordRun b then some b else some a) none

/-! ### The thermal trip (R468) -/

/-- Whether a word is held in the SPC island: the Global and management pages, those of the log, NVM, boot and the
Annealer, and the windows of mailboxes, flash and staging. -/
def spcHolds (a : Nat) : Bool :=
  a / 4096 == 0 || (decide (0xe00000 ≤ a) && decide (a < 0xf10000)) || decide (0xa000000 ≤ a)

/-- Every island but the SPC has stopped, and what was volatile there is lost (R468). -/
def State.loseIslands (s : State) : State :=
  let keep (p : Nat) : Bool := spcHolds (4096 * p)
  { s with
    bar := s.bar.filter fun (x : Nat × Word) => spcHolds x.1
    obs := { s.obs with
      sel := s.obs.sel.filter fun (x : Nat × Nat) => keep (x.1 / 8)
      cnt := s.obs.cnt.filter fun (x : Nat × Nat) => keep (x.1 / 8)
      wrap := s.obs.wrap.filter fun (x : Nat × Nat) => keep x.1
      fresh := s.obs.fresh.filter fun (x : Nat × Option FreshSel) => keep (x.1 / 8)
      latch := s.obs.latch.filter fun (x : Nat × Option (Nat × Nat)) => keep (x.1 % 4096)
      sampleQ := [], snapEnd := none, snap := none }
    time := { State.reset.time with core := s.time.core, resetAt := s.time.resetAt, dds := s.time.dds, ddsStaged := s.time.ddsStaged }
    mgmt := { s.mgmt with tap := s.tapLost, rillPend := none, fabIn := [], fabQ := [] }
    glass := {}, cis := { seedAt := s.now }, fwd := {}, col := {}, bsn := {}, mem := { State.reset.mem with genCtr := s.mem.genCtr }
    ports := [], lcQ := [], cages := [], freeCtr := s.freeCtr + 1 }

/-- THERMAL_TRIP: THERM_TRIP_L is asserted, every island but the SPC stops, the lanes go to electrical idle, the SOAs and
the Basin regulators off; the trip record is appended, and a run is abandoned (R475). -/
def State.thermalTrip (s : State) (i v : Nat) (flag : Bool) : State :=
  if !(decide (115 * 8 ≤ toSigned 16 v) || (flag && decide (98 ≤ i) && decide (i ≤ 113))) then s
  else
    let s1 := (s.sense i v).put F.ANN_STAT_RUNNING 0
    let s2 := s1.appendRecord { kind := 3, trip := (i, v), temps := s1.dieTemps }
    let s3 : State := { s2.loseIslands with pwr := { s2.pwr with trip := true, run := none, stretch := [], slow := [] } }
    (s3.emit (.pin "THERM_TRIP_L" false)).emit .lanesIdle

/-! ### The Annealer (R470 to R475) -/

/-- A run starts. -/
def State.annealStart (s : State) (kind : Nat) (apply : Bool) (mb : Option Nat) : State :=
  let s1 := s.put F.ANN_STAT_RUNNING 1
  { s1 with pwr := { s1.pwr with
    run := some { kind := kind, apply := apply, mailbox := mb, temps := s1.dieTemps, since := s.now } } }

/-- ANNEAL_SCHEDULED: PERIOD_H hours after the end of the previous run, or after the end of a run during which they
passed (R475). -/
def State.annealScheduled (s : State) : State :=
  let h := s.get F.ANN_CFG_PERIOD_H
  if h = 0 ∨ s.pwr.run.isSome ∨ s.mgmt.spcDown ∨ !(s.pwr.runDue || s.passed s.pwr.runEnd (h * 3600 * secClocks 1)) then s
  else { s.annealStart 0 false none with pwr := { (s.annealStart 0 false none).pwr with runDue := false } }

/-- Whether a scheduled run has fallen due while ANNEAL_RUN's ran: it starts after that one (R475). -/
def State.fellDue (s : State) (r : AnnRun) : Bool :=
  let h := s.get F.ANN_CFG_PERIOD_H
  s.pwr.runDue || (r.kind == 1 && h != 0 && s.passed s.pwr.runEnd (h * 3600 * secClocks 1))

/-- What a plan decides, with FLAGS as R476 numbers them. -/
structure Plan where
  st : State
  flags : Nat

/-- Add a flag and set its bit of ANN.ISTAT. -/
def Plan.flag (p : Plan) (flag bit : Nat) : Plan := ⟨p.st.istat F.ANN_ISTAT_ISTAT bit, p.flags ||| 2 ^ flag⟩

/-- Whether a Basin keeps its plan in this run (R470). -/
def State.annealKeeps (s : State) (b : Nat) : Bool :=
  s.basinFrozen b || decide (((s.get F.THERM_CFG_T_THROT * 8 : Nat) : Int) ≤ s.gets (F.THERM_SENS_T (48 + b)))

/-- The plan of one Basin whose canary slack is `slack` (R471), applied where `apply`. -/
def Plan.basin (p : Plan) (apply : Bool) (b slack : Nat) : Plan :=
  let s := p.st
  let g := s.get (F.ANN_BASIN_GUARD b)
  let f := s.get (F.ANN_BASIN_FMAX b)
  let a := 0xf05200 + 4 * b
  if s.annealKeeps b then ⟨s, p.flags ||| 32⟩
  else if s.get F.ANN_CFG_SLACK_MIN ≤ slack then p
  else if g + 5 ≤ s.get F.ANN_CFG_GUARD_MAX then
    if apply then ⟨(s.put (F.ANN_BASIN_GUARD b) (g + 5)).rampFrom b (s.volt b), p.flags⟩ else p
  else
    let old := (s.word a).toNat
    if 0 < f then
      let s1 := if apply then
          ((s.put (F.ANN_BASIN_FMAX b) (f - 1)).put (F.THERM_BLIM_FMAX b) (f - 1)).reclock b
        else s
      Plan.flag ⟨s1.logState a old (s1.word a).toNat, p.flags⟩ 1 1
    else Plan.flag ⟨s.logState a old old, p.flags⟩ 2 2

/-- The domain that feeds an island (R457, R26), none where the Annealer plans no guard by it. -/
def islandDomain (i : Nat) : Option Nat :=
  if i = 0 ∨ i = 195 then some 0
  else if i < 129 then some (1 + (i - 1) / 32)
  else if i < 179 then none
  else if i < 187 then some 5
  else if i < 195 then some 6
  else some 10

/-- A regulator that does not acknowledge a setpoint (R541). -/
def State.pmbusFault (s : State) (d : Nat) : State :=
  let t := (s.raise F.GLOBAL_BOARDSTAT_PMBUS_FAULT).puts [(F.GLOBAL_BOARDSTAT_PM_DOM, d)]
  t.logState 0x170 (s.word 0x170).toNat (t.word 0x170).toNat

/-- Nominal voltage of a domain in mV (R540). -/
def domNominal (d : Nat) : Nat := [750, 800, 800, 800, 800, 900, 900, 1050, 1050, 1200, 1800].getD d 0

/-- A setpoint of nominal voltage plus guard `g` is written to a regulator, and once more after each of 3 retries where
it does not acknowledge (R541). -/
def State.setpoint (s : State) (d g : Nat) (ack : Bool) : State :=
  s.onPins fun t => (List.range (if ack then 1 else 4)).foldl (fun (t : State) _ => t.emit (.setpoint d (domNominal d + g))) t

/-- The plan of one domain (R472): its least slack, and whether its regulator acknowledges. -/
def Plan.domain (p : Plan) (apply : Bool) (d : Nat) (slack : List (Nat × Nat)) (noAck : List Nat) : Plan :=
  let s := p.st
  let g := s.get (F.ANN_DOM_GUARD d)
  if !(slack.any fun q => islandDomain q.1 == some d && decide (q.2 < s.get F.ANN_CFG_SLACK_MIN)) then p
  else if g + 5 ≤ s.get F.ANN_CFG_GUARD_MAX then
    if !apply then p
    else if noAck.contains d then ⟨(s.setpoint d (g + 5) false).pmbusFault d, p.flags⟩
    else ⟨(s.setpoint d (g + 5) true).put (F.ANN_DOM_GUARD d) (g + 5), p.flags⟩
  else
    let a := 0xf05300 + 4 * d
    Plan.flag ⟨s.logState a (s.word a).toNat (s.word a).toNat, p.flags⟩ 2 2

/-- The lanes in UP. -/
def State.upLanes (s : State) : List Nat :=
  (List.range 1024).filter fun l => (List.range 8).any fun k =>
    decide (k ≤ l) && s.portUp (l - k) && decide (k < s.portLanes (l - k))

/-- New equalisation starting values for a lane with a small eye (R473). -/
def Plan.lane (p : Plan) (apply : Bool) (l : Nat) : Plan :=
  let s := p.st
  if s.get F.ANN_EYE_EYE_MIN ≤ s.get (F.LANE_LANESTAT_EYE_H l) ∧ 16 ≤ s.get (F.LANE_LANESTAT_EYE_W l) then p
  else
    let m := (List.range 16).foldl
      (fun m i => SMap.set Config.laneEq m (16 * l + i) (Config.eqPlan s.freeCtr (16 * l + i))) s.nvm.laneEq
    Plan.flag ⟨if apply then { s with nvm := { s.nvm with laneEq := m } } else s, p.flags⟩ 3 3

/-- The lane with the worst eye: least height, then least width. -/
def State.worstEye (s : State) : Nat × Nat × Nat :=
  let eye (l : Nat) : Nat × Nat × Nat := (s.get (F.LANE_LANESTAT_EYE_H l), s.get (F.LANE_LANESTAT_EYE_W l), l)
  match s.upLanes with
  | [] => (0, 0, 0)
  | l :: ls => ls.foldl (fun w k => if (eye k).1 < w.1 ∨ ((eye k).1 = w.1 ∧ (eye k).2.1 < w.2.1) then eye k else w) (eye l)

/-- The channels that event 4 measures: live ones outside any margin procedure. -/
def State.scanned (s : State) (l : List (Nat × MarginRead)) : List (Nat × MarginRead) :=
  l.filter fun p => s.get (F.CHAN_W0_STATE p.1) == 0 && s.margining p.1 == 0

/-- What a margin procedure measured, as numbers. -/
def marginFact (m : MarginRead) : MarginFact :=
  ⟨m.rdW.toNat, m.rdH.toNat, m.wrW.toNat, m.wrH.toNat, m.pin, m.errors, m.pins⟩

/-- The SCAN of a channel, begun and ended. -/
def Plan.scan (p : Plan) (c : Nat) (m : MarginRead) : Plan :=
  let s1 := (p.st.marginStart c 2).marginDone c (marginFact m)
  if s1.get (F.MARGIN_W1_RESULT c) = 1 then Plan.flag ⟨s1, p.flags⟩ 4 4 else ⟨s1, p.flags⟩

/-- Least width, then least height, among the SCANs of a stack's channels. -/
def stackScan (l : List (Nat × MarginRead)) (j : Nat) : Nat × Nat :=
  let q := l.filter fun p => p.1 % 16 == j
  ((q.map fun p => p.2.rdW.toNat).min?.getD 0, (q.map fun p => p.2.rdH.toNat).min?.getD 0)

/-- The planes whose headroom is below the one of the newest record: it is falling (R473). -/
def State.fallingPlanes (s : State) : List Nat :=
  match s.newestRecord with
  | none => []
  | some b => (List.range 9).filter fun p => decide (s.gets (F.PLANE_PSTATE_HEADROOM p) < toSigned 16 (leNat (slice b (176 + 2 * p) 2)))

/-- The plan of the planes: where the headroom falls, the IB values in force become start-up values, the gain slopes are
fitted again from the loop steps, and the days until HR_MIG are projected (R473).  How a slope and the days follow no
rule says: they are free. -/
def State.planPlanes (s : State) : State :=
  let l := s.fallingPlanes
  let soas := l.flatMap fun p => (List.range 64).map fun o => 64 * p + o
  let ib := soas.foldl (fun m i => SMap.set (fun k => (Config.glassIb k).toNat) m i (s.get (F.SOA_W0_IB i))) s.nvm.glassIb
  let slope := soas.foldl (fun m i => SMap.set (fun _ => 0) m i (Config.gainSlope i s.freeCtr)) s.glass.slope
  let days := l.foldl (fun m p => SMap.set (fun _ => 0) m p (Config.daysToMig p s.freeCtr)) s.pwr.days
  { s with
    nvm := { s.nvm with glassIb := ib }
    glass := { s.glass with slope := slope }
    pwr := { s.pwr with days := days } }

/-- What the Annealer read, as numbers. -/
structure Measured where
  ro : Nat
  roIndex : Nat
  slack : List (Nat × Nat)
  scans : List (Nat × MarginRead)
  noAck : List Nat

/-- Whether readings of a die stand: its temperature, in 0.125 °C, lies in 40 °C to 100 °C (R469). -/
def inRange (t : Int) : Bool := decide (320 ≤ t) && decide (t ≤ 800)

/-- The temperature of the die of a ring-oscillator monitor: 64 of the switch die, 8 of each port die, 64 of each
compute die, 32 of the photonic die, in this order (R469). -/
def State.monitorDie (s : State) (m : Nat) : Int :=
  if m < 64 then s.hottest 0 16
  else if m < 96 then s.hottest (16 + 8 * ((m - 64) / 8)) 8
  else if m < 224 then s.hottest (48 + 25 * ((m - 96) / 64)) 25
  else s.hottest 114 8

/-- The temperature of the die of an island (R17, R26). -/
def State.islandDie (s : State) (i : Nat) : Int :=
  if i = 0 ∨ 195 ≤ i then s.hottest 0 16
  else if i < 129 then s.hottest (16 + 8 * ((i - 1) / 32)) 8
  else if i < 179 then s.hottest (48 + 25 * ((i - 129) / 25)) 25
  else s.hottest (48 + 25 * ((i - 179) / 8)) 25

/-- What an Annealer run read as the temperatures of the dies let it stand, and the largest shift among it. -/
def State.standing (s : State) (f : AnnealFacts) : Measured :=
  let ro := (f.ro.filter fun p => inRange (s.monitorDie p.1.val)).map fun p => (p.1.val, p.2.toNat)
  let top : Nat × Nat := match ro with
    | [] => (0, 0)
    | p :: ps => ps.foldl (fun w q => if toSigned 16 w.2 < toSigned 16 q.2 then q else w) p
  let slack := (f.slack.filter fun p => inRange (s.islandDie p.1.val)).map fun p => (p.1.val, p.2.toNat)
  let noAck := if s.mgmt.tap.extest then List.range 11 else f.noAck.map Fin.val
  { ro := top.2, roIndex := top.1, slack := slack, scans := f.scans.map fun p => (p.1.val, p.2), noAck := noAck }

/-- Slack of an island, where its reading stands. -/
def Measured.slackOf (f : Measured) (i : Nat) : Option Nat := (f.slack.find? fun p => p.1 == i).map Prod.snd

/-- Island and value of the least slack. -/
def Measured.worst (f : Measured) : Nat × Nat :=
  match f.slack with
  | [] => (0, 0)
  | p :: ps => ps.foldl (fun w q => if q.2 < w.2 then q else w) p

/-- The plan of a whole run (R471 to R473). -/
def State.annealPlan (s : State) (apply : Bool) (f : Measured) : Plan :=
  let p0 : Plan := (s.scanned f.scans).foldl (fun (p : Plan) q => p.scan q.1 q.2) ⟨s, 0⟩
  let p1 : Plan := (List.range 50).foldl
    (fun (p : Plan) b => match f.slackOf (129 + b) with
      | some v => p.basin apply b v
      | none => if s.annealKeeps b then ⟨p.st, p.flags ||| 32⟩ else p) p0
  let p2 : Plan := ([0, 1, 2, 3, 4, 5, 6, 7, 8, 9, 10] : List Nat).foldl
    (fun (p : Plan) d => p.domain apply d f.slack f.noAck) p1
  let p3 : Plan := s.upLanes.foldl (fun (p : Plan) l => p.lane apply l) p2
  ⟨if apply then p3.st.planPlanes.freshFree else p3.st, p3.flags ||| (if apply then 1 else 0)⟩

/-- A run's plan, its record and its end (R470 events 5 and 6). -/
def State.annealEnd (s : State) (r : AnnRun) (f : Measured) : State :=
  let eye := s.worstEye
  let scans := s.scanned f.scans
  let p := s.annealPlan (r.apply || s.on F.ANN_CFG_APPLY) f
  let s1 := p.st.appendRecord
    { kind := r.kind, flags := p.flags, ro := f.ro, roIndex := f.roIndex, slack := f.worst.2, island := f.worst.1
      eye := eye, mem := (List.range 16).map (stackScan scans), temps := r.temps }
  let s2 := ((s1.put F.ANN_STAT_RUNNING 0).istat F.ANN_ISTAT_ISTAT 0).countLog Ev.ANN_RUN 1
  let s3 : State := { s2 with pwr := { s2.pwr with run := none, runEnd := s2.now, runDue := s.fellDue r } }
  match r.mailbox with
  | some m => s3.mbAnswer m 0 (leBytes 4 (s3.get F.ANN_STAT_LAST_RUN) ++ leBytes 1 p.flags)
  | none => s3

/-- ANNEAL_RUN_DONE. -/
def State.annealDone (s : State) (f : Measured) : State :=
  match s.pwr.run with
  | some r => if s.mgmt.spcDown then s else s.annealEnd r f
  | none => s

/-! ### The services (R477) -/

/-- ANNEAL_RUN: answered when the run ends, or with REJ_BUSY while one runs. -/
def State.annealRun (s : State) (m : Fin 8) : State :=
  s.serve (.mailbox m) 0x0400 fun r =>
    if r.len ≠ 4 then s.mbAnswer m Rej.RANGE []
    else if s.pwr.run.isSome then s.mbAnswer m Rej.BUSY []
    else s.annealStart 1 (leNat (slice r.body 0 1) % 2 == 1) (some m.val)

/-- Records newest first. -/
def State.recordsNewest (s : State) : List (List Byte) :=
  ((List.range 1024).filterMap s.record).mergeSort fun a b => decide (recordRun b ≤ recordRun a)

/-- ANNEAL_READ. -/
def State.annealRead (s : State) (m : Fin 8) : State :=
  s.serve (.mailbox m) 0x0401 fun r =>
    let back := leNat (slice r.body 0 2)
    let count := leNat (slice r.body 2 1)
    let all := s.recordsNewest
    if r.len ≠ 4 ∨ count = 0 ∨ 15 < count ∨ all.length < back + count then s.mbAnswer m Rej.RANGE []
    else s.mbAnswer m 0 ((all.drop back).take count).flatten

/-- PM_ALERT: an assertion of PM_ALERT_L is logged, and nothing else follows (R541). -/
def State.pmAlert (s : State) : State := s.logState 0x170 (s.word 0x170).toNat (s.word 0x170).toNat

/-! ### The commands -/

def execBsnClkChange (b : BasinIx) (s : State) : Out := finish s (s.clkChange b)
def execDroopTrip (i : Fin 197) (s : State) : Out := finish s (s.droopTrip i)
def execStretchEnd (i : Fin 197) (s : State) : Out := finish s (s.stretchEnd i)
def execThermSensorSample (l : List (Fin 122 × BitVec 16)) (s : State) : Out :=
  finish s (s.sensorSample (l.map fun p => (p.1.val, p.2.toNat)))
def execThermEval (s : State) : Out := finish s s.thermEval
def execThermalTrip (i : Fin 122) (v : BitVec 16) (flag : Bool) (s : State) : Out := finish s (s.thermalTrip i v.toNat flag)
def execPwrReadingUpdate (l : List (Fin 11 × BitVec 16)) (s : State) : Out :=
  finish s (s.domainUpdate (l.map fun p => (p.1.val, p.2.toNat)))
def execPwrCapEval (s : State) : Out := finish s s.capEval
def execCapFail (s : State) : Out := finish s s.capFail
def execAnnealScheduled (s : State) : Out := finish s s.annealScheduled
/-- ANNEAL_RUN_DONE: the run's readings of the photonic die are the SPC requester's (R334). -/
def execAnnealRunDone (f : AnnealFacts) (s : State) : Out := finish s (s.onGlassBus 7 fun t => t.annealDone (t.standing f))
def execAnnealRun (m : Fin 8) (s : State) : Out := finish s (s.annealRun m)
def execAnnealRead (m : Fin 8) (s : State) : Out := finishSpc s (s.annealRead m)
def execPmAlert (s : State) : Out := finish s s.pmAlert

end Sys2Proof.Machine
end

