-- ==== Sys2Proof/Machine/Boot.lean ====
section
/-! DEFINITION. Resets (R498, R399, R544, R551), and the firmware flash (R497). -/

namespace Sys2Proof.Machine

/-! ### What every reset shares -/

/-- The RESET entry, which comes before every later entry of the log (R519, R522); the last of a full queue is
discarded. -/
def State.resetEntry (s : State) (last stage : Nat) : State :=
  let t : State := { s with obs := { s.obs with logQ := ⟨Ev.RESET, 0xe00, last, stage, 0, s.time.core⟩ :: s.obs.logQ.take 63 } }
  if 63 < s.obs.logQ.length then t.logLost else t

/-- A memory request whose requester a reset has cleared: it is performed, and no one awaits its answer. -/
def MemSrc.lost : MemSrc → MemSrc
  | .host a => .host a
  | .reg a => .reg a
  | .hyper c _ => .hyper c 0
  | x => .dma x.basin 0 0

/-- A request of the PCIe agent that a reset has cleared (R399). -/
def MemSrc.lostHost : MemSrc → MemSrc
  | .host 0 => .host 4
  | x => x

/-- Change the source of every request and answer on its way. -/
def State.mapSources (s : State) (f : MemSrc → MemSrc) : State :=
  let req (r : MemReq) : MemReq := { r with src := f r.src }
  let pkt (p : RingPkt) : RingPkt := { p with body := match p.body with
    | .req g r => .req g (req r)
    | .rsp r => .rsp { r with src := f r.src } }
  { s with mem := { s.mem with
    stopQ := s.mem.stopQ.map fun (x : Nat × List RingPkt) => (x.1, x.2.map pkt)
    ring := s.mem.ring.map pkt
    chanQ := s.mem.chanQ.map fun (x : Nat × List MemReq) => (x.1, x.2.map req) } }

/-- Levels that stand at the pins whatever is reset: modules in their cages, whose insertion is debounced
again, and TOK_IN. -/
def State.keepPins (old s : State) : State :=
  let s1 := s.put F.RILL_STAT_TOK_IN (old.get F.RILL_STAT_TOK_IN)
  (List.range 128).foldl (fun (t : State) (c : Nat) =>
    if old.on (F.LANE_CAGESTAT_PRESENT (cagePage c)) then
      (t.put (F.LANE_CAGESTAT_PRESENT (cagePage c)) 1).setCage c { insertedAt := some old.now }
    else t) s1

/-- TOK_OUT is deasserted where the part had an address (R423). -/
def State.dropToken (old s : State) : State :=
  if old.get F.RILL_STAT_ADDR = 0 then s else s.emit (.pin "TOK_OUT" false)

/-! ### COLD and WARM -/

/-- COLD_RESET: every block is cleared; NVM, the flash, the pins, and the part's past stay. -/
def State.coldReset (s : State) : State :=
  let base : State := { State.reset with
    obs := { State.reset.obs with out := s.obs.out }
    time := { State.reset.time with core := s.time.core, resetAt := s.time.core }
    cis := { seedAt := s.time.core }
    nvm := { State.reset.nvm with bytes := s.nvm.bytes, flash := s.nvm.flash }
    mgmt := { State.reset.mgmt with spcSince := s.time.core }
    board := { State.reset.board with refA := s.board.refA, refB := s.board.refB, t0 := s.board.refA && s.board.refB }
    freeCtr := s.freeCtr }
  let t := (State.dropToken s (State.keepPins s base)).resetEntry 0 0xffffffff
  if s.pwr.trip then t.emit (.pin "THERM_TRIP_L" true) else t

/-- Whether a WARM reset leaves the word at an address: the PCIe endpoint and the event log (R498). -/
def warmKeeps (a : Nat) : Bool := a / 4096 == 0xe08 || a == 0xe0011c || a / 4096 == 0xf00

/-- The observation that a WARM reset leaves: the log, what has left the part, and the counters of pages that stay. -/
def ObsSt.warm (o : ObsSt) : ObsSt :=
  let page (p : Nat) : Bool := p == 0xe08 || p == 0xf00
  { sel := o.sel.filter fun (x : Nat × Nat) => page (x.1 / 8)
    cnt := o.cnt.filter fun (x : Nat × Nat) => page (x.1 / 8)
    wrap := o.wrap.filter fun (x : Nat × Nat) => page x.1
    lostBefore := o.lostBefore, log := o.log, logHeld := o.logHeld, logAt := o.logAt, roomAt := o.roomAt, clearAt := o.clearAt
    fresh := o.fresh.filter fun (x : Nat × Option FreshSel) => page (x.1 / 8), reads := o.reads, out := o.out }

/-- The clearing of a WARM reset. -/
def State.warmClear (s : State) : State :=
  let base : State := { State.reset with
    bar := s.bar.filter fun (x : Nat × Word) => warmKeeps x.1
    obs := s.obs.warm
    time := { State.reset.time with core := s.time.core, resetAt := s.time.core }
    cis := { seedAt := s.time.core }
    nvm := { State.reset.nvm with
      bytes := s.nvm.bytes, appends := s.nvm.appends, flash := s.nvm.flash, remapHalf := s.nvm.remapHalf, remapSeq := s.nvm.remapSeq }
    mgmt := { State.reset.mgmt with tap := s.tapLost, pcie := s.mgmt.pcie, spcSince := s.time.core }
    mem := { State.reset.mem with genCtr := s.mem.genCtr }
    pwr := { State.reset.pwr with trip := s.pwr.trip }
    board := { State.reset.board with starting := some 1, refA := s.board.refA, refB := s.board.refB, t0 := s.board.refA && s.board.refB }
    freeCtr := s.freeCtr + 1 }
  let t := (base.put F.GLOBAL_BOARDSTAT_BROWNOUT (s.get F.GLOBAL_BOARDSTAT_BROWNOUT)).put F.BOOT_STAT_LAST 1
  (State.dropToken s (State.keepPins s t)).resetEntry 1 (s.get F.BOOT_STAT_STAGE)

/-- WARM_RESET: ignored and logged while a thermal trip holds (R498, R551); a brown-out goes on holding the part (R544). -/
def State.warmReset (s : State) : State :=
  if s.pwr.trip then s.logState 0x160 0 0
  else { s.warmClear with board := { s.warmClear.board with held := s.board.held } }

/-- BROWNOUT: the part holds itself in WARM reset (R544). -/
def State.brownout (s : State) : State :=
  { s.warmClear with board := { s.warmClear.board with held := true } }

/-- BROWNOUT_RECOVERY: start-up follows as after WARM, and BROWNOUT is set. -/
def State.brownoutRecovery (s : State) : State :=
  if s.board.held then
    ({ s with board := { s.board with held := false, starting := some 1, t0 := s.board.refA && s.board.refB } } : State).raise F.GLOBAL_BOARDSTAT_BROWNOUT
  else s

/-! ### DATA -/

/-- Whether a DATA reset clears the word at an address (R498): lanes to Basins with their windows, and the
Glass tables and controller. -/
def dataClears (a : Nat) : Bool :=
  (decide (0x100000 ≤ a) && decide (a < 0xa32000)) || (decide (0x1000000 ≤ a) && decide (a < 0x6200000))
  || (decide (0xc00000 ≤ a) && decide (a < 0xc19000)) || (decide (0x9000000 ≤ a) && decide (a < 0x9100000))
  || (decide (0x9110000 ≤ a) && decide (a < 0x9112400) && a % 16 != 0)

/-- Whether a DATA reset clears a page. -/
def dataClearsPage (p : Nat) : Bool := dataClears (p * 4096)

/-- A slot in VALID or ARMED that owns a unit of a cleared block fails with REJ_BUSY. -/
def State.dataFailSlot (s : State) (i : Nat) : State :=
  let st := s.get (F.TXN_TXSTAT_STATE i)
  let x := s.slot i
  if (st = 3 ∨ st = 4) ∧ (x.units.any dataClears || !x.keys.isEmpty) then
    (((s.setSlot i {}).puts [(F.TXN_TXSTAT_STATE i, 6), (F.TXN_TXSTAT_CODE i, Rej.BUSY)])).orBits F.TXN_TXISTAT_DONE (2 ^ i)
  else s

/-- The Glass controller after a DATA reset: READY, unless its rings are still being searched. -/
def State.dataGlass (s : State) (t : State) : State :=
  let st := s.get F.GLASS_GLSTAT_CTRL_STATE
  t.put F.GLASS_GLSTAT_CTRL_STATE (min st 2)

/-- The state of a matrix array after a DATA reset: as start-up computed it; a test under way is lost. -/
def State.dataArray (s t : State) (b : Nat) : State :=
  let a := s.get (F.BASIN_STATE_ARRAY b)
  t.put (F.BASIN_STATE_ARRAY b) (if a = 2 then 1 else a)

/-- A request that the SPC holds keeps no cells of a Cistern that has been cleared. -/
def FabReq.uncharged (r : FabReq) : FabReq := { r with pkt := none }

/-- DATA_RESET. -/
def State.dataReset (s : State) : State :=
  let s0 : State := ((List.range 16).foldl State.dataFailSlot s).mapSources MemSrc.lost
  let keep (p : Nat) : Bool := !dataClearsPage p
  let base : State := { s0 with
    bar := s0.bar.filter fun (x : Nat × Word) => !dataClears x.1
    obs := { s0.obs with
      sel := s0.obs.sel.filter fun (x : Nat × Nat) => keep (x.1 / 8)
      cnt := s0.obs.cnt.filter fun (x : Nat × Nat) => keep (x.1 / 8)
      wrap := s0.obs.wrap.filter fun (x : Nat × Nat) => keep x.1
      fresh := s0.obs.fresh.filter fun (x : Nat × Option FreshSel) => keep (x.1 / 8)
      latch := s0.obs.latch.filter fun (x : Nat × Option (Nat × Nat)) => keep (x.1 % 4096)
      logQ := s0.obs.logQ.filter fun (r : LogReq) => keep r.page
      sampleQ := [] }
    time := { s0.time with rxQ := [] }
    glass := { offset := s0.glass.offset, searching := s0.glass.searching, searchAt := s0.glass.searchAt
               lastRetry := s0.glass.lastRetry, lastPower := s0.glass.lastPower, lastBias := s0.glass.lastBias
               locks := s0.glass.locks, slope := s0.glass.slope, fibreTap := s0.glass.fibreTap, cal := s0.glass.cal
               reads := s0.glass.reads }
    cis := { seedAt := s.now }, fwd := {}, col := {}
    mgmt := { s0.mgmt with fabIn := s0.mgmt.fabIn.map FabReq.uncharged, fabQ := s0.mgmt.fabQ.map FabReq.uncharged }
    bsn := { paused := s0.bsn.paused }
    hlth := { basins := s0.hlth.basins, stackUe := s0.hlth.stackUe, chanUe := s0.hlth.chanUe
              freezeAt := s0.hlth.freezeAt.filter fun (x : Nat × Nat) => keep x.1 }
    ports := [], lcQ := [], cages := []
    board := { s0.board with starting := some (s0.board.starting.getD 2), prbs := [] } }
  let t1 : State := (List.range 50).foldl (fun (t : State) (b : Nat) => State.dataArray s0 t b) (State.keepPins s base)
  let t2 := (State.dataGlass s t1).puts [(F.BOOT_STAT_STAGE, min 7 (s.get F.BOOT_STAT_STAGE)), (F.BOOT_STAT_LAST, 2)]
  (((List.range 50).foldl State.settleClock t2).judgeBudget.countRecs).resetEntry 2 (s.get F.BOOT_STAT_STAGE)

/-! ### SPC -/

/-- A mailbox at an SPC reset: a request in progress ends with DONE and REJ_BUSY; any other is cleared. -/
def State.spcMailbox (s : State) (m : Nat) : State :=
  if s.on (F.MB_MBSTAT_BUSY m) then
    ((s.raise (F.MB_MBSTAT_DONE m)).puts [(F.MB_MBSTAT_BUSY m, 0), (F.MB_MBSTAT_OK m, 0), (F.MB_MBSTAT_CODE m, Rej.BUSY)]).orBits
      F.MB_MBISTAT_DONE (2 ^ m)
  else s.setWord (0xe05104 + 16 * m) 0#32

/-- SPC_RESET: the firmware restarts, and no hardware block is cleared. -/
def State.spcReset (s : State) : State :=
  let s1 : State := { s with
    bar := s.bar.filter fun (x : Nat × Word) =>
      !(decide (0xa000000 ≤ x.1) && decide (x.1 < 0xa010000)) && x.1 != 0xe05200 && x.1 != 0xe05204
    nvm := { s.nvm with streams := [] }
    mgmt := { s.mgmt with fabIn := [], fabQ := [], mbWritten := [], mbLen := [], svcTurn := 0, copyFor := none, spcSince := s.now, spcDown := true }
    time := { s.time with dds := List.replicate 16 0#8, ddsStaged := none }
    pwr := { s.pwr with run := none } }
  let s0 : State := (s.mgmt.fabIn ++ s.mgmt.fabQ).foldl (fun t r => t.consume r.pkt) s1
  let s2 : State := (List.range 8).foldl State.spcMailbox s0
  (s2.puts [(F.ANN_STAT_RUNNING, 0), (F.NVM_STAT_BUSY, 0), (F.BOOT_STAT_LAST, 3)]).resetEntry 3 (s.get F.BOOT_STAT_STAGE)

/-! ### The PCIe endpoint (R399, R551) -/

/-- The configuration space, the MSI-X table and pending-bit array, and the agent's outstanding requests, are cleared. -/
def State.clearEndpoint (s : State) : State :=
  ({ s with
    mgmt := { s.mgmt with pcie := {} }
    obs := { s.obs with reads := s.obs.reads.map fun q => if q.agent = 0 then { q with back := false } else q }
    bar := s.bar.filter fun (x : Nat × Word) => !(decide (0xe08400 ≤ x.1) && decide (x.1 < 0xe08900))
    glass := { s.glass with reads := s.glass.reads.filter fun q => q.agent != 0 } } : State).mapSources MemSrc.lostHost

/-- FLR. -/
def State.flr (s : State) : State := s.clearEndpoint

/-- PERST: the fundamental reset of the endpoint, whose link goes down. -/
def State.perst (s : State) : State := s.clearEndpoint.puts [(F.MGMT_PCIESTAT_WIDTH, 0), (F.MGMT_PCIESTAT_GEN, 0)]

/-- The host has written the configuration space: with bus mastering enabled anew, pending messages go out (R417). -/
def State.pcieCfg (s : State) (c : PcieCfg) : State :=
  let t : State := { s with mgmt := { s.mgmt with pcie := c } }
  if c.busMaster && !s.mgmt.pcie.busMaster then (List.range 64).foldl State.unmask t else t

/-- PCIE_LINK_CHANGE: the link trains, retrains or goes down (R426). -/
def State.pcieLink (s : State) (width gen : Nat) : State :=
  if [1, 2, 4, 8].contains width ∧ 1 ≤ gen then s.puts [(F.MGMT_PCIESTAT_WIDTH, width), (F.MGMT_PCIESTAT_GEN, gen)]
  else s.puts [(F.MGMT_PCIESTAT_WIDTH, 0), (F.MGMT_PCIESTAT_GEN, 0)]

/-! ### The flash interface (R497) -/

/-- A byte of the flash. -/
def State.flashByte (s : State) (a : Nat) : Byte := SMap.get Config.flashByte s.nvm.flash a

/-- `n` bytes of the flash from an address. -/
def State.flashBytes (s : State) (a n : Nat) : List Byte := (List.range n).map fun i => s.flashByte (a + i)

/-- Bytes reach the flash. -/
def State.flashPut (s : State) (a : Nat) (bs : List Byte) : State :=
  let m := bs.zipIdx.foldl (fun m (p : Byte × Nat) => SMap.set Config.flashByte m (a + p.2) p.1) s.nvm.flash
  { s with nvm := { s.nvm with flash := m } }

/-- First address and size of an image slot: SPC A, B, lane A, B (R492). -/
def imageSlot (lane b : Bool) : Nat × Nat :=
  match lane, b with
  | false, false => (0x100000, 0x800000)
  | false, true => (0x900000, 0x800000)
  | true, false => (0x1100000, 0x400000)
  | true, true => (0x1500000, 0x400000)

/-- Whether the SPC image runs, and whether lane firmware does: what a start-up loaded, until another reset runs it anew. -/
def State.spcRuns (s : State) : Bool := !s.romMode && s.board.starting != some 0 && s.board.starting != some 1
def State.laneRuns (s : State) : Bool := s.spcRuns && s.get F.BOOT_STAT_WHY != 2

/-- Whether an access touches the slot from which a running image was loaded. -/
def State.touchesRunning (s : State) (a n : Nat) : Bool :=
  let hit (r : Nat × Nat) : Bool := decide (a < r.1 + r.2) && decide (r.1 < a + n)
  (s.spcRuns && hit (imageSlot false (s.on F.BOOT_SLOTS_SPC)))
  || (s.laneRuns && hit (imageSlot true (s.on F.BOOT_SLOTS_LANE)))

/-- The code of a write of FLCTL with GO; 0 where it starts. -/
def State.flashCheck (s : State) (op len : Nat) : Nat :=
  let a := s.get F.BOOT_FLADDR_ADDR
  let n := if op = 2 then 0x10000 else len
  if op = 3 ∨ (op ≠ 2 ∧ (len = 0 ∨ 4096 < len)) ∨ (op = 2 ∧ a % 0x10000 ≠ 0) ∨ Config.flashExtra < a + n - 0x2000000 then Rej.RANGE
  else if s.on F.BOOT_FLSTAT_BUSY ∨ (op ≠ 0 ∧ s.touchesRunning a n) then Rej.BUSY
  else 0

/-- An operation starts. -/
def State.flashStart (s : State) (op len : Nat) : State :=
  let a := s.get F.BOOT_FLADDR_ADDR
  let n := if op = 2 then 0x10000 else len
  let s1 : State := { s with nvm := { s.nvm with flOp := some (op, a, n) } }
  s1.puts [(F.BOOT_FLSTAT_BUSY, 1), (F.BOOT_FLSTAT_OK, 0), (F.BOOT_FLSTAT_CODE, 0)]

/-- The buffer window. -/
def flashBuffer : Nat := 0xbc00000

/-- What an operation does.  PRESUMED: an erased byte reads 0xFF, as in serial NOR flash. -/
def State.flashAct (s : State) (op a n : Nat) : State :=
  match op with
  | 0 =>
    let old := s.barBytes flashBuffer 1024
    (s.emit (.flash 0 a [])).setBarBytes flashBuffer (patch old 0 (s.flashBytes a n))
  | 1 =>
    let d := (s.barBytes flashBuffer 1024).take n
    (s.emit (.flash 1 a d)).flashPut a d
  | _ => (s.emit (.flash 2 a [])).flashPut a (List.replicate n 0xff#8)

/-- FLASH_OP_DONE: the operation ends, with REJ_IO where the flash did not answer. -/
def State.flashDone (s : State) (answered : Bool) : State :=
  match s.nvm.flOp with
  | none => s
  | some (op, a, n) =>
    let s1 : State := { s with nvm := { s.nvm with flOp := none } }
    let s2 := if answered then s1.flashAct op a n else s1
    (s2.raise F.BOOT_FLSTAT_DONE).puts [(F.BOOT_FLSTAT_BUSY, 0), (F.BOOT_FLSTAT_OK, if answered then 1 else 0),
      (F.BOOT_FLSTAT_CODE, if answered then 0 else Rej.IO)]

/-! ### The commands -/

def execColdReset (s : State) : Out := finishAlways s s.coldReset
def execBrownout (s : State) : Out := finish s s.brownout
def execBrownoutRecovery (s : State) : Out := finishAlways s s.brownoutRecovery
def execFlr (s : State) : Out := finishSpc s s.flr
def execPerst (s : State) : Out := finishSpc s s.perst
/-- PCIE_LINK_CHANGE; `cfg` is the configuration space where the host has written it, or an error has been reported. -/
def execPcieLinkChange (width : Fin 9) (gen : Fin 6) (cfg : Option PcieCfg) (s : State) : Out :=
  let t := s.pcieLink width gen
  finishSpc s (match cfg with
    | some c => t.pcieCfg c
    | none => t)
def execFlashOpDone (answered : Bool) (s : State) : Out := finishSpc s (s.flashDone (answered && !s.mgmt.tap.extest))

end Sys2Proof.Machine
end

