-- ==== Sys2Proof/Machine/Access.lean ====
section
/-! DEFINITION. BAR0 accesses as every agent makes them (R395, R397, R556): what lies at an address, how a
write changes a word by its access types (R13), which unit it touches (R410), and the codes that R403 ranks before a
block's own checks. -/

namespace Sys2Proof.Machine

/-! ### What lies at an address (R556, R557, R560) -/

/-- The kinds of place. -/
inductive BarPlace where
  | unmapped | page | win (mode : WinMode) | view | aperture
  deriving DecidableEq, Repr

/-- Whether an address lies in the event log, the sample ring or the NVM window (R560). -/
def viewAt (a : Nat) : Bool :=
  (decide (0xb000000 ≤ a) && decide (a < 0xb080000)) || (decide (0xb200000 ≤ a) && decide (a < 0xb300000))
  || (decide (0xb400000 ≤ a) && decide (a < 0xbc00000))

/-- What lies at the word address `a`. -/
def placeAt (a : Nat) : BarPlace :=
  if a < pageLimit then
    if (pageDef (a / 4096)).isSome && (decide (a % 4096 < 0x100) || (regAt a).isSome) then .page else .unmapped
  else match winAt a with
  | some w => .win w.mode
  | none => if viewAt a then .view else if 0x8000000 ≤ a ∧ a < 0x9000000 then .aperture else .unmapped

/-- The fields of a word: a word that no register or entry lays out is reserved whole (R401). -/
def fldsAt (a : Nat) : List Fld :=
  match regAt a with
  | some r => r.flds
  | none => [⟨31, 0, .rsv, 0, [], false⟩]

/-- Whether the tables hold one-byte entries at an address (R397): pin tables and queue maps. -/
def byteEntries (a : Nat) : Bool :=
  (decide (0x2480000 ≤ a) && decide (a < 0x2488000)) || (decide (0x3100000 ≤ a) && decide (a < 0x3110000))

/-- Reserved bits of byte entries (R119, R144). -/
def byteRsv (a : Nat) : Nat := if a < 0x3000000 then 0xf8f8f8f8 else 0xc0c0c0c0

/-! ### Merging a write into a word (R13) -/

/-- The bits that byte enables name. -/
def byteMask (be : Nat) : Nat := (List.range 4).foldl (fun n i => n + nbit be i * (0xff * 256 ^ i)) 0

/-- A field of a word after a write of `v` under the bit mask `m`; a write of 1 leaves the bits of `now`, which were set
in the same core clock (R221, R417). -/
def mergeFld (now : Nat) (f : Fld) (old v m : Nat) : Nat :=
  match f.acc with
  | .rw => nfield (old - (old &&& m) + (v &&& m)) f.hi f.lo
  | .w1c => nfield (old - (old &&& (v &&& m)) + (old &&& (v &&& m) &&& now)) f.hi f.lo
  | .ro => nfield old f.hi f.lo
  | .wo => 0
  | .rsv => 0

/-- A word after a write. -/
def mergeWord (now : Nat) (fl : List Fld) (old v m : Nat) : Nat :=
  fl.foldl (fun n f => n + mergeFld now f old v m * 2 ^ f.lo) 0

/-- The leaf route and chip-number windows, whose entries are results of R70. -/
def resultEntry (a : Nat) : Bool :=
  (decide (0x2010000 ≤ a) && decide (a < 0x2012000)) || (decide (0x2100000 ≤ a) && decide (a < 0x2180000))

/-- A pattern byte's bit 6, a reserved bit whose rule has a code of its own (R311). -/
def patRsv (a v : Nat) : Bool := decide (0x9080000 ≤ a) && decide (a < 0x9100000) && v &&& 0x40404040 != 0

/-- GLMIG.CTRL names PLANE 8 with GO, which has a code of its own (R333). -/
def namesSpare (a v : Nat) : Bool := a == 0xc00160 && nbit v 31 == 1 && nfield v 3 0 == 8

/-- What a write has left for the reserved bits' own rule. -/
def lessNamed (a v : Nat) : Nat :=
  if patRsv a v then v &&& 0xbfbfbfbf else if namesSpare a v then v &&& 0xfffffff7 else v

/-- A 1 is written to a reserved bit. -/
def hitsReserved (a : Nat) (fl : List Fld) (v : Nat) : Bool :=
  fl.any (fun f => f.acc == .rsv && nfield v f.hi f.lo != 0) || (byteEntries a && v &&& byteRsv a != 0)
  || (resultEntry a && nfield v 20 16 != 0)

/-- The value that a write gives a field which takes one. -/
def fldValue (f : Fld) (old v m : Nat) : Option Nat :=
  match f.acc with
  | .rw => some (mergeFld 0 f old v m)
  | .wo => some (nfield (v &&& m) f.hi f.lo)
  | _ => none

/-- A field that the write touches would leave its range. -/
def outOfRange (fl : List Fld) (old v m : Nat) : Bool :=
  fl.any fun f => !f.ranges.isEmpty && nfield m f.hi f.lo != 0 &&
    (fldValue f old v m).any fun x => !(f.ranges.any fun r => decide (r.1 ≤ x) && decide (x ≤ r.2))

/-- Whether a field can be written at all. -/
def Fld.takes (f : Fld) : Bool := f.acc == .rw || f.acc == .wo || f.acc == .w1c

/-- A direct write is refused as transaction-only (R561): every field that takes writes is such a field, or it would
change one. -/
def directRefused (fl : List Fld) (old v m : Nat) : Bool :=
  let some_ := fl.filter Fld.takes
  (!some_.isEmpty && some_.all Fld.txn) ||
  fl.any fun f => f.txn && match f.acc with
    | .rw => mergeFld 0 f old v m != nfield old f.hi f.lo
    | .wo => nfield (v &&& m) f.hi f.lo != 0
    | _ => false

/-- The group registers, which are written only by transaction (R363). -/
def groupReg (a : Nat) : Bool := decide (0x500000 ≤ a) && decide (a < 0x600000) && decide (0x100 ≤ a % 4096) && decide (a % 4096 < 0x124)

/-- The endpoint and stash windows, whose entries only the table writer changes (R94). -/
def entryWindow (a : Nat) : Bool := decide (0x1000000 ≤ a) && decide (a < 0x2000400)

/-- The response buffers of the mailboxes, which only the SPC writes (R427). -/
def responseBuffer (a : Nat) : Bool := decide (0xa000000 ≤ a) && decide (a < 0xa010000) && a / 4096 % 2 == 1

/-- Whether a write at an address is refused as transaction-only (R403, R560); `txn` says that a record makes it. -/
def txnOnly (txn : Bool) (a : Nat) (fl : List Fld) (old v m : Nat) : Bool :=
  match placeAt a with
  | .win .direct => responseBuffer a
  | .win .txnOnly => !txn || entryWindow a
  | .win _ => true
  | .view => true
  | _ => !txn && (groupReg a || directRefused fl old v m)

/-! ### Units and ownership (R410, R411) -/

/-- Bytes of a unit in the window at an address. -/
def unitSize (a : Nat) : Nat :=
  if byteEntries a then 1
  else if 0x3210000 ≤ a ∧ a < 0x3214000 then 2
  else ((winAt a).map WinDef.entry).getD 4

/-- The unit that byte `b` lies in; a register whose fields all act on the write is no unit. -/
def unitOf (b : Nat) : Option Nat :=
  let a := b / 4 * 4
  if b < pageLimit then
    if (fldsAt a).all fun f => f.acc == .wo || f.acc == .rsv then none else some a
  else match winAt a with
  | some w => some (w.base + (b - w.base) / unitSize a * unitSize a)
  | none => none

/-- The units that a write of a word touches. -/
def unitsOf (a be : Nat) : List Nat :=
  ((List.range 4).filterMap fun i => if nbit be i = 1 then unitOf (a + i) else none).eraseDups

/-- The slot that owns a unit. -/
def State.unitOwner (s : State) (u : Nat) : Option Nat :=
  (List.range 16).find? fun i => (s.slot i).units.contains u

/-- Whether another slot than `me` owns a unit. -/
def State.lockedFor (s : State) (me : Option Nat) (u : Nat) : Bool :=
  match s.unitOwner u with
  | some i => some i != me
  | none => false

/-! ### Words that the counters keep (R505, R507) -/

/-- The EVSEL register at an address: page and counter. -/
def evselAt (a : Nat) : Option (Nat × Nat) :=
  if a < pageLimit ∧ 0xc0 ≤ a % 4096 ∧ a % 4096 < 0xe0 then some (a / 4096, (a % 4096 - 0xc0) / 4) else none

/-- The word that a write at an address meets. -/
def State.heldWord (s : State) (a : Nat) : Nat :=
  match evselAt a with
  | some (p, n) => SMap.get (fun _ => 0) s.obs.sel (8 * p + n)
  | none =>
    if a < pageLimit ∧ a % 4096 = 0xe0 then SMap.get (fun _ => 0) s.obs.wrap (a / 4096) else (s.word a).toNat

/-- Hold a word at an address. -/
def State.holdWord (s : State) (a w : Nat) : State :=
  match evselAt a with
  | some (p, n) => { s with obs := { s.obs with sel := SMap.set (fun _ => 0) s.obs.sel (8 * p + n) w } }
  | none =>
    if a < pageLimit ∧ a % 4096 = 0xe0 then
      { s with obs := { s.obs with wrap := SMap.set (fun _ => 0) s.obs.wrap (a / 4096) w } }
    else s.setWord a (BitVec.ofNat 32 w)

/-- The bits of a word that were set in this core clock. -/
def State.nowBits (s : State) (a : Nat) : Nat :=
  if a < pageLimit ∧ a % 4096 = 0xe0 then SMap.get (fun _ => 0) s.obs.wrapNow (a / 4096) else s.setBits a

/-- The state as a write of a word leaves it, before what the write starts. -/
def State.mergeAt (s : State) (a v be : Nat) : State :=
  s.holdWord a (mergeWord (s.nowBits a) (fldsAt a) (s.heldWord a) v (byteMask be))

/-! ### The modes (R496, R558) -/

/-- Whether a write is one that Restricted mode rejects: PORTCFG.EN, COLCFG.CTRL.EN or GLSW.CTRL.GO as 1. -/
def releases (a w : Nat) : Bool :=
  (decide (0x100000 ≤ a) && decide (a < 0x500000) && a % 4096 == 0x100 && nbit w 31 == 1)
  || (a == 0x900100 && nbit w 0 == 1) || (a == 0xc00120 && nbit w 31 == 1)

/-- Whether a write is one that only the agent which claimed a slot may make, and another makes it: an operation of
TXCTL but CLAIM (R408), or staging (R405). -/
def State.claimedByOther (s : State) (agent a w : Nat) : Bool :=
  let other (i : Nat) : Bool := s.get (F.TXN_TXSTAT_STATE i) != 0 && s.get (F.TXN_TXSTAT_AGENT i) != agent
  if 0xe01100 ≤ a ∧ a < 0xe01300 ∧ a % 32 = 0 then nbit w 31 == 1 && nfield w 30 28 != 0 && other ((a - 0xe01100) / 32)
  else decide (0xc000000 ≤ a) && decide (a < 0xe000000) && other ((a - 0xc000000) / 0x200000)

/-- A write of the central reader's settings while it is armed or busy, which comes before their ranges (R528). -/
def State.snapHeld (s : State) (a : Nat) : Bool :=
  decide (0xf03100 ≤ a) && decide (a < 0xf03118) && (s.on F.SNAP_STAT_ARMED || s.on F.SNAP_STAT_BUSY)

/-- A write of GLOBAL.RESET without its KEY (R501). -/
def keyMissing (a w : Nat) : Bool := a == 0x160 && nfield w 31 24 != 0xa5

/-- The code of a write before its block's own checks, in the order of R403; 0 where none refuses it. -/
def State.rankedCode (s : State) (me : Option Nat) (agent a v be : Nat) : Nat :=
  let m := byteMask be
  let fl := fldsAt a
  let old := s.heldWord a
  let txn := me.isSome
  if hitsReserved a fl (lessNamed a (v &&& m)) then Rej.RESERVED
  else if txnOnly txn a fl old v m then Rej.TXN_ONLY
  else if (unitsOf a be).any (s.lockedFor me) ∨ s.claimedByOther agent a (v &&& m) then Rej.LOCKED
  else if s.on F.MGMT_MODE_RESTRICTED ∧ releases a (v &&& m) ∧ !s.romMode then Rej.RESTRICTED
  else if !s.answers a ∨ s.snapHeld a then Rej.BUSY
  else if outOfRange fl old v m ∨ patRsv a (v &&& m) ∨ namesSpare a (v &&& m) ∨ keyMissing a (v &&& m) then Rej.RANGE
  else 0

end Sys2Proof.Machine
end

