-- ==== Sys2Proof/Machine/Slots.lean ====
section
/-! DEFINITION. Transaction slots: staged records as they stand (R405, R406), and the operations of TXCTL (R408, R412,
R415). -/

namespace Sys2Proof.Machine

/-! ### Staged records (R406) -/

/-- Word `k` of record `i` of a slot. -/
def State.stgWord (s : State) (sl i k : Nat) : Nat := (s.word (0xc000000 + sl * 0x200000 + i * 32 + 4 * k)).toNat

/-- OP of a record. -/
def State.recOp (s : State) (sl i : Nat) : Nat := nfield (s.stgWord sl i 0) 31 30

/-- OFFSET, NWORDS and BE of a record. -/
def State.recOffset (s : State) (sl i : Nat) : Nat := nfield (s.stgWord sl i 0) 27 0
def State.recNwords (s : State) (sl i : Nat) : Nat := nfield (s.stgWord sl i 1) 19 16
def State.recBe (s : State) (sl i : Nat) : Nat := nfield (s.stgWord sl i 1) 15 0

/-- A word that a WRITE record writes: the record, the address, the data and the byte enables. -/
structure RecWord where
  ix : Nat
  addr : Nat
  data : Nat
  be : Nat
  deriving DecidableEq, Repr

/-- The words of a WRITE record of which some byte is enabled. -/
def State.recWords (s : State) (sl i : Nat) : List RecWord :=
  if s.recOp sl i ≠ 0 then []
  else ((List.range (min 4 (s.recNwords sl i))).map fun k =>
    (⟨i, s.recOffset sl i + 4 * k, s.stgWord sl i (4 + k), s.recBe sl i / 16 ^ k % 16⟩ : RecWord)).filter fun x => x.be != 0

/-- KEY and result of an EP_SET record. -/
def State.recKey (s : State) (sl i : Nat) : Nat := s.stgWord sl i 4 + s.stgWord sl i 5 * 2 ^ 32
def State.recRes (s : State) (sl i : Nat) : Nat := nfield (s.stgWord sl i 6) 23 0

/-- The record numbers of a slot. -/
def State.slotRecs (s : State) (sl : Nat) : List Nat := List.range (s.get (F.TXN_TXCOUNT_COUNT sl))

/-- Every word that the slot's WRITE records write, in index order. -/
def State.slotWords (s : State) (sl : Nat) : List RecWord := (s.slotRecs sl).flatMap (s.recWords sl)

/-- The bits of the fields that act on a write and that a record leaves 0. -/
def woUnset (fl : List Fld) (v : Nat) : Nat :=
  fl.foldl (fun n f => if f.acc == .wo && nfield v f.hi f.lo == 0 then n + (2 ^ (f.hi + 1) - 2 ^ f.lo) else n) 0

/-- What the records, in order, write to a word: the later stands byte by byte; bytes not written are 0.  A field that
acts once keeps what an earlier record set. -/
def rawAt (l : List RecWord) (a : Nat) : Nat :=
  l.foldl (fun n x =>
    if x.addr = a then
      let m := byteMask x.be
      (n - (n &&& m) + (x.data &&& m)) ||| (n &&& woUnset (fldsAt a) (x.data &&& m))
    else n) 0

/-- The bits of a word that the records write. -/
def maskAt (l : List RecWord) (a : Nat) : Nat :=
  l.foldl (fun n x => if x.addr = a then n ||| byteMask x.be else n) 0

/-- The state as the records would leave the words. -/
def State.withWords (s : State) (l : List RecWord) : State := l.foldl (fun t x => t.mergeAt x.addr x.data x.be) s

/-- Whether an address lies in a banked forwarding table, and of which bank (R63, R113). -/
def bankOf (a : Nat) : Option Nat :=
  if 0x2010000 ≤ a ∧ a < 0x2012000 then some ((a - 0x2010000) / 0x1000)
  else if 0x2100000 ≤ a ∧ a < 0x2180000 then some ((a - 0x2100000) / 0x40000)
  else if 0x2200000 ≤ a ∧ a < 0x2400000 then some ((a - 0x2200000) / 0x100000)
  else if 0x2480000 ≤ a ∧ a < 0x2488000 then some ((a - 0x2480000) / 0x4000)
  else none

/-- Whether a slot's records write FLIP, or the free bank. -/
def State.slotFlips (s : State) (sl : Nat) : Bool := nbit (rawAt (s.slotWords sl) 0x602100) 0 == 1
def State.slotBanked (s : State) (sl : Nat) : Bool :=
  (s.slotWords sl).any (fun x => (bankOf x.addr).isSome) || (s.slotRecs sl).any fun i => s.recOp sl i == 1

/-- State of a slot (R407). -/
def State.slotState (s : State) (i : Nat) : Nat := s.get (F.TXN_TXSTAT_STATE i)

/-- The other validated and uncommitted transactions. -/
def State.waiting (s : State) (me : Option Nat) : List Nat :=
  (List.range 16).filter fun i => some i != me && (s.slotState i == 3 || s.slotState i == 4)

/-! ### TXCTL (R408) -/

/-- Why an operation is refused; 0 where it is not. -/
def State.txctlCheck (s : State) (agent i w : Nat) : Nat :=
  let st := s.slotState i
  let op := nfield w 30 28
  let mode := nfield w 27 26
  if nbit w 31 = 0 then 0
  else if op = 0 then (if st = 0 then 0 else Rej.BUSY)
  else if st = 0 then Rej.BUSY
  else if s.get (F.TXN_TXSTAT_AGENT i) ≠ agent then Rej.LOCKED
  else if op = 1 then
    (if st ≠ 1 ∧ st ≠ 6 then Rej.BUSY else if s.get (F.TXN_TXCOUNT_COUNT i) = 0 then Rej.RANGE else 0)
  else if op = 2 then
    (if st ≠ 3 ∨ (s.slot i).nowPending then Rej.BUSY
     else if mode = 1 ∧ s.slotFlips i then Rej.RANGE
     else if mode = 2 ∧ 999999999 < s.get (F.TXN_TXT_NS_NS i) then Rej.RANGE else 0)
  else if st = 2 then Rej.BUSY else 0

/-- CLAIM: the slot is OPEN for the agent, with COUNT cleared. -/
def State.claimSlot (s : State) (agent i part : Nat) : State :=
  s.puts [(F.TXN_TXSTAT_STATE i, 1), (F.TXN_TXSTAT_AGENT i, agent), (F.TXN_TXSTAT_CODE i, 0), (F.TXN_TXFAIL_VALID i, 0),
    (F.TXN_TXFAIL_INDEX i, 0), (F.TXN_TXPART_PART i, part), (F.TXN_TXCOUNT_COUNT i, 0)]

/-- The core clocks of a turn of the validator: 16 records at 64 a microsecond (R409). -/
def turnClocks : Nat := 400

/-- VALIDATE: the slot is VALIDATING; an idle validator begins a turn. -/
def State.validateSlot (s : State) (i : Nat) : State :=
  let idle := (List.range 16).all fun j => s.slotState j != 2
  let s1 : State := { s with mgmt := { s.mgmt with validAt := if idle then s.now else s.mgmt.validAt } }
  s1.puts [(F.TXN_TXSTAT_STATE i, 2), (F.TXN_TXSTAT_CODE i, 0), (F.TXN_TXFAIL_VALID i, 0), (F.TXN_TXFAIL_INDEX i, 0)]

/-- COMMIT: accepted in order; a T already past counts TIME_TRIG_LATE (R412). -/
def State.commitSlot (s : State) (i mode : Nat) : State :=
  let x := s.slot i
  let s1 : State := { s with mgmt := { s.mgmt with commits := s.mgmt.commits + 1 } }
  let s2 := (s1.setSlot i { x with nowPending := mode == 0, order := s.mgmt.commits, late := false }).put (F.TXN_TXSTAT_MODE i) mode
  if mode = 0 then s2
  else
    let s3 := s2.put (F.TXN_TXSTAT_STATE i) 4
    if mode = 2 ∧ s.slotTimeNs i < s.devNs then s3.countAt 0xd00 Ev.TIME_TRIG_LATE 1 else s3

/-- Every unit that a slot owns is released; the slot keeps nothing. -/
def State.freeUnits (s : State) (i : Nat) : State := s.setSlot i {}

/-- The keys that a slot placed are removed (R114). -/
def State.dropPlaced (s : State) (i : Nat) : State :=
  (s.slot i).placed.foldl (fun t key => match t.epFind key with
    | some e => t.epRemove e
    | none => t) s

/-- The slot becomes FREE. -/
def State.freeSlot (s : State) (i : Nat) : State :=
  (s.freeUnits i).puts [(F.TXN_TXSTAT_STATE i, 0), (F.TXN_TXSTAT_CODE i, 0), (F.TXN_TXFAIL_VALID i, 0), (F.TXN_TXFAIL_INDEX i, 0)]

/-- RELEASE: from VALID or ARMED the transaction is abandoned.  After an accepted COMMIT in mode NOW it waits for that
commit, and in ARMED for the end of the core clock, since a trigger of that clock acts first (R408, R415). -/
def State.releaseSlot (s : State) (i : Nat) : State :=
  if (s.slot i).nowPending ∨ s.slotState i = 4 then s.setSlot i { s.slot i with releaseAfter := true }
  else if s.slotState i = 3 then (s.dropPlaced i).freeSlot i
  else s.freeSlot i

/-- What an accepted write of TXCTL does. -/
def State.txctlAct (s : State) (agent i w : Nat) : State :=
  if nbit w 31 = 0 then s
  else match nfield w 30 28 with
  | 0 => s.claimSlot agent i (nfield w 15 0)
  | 1 => s.validateSlot i
  | 2 => s.commitSlot i (nfield w 27 26)
  | _ => s.releaseSlot i

/-- Why a write of a slot's other registers is refused (R416). -/
def State.slotRegCheck (s : State) (i o : Nat) : Nat :=
  let st := s.slotState i
  if o = 8 then (if st = 1 ∨ st = 6 then 0 else Rej.BUSY)
  else if o = 0xc ∨ o = 0x10 ∨ o = 0x14 then (if st = 1 ∨ st = 6 ∨ st = 3 then 0 else Rej.BUSY)
  else 0

/-- Why a write of staging is refused (R405). -/
def State.stagingCheck (s : State) (agent a : Nat) : Nat :=
  let i := (a - 0xc000000) / 0x200000
  let st := s.slotState i
  if st ≠ 0 ∧ s.get (F.TXN_TXSTAT_AGENT i) ≠ agent then Rej.LOCKED
  else if st = 1 ∨ st = 6 then 0 else Rej.BUSY

/-- The slot ends APPLIED or FAILED: TXISTAT, and units released. -/
def State.endSlot (s : State) (i st : Nat) : State :=
  let after := (s.slot i).releaseAfter
  let s1 := ((s.freeUnits i).put (F.TXN_TXSTAT_STATE i) st).orBits F.TXN_TXISTAT_DONE (2 ^ i)
  if after then s1.freeSlot i else s1

/-- A slot fails: its code and record, counted and logged once; the keys it placed are removed (R403, R409). -/
def State.failSlot (s : State) (i code ix ev : Nat) : State :=
  let s1 := (s.dropPlaced i).puts [(F.TXN_TXSTAT_CODE i, code), (F.TXN_TXFAIL_VALID i, 1), (F.TXN_TXFAIL_INDEX i, ix)]
  ((s1.countMgmt ev 1).logReport ev 0xe01 i ix code).endSlot i 6

end Sys2Proof.Machine
end

