-- ==== Sys2Proof/Machine/Checks.lean ====
section
/-! DEFINITION. What the blocks refuse: the checks that each chapter states for writes of its registers and tables,
made at a direct write and at the validation of a transaction (R409), and those that the commit check repeats (R413).
`s` is the state before the write and `t` the state as the write, or the whole transaction, would leave its words. -/

namespace Sys2Proof.Machine

/-- The first code that is not 0. -/
def firstCode : List Nat → Nat
  | [] => 0
  | c :: l => if c = 0 then firstCode l else c

/-- A code where a condition holds. -/
def codeIf (b : Bool) (c : Nat) : Nat := if b then c else 0

/-- Whether a word differs between two states. -/
def State.differs (s t : State) (a : Nat) : Bool := s.word a != t.word a

/-! ### Ports (R346, R362, R490) -/

/-- SPEED, FEC or REV of a lane differs. -/
def State.shapeChanged (s t : State) (l : Nat) : Bool :=
  s.get (F.LANE_PORTCFG_SPEED l) != t.get (F.LANE_PORTCFG_SPEED l) || s.get (F.LANE_PORTCFG_FEC l) != t.get (F.LANE_PORTCFG_FEC l)
  || s.get (F.LANE_PORTCFG_REV l) != t.get (F.LANE_PORTCFG_REV l)

/-- A port that is misplaced, or whose inner lanes are not all of SPEED 0. -/
def State.portMisfit (t : State) (p : Nat) : Bool :=
  t.isPort p && (p % t.portLanes p != 0 || (t.lanesOf p).any fun l => l != p && t.isPort l)

/-- The lanes at which a port that takes in lane `l` can start. -/
def headsNear (l : Nat) : List Nat := (List.range 8).filterMap fun i => if i ≤ l then some (l - i) else none

/-- The ports that a change at lane `l` creates, changes or removes. -/
def State.shapePorts (s t : State) (l : Nat) : List Nat :=
  ([s.portOfLane l, t.portOfLane l].filterMap id).eraseDups.filter (s.shapeChanged t)

/-- A lane of a port has EN set, or is not DISABLED. -/
def State.portActive (s t : State) (p : Nat) : Bool :=
  (s.lanesOf p ++ t.lanesOf p).any fun l => t.on (F.LANE_PORTCFG_EN l) || s.portState l != 0

/-- A port holds cells in its account or on its queues. -/
def State.portFull (s : State) (p : Nat) : Bool := s.isPort p && (s.portHeld p != 0 || !s.queuesEmpty p)

/-- The identity of R132, or with debt the rule of R134. -/
def State.identityCheck (s t : State) : Nat :=
  if s.get F.CISCFG_DEBT_CELLS = 0 then codeIf (decide (t.lossyLeft < 4096)) Rej.FULL
  else
    let u := t.recomputeLossy
    codeIf (decide (s.get F.CISCFG_DEBT_CELLS < u.get F.CISCFG_DEBT_CELLS)
      || decide (u.get F.CISCFG_LOSSY_LOSSY_CELLS < s.get F.CISCFG_LOSSY_LOSSY_CELLS)) Rej.FULL

/-- The rows of R346. -/
def State.shapeCheck (s t : State) (l : Nat) : Nat :=
  let ps := s.shapePorts t l
  let old := ps.filter s.isPort
  firstCode [
    codeIf ((headsNear l).any fun p => decide (l < p + t.portLanes p) && t.portMisfit p) Rej.RANGE,
    codeIf (ps.any (s.portActive t)) Rej.BUSY,
    codeIf (old.any fun p => (t.groupOf p).isSome) Rej.BUSY,
    s.identityCheck t,
    codeIf (old.any s.portFull) Rej.BUSY]

/-- A write of PORTCFG. -/
def State.portcfgCheck (s t : State) (l : Nat) : Nat :=
  let en := t.on (F.LANE_PORTCFG_EN l) && t.isPort l
  firstCode [
    if s.shapeChanged t l then s.shapeCheck t l else 0,
    codeIf (en && (t.lanesOf l).any t.laneTest) Rej.BUSY,
    codeIf (en && (t.lanesOf l).any (t.culletHas 7)) Rej.RANGE]

/-- A write of a lane page (R346, R362, R366, R368, R369, R559). -/
def State.laneCheck (s t : State) (l o w : Nat) : Nat :=
  if o = 0x100 then s.portcfgCheck t l
  else if o ≤ 0x150 then
    (if !t.isPort l then Rej.RANGE
     else codeIf (o == 0x10c && nbit w 30 == 1 && s.portState l != 7) Rej.BUSY)
  else if o = 0x180 then
    t.laneCfgCheck l
  else if 0x1c0 ≤ o then
    (if l % 8 ≠ 0 then Rej.RANGE else codeIf (decide (0x200 ≤ o) && s.on (F.LANE_CAGEACCST_BUSY l)) Rej.BUSY)
  else 0

/-! ### Groups (R364) -/

/-- Slots of a group that are valid: slot and port. -/
def State.groupMembers (t : State) (g : Nat) : List (Nat × Nat) :=
  ((List.range 8).filter fun i => t.on (F.GROUP_GRPMEM_VALID g i)).map fun i => (i, t.get (F.GROUP_GRPMEM_PORT g i))

/-- A group whose numbers do not fit. -/
def State.groupMisfit (t : State) (g : Nat) : Bool :=
  let n := t.get (F.GROUP_GRPCFG_SIZE g)
  let ms := t.groupMembers g
  let w := (ms.head?.map fun (m : Nat × Nat) => t.portLanes m.2).getD 1
  n < 2 || 8 < n || ms.any (fun (m : Nat × Nat) => decide (n ≤ m.1) || !t.isPort m.2 || t.portLanes m.2 != w)
  || 8 < n * w || t.gridSize ≤ t.get (F.GROUP_GRPCFG_LEAF g)

/-- A member of group `g` is named twice. -/
def State.groupTwice (t : State) (g : Nat) : Bool :=
  (t.groupMembers g).any fun (m : Nat × Nat) => t.groupSlots.any fun (x : Nat × Nat × Nat) =>
    x.2.2 == m.2 && !(x.1 == g && x.2.1 == m.1)

/-- The leaf routes of both banks that name a group. -/
def State.leafNames (t : State) (g : Nat) : Bool :=
  t.bar.any fun (x : Nat × Word) => decide (0x2010000 ≤ x.1) && decide (x.1 < 0x2012000) && x.2.toNat % 2 ^ 24 == resGroup g

/-- A group in use changes SIZE or LEAF, or ends while a leaf route names it. -/
def State.groupHeld (s t : State) (g : Nat) : Bool :=
  s.on (F.GROUP_GRPCFG_VALID g) &&
  (if t.on (F.GROUP_GRPCFG_VALID g) then
    s.get (F.GROUP_GRPCFG_SIZE g) != t.get (F.GROUP_GRPCFG_SIZE g) || s.get (F.GROUP_GRPCFG_LEAF g) != t.get (F.GROUP_GRPCFG_LEAF g)
   else t.leafNames g)

/-- A write of a group page. -/
def State.groupCheck (s t : State) (g : Nat) : Nat :=
  firstCode [codeIf (t.groupMisfit g) Rej.RANGE, codeIf (t.groupTwice g) Rej.EXISTS, codeIf (s.groupHeld t g) Rej.BUSY]

/-! ### Forwarding tables (R90, R93, R108, R113, R119, R124) -/

/-- A result that a leaf route or chip-number entry may hold. -/
def resultOk (r : Nat) : Bool :=
  match resType r with
  | 0 => resIndex r == 0
  | 1 => decide (resIndex r < 1024)
  | 2 => decide (resIndex r < 256)
  | 4 => resIndex r == 0
  | _ => false

/-- The valid descriptors of both banks, by bank × 65,536 + index. -/
def State.descsValid (t : State) : List Nat :=
  (t.bar.filter fun (x : Nat × Word) =>
    decide (0x2200000 ≤ x.1) && decide (x.1 < 0x2400000) && x.1 % 16 == 0 && decide (2 ^ 31 ≤ x.2.toNat)).map
  fun (x : Nat × Word) => (x.1 - 0x2200000) / 16

/-- Whether a valid descriptor stays inside the grid. -/
def State.descInGrid (t : State) (d : Nat) : Bool :=
  let p := t.get F.FWDID_GRID_PODS
  let q := t.get F.FWDID_GRID_PERPOD
  let col := t.on (F.MDESC_W0_AXIS d)
  let base := 64 * t.get (F.MDESC_W1_SEG d)
  decide (t.get (F.MDESC_W0_INDEX d) < (if col then q else p)) &&
  (List.range 64).all fun i =>
    nbit (t.get (F.MDESC_W2_MASK_LO d) + t.get (F.MDESC_W3_MASK_HI d) * 2 ^ 32) i == 0 || decide (base + i < (if col then p else q))

/-- A chain of at most `fuel` valid descriptors that ends. -/
def State.chainOk (t : State) (bank : Nat) : Nat → Nat → Bool
  | 0, _ => false
  | fuel + 1, d =>
    t.on (F.MDESC_W0_VALID (mdIx bank d)) &&
    (t.on (F.MDESC_W0_LAST (mdIx bank d)) || t.chainOk bank fuel (t.get (F.MDESC_W0_NEXT (mdIx bank d))))

/-- Every chain of a bank is finite and valid. -/
def State.chainsOk (t : State) (bank : Nat) : Bool :=
  (t.descsValid.filter fun d => d / 65536 == bank).all fun d => t.chainOk bank 64 (d % 65536)

/-- The grid's own limits, and every valid descriptor within them. -/
def State.gridCheck (t : State) : Nat :=
  let p := t.get F.FWDID_GRID_PODS
  let q := t.get F.FWDID_GRID_PERPOD
  codeIf (p == 0 || q == 0 || decide (1024 < p * q) || !t.descsValid.all t.descInGrid) Rej.RANGE

/-- The rule of R113 for a banked write: the FREE bank, in STABLE. -/
def State.bankWriteCheck (s : State) (a : Nat) : Nat :=
  match bankOf a with
  | none => 0
  | some b => codeIf (s.get F.FWDEPOCH_STATUS_STATE != 0 || b == s.activeBank) Rej.EPOCH

/-- Whether a COPY may start: STABLE, no waiting transaction flips or writes the free bank, nor the one that holds it. -/
def State.mayCopy (s : State) (me : Option Nat) : Bool :=
  s.get F.FWDEPOCH_STATUS_STATE == 0 && !(s.waiting me).any (fun i => s.slotFlips i || s.slotBanked i)
  && !me.any fun i => s.slotFlips i || s.slotBanked i

/-- Whether a FLIP may be held: STABLE, and no other waiting transaction holds one. -/
def State.mayFlip (s : State) (me : Option Nat) : Bool :=
  s.get F.FWDEPOCH_STATUS_STATE == 0 && !(s.waiting me).any s.slotFlips

/-- A write of FWDEPOCH.CTRL. -/
def State.epochCheck (s : State) (me : Option Nat) (w : Nat) : Nat :=
  codeIf ((nbit w 2 == 1 && s.get F.FWDEPOCH_STATUS_STATE != 1) || (nbit w 1 == 1 && !s.mayCopy me)
    || (nbit w 0 == 1 && !s.mayFlip me)) Rej.EPOCH

/-- A write of FWDLRN.FLUSH. -/
def State.flushCheck (s : State) (w : Nat) : Nat :=
  let arg := nfield w 15 0
  let bad := match nfield w 30 29 with
    | 1 => decide (1023 < arg)
    | 2 => decide (255 < arg)
    | 3 => arg != 0 && (decide (arg < 0x1000) || decide (0x1ffe < arg))
    | _ => false
  firstCode [codeIf (nbit w 31 == 1 && s.on F.FWDLRN_STATUS_FLUSH_BUSY) Rej.BUSY, codeIf bad Rej.RANGE]

/-- The pin slots written at `a` name members of their group (R119). -/
def State.pinCheck (t : State) (a m : Nat) : Nat :=
  let g := (a - 0x2480000) % 0x4000 / 64
  codeIf (t.on (F.GROUP_GRPCFG_VALID g) && (List.range 4).any fun i =>
    nbit m (8 * i) == 1 && decide (t.get (F.GROUP_GRPCFG_SIZE g) ≤ nfield (t.word a).toNat (8 * i + 2) (8 * i))) Rej.RANGE

/-- Whether a rule that ties several words falls on the one at `a`: it is among them, or the transaction writes none of
them (R409: the lowest record that the rule ties). -/
def State.fallsOn (s : State) (me : Option Nat) (tied : Nat → Bool) (a : Nat) : Bool :=
  tied a || !me.any fun i => (s.slotWords i).any fun x => tied x.addr

/-- Whether the chain from descriptor `d` of a bank comes to descriptor `e` within its first `fuel` descriptors. -/
def State.chainMeets (t : State) (bank e : Nat) : Nat → Nat → Bool
  | 0, _ => false
  | fuel + 1, d => d == e || (t.on (F.MDESC_W0_VALID (mdIx bank d)) && !t.on (F.MDESC_W0_LAST (mdIx bank d))
      && t.chainMeets bank e fuel (t.get (F.MDESC_W0_NEXT (mdIx bank d))))

/-- Whether a word is one of a descriptor on a chain that breaks R124. -/
def State.onBadChain (t : State) (bank a : Nat) : Bool :=
  decide (0x2200000 + bank * 0x100000 ≤ a) && decide (a < 0x2200000 + (bank + 1) * 0x100000)
  && (t.descsValid.filter fun d => d / 65536 == bank && !t.chainOk bank 64 (d % 65536)).any fun d =>
    t.chainMeets bank ((a - 0x2200000) / 16 % 65536) 65 (d % 65536)

/-- The chain rule of R124, as it falls on the descriptor word at `a`. -/
def State.chainCheck (s t : State) (me : Option Nat) (a : Nat) : Nat :=
  let bank := (a - 0x2200000) / 0x100000
  codeIf (!t.chainsOk bank && s.fallsOn me (t.onBadChain bank) a) Rej.CHAIN

/-- A write of a descriptor's word. -/
def State.descCheck (s t : State) (me : Option Nat) (a : Nat) : Nat :=
  let d := (a - 0x2200000) / 16
  firstCode [codeIf (t.on (F.MDESC_W0_VALID d) && !t.descInGrid d) Rej.RANGE, s.chainCheck t me a]

/-- A write of a forwarding table. -/
def State.tableCheck (s t : State) (me : Option Nat) (a m : Nat) : Nat :=
  let own :=
    if resultEntry a then codeIf (!resultOk ((t.word a).toNat % 2 ^ 24)) Rej.RANGE
    else if 0x2200000 ≤ a ∧ a < 0x2400000 then s.descCheck t me a
    else if 0x2400000 ≤ a ∧ a < 0x2480000 then codeIf (t.word a != 0#32) Rej.RANGE
    else if 0x2480000 ≤ a ∧ a < 0x2488000 then t.pinCheck a m else 0
  firstCode [s.bankWriteCheck a, own]

/-! ### Cistern and Weir (R138, R142, R144, R146, R151) -/

/-- Strict queues of a port: too many, or two of one rank. -/
def State.strictBad (t : State) (p : Nat) : Bool :=
  let ranks := ((List.range 64).filter (t.isStrict p)).map fun q => t.get (F.QUEUE_W0_RANK (64 * p + q))
  decide (4 < ranks.length) || ranks.eraseDups.length != ranks.length

/-- Whether the queue map of a port names queue `q` for another VC than `v`. -/
def State.mapsOther (t : State) (p q v : Nat) : Bool :=
  (List.range 64).any fun e => nfield (t.word (0x3100000 + 64 * p + e / 4 * 4)).toNat (8 * (e % 4) + 5) (8 * (e % 4)) == q && e / 8 != v

/-- A write of W0 of a queue entry. -/
def State.queueCheck (s t : State) (a : Nat) : Nat :=
  let n := (a - 0x3000000) / 16
  let p := n / 64
  let q := n % 64
  let v := t.get (F.QUEUE_W0_VC n)
  let moved := s.get (F.QUEUE_W0_VC n) != v
  if a % 16 ≠ 0 then 0
  else firstCode [
    codeIf (t.strictBad p) Rej.RANGE,
    codeIf ((moved || (s.on (F.QUEUE_W0_EN n) && !t.on (F.QUEUE_W0_EN n))) && !(s.queue p q).ents.isEmpty) Rej.BUSY,
    codeIf (moved && t.mapsOther p q v) Rej.RANGE]

/-- The queue map entries written at `a` name queues of their VC (R144). -/
def State.qmapCheck (t : State) (a m : Nat) : Nat :=
  let p := (a - 0x3100000) / 64
  codeIf ((List.range 4).any fun i => nbit m (8 * i) == 1 &&
    t.get (F.QUEUE_W0_VC (64 * p + nfield (t.word a).toNat (8 * i + 5) (8 * i))) != ((a - 0x3100000) % 64 + i) / 8) Rej.RANGE

/-- A write of a headroom entry. -/
def State.headCheck (s t : State) (a : Nat) : Nat :=
  let n := (a - 0x3120000) / 16
  let bad := match a % 16 with
    | 0 => decide (t.get (F.HEAD_W0_HPL n) < 64)
    | 4 => decide (t.get (F.HEAD_W1_G0 n) < 17) || t.get (F.HEAD_W1_G1 n) == 0 || decide (t.get (F.HEAD_W1_G2 n) < 17)
        || decide (t.get (F.HEAD_W1_G3 n) < 17)
    | 8 => decide (t.get (F.HEAD_W2_G4 n) < 17) || decide (t.get (F.HEAD_W2_G6 n) < 17)
    | _ => false
  firstCode [codeIf bad Rej.RANGE, s.identityCheck t]

/-- A policer's CIR is not above its PIR. -/
def State.policerCheck (t : State) (a : Nat) : Nat :=
  let n := (a - 0x3200000) / 16
  codeIf (decide (t.get (F.POLICER_W1_PIR n) < t.get (F.POLICER_W0_CIR n))) Rej.RANGE

/-- A RED profile's MIN is not above its MAX. -/
def State.redCheck (t : State) (o : Nat) : Nat :=
  codeIf (decide (t.get (F.RED_B_MAX ((o - 0x100) / 8)) < t.get (F.RED_A_MIN ((o - 0x100) / 8)))) Rej.RANGE

/-- A write of a Cistern or Weir window. -/
def State.cisternCheck (s t : State) (a m : Nat) : Nat :=
  if a < 0x3100000 then s.queueCheck t a
  else if a < 0x3110000 then t.qmapCheck a m
  else if 0x3120000 ≤ a ∧ a < 0x3124000 then s.headCheck t a
  else if 0x3200000 ≤ a ∧ a < 0x3210000 then t.policerCheck a else 0

/-! ### Collectives, Basins and memory -/

/-- A write of a command queue's registers (R188, R194). -/
def State.colqCheck (s t : State) (n o : Nat) : Nat :=
  let i := (o - 0x100) / 16
  match (o - 0x100) % 16 with
  | 0 => codeIf (s.on (F.COLQ_CTL_EN n i) && s.get (F.COLQ_CTL_PART n i) != t.get (F.COLQ_CTL_PART n i)) Rej.BUSY
  | 4 => s.tailCheck (128 * n + i) (t.get (F.COLQ_TAIL_TAIL n i))
  | _ => 0

/-- A command that a transaction stages at `a`, judged as the transaction would leave the state. -/
def State.stagedCommand (t : State) (a : Nat) : CmdOut :=
  let q := (a - 0x4200000) / 0x3000
  let key := (t.word (a + 4)).toNat
  t.colCommand q (nfield (t.word a).toNat 31 24) (key / 65536) (key % 65536) (t.word (a + 8)).toNat

/-- Whether `a` is W0 of a command entry. -/
def commandAt (a : Nat) : Bool :=
  decide (0x4200000 ≤ a) && decide (a < 0x4500000) && decide ((a - 0x4200000) % 0x3000 < 0x1000) && (a - 0x4200000) % 0x3000 % 64 == 0

/-- A write of a Basin page (R250, R268). -/
def State.basinCheck (s t : State) (b o w : Nat) : Nat :=
  if o = 0x108 then codeIf (s.differs t (0xa00108 + 0x1000 * b) && s.ledgerOn b != 0) Rej.BUSY
  else if o = 0x114 then
    firstCode [if nbit w 0 = 1 then s.atestCheck b else 0, if nbit w 1 = 1 then s.retireCheck b else 0]
  else 0

/-- A write of MEMCFG (R299). -/
def State.memcfgCheck (t : State) (o w : Nat) : Nat :=
  if nbit w 31 = 0 then 0
  else if o = 0x118 then t.mapreqCheck (nbit w 30) (nfield w 28 20) (nfield w 19 14)
  else if o = 0x11c then t.repairCheck (nfield w 26 18) (nfield w 17 12) (nfield w 11 0)
  else if o = 0x120 then t.marginCheck (nfield w 8 0)
  else 0

/-- First byte and end of a partition window. -/
def State.pwinSpan (t : State) (i : Nat) : Nat × Nat :=
  (t.get (F.PWIN_W1_BASE_PAGE i) * 4096, (t.get (F.PWIN_W1_BASE_PAGE i) + t.get (F.PWIN_W2_NPAGES i)) * 4096)

/-- Whether two spans share a byte. -/
def spansMeet (a b : Nat × Nat) : Bool := decide (a.1 < b.2) && decide (b.1 < a.2)

/-- A valid window entry against the capacity and the other entries (R258). -/
def State.pwinMisfit (t : State) (i : Nat) : Bool :=
  t.on (F.PWIN_W0_VALID i) && (decide (t.get (F.PWIN_W2_NPAGES i) < 1024) || decide (t.capacity < (t.pwinSpan i).2)
    || t.windowsValid.any fun j => j != i && spansMeet (t.pwinSpan i) (t.pwinSpan j))

/-- An entry that would newly overlap the range of a pending map-out (R292). -/
def State.pwinMapout (s t : State) (i : Nat) : Bool :=
  let range := (s.mapoutStart, s.capacity)
  s.on F.MEMCFG_MAPOUT_PENDING && t.on (F.PWIN_W0_VALID i) && spansMeet (t.pwinSpan i) range
  && !(s.on (F.PWIN_W0_VALID i) && spansMeet (s.pwinSpan i) range)

/-- Two valid entries with one PART. -/
def State.pwinTwice (t : State) (i : Nat) : Bool :=
  t.on (F.PWIN_W0_VALID i) && t.windowsValid.any fun j => j != i && t.get (F.PWIN_W0_PART j) == t.get (F.PWIN_W0_PART i)

/-- A valid entry whose PART has a communicator changes. -/
def State.pwinHeld (s t : State) (i : Nat) : Bool :=
  s.on (F.PWIN_W0_VALID i) && (List.range 4).any (fun k => s.differs t (0x6000000 + 16 * i + 4 * k))
  && s.commsValid.any fun m => s.get (F.COMM_W0_PART m) == s.get (F.PWIN_W0_PART i)

/-- A write of a partition window entry. -/
def State.pwinCheck (s t : State) (i : Nat) : Nat :=
  firstCode [codeIf (t.pwinMisfit i) Rej.RANGE, codeIf (t.pwinTwice i) Rej.EXISTS, codeIf (s.pwinHeld t i) Rej.BUSY,
    codeIf (s.pwinMapout t i) Rej.RANGE]

/-- A write of the kernel allow list or staging (R259, R262). -/
def State.kernelCheck (s t : State) (a : Nat) : Nat :=
  if a < 0x6005000 then codeIf (s.slotLoaded ((a - 0x6001000) / 64) && s.differs t a) Rej.BUSY
  else codeIf (decide (0x6010000 ≤ a) && decide (a < 0x6018000) && s.on F.KL_STATUS_BUSY) Rej.BUSY

/-- A write of an arbiter instance: ring instances take a BURST of 1 only (R302). -/
def State.arbCheck (t : State) (a : Nat) : Nat :=
  let i := (a - 0x7a00000) / 256
  codeIf (decide (512 ≤ i) && decide (i < 776) && decide (0x10 ≤ a % 256) && decide (a % 256 < 0x90) && nfield (t.word a).toNat 7 0 != 1)
    Rej.RANGE

/-! ### Glass (R314, R315, R319, R335) -/

/-- The bank that a Glass table write falls in. -/
def glassBankOf (a : Nat) : Option Nat :=
  if a = 0xc00150 then some 0
  else if a = 0xc00154 then some 1
  else if 0x9000000 ≤ a ∧ a < 0x9080000 then some ((a - 0x9000000) / 0x40000)
  else if 0x9080000 ≤ a ∧ a < 0x9100000 then some ((a - 0x9080000) / 0x40000)
  else none

/-- The patterns of a bank that a transaction writes. -/
def State.writtenPats (s : State) (me : Option Nat) (bank : Nat) : List Nat :=
  match me with
  | none => []
  | some i => ((s.slotWords i).filterMap fun x =>
      if 0x9080000 + bank * 0x40000 ≤ x.addr ∧ x.addr < 0x9080000 + (bank + 1) * 0x40000 then
        some ((x.addr - 0x9080000) % 0x40000 / 64) else none).eraseDups

/-- A write of a Glass table. -/
def State.glassTable (s t : State) (me : Option Nat) (bank a : Nat) : Nat :=
  let f := t.bankFault bank (s.writtenPats me bank)
  if bank = s.glActive ∨ s.on F.GLASS_GLSTAT_CTRL_ARMED then Rej.BUSY else codeIf (s.fallsOn me f.2 a) f.1

/-- The checks of R319 where CTRL, written as `w`, asks for a switch. -/
def State.switchAsked (s t : State) (w : Nat) : Nat :=
  if nbit w 31 = 1 then s.switchCheck (nbit w 0) (t.get F.GLASS_GLSW_TSEC_TSEC) (t.get F.GLASS_GLSW_TNS_TNS) else 0

/-- A write of the Glass page.  The rules of a switch tie TSEC and TNS to the CTRL of the same transaction. -/
def State.glassCheck (s t : State) (me : Option Nat) (o w : Nat) : Nat :=
  let asked := (me.map fun i => rawAt (s.slotWords i) 0xc00120).getD 0
  match o with
  | 0x10c => codeIf (decide (t.gets F.GLASS_GLCFG_PINLOW_P_IN_LOW ≤ t.gets F.GLASS_GLCFG_POWER_P_IN_LOS)) Rej.RANGE
  | 0x120 => s.switchAsked t w
  | 0x124 => s.switchAsked t asked
  | 0x128 => s.switchAsked t asked
  | 0x160 => s.migCheck (nbit w 31 == 1) (nbit w 30 == 1) (nfield w 2 0)
  | 0x170 => codeIf (nbit w 31 == 1 && s.glass.searching != 0) Rej.BUSY
  | _ => 0

/-! ### Management, log, store and snapshots -/

/-- Why a mailbox takes no write of its request buffer, or no GO, from an agent (R427). -/
def State.mailboxCheck (s : State) (agent m : Nat) : Nat :=
  codeIf (s.on (F.MB_MBSTAT_BUSY m) || (s.on (F.MB_MBSTAT_DONE m) && s.get (F.MB_MBSTAT_AGENT m) != agent)) Rej.BUSY

/-- A write of page 0xE01. -/
def State.txnCheck (s : State) (agent o w : Nat) : Nat :=
  if o < 0x300 then
    (if (o - 0x100) % 32 = 0 then s.txctlCheck agent ((o - 0x100) / 32) w else s.slotRegCheck ((o - 0x100) / 32) ((o - 0x100) % 32))
  else 0

/-- A write of RPTR in STOP mode may not pass WPTR (R523). -/
def State.rptrCheck (s : State) (w : Nat) : Nat :=
  let r := s.get F.LOG_RPTR_RPTR
  let unread := if s.on F.LOG_STAT_FULL then 16384 else (s.get F.LOG_WPTR_WPTR + 16384 - r) % 16384
  codeIf (s.on F.LOG_CFG_MODE && decide (unread < (nfield w 13 0 + 16384 - r) % 16384)) Rej.RANGE

/-- A write of NVM.RETIRE (R490). -/
def State.retireLaneCheck (s : State) (w : Nat) : Nat :=
  let l := nfield w 9 0
  let en := match s.portOfLane l with
    | some p => s.on (F.LANE_PORTCFG_EN p)
    | none => false
  if nbit w 31 = 0 then 0 else firstCode [codeIf en Rej.BUSY, codeIf (s.culletHas 7 l) Rej.EXISTS]

/-- A write of the SNAP page (R528). -/
def snapCheck (o w : Nat) : Nat :=
  codeIf (o == 0x110 && w % 4096 != 0) Rej.RANGE

/-- A write of a page from 0xE00 on. -/
def State.systemCheck (s t : State) (agent p o w : Nat) : Nat :=
  if p = 0xe01 then s.txnCheck agent o w
  else if p = 0xe05 then (if o < 0x180 ∧ o % 16 = 0 ∧ nbit w 31 = 1 then s.mailboxCheck agent ((o - 0x100) / 16) else 0)
  else if p = 0xe06 then (if o = 0x108 then codeIf (decide (t.get F.HLTH_SCORE_WARN ≤ t.get F.HLTH_SCORE_FENCE)) Rej.RANGE else 0)
  else if p = 0xf00 then (if o = 0x10c then s.rptrCheck w else 0)
  else if p = 0xf01 then (if o = 0x110 then s.retireLaneCheck w else 0)
  else if p = 0xf02 then (if o = 0x120 ∧ nbit w 31 = 1 then s.flashCheck (nfield w 30 29) (nfield w 12 0) else 0)
  else if p = 0xf03 then snapCheck o w
  else if p = 0xf04 then (if o = 0x100 then codeIf (decide (t.get F.THERM_CFG_T_EMERG ≤ t.get F.THERM_CFG_T_THROT)) Rej.RANGE else 0)
  else 0

/-! ### Together -/

/-- A write of an EVSEL register: the event is one that the page counts (R508, R509). -/
def State.evselCheck (t : State) (p n : Nat) : Nat :=
  let ev := nfield (t.heldWord (p * 4096 + 0xc0 + 4 * n)) 15 0
  let kind := ((pageDef p).map PageDef.kind).getD 0
  let inner := decide (0x100 ≤ p) && decide (p < 0x500) && match t.portOfLane (p - 0x100) with
    | some q => q != p - 0x100
    | none => false
  codeIf (!Ev.allowed kind p ev || (inner && ev != 0 && ev != Ev.CORE_CLK)) Rej.RANGE

/-- The block's own checks of a write to a register page; `w` is the value as written. -/
def State.pageCheck (s t : State) (me : Option Nat) (agent a w : Nat) : Nat :=
  let p := a / 4096
  let o := a % 4096
  if o = 0x10 then s.freezeCheck p (t.on (F.COMMON_CTRL_FREEZE p))
  else if 0xc0 ≤ o ∧ o < 0xe0 then t.evselCheck p ((o - 0xc0) / 4)
  else if o < 0x100 then 0
  else if p = 0 then 0
  else if p < 0x500 then s.laneCheck t (p - 0x100) o w
  else if p < 0x600 then (if o < 0x124 then s.groupCheck t (p - 0x500) else 0)
  else if p = 0x600 then (if o = 0x108 then t.gridCheck else 0)
  else if p = 0x602 then (if o = 0x100 then s.epochCheck me w else 0)
  else if p = 0x603 then (if o = 0x104 then s.flushCheck w else 0)
  else if p = 0x700 then (if o ≤ 0x104 then s.identityCheck t else 0)
  else if p = 0x701 then t.redCheck o
  else if p = 0x901 ∨ p = 0x902 then s.colqCheck t (p - 0x901) o
  else if 0xa00 ≤ p ∧ p < 0xa32 then s.basinCheck t (p - 0xa00) o w
  else if p = 0xb00 then s.memcfgCheck o w
  else if p = 0xc00 then
    (match glassBankOf a with
     | some b => s.glassTable t me b a
     | none => s.glassCheck t me o w)
  else if p = 0xd00 then t.timeCheck o (if o = 0x12c then w else t.heldWord a)
  else if 0xe00 ≤ p then s.systemCheck t agent p o w
  else 0

/-- The block's own checks of a write to a window; `m` names the bits written. -/
def State.winCheck (s t : State) (me : Option Nat) (agent a m : Nat) : Nat :=
  if a < 0x3000000 then s.tableCheck t me a m
  else if a < 0x4000000 then s.cisternCheck t a m
  else if a < 0x5000000 then (if me.isSome ∧ commandAt a then (t.stagedCommand a).code else 0)
  else if a < 0x6001000 then s.pwinCheck t ((a - 0x6000000) / 16)
  else if a < 0x7000000 then s.kernelCheck t a
  else if a < 0x8000000 then (if 0x7a00000 ≤ a then t.arbCheck a else 0)
  else if a < 0xa000000 then
    (match glassBankOf a with
     | some b => s.glassTable t me b a
     | none => 0)
  else if a < 0xb000000 then s.mailboxCheck agent ((a - 0xa000000) / 0x2000)
  else if a < 0xc000000 then codeIf (s.on F.BOOT_FLSTAT_BUSY) Rej.BUSY
  else s.stagingCheck agent a

/-- The block's own checks of a write, in the order its chapter lists them; 0 where none refuses it. -/
def State.ownCheck (s t : State) (me : Option Nat) (agent a w m : Nat) : Nat :=
  if a < pageLimit then s.pageCheck t me agent a w else s.winCheck t me agent a m

/-! ### The commit check (R413) -/

/-- The rules that tie a lane's PORTCFG to state outside the transaction. -/
def State.shapeRecheck (s t : State) (l : Nat) : Nat :=
  let old := (s.shapePorts t l).filter s.isPort
  firstCode [codeIf (old.any fun p => (t.groupOf p).isSome) Rej.BUSY, s.identityCheck t, codeIf (old.any s.portFull) Rej.BUSY]

/-- The rules that the commit check repeats for a word of a transaction. -/
def State.recheck (s t : State) (me : Option Nat) (a w : Nat) : Nat :=
  let p := a / 4096
  if a < pageLimit then
    if 0x100 ≤ p ∧ p < 0x500 then (if a % 4096 = 0x100 ∧ s.shapeChanged t (p - 0x100) then s.shapeRecheck t (p - 0x100) else 0)
    else if 0x500 ≤ p ∧ p < 0x600 then s.groupCheck t (p - 0x500)
    else if a = 0x602100 then s.epochCheck me w
    else if p = 0x700 ∧ 0x100 ≤ a % 4096 ∧ a % 4096 ≤ 0x104 then s.identityCheck t
    else if p = 0xc00 then
      (match glassBankOf a with
       | some b => s.glassTable t me b a
       | none => if 0xc00120 ≤ a ∧ a ≤ 0xc00128 then s.glassCheck t me (a % 4096) w else 0)
    else 0
  else if 0x3120000 ≤ a ∧ a < 0x3124000 then s.identityCheck t
  else if 0x6000000 ≤ a ∧ a < 0x6001000 then
    firstCode [codeIf (t.pwinMisfit ((a - 0x6000000) / 16)) Rej.RANGE, codeIf (s.pwinMapout t ((a - 0x6000000) / 16)) Rej.RANGE]
  else if 0x9000000 ≤ a ∧ a < 0x9100000 then
    (match glassBankOf a with
     | some b => s.glassTable t me b a
     | none => 0)
  else if 0x2200000 ≤ a ∧ a < 0x2400000 then
    firstCode [s.bankWriteCheck a, s.chainCheck t me a]
  else s.bankWriteCheck a

end Sys2Proof.Machine
end

