-- ==== Sys2Proof/Machine/Observation.lean ====
section
/-! DEFINITION. The central reader's snapshots (R510 to R515), the header sample ring (R516 to R518) and the event
log's writer and registers (R519 to R524, R527). -/

namespace Sys2Proof.Machine

/-! ### Occupancy (R159) -/

/-- The ports with cells charged to them, and the queues with entries: word keys and cells. -/
def State.portOccupancy (s : State) : List (Nat × Nat) :=
  (s.cis.pkts.filterMap fun (x : Nat × Option Pkt) => match x.2 with
    | some k => (match k.acct with
      | .port p v => some (8 * p + v)
      | _ => none)
    | none => none).eraseDups.map fun k => (k, s.charged (.port (k / 8) (k % 8)))

def State.queueOccupancy (s : State) : List (Nat × Nat) :=
  (s.cis.queues.map fun (x : Nat × QueueSt) => (x.1, s.queueCells (x.1 / 64) (x.1 % 64))).filter fun (x : Nat × Nat) => x.2 != 0

/-! ### Snapshots (R510 to R515, R528) -/

/-- T of an armed reader, extended to the nearest seconds of device time, in ns. -/
def State.snapT (s : State) : Nat := extendSec s.time.sec (s.get F.SNAP_T_SEC_SEC) * 1000000000 + s.get F.SNAP_T_NS_NS

/-- The words of the context window, by BAR0 address. -/
def State.contextWords (s : State) : SMap Word :=
  s.bar.filter fun (x : Nat × Word) => decide (0x5000000 ≤ x.1) && decide (x.1 < 0x6000000)

/-- What the reader holds at T_SNAP. -/
def State.snapImage (s : State) (late : Bool) : SnapImage :=
  let sect := s.get F.SNAP_CFG_SECT
  let clear := s.on F.SNAP_CFG_CLEAR
  { late := late, cleared := clear, sec := s.time.sec, ns := s.time.ns, frac := s.time.frac, sect := sect,
    trig := s.get F.SNAP_CFG_TRIG, addr := s.get F.SNAP_ADDR_HI_ADDR * 2 ^ 32 + s.get F.SNAP_ADDR_LO_ADDR,
    sel := if nbit sect 0 = 1 then s.obs.sel else [], cnt := if nbit sect 0 = 1 then s.obs.cnt else [],
    wrap := if nbit sect 0 = 1 then s.obs.wrap else [], portOcc := if nbit sect 1 = 1 then s.portOccupancy else [],
    queueOcc := if nbit sect 1 = 1 then s.queueOccupancy else [], contexts := if nbit sect 2 = 1 then s.contextWords else [] }

/-- A snapshot is triggered: BUSY from now on, and T_SNAP is this core clock, whose end the snapshot shows (R511). -/
def State.snapTake (s : State) (late : Bool) : State :=
  ({ s with obs := { s.obs with snapEnd := some late } }).put F.SNAP_STAT_BUSY 1

/-- A counter with what it held before the EVSEL write of this core clock. -/
def ObsSt.before (o : ObsSt) (k : Nat) (x : Option FreshSel) : ObsSt :=
  match x with
  | none => o
  | some y =>
    let w := SMap.get (fun _ => 0) o.wrap (k / 8)
    { o with
      sel := SMap.set (fun _ => 0) o.sel k y.sel
      cnt := SMap.set (fun _ => 0) o.cnt k y.cnt
      wrap := if y.wrapped then SMap.set (fun _ => 0) o.wrap (k / 8) (w ||| 2 ^ (k % 8)) else o.wrap }

/-- The counters as the end of T_SNAP shows them: an EVSEL write of that clock acts afterwards (R511). -/
def State.counted (s : State) : State :=
  { s with obs := s.obs.fresh.foldl (fun o (x : Nat × Option FreshSel) => o.before x.1 x.2) s.obs }

/-- The end of a core clock takes the snapshot triggered in it; with CLEAR it clears every counter and WRAP bit. -/
def State.snapClose (s : State) : State :=
  match s.obs.snapEnd with
  | none => s
  | some late =>
    let img := s.counted.snapImage late
    let o := { s.obs with snap := some img, snapEnd := none }
    { s with obs := if img.cleared then { o with cnt := [], wrap := [] } else o }

/-- Counters selected in a core clock count from the next (R505). -/
def State.selClose (s : State) : State := { s with obs := { s.obs with fresh := [] } }

/-- With the core clock ends what it held of the bits set in it (R221, R507) and of an arbiter at its start (R298). -/
def State.setClose (s : State) : State :=
  { s with setNow := [], obs := { s.obs with wrapNow := [] }, mem := { s.mem with cfgOld := [] } }

/-- A trigger: MISSED while the reader is busy. -/
def State.snapTrigger (s : State) (late : Bool) : State :=
  if s.on F.SNAP_STAT_BUSY then (s.istat F.SNAP_ISTAT_ISTAT 1).countLog Ev.SNAP_MISSED 1 else s.snapTake late

/-- The first trigger time of TRIG 1 or 2 that is not past. -/
def State.snapFirst (s : State) : Nat :=
  let t := s.snapT
  let d := s.get F.SNAP_PERIOD_PERIOD_US * 1000
  if s.get F.SNAP_CFG_TRIG = 2 ∧ t < s.devNs then t + ceilDiv (s.devNs - t) d * d else t

/-- SNAP.CTRL.GO. -/
def State.snapGo (s : State) : State :=
  if s.get F.SNAP_CFG_TRIG = 0 then s.snapTrigger false
  else ({ s with obs := { s.obs with snapNext := s.snapFirst, snapLate := false } }).put F.SNAP_STAT_ARMED 1

/-- SNAP.CTRL.STOP. -/
def State.snapStop (s : State) : State := s.put F.SNAP_STAT_ARMED 0

/-- SNAP_TRIGGER: device time has reached the armed reader's trigger; LATE, and from the core clock after,
where a step carried device time past it (R510).  The next one is the next on the grid. -/
def State.snapDue (s : State) : State :=
  let t := s.obs.snapNext
  let d := s.get F.SNAP_PERIOD_PERIOD_US * 1000
  if !s.on F.SNAP_STAT_ARMED || s.devNs < t || (s.obs.snapLate && s.steppedNow) then s
  else
    let s1 := s.snapTrigger s.obs.snapLate
    if s.get F.SNAP_CFG_TRIG = 1 then s1.put F.SNAP_STAT_ARMED 0
    else { s1 with obs := { s1.obs with snapNext := t + ((s.devNs - t) / d + 1) * d, snapLate := false } }

/-- SNAP_COPY_DONE: the header is written; or the copy fails, as it does while the link is down or bus mastering disabled. -/
def State.snapCopyDone (s : State) (ok : Bool) : State :=
  match s.obs.snap with
  | none => s
  | some img =>
    let s1 := (({ s with obs := { s.obs with snap := none } }).put F.SNAP_STAT_BUSY 0)
    if ok ∧ s.get F.MGMT_PCIESTAT_WIDTH ≠ 0 ∧ s.mgmt.pcie.busMaster then
      let n := s.obs.snapCount + 1
      let s2 : State := { s1 with obs := { s1.obs with snapCount := n } }
      ((((s2.put F.SNAP_SEQ_SEQ (n % 2 ^ 32)).emit (.snapshot img n)).istat F.SNAP_ISTAT_ISTAT 0).countLog Ev.SNAP_TAKEN 1)
    else ((s1.put F.SNAP_STAT_CODE Rej.IO).istat F.SNAP_ISTAT_ISTAT 2).logReport Ev.SNAP_FAIL 0xf03 0 0 0

/-! ### The buffer in host memory (R512 to R514) -/

/-- The header, where SNAP.SEQ is `seq` after the snapshot (R513). -/
def SnapImage.header (g : SnapImage) (seq : Nat) : List Byte :=
  leBytes 4 0x4b53534e ++ leBytes 2 1 ++ leBytes 1 g.sect ++ leBytes 1 g.trig ++ leBytes 8 seq ++ leBytes 8 g.sec
    ++ leBytes 4 g.ns ++ leBytes 2 g.frac ++ leBytes 2 (g.cleared.toNat + 2 * g.late.toNat) ++ leBytes 32 0

/-- Slot `n` of the counter record of page `p` (R514). -/
def SnapImage.slot (g : SnapImage) (p n : Nat) : Nat :=
  let e := SMap.get (fun _ => 0) g.sel (8 * p + n)
  if (pageDef p).isSome then nbit e 31 * 2 ^ 63 + nfield e 14 0 * 2 ^ 48 + SMap.get (fun _ => 0) g.cnt (8 * p + n) % 2 ^ 48 else 0

/-- The occupancy of a list at a word number. -/
def occAt (l : List (Nat × Nat)) (k : Nat) : Nat := ((l.find? fun (x : Nat × Nat) => x.1 == k).map Prod.snd).getD 0

/-- The word that a snapshot writes at offset `o` of the buffer, none where it writes nothing (R512).  What Emit.snapshot
stands for is these words, written from ADDR on in ascending offset, the header last (R515). -/
def SnapImage.word (g : SnapImage) (seq o : Nat) : Option Nat :=
  if o < 0x40 then some (leNat (slice (g.header seq) o 4))
  else if 0x1000 ≤ o ∧ o < 0x41000 ∧ nbit g.sect 0 = 1 then
    let v := g.slot ((o - 0x1000) / 64) (o % 64 / 8)
    some (if o % 8 = 0 then v % 2 ^ 32 else v / 2 ^ 32)
  else if 0x41000 ≤ o ∧ o < 0x42000 ∧ nbit g.sect 0 = 1 then
    some (leNat ((List.range 4).map fun i => BitVec.ofNat 8 (SMap.get (fun _ => 0) g.wrap (o - 0x41000 + i))))
  else if 0x42000 ≤ o ∧ o < 0x4a000 ∧ nbit g.sect 1 = 1 then some (occAt g.portOcc ((o - 0x42000) / 4))
  else if 0x4a000 ≤ o ∧ o < 0x8a000 ∧ nbit g.sect 1 = 1 then some (occAt g.queueOcc ((o - 0x4a000) / 4))
  else if 0x100000 ≤ o ∧ o < 0x1100000 ∧ nbit g.sect 2 = 1 then
    some (SMap.get (fun _ => 0#32) g.contexts (o - 0x100000 + 0x5000000)).toNat
  else none

/-! ### The sample ring (R517) -/

/-- SAMPLE_RING_WRITE: the ring writer, which takes one record per 8 core clocks, takes the oldest sample of a pipeline. -/
def State.sampleWrite (s : State) (pipe : Nat) : State :=
  if s.obs.sampleAt ≠ 0 ∧ s.now + 1 < s.obs.sampleAt + 8 then s else
  match s.obs.sampleQ.find? fun (x : Nat × SampleRec) => x.1 == pipe with
  | none => s
  | some (_, r) =>
    let w := s.get F.SNAP_SAMP_WPTR_WPTR
    let n := s.obs.sampleSeq + 1
    let q := s.obs.sampleQ.eraseP fun (x : Nat × SampleRec) => x.1 == pipe
    let s1 : State := { s with obs := { s.obs with
      sampleQ := q, sampleSeq := n, sampleAt := s.now + 1, samples := SMap.set (fun _ => {}) s.obs.samples w { r with seq := n % 2 ^ 32 } } }
    (s1.put F.SNAP_SAMP_WPTR_WPTR ((w + 1) % 4096)).countPort r.port Ev.SAMPLE_TAKEN 1

/-! ### The event log (R519 to R524) -/

/-- An entry of a request, stamped now. -/
def State.logEntryOf (s : State) (r : LogReq) : LogEntry :=
  { seq := s.get F.LOG_SEQ_SEQ, sec := s.time.sec % 2 ^ 32, ns := s.time.ns, frac := s.time.frac, code := r.code, page := r.page,
    flags := if s.obs.lostBefore then 1 else 0, inst := r.inst, d1 := r.d1, d2 := r.d2 }

/-- Entries unread (R523). -/
def State.logUnread (s : State) : Nat :=
  if s.on F.LOG_STAT_FULL then 16384 else (s.get F.LOG_WPTR_WPTR + 16384 - s.get F.LOG_RPTR_RPTR) % 16384

/-- HELD as the register shows it. -/
def State.setLogHeld (s : State) (n : Nat) : State := ({ s with obs := { s.obs with logHeld := n } }).put F.LOG_STAT_HELD n

/-- An entry goes into the log. -/
def State.logPut (s : State) (r : LogReq) : State :=
  let w := s.get F.LOG_WPTR_WPTR
  let e := s.logEntryOf r
  let s1 : State := { s with obs := { s.obs with log := SMap.set (fun _ => {}) s.obs.log w e, lostBefore := false } }
  let s2 := (s1.puts [(F.LOG_WPTR_WPTR, (w + 1) % 16384), (F.LOG_SEQ_SEQ, e.seq + 1)]).setLogHeld (min 16384 (s.obs.logHeld + 1))
  let s3 := if s.on F.LOG_CFG_MODE ∧ s.logUnread = 16383 then s2.put F.LOG_STAT_FULL 1 else s2
  s3.countLog Ev.LOG_WRITE 1

/-- LOG.CTRL.CLEAR. -/
def State.logClear (s : State) : State :=
  ({ s with obs := { s.obs with clearAt := s.now + 1 } }).puts [(F.LOG_RPTR_RPTR, s.get F.LOG_WPTR_WPTR), (F.LOG_STAT_FULL, 0)]

/-- The entry that the writer takes: of the oldest core clock with one, the one of the lowest page (R519). -/
def State.logNext (s : State) : Option LogReq :=
  match s.obs.logQ with
  | [] => none
  | r :: rest => some (rest.foldl (fun m x => if x.at_ = r.at_ ∧ x.page < m.page then x else m) r)

/-- Whether the log was full in STOP mode at the start of this core clock (R524). -/
def State.logFull (s : State) : Bool :=
  s.on F.LOG_CFG_MODE && (s.on F.LOG_STAT_FULL || s.obs.roomAt == s.now + 1)

/-- LOG_WRITE: the writer, which takes one entry per core clock, takes one of its queue; in STOP mode with the log full it
is discarded.  A CLEAR of the same clock follows the entry (R524). -/
def State.logWrite (s : State) : State :=
  match s.logNext with
  | none => s
  | some r =>
    if s.obs.logAt = s.now + 1 then s
    else
      let s1 : State := { s with obs := { s.obs with logQ := s.obs.logQ.erase r, logAt := s.now + 1 } }
      if s.logFull then s1.logLost
      else if s.obs.clearAt = s.now + 1 then (s1.logPut r).logClear else s1.logPut r

/-- A change of LOG.CFG.MODE from `was`: to STOP, RPTR is the oldest entry held. -/
def State.logMode (s : State) (was : Bool) : State :=
  if s.on F.LOG_CFG_MODE ∧ !was then
    s.puts [(F.LOG_RPTR_RPTR, (s.get F.LOG_WPTR_WPTR + 16384 - s.obs.logHeld % 16384) % 16384),
      (F.LOG_STAT_FULL, if s.obs.logHeld = 16384 then 1 else 0)]
  else if !s.on F.LOG_CFG_MODE ∧ was then s.put F.LOG_STAT_FULL 0
  else s

/-- An accepted write of LOG.RPTR from `old`: an advance in STOP mode makes room. -/
def State.logRptr (s : State) (old : Nat) : State :=
  if s.on F.LOG_CFG_MODE ∧ s.get F.LOG_RPTR_RPTR ≠ old then
    let s1 : State := { s with obs := { s.obs with roomAt := if s.on F.LOG_STAT_FULL then s.now + 1 else s.obs.roomAt } }
    s1.put F.LOG_STAT_FULL 0
  else s

/-! ### The commands -/

def execSnapTrigger (s : State) : Out := finish s s.snapDue
def execSnapCopyDone (ok : Bool) (s : State) : Out := finish s (s.snapCopyDone ok)
def execSampleRingWrite (pipe : Fin 32) (s : State) : Out := finish s (s.sampleWrite pipe)
def execLogWrite (s : State) : Out := finishSpc s s.logWrite

end Sys2Proof.Machine
end

