-- ==== Sys2Proof/Machine/Effects.lean ====
section
/-! DEFINITION. What an accepted write starts: the action of every register that acts, for a direct write and for each
word of a committed transaction alike (R403, R414). In each definition `s` is the state before the write and `t` the
state with the words merged; `w` is the value as written. -/

namespace Sys2Proof.Machine

/-! ### Ports that a commit creates or removes (R559) -/

/-- Offsets of the port registers. -/
def portRegOffsets : List Nat := (List.range 20).map fun i => 0x104 + 4 * i

/-- The port registers of a lane at their reset values, and nothing kept of its link nor of
its leaf (R434); the 1 ms intervals go on. -/
def State.portReset (s : State) (p : Nat) : State :=
  let s1 := portRegOffsets.foldl (fun t o => t.setWord (0x100000 + 0x1000 * p + o) (resetWord (0x100000 + 0x1000 * p + o))) s
  ({ s1 with ports := SMap.set (fun _ => {}) s1.ports p { ucwAt := s1.msIntervals } } : State).associate p none

/-- The lanes that start or stop heading a port between two states, among those named. -/
def headsChanged (s t : State) (ls : List Nat) : List Nat := ls.filter fun l => s.isPort l != t.isPort l

/-! ### Groups (R117, R120, R121, R364) -/

/-- Members stop being live at once: each one's queues go to its substitute among those that stay live. -/
def State.membersDown (s : State) (g : Nat) (ds : List Nat) : State :=
  ds.foldl (fun t i => t.leaveQueues g i) (ds.foldl (fun t i => t.clearBits (F.GROUP_GRPSTAT_LIVE g) (2 ^ i)) s)

/-- A slot of a group names another member, or the group's VALID differs. -/
def memberChanged (s t : State) (g i : Nat) : Bool :=
  s.differs t (0x500104 + 0x1000 * g + 4 * i) || s.on (F.GROUP_GRPCFG_VALID g) != t.on (F.GROUP_GRPCFG_VALID g)

/-- Before a commit's words stand: the live members that it takes out. -/
def State.groupLeave (s : State) (t : State) (g : Nat) : State :=
  s.membersDown g ((List.range 8).filter fun i =>
    s.memberLive g i && (!t.memberOk g i || s.memberPort g i != t.memberPort g i))

/-- A member that the commit put in place: its MISWIRE bit, then its liveness. -/
def State.memberJoin (t : State) (g i : Nat) : State :=
  let p := t.memberPort g i
  let t1 := t.clearBits (F.GROUP_GRPSTAT_MISWIRE g) (2 ^ i)
  if t.on (F.GROUP_GRPCFG_VALID g) ∧ t.on (F.GROUP_GRPMEM_VALID g i) ∧ t.portState p = 5 ∧ t.on (F.LANE_PORTPEER_VALID p) then
    t1.checkMiswire p
  else t1

/-- After a commit's words stand: the record of spraying starts again where the group came into use, and members join. -/
def State.groupJoin (t : State) (s : State) (g : Nat) : State :=
  let spray := t.fwd.lastSpray.filter fun (x : Nat × Nat) => x.1 / 64 != g
  let t1 : State :=
    if t.on (F.GROUP_GRPCFG_VALID g) ∧ ¬ s.on (F.GROUP_GRPCFG_VALID g) then
      { t with fwd := { t.fwd with lastSpray := spray, lastDown := t.fwd.lastDown.filter fun x => x.1 != g } } else t
  let t2 : State := ((List.range 8).filter (memberChanged s t g)).foldl (fun u i => u.memberJoin g i) t1
  (List.range 8).foldl (fun u i => u.refreshMember g i) t2

/-! ### Pages -/

/-- PORTCFG: EN changes on a port. -/
def State.enWritten (s t : State) (l : Nat) : State :=
  let en := t.on (F.LANE_PORTCFG_EN l)
  if !t.isPort l || s.on (F.LANE_PORTCFG_EN l) == en then t
  else if en then t.portEnable l else t.portDisable l

/-- A lane page. -/
def State.laneAct (s t : State) (agent l o w : Nat) : State :=
  match o with
  | 0x100 => s.enWritten t l
  | 0x10c =>
    let t1 := if nbit w 31 = 1 then t.leaveUp l 9 else t
    if nbit w 30 = 1 then t1.clearFail l else t1
  | 0x180 => t.laneCfg l (t.word (0x100180 + 0x1000 * l)).toNat
  | 0x1c4 =>
    (t.put (F.LANE_CAGECFG_EN l) (s.get (F.LANE_CAGECFG_EN l))).cageEn (l / 8) (t.on (F.LANE_CAGECFG_EN l))
  | 0x1c8 => if nbit w 31 = 1 then t.cageAcc agent (l / 8) w else t
  | _ => t

/-- FWDEPOCH.CTRL. -/
def State.epochAct (t : State) (w : Nat) : State :=
  let t1 := if nbit w 2 = 1 then t.epochFreeNow else t
  let t2 := if nbit w 1 = 1 then t1.epochCopy else t1
  if nbit w 0 = 1 then t2.epochFlip else t2

/-- A Basin page. -/
def State.basinAct (t : State) (b o w : Nat) : State :=
  match o with
  | 0x100 => t.reclock b
  | 0x114 =>
    let t1 := if nbit w 0 = 1 then t.arrayTest b else t
    if nbit w 1 = 1 then t1.retireArray b else t1
  | _ => t

/-- MEMCFG. -/
def State.memcfgAct (t : State) (o w : Nat) : State :=
  if nbit w 31 = 0 then t
  else match o with
  | 0x118 => t.mapreq (nbit w 30) (nfield w 28 20) (nfield w 19 14)
  | 0x11c => t.triggerRemap (nfield w 26 18) (nfield w 17 12) (nfield w 11 0)
  | 0x120 => t.marginStart (nfield w 8 0) (nbit w 30 + 1)
  | _ => t

/-- The Glass page. -/
def State.glassAct (t : State) (o w : Nat) : State :=
  match o with
  | 0x120 => if nbit w 31 = 1 then t.armSwitch (nbit w 0) else t
  | 0x160 => t.migWrite (nbit w 31 == 1) (nbit w 30 == 1) (nfield w 2 0)
  | 0x170 => if nbit w 31 = 1 then t.beginSearch (if nbit w 6 = 1 then 2 ^ 64 - 1 else 2 ^ nfield w 5 0) false else t
  | _ => t

/-- MGMT.IREARM: a vector still pending is signalled again (R417). -/
def State.rearm (t : State) (v : Nat) : State := if nbit t.vectors v = 1 then t.signal t.vectors v else t

/-- MBCTL.GO: the request goes to the SPC (R427). -/
def State.mailboxGo (t : State) (agent m : Nat) : State :=
  let n := SMap.get (fun _ => 0) t.mgmt.mbWritten m
  let t1 : State := { t with mgmt := { t.mgmt with
    mbLen := SMap.set (fun _ => 0) t.mgmt.mbLen m n, mbWritten := SMap.set (fun _ => 0) t.mgmt.mbWritten m 0 } }
  t1.puts [(F.MB_MBSTAT_BUSY m, 1), (F.MB_MBSTAT_DONE m, 0), (F.MB_MBSTAT_AGENT m, agent)]

/-- A write of the event log's page. -/
def State.logAct (s t : State) (o w : Nat) : State :=
  match o with
  | 0x100 => t.logMode (s.on F.LOG_CFG_MODE)
  | 0x104 => if nbit w 31 = 1 then t.logClear else t
  | 0x10c => t.logRptr (s.get F.LOG_RPTR_RPTR)
  | _ => t

/-- SNAP.CTRL: GO, then STOP. -/
def State.snapAct (t : State) (w : Nat) : State :=
  let t1 := if nbit w 31 = 1 then t.snapGo else t
  if nbit w 30 = 1 then t1.snapStop else t1

/-- A page from 0xE00 on. -/
def State.systemAct (s t : State) (agent p o w : Nat) : State :=
  match p with
  | 0xe00 => if o = 0x118 then t.rearm (nfield w 5 0) else t
  | 0xe01 => if o < 0x300 ∧ (o - 0x100) % 32 = 0 then t.txctlAct agent ((o - 0x100) / 32) w else t
  | 0xe05 => if o < 0x180 ∧ o % 16 = 0 ∧ nbit w 31 = 1 then t.mailboxGo agent ((o - 0x100) / 16) else t
  | 0xe06 => if o = 0x104 then t.judgeBudget else t
  | 0xe08 => if 0x400 ≤ o ∧ o < 0x800 ∧ o % 16 = 12 then t.unmask ((o - 0x400) / 16) else t
  | 0xf00 => s.logAct t o w
  | 0xf01 => if o = 0x110 ∧ nbit w 31 = 1 then t.culletAppend 7 7 (nfield w 9 0) else t
  | 0xf02 => if o = 0x120 ∧ nbit w 31 = 1 then t.flashStart (nfield w 30 29) (nfield w 12 0) else t
  | 0xf03 => if o = 0x118 then t.snapAct w else t
  | _ => t

/-- EVSEL, where `s` is the state before the write: the counter and its WRAP bit are cleared, and it counts from the next
core clock (R505). -/
def State.evselAct (s t : State) (p n : Nat) : State :=
  let k := 8 * p + n
  let wr := SMap.get (fun _ => 0) t.obs.wrap p
  let was : FreshSel := ⟨SMap.get (fun _ => 0) s.obs.sel k, SMap.get (fun _ => 0) s.obs.cnt k, nbit wr n == 1⟩
  { t with obs := { t.obs with
    cnt := SMap.set (fun _ => 0) t.obs.cnt k 0, wrap := SMap.set (fun _ => 0) t.obs.wrap p (wr - (wr &&& 2 ^ n))
    fresh := if t.obs.counts k then SMap.set (fun _ => none) t.obs.fresh k (some was) else t.obs.fresh } }

/-- GLOBAL.RESET (R498, R501). -/
def State.resetWrite (t : State) (w : Nat) : State :=
  match nfield w 1 0 with
  | 0 => t.spcReset
  | 1 => t.dataReset
  | _ => t.warmReset

/-- What a write to a register page starts, but for GLOBAL.RESET. -/
def State.pageAct (s t : State) (agent a w : Nat) : State :=
  let p := a / 4096
  let o := a % 4096
  if o = 0x10 then (t.setWord a (s.word a)).freezeWrite p (t.on (F.COMMON_CTRL_FREEZE p))
  else if 0xc0 ≤ o ∧ o < 0xe0 then s.evselAct t p ((o - 0xc0) / 4)
  else if o < 0x100 ∨ p = 0 then t
  else if p < 0x500 then s.laneAct t agent (p - 0x100) o w
  else if p = 0x602 then (if o = 0x100 then t.epochAct w else t)
  else if p = 0x603 then (if o = 0x104 ∧ nbit w 31 = 1 then t.flush (nfield w 30 29) (nfield w 15 0) else t)
  else if 0xa00 ≤ p ∧ p < 0xa32 then t.basinAct (p - 0xa00) o w
  else if p = 0xb00 then t.memcfgAct o w
  else if p = 0xc00 then
    (match glassBankOf a with
     | some b => t.glassTouched b
     | none => t.glassAct o w)
  else if p = 0xd00 then t.timeAct o (if o = 0x100 then t.heldWord a else w) (s.heldWord a)
  else if 0xe00 ≤ p then s.systemAct t agent p o w
  else t

/-- What a write to a window starts, but for staged commands; `s` is the state before it. -/
def State.winAct (s t : State) (agent a w : Nat) : State :=
  if a = 0x6018000 ∧ nbit w 31 = 1 then
    (if nfield w 30 29 = 0 then t.klLoad agent (nfield w 7 0) else t.klUnload agent (nfield w 7 0))
  else if 0x7a00000 ≤ a ∧ a < 0x8000000 ∧ a % 256 = 0 then
    t.arbFreeze ((a - 0x7a00000) / 256) (t.on (F.ARB_CTRL_FREEZE ((a - 0x7a00000) / 256)))
  else if (0x7a00000 ≤ a ∧ a < 0x8000000) ∨ (0x4500000 ≤ a ∧ a < 0x4504000) then t.keepCfg a (s.word a).toNat
  else if 0x9000000 ≤ a ∧ a < 0xa000000 then
    (match glassBankOf a with
     | some b => t.glassTouched b
     | none => t)
  else if 0xa000000 ≤ a ∧ a < 0xa010000 then
    let m := (a - 0xa000000) / 0x2000
    let n := max (SMap.get (fun _ => 0) t.mgmt.mbWritten m) (a % 0x2000 + 4)
    { t with mgmt := { t.mgmt with mbWritten := SMap.set (fun _ => 0) t.mgmt.mbWritten m n } }
  else t

/-- What an accepted write starts. -/
def State.act (s t : State) (agent a w : Nat) : State :=
  if a < pageLimit then s.pageAct t agent a w else s.winAct t agent a w

end Sys2Proof.Machine
end

