-- ==== Sys2Proof/Machine/Bus.lean ====
section
/-! DEFINITION. A write of one word by an agent, whole: accepted and acted on, or rejected with its traces (R395, R397,
R403). Every command by which an agent writes a register composes its word and comes here. -/

namespace Sys2Proof.Machine

/-- What the PCIe endpoint presents of its one physical function. -/
structure Endpoint where
  vendor : Nat
  device : Nat
  classCode : Nat
  bar0Bytes : Nat
  msixVectors : Nat
  payloads : List Nat
  maxReadRequest : Nat
  deriving DecidableEq, Repr

/-- The endpoint's identity, which its grade decides (R396), beside what its configuration space holds that can change
(PcieCfg). -/
def endpoint : Endpoint :=
  { vendor := 0x1f6e, device := if Config.gradeM then 0x5121 else 0x5120, classCode := 0x028000
    bar0Bytes := 0x10000000, msixVectors := 64, payloads := [128, 256, 512], maxReadRequest := 4096 }

/-- The code of a direct write that is not one to the aperture; 0 where it is accepted. -/
def State.busCode (s : State) (agent a v be : Nat) : Nat :=
  let w := a / 4 * 4
  let m := byteMask be
  match placeAt w with
  | .unmapped => Rej.UNMAPPED
  | p =>
    if a % 4 ≠ 0 ∨ (be ≠ 15 ∧ ¬ byteEntries w) then Rej.WIDTH
    else if p = .view then Rej.TXN_ONLY
    else firstCode [s.rankedCode none agent a v be, s.ownCheck (s.mergeAt a v be) none agent a (v &&& m) m]

/-- The bytes of a word that are enabled, as runs: offset and bytes. -/
def byteRuns (v be : Nat) : List (Nat × List Byte) :=
  (List.range 4).foldr (fun i (l : List (Nat × List Byte)) =>
    if nbit be i = 0 then l
    else
      let x := BitVec.ofNat 8 (nfield v (8 * i + 7) (8 * i))
      match l with
      | (j, bs) :: rest => if j = i + 1 then (i, x :: bs) :: rest else (i, [x]) :: l
      | [] => [(i, [x])]) []

/-- A word written through the aperture (R300). -/
def State.busAperture (s : State) (agent a v be : Nat) : Nat × State :=
  let o := a - 0x8000000
  let runs := byteRuns v be
  if !s.answers a then (Rej.BUSY, s.reject agent a v Rej.BUSY)
  else
    (codeIf (runs.any fun (r : Nat × List Byte) => s.apRefused (o + r.1) r.2.length) Rej.RANGE,
     runs.foldl (fun t (r : Nat × List Byte) => t.apWrite agent (o + r.1) r.2) s)

/-- A rejected write's traces; one that meets another transaction's unit counts TXN_LOCKED (R411). -/
def State.busReject (s : State) (agent a v be code : Nat) : State :=
  let s1 := s.reject agent a v code
  if code = Rej.LOCKED ∧ (unitsOf a be).any (s.lockedFor none) then s1.countMgmt Ev.TXN_LOCKED 1 else s1

/-- An accepted write: its word stands, and what it starts starts. -/
def State.busAccept (s : State) (agent a v be : Nat) : State :=
  let w := v &&& byteMask be
  let t := s.act (s.mergeAt a v be) agent a w
  if a = 0x160 then t.resetWrite w else t

/-- A write of a word by an agent under byte enables: the code, and the state. -/
def State.busWrite (s : State) (agent a v be : Nat) : Nat × State :=
  if placeAt (a / 4 * 4) = .aperture then s.busAperture agent a v be
  else
    let code := s.busCode agent a v be
    if code = 0 then (0, s.busAccept agent a v be) else (code, s.busReject agent a v be code)

/-- A whole word written. -/
def State.hostWrite (s : State) (agent a v : Nat) : State := (s.busWrite agent a v 15).2

/-! ### Commands that write one register (R403) -/

/-- The lane page's register at an offset. -/
def laneReg (l o : Nat) : Nat := 0x100000 + 0x1000 * l + o

/-- The word of a register with one field given. -/
def State.wordWith (s : State) (f : FRef) (v : Nat) : Nat := (f.inWord (s.word f.addr) v).toNat

def execRegisterWrite (agent : Agent) (addr : BitVec 28) (value : BitVec 32) (be : BitVec 4) (s : State) : Out :=
  finishSpc s (s.busWrite agent.val addr.toNat value.toNat be.toNat).2
def execPortEnable (agent : Agent) (p : PortIx) (s : State) : Out :=
  finishSpc s (s.hostWrite agent.val (laneReg p 0x100) (s.wordWith (F.LANE_PORTCFG_EN p) 1))
def execPortDisable (agent : Agent) (p : PortIx) (s : State) : Out :=
  finishSpc s (s.hostWrite agent.val (laneReg p 0x100) (s.wordWith (F.LANE_PORTCFG_EN p) 0))
def execPortRetrain (agent : Agent) (p : PortIx) (s : State) : Out := finishSpc s (s.hostWrite agent.val (laneReg p 0x10c) (2 ^ 31))
def execPortClearFail (agent : Agent) (p : PortIx) (s : State) : Out := finishSpc s (s.hostWrite agent.val (laneReg p 0x10c) (2 ^ 30))
def execLanecfgWrite (agent : Agent) (l : PortIx) (value : BitVec 32) (s : State) : Out :=
  finishSpc s (s.hostWrite agent.val (laneReg l 0x180) value.toNat)
def execCageEnWrite (agent : Agent) (c : CageIx) (value : BitVec 32) (s : State) : Out :=
  finishSpc s (s.hostWrite agent.val (laneReg (8 * c) 0x1c4) value.toNat)
def execCageaccGo (agent : Agent) (c : CageIx) (value : BitVec 32) (s : State) : Out :=
  finishSpc s (s.hostWrite agent.val (laneReg (8 * c) 0x1c8) (value.toNat ||| 2 ^ 31))
def execFlush (agent : Agent) (scope : Fin 4) (arg : BitVec 16) (s : State) : Out :=
  finishSpc s (s.hostWrite agent.val 0x603104 (2 ^ 31 + scope.val * 2 ^ 29 + arg.toNat))
def execEpochCopy (agent : Agent) (s : State) : Out := finishSpc s (s.hostWrite agent.val 0x602100 2)
def execEpochFreeNow (agent : Agent) (s : State) : Out := finishSpc s (s.hostWrite agent.val 0x602100 4)
def execSkipCounterClear (agent : Agent) (desc : BitVec 16) (nolink : Bool) (value : BitVec 32) (s : State) : Out :=
  finishSpc s (s.hostWrite agent.val (0x2400000 + 8 * desc.toNat + (if nolink then 4 else 0)) value.toNat)
def execColqTailWrite (agent : Agent) (q : Fin 256) (tail : BitVec 32) (s : State) : Out :=
  finishSpc s (s.hostWrite agent.val (0x901104 + 0x1000 * (q.val / 128) + 16 * (q.val % 128)) tail.toNat)
def execArrayRetire (agent : Agent) (b : BasinIx) (s : State) : Out :=
  finishSpc s (s.hostWrite agent.val (0xa00114 + 0x1000 * b.val) 2)
/-- ARRAY_SELFTEST: ATEST.GO, or with `startup` the test that start-up makes of an UNTESTED array. -/
def execArraySelftest (agent : Agent) (b : BasinIx) (startup : Bool) (s : State) : Out :=
  finishSpc s (if startup then s.startupTest b else s.hostWrite agent.val (0xa00114 + 0x1000 * b.val) 1)
def execBsnClkTarget (agent : Agent) (b : BasinIx) (value : BitVec 32) (s : State) : Out :=
  finishSpc s (s.hostWrite agent.val (0xa00100 + 0x1000 * b.val) value.toNat)
def execKlLoad (agent : Agent) (slot : Fin 256) (s : State) : Out := finishSpc s (s.hostWrite agent.val 0x6018000 (2 ^ 31 + slot.val))
def execKlUnload (agent : Agent) (slot : Fin 256) (s : State) : Out :=
  finishSpc s (s.hostWrite agent.val 0x6018000 (2 ^ 31 + 2 ^ 29 + slot.val))
def execRepairRequest (agent : Agent) (c : Fin 512) (bank : Fin 64) (row : Fin 4096) (s : State) : Out :=
  finishSpc s (s.hostWrite agent.val 0xb0011c (2 ^ 31 + c.val * 2 ^ 18 + bank.val * 2 ^ 12 + row.val))
def execMapreqGo (agent : Agent) (channel : Bool) (c : Fin 512) (bank : Fin 64) (s : State) : Out :=
  finishSpc s (s.hostWrite agent.val 0xb00118 (2 ^ 31 + (if channel then 2 ^ 30 else 0) + c.val * 2 ^ 20 + bank.val * 2 ^ 14))
def execMarginFull (agent : Agent) (c : Fin 512) (s : State) : Out := finishSpc s (s.hostWrite agent.val 0xb00120 (2 ^ 31 + c.val))
def execMarginScan (agent : Agent) (c : Fin 512) (s : State) : Out :=
  finishSpc s (s.hostWrite agent.val 0xb00120 (2 ^ 31 + 2 ^ 30 + c.val))
def execGlassSearch (agent : Agent) (all : Bool) (fib : Fin 64) (s : State) : Out :=
  finishSpc s (s.hostWrite agent.val 0xc00170 (2 ^ 31 + (if all then 64 else 0) + fib.val))
def execGlassMigGo (agent : Agent) (p : Fin 9) (s : State) : Out := finishSpc s (s.hostWrite agent.val 0xc00160 (2 ^ 31 + p.val))
def execGlassReturn (agent : Agent) (s : State) : Out := finishSpc s (s.hostWrite agent.val 0xc00160 (2 ^ 30))
def execTimeLatch (agent : Agent) (s : State) : Out := finishSpc s (s.hostWrite agent.val 0xd00108 1)
def execTimeSet (agent : Agent) (s : State) : Out := finishSpc s (s.hostWrite agent.val 0xd0012c (2 ^ 31))
def execTimeAdj (agent : Agent) (s : State) : Out := finishSpc s (s.hostWrite agent.val 0xd0012c (2 ^ 30))
def execTimeFreqWrite (agent : Agent) (freq : BitVec 32) (s : State) : Out := finishSpc s (s.hostWrite agent.val 0xd00134 freq.toNat)
def execTimeSrcWrite (agent : Agent) (ctl : BitVec 32) (s : State) : Out := finishSpc s (s.hostWrite agent.val 0xd00100 ctl.toNat)
def execHostSample (agent : Agent) (frac : BitVec 16) (s : State) : Out := finishSpc s (s.hostWrite agent.val 0xd0013c frac.toNat)
def execIrearm (agent : Agent) (v : Fin 64) (s : State) : Out := finishSpc s (s.hostWrite agent.val 0xe00118 v.val)
def execMsixUnmask (agent : Agent) (v : Fin 64) (s : State) : Out := finishSpc s (s.hostWrite agent.val (0xe0840c + 16 * v.val) 0)
def execSluiceFreeze (agent : Agent) (page : Fin 4096) (s : State) : Out :=
  finishSpc s (s.hostWrite agent.val (page.val * 4096 + 0x10) 1)
def execSluiceUnfreeze (agent : Agent) (page : Fin 4096) (s : State) : Out :=
  finishSpc s (s.hostWrite agent.val (page.val * 4096 + 0x10) 0)
/-- WARM_RESET: GLOBAL.RESET KIND 2, or with no agent the pin WARM_RST_L, which a COLD reset under way ignores (R551). -/
def execWarmReset (agent : Option Agent) (s : State) : Out :=
  match agent with
  | some g => finishSpc s (s.hostWrite g.val 0x160 0xa5000002)
  | none => finishAlways s (if s.board.starting = some 0 then s else s.warmReset)
def execDataReset (agent : Agent) (s : State) : Out := finishSpc s (s.hostWrite agent.val 0x160 0xa5000001)
def execSpcReset (agent : Agent) (s : State) : Out := finishSpc s (s.hostWrite agent.val 0x160 0xa5000000)
def execNvmRetire (agent : Agent) (l : Fin 1024) (s : State) : Out := finishSpc s (s.hostWrite agent.val 0xf01110 (2 ^ 31 + l.val))
def execFlashRead (agent : Agent) (len : BitVec 13) (s : State) : Out := finishSpc s (s.hostWrite agent.val 0xf02120 (2 ^ 31 + len.toNat))
def execFlashProgram (agent : Agent) (len : BitVec 13) (s : State) : Out :=
  finishSpc s (s.hostWrite agent.val 0xf02120 (2 ^ 31 + 2 ^ 29 + len.toNat))
def execFlashErase (agent : Agent) (s : State) : Out := finishSpc s (s.hostWrite agent.val 0xf02120 (2 ^ 31 + 2 ^ 30))
def execEvselWrite (agent : Agent) (page : Fin 4096) (n : Fin 8) (value : BitVec 32) (s : State) : Out :=
  finishSpc s (s.hostWrite agent.val (page.val * 4096 + 0xc0 + 4 * n.val) value.toNat)
def execSnapGo (agent : Agent) (s : State) : Out := finishSpc s (s.hostWrite agent.val 0xf03118 (2 ^ 31))
def execSnapStop (agent : Agent) (s : State) : Out := finishSpc s (s.hostWrite agent.val 0xf03118 (2 ^ 30))
def execLogClear (agent : Agent) (s : State) : Out := finishSpc s (s.hostWrite agent.val 0xf00104 (2 ^ 31))
def execLogModeWrite (agent : Agent) (mode : Bool) (s : State) : Out :=
  finishSpc s (s.hostWrite agent.val 0xf00100 (if mode then 1 else 0))
def execLogRptrWrite (agent : Agent) (value : BitVec 32) (s : State) : Out := finishSpc s (s.hostWrite agent.val 0xf0010c value.toNat)
def execTxnClaim (agent : Agent) (i : Fin 16) (part : BitVec 16) (s : State) : Out :=
  finishSpc s (s.hostWrite agent.val (0xe01100 + 32 * i.val) (2 ^ 31 + part.toNat))
def execTxnValidate (agent : Agent) (i : Fin 16) (s : State) : Out :=
  finishSpc s (s.hostWrite agent.val (0xe01100 + 32 * i.val) (2 ^ 31 + 2 ^ 28))
def execTxnCommitNow (agent : Agent) (i : Fin 16) (s : State) : Out :=
  finishSpc s (s.hostWrite agent.val (0xe01100 + 32 * i.val) (2 ^ 31 + 2 ^ 29))
def execTxnCommitFlip (agent : Agent) (i : Fin 16) (s : State) : Out :=
  finishSpc s (s.hostWrite agent.val (0xe01100 + 32 * i.val) (2 ^ 31 + 2 ^ 29 + 2 ^ 26))
def execTxnCommitTime (agent : Agent) (i : Fin 16) (s : State) : Out :=
  finishSpc s (s.hostWrite agent.val (0xe01100 + 32 * i.val) (2 ^ 31 + 2 ^ 29 + 2 ^ 27))
def execTxnRelease (agent : Agent) (i : Fin 16) (s : State) : Out :=
  finishSpc s (s.hostWrite agent.val (0xe01100 + 32 * i.val) (2 ^ 31 + 3 * 2 ^ 28))

end Sys2Proof.Machine
end

