-- ==== Sys2Proof/Machine/Txn.lean ====
section
/-! DEFINITION. Validation of a slot's records (R406, R409 to R411), the commit check (R413) and the commit (R388, R389,
R412, R414), with the flip and the transactions that wait for it (R112). -/

namespace Sys2Proof.Machine

/-! ### Validation (R406, R409) -/

/-- Byte enables of a bit mask. -/
def beOf (m : Nat) : Nat := (List.range 4).foldl (fun n i => n + nbit m (8 * i) * 2 ^ i) 0

/-- First address above the page or window that holds an address, none where it is unmapped (R556, R560). -/
def regionEnd (a : Nat) : Option Nat :=
  if a < pageLimit then some ((a / 4096 + 1) * 4096)
  else if 0x7a00000 ≤ a ∧ a < 0x7a40000 then some 0x7a40000
  else if 0x8000000 ≤ a ∧ a < 0x9000000 then some 0x9000000
  else if 0xb000000 ≤ a ∧ a < 0xb080000 then some 0xb080000
  else if 0xb200000 ≤ a ∧ a < 0xb300000 then some 0xb300000
  else if 0xb400000 ≤ a ∧ a < 0xbc00000 then some 0xbc00000
  else (winAt a).map fun w => w.base + w.entry * w.count

/-- Whether `n` words from an address leave its page or window. -/
def leaves (a n : Nat) : Bool := (regionEnd a).any fun e => decide (e < a + 4 * n)

/-- The words of a WRITE record that no register or window holds. -/
def State.recUnmapped (s : State) (sl i : Nat) : Bool := (s.recWords sl i).any fun x => placeAt x.addr == .unmapped

/-- The windows that take direct writes only (R560): skip counters, kernel staging and loader, arbiter instances, SOA
outputs, mailboxes and the flash buffer. -/
def directOnly (a : Nat) : Bool :=
  let within (lo hi : Nat) : Bool := decide (lo ≤ a) && decide (a < hi)
  within 0x2400000 0x2480000 || within 0x6010000 0x6018040 || within 0x7a00000 0x7a40000 || within 0x9110000 0x9112400
    || within 0xa000000 0xa010000 || within 0xbc00000 0xbc01000

/-- The format of a record (R406); 0 where it is right. -/
def State.recFormat (s : State) (sl i : Nat) : Nat :=
  let op := s.recOp sl i
  let a := s.recOffset sl i
  let n := s.recNwords sl i
  let be := s.recBe sl i
  let rsv : Bool := nfield (s.stgWord sl i 0) 29 28 != 0 || nfield (s.stgWord sl i 1) 31 20 != 0 || s.stgWord sl i 2 != 0 || s.stgWord sl i 3 != 0
  firstCode [
    codeIf (op == 0 && s.recUnmapped sl i) Rej.UNMAPPED,
    codeIf (op == 0 && a % 4 != 0) Rej.WIDTH,
    codeIf (rsv || (op == 1 && nfield (s.recRes sl i) 20 16 != 0)) Rej.RESERVED,
    codeIf (decide (1 < op)) Rej.RANGE,
    codeIf (op == 0 && (n == 0 || decide (4 < n) || be / 2 ^ (4 * n) != 0 || leaves a n || a / 4096 == 0xe01
      || decide (0xc000000 ≤ a) || placeAt a == .aperture || directOnly a)) Rej.RANGE,
    codeIf (op == 1 && (a != 0 || n != 0 || be != 0 || nfield (s.stgWord sl i 6) 31 24 != 0 || s.stgWord sl i 7 != 0)) Rej.RANGE]

/-- Addresses in ascending order, each once. -/
def insertAddr (a : Nat) : List Nat → List Nat
  | [] => [a]
  | b :: l => if a < b then a :: b :: l else if a = b then b :: l else b :: insertAddr a l

/-- The addresses that a transaction writes. -/
def addrsOf (ws : List RecWord) : List Nat := ws.foldl (fun l x => insertAddr x.addr l) []

/-- The state `t` that a transaction would leave, as the command staged at `a` meets it: the commands staged at lower
addresses have been applied (R188). -/
def State.withCommands (t : State) (ws : List RecWord) (a : Nat) : State :=
  ((addrsOf ws).filter fun x => commandAt x && decide (x < a)).foldl (fun u x => u.runEntry ((x - 0x4200000) / 0x3000) x) t

/-- A word of a WRITE record: `ws` is all that the transaction writes, `t` the state that it would leave. -/
def State.recWordCheck (s t : State) (ws : List RecWord) (sl a : Nat) : Nat :=
  let v := rawAt ws a
  let m := maskAt ws a
  if placeAt a = .view then Rej.TXN_ONLY
  else firstCode [s.rankedCode (some sl) (s.get (F.TXN_TXSTAT_AGENT sl)) a v (beOf m), s.ownCheck (if commandAt a then t.withCommands ws a else t) (some sl)
    (s.get (F.TXN_TXSTAT_AGENT sl)) a v m]

/-- The slot takes ownership of units that it does not own yet. -/
def State.takeUnits (s : State) (sl : Nat) (us : List Nat) : State :=
  let x := s.slot sl
  s.setSlot sl { x with units := x.units ++ us.filter fun u => !x.units.contains u }

/-- The result of an EP_SET record (R90). -/
def epResultOk (r : Nat) : Bool := resultOk r || resType r == 3

/-- Why an EP_SET record is refused before its placement. -/
def State.epSetCheck (s : State) (sl i : Nat) : Nat :=
  firstCode [
    codeIf ((List.range 16).any fun j => j != sl && (s.slot j).keys.contains (s.recKey sl i)) Rej.LOCKED,
    codeIf (!s.inRun) Rej.BUSY,
    codeIf (!epResultOk (s.recRes sl i)) Rej.RANGE,
    codeIf (s.get F.FWDEPOCH_STATUS_STATE != 0) Rej.EPOCH]

/-- The slot owns the key of an EP_SET record; one that is not present is placed, PENDING (R114). -/
def State.epSetPlace (s : State) (sl i : Nat) : Nat × State :=
  let key := s.recKey sl i
  let x := s.slot sl
  let keys := if x.keys.contains key then x.keys else x.keys ++ [key]
  match s.epFind key with
  | some _ => (0, s.setSlot sl { x with keys := keys })
  | none =>
    match s.epInsert key (epNew key false true 0 0) true with
    | none => (Rej.FULL, s)
    | some t => (0, t.setSlot sl { x with keys := keys, placed := x.placed ++ [key] })

/-- One record: its code, and the state with its units owned. -/
def State.validateRec (s t : State) (ws : List RecWord) (sl i : Nat) : Nat × State :=
  let fmt := s.recFormat sl i
  if fmt ≠ 0 then (fmt, s)
  else if s.recOp sl i = 1 then
    let c := s.epSetCheck sl i
    if c ≠ 0 then (c, s) else s.epSetPlace sl i
  else
    let xs := s.recWords sl i
    let c := firstCode (xs.map fun x => s.recWordCheck t ws sl x.addr)
    if c ≠ 0 then (c, s) else (0, s.takeUnits sl (xs.flatMap fun x => unitsOf x.addr x.be))

/-- The records in index order, up to the first that fails: its code and index, and the state. -/
def State.validateRecs (t : State) (ws : List RecWord) (sl : Nat) : List Nat → State → Nat × Nat × State
  | [], s => (0, 0, s)
  | i :: rest, s =>
    match s.validateRec t ws sl i with
    | (0, s1) => State.validateRecs t ws sl rest s1
    | (c, s1) => (c, i, s1)

/-- A validation meets an owned unit (R411, R433). -/
def State.countLocked (s : State) (code : Nat) : State := if code = Rej.LOCKED then s.countMgmt Ev.TXN_LOCKED 1 else s

/-- The slot that the validator serves next: the first VALIDATING one after the last served (R409). -/
def State.nextValidating (s : State) : Option Nat :=
  ((List.range 16).map fun i => (s.mgmt.validTurn + 1 + i) % 16).find? fun i => s.slotState i == 2

/-- The records of a slot that its next turn checks. -/
def State.turnRecs (s : State) (sl : Nat) : List Nat := ((s.slotRecs sl).drop (s.slot sl).checked).take 16

/-- One turn of a slot: up to 16 records, whose units it takes; FAILED at the first that fails, VALID after the last. -/
def State.validateSome (s : State) (sl : Nat) : State :=
  let ws := s.slotWords sl
  match State.validateRecs (s.withWords ws) ws sl (s.turnRecs sl) s with
  | (0, _, s1) =>
    let n := (s.slot sl).checked + 16
    let s2 := s1.setSlot sl { s1.slot sl with checked := n }
    if s.get (F.TXN_TXCOUNT_COUNT sl) ≤ n then (s2.put (F.TXN_TXSTAT_STATE sl) 3).countMgmt Ev.TXN_VALID 1 else s2
  | (c, i, s1) => (s1.countLocked c).failSlot sl c i Ev.TXN_FAILED

/-- A turn of the validator, which serves the VALIDATING slots round robin. -/
def State.validateTurn (s : State) : State :=
  match s.nextValidating with
  | none => s
  | some sl => ({ s with mgmt := { s.mgmt with validTurn := sl, validAt := s.now } } : State).validateSome sl

/-- Turns of the validator until a slot has left VALIDATING, at most `fuel`. -/
def State.validateUntil (sl : Nat) : Nat → State → State
  | 0, s => s
  | n + 1, s => if s.slotState sl ≠ 2 then s else State.validateUntil sl n s.validateTurn

/-- Turns that the slots VALIDATING still take. -/
def State.turnsLeft (s : State) : Nat :=
  (((List.range 16).filter fun i => s.slotState i == 2).map fun i =>
    (s.get (F.TXN_TXCOUNT_COUNT i) - (s.slot i).checked) / 16 + 1).foldl (· + ·) 0

/-- TXN_VALIDATE_DONE: the validator has done the turns that the slot's validation takes: it is VALID, or FAILED with its
code and record. -/
def State.validateDone (s : State) (sl : Nat) : State := State.validateUntil sl s.turnsLeft s

/-- The validator's turn that has come to its end as core clocks pass. -/
def State.validateTick (s : State) : State := if s.passed s.mgmt.validAt turnClocks then s.validateTurn else s

/-! ### The commit check (R413) -/

/-- The rules for one record, at the commit. -/
def State.recheckRec (s t : State) (ws : List RecWord) (sl i : Nat) : Nat :=
  if s.recOp sl i = 1 then
    firstCode [codeIf (s.get F.FWDEPOCH_STATUS_STATE != 0) Rej.EPOCH,
      codeIf ((s.epFind (s.recKey sl i)).isNone && (s.epInsert (s.recKey sl i) (epNew (s.recKey sl i) true false 0 0) true).isNone) Rej.FULL]
  else firstCode ((s.recWords sl i).map fun x => s.recheck t (some sl) x.addr (rawAt ws x.addr))

/-- The lowest record that the state standing now refuses: its code and index; code 0 where none is. -/
def State.commitCheck (s : State) (sl : Nat) : Nat × Nat :=
  let ws := s.slotWords sl
  let t := s.withWords ws
  match (s.slotRecs sl).find? fun i => s.recheckRec t ws sl i != 0 with
  | some i => (s.recheckRec t ws sl i, i)
  | none => (0, 0)

/-! ### The commit (R414) -/

/-- An EP_SET record at the commit: the free bank's result, STATIC set and PENDING cleared (R114). -/
def State.epSetCommit (s : State) (sl i : Nat) : State :=
  let key := s.recKey sl i
  let r := s.recRes sl i
  let bank := 1 - s.activeBank
  match s.epFind key with
  | some e => ((s.setEpResult bank e r).put (F.EP_W2_STATIC e) 1).put (F.EP_W2_PENDING e) 0
  | none => (s.epInsert key (epNew key true false (if bank = 0 then r else 0) (if bank = 0 then 0 else r)) true).getD s

/-- The EP_SET records of a slot. -/
def State.epSets (s : State) (sl : Nat) : List Nat := (s.slotRecs sl).filter fun i => s.recOp sl i == 1

/-- The lanes whose PORTCFG a transaction writes, and the groups whose registers it writes. -/
def lanesIn (as : List Nat) : List Nat :=
  as.filterMap fun a => if 0x100000 ≤ a ∧ a < 0x500000 ∧ a % 4096 = 0x100 then some ((a - 0x100000) / 4096) else none
def groupsIn (as : List Nat) : List Nat :=
  (as.filterMap fun a => if 0x500000 ≤ a ∧ a < 0x600000 then some ((a - 0x500000) / 4096) else none).eraseDups

/-- Whether a write bears on the identity of R132. -/
def bearsOnCells (a : Nat) : Bool :=
  (decide (0x100000 ≤ a) && decide (a < 0x500000) && a % 4096 == 0x100) || a == 0x700100 || a == 0x700104
  || (decide (0x3120000 ≤ a) && decide (a < 0x3124000))

/-- What the words of a transaction start: EP_SETs, actions in address order, groups, cells, then staged commands in
entry order. -/
def State.applyWords (s : State) (sl : Nat) (ws : List RecWord) : State :=
  let as := addrsOf ws
  let agent := s.get (F.TXN_TXSTAT_AGENT sl)
  let t0 := s.withWords ws
  let s1 := (headsChanged s t0 (lanesIn as)).foldl State.portReset s
  let s2 := (groupsIn as).foldl (fun u g => u.groupLeave t0 g) s1
  let t1 := (s.epSets sl).foldl (fun u i => u.epSetCommit sl i) (s2.withWords ws)
  let t2 := ((lanesIn as).filter fun l => s.shapeChanged t0 l && t0.isPort l).foldl State.judgeTest t1
  let cages := (((lanesIn as).filter (s.shapeChanged t0)).map (· / 8)).eraseDups
  let t3 := cages.foldl State.restage (as.foldl (fun u a => s2.act u agent a (rawAt ws a)) t2)
  let t4 := (groupsIn as).foldl (fun u g => u.groupJoin s g) t3
  let t5 := if as.any bearsOnCells then t4.recomputeLossy else t4
  (as.filter commandAt).foldl (fun u a => u.runEntry ((a - 0x4200000) / 0x3000) a) t5

/-- The transaction takes effect: APPLIED, its units released; a reset that it holds comes last. -/
def State.applySlot (s : State) (sl : Nat) : State :=
  let ws := s.slotWords sl
  let t := ((s.applyWords sl ws).countMgmt Ev.TXN_APPLIED 1).endSlot sl 5
  if (addrsOf ws).contains 0x160 then t.resetWrite (rawAt ws 0x160) else t

/-- A commit by itself: the check, then its effect or FAILED. -/
def State.fireOne (s : State) (sl : Nat) : State :=
  match s.commitCheck sl with
  | (0, _) => s.applySlot sl
  | (c, i) => s.failSlot sl c i Ev.TXN_COMMIT_FAIL

/-- Slots in the order in which their commits were accepted. -/
def State.byOrder (s : State) (l : List Nat) : List Nat :=
  l.foldl (fun (acc : List Nat) i => (acc.filter fun j => decide ((s.slot j).order < (s.slot i).order)) ++
    i :: (acc.filter fun j => !decide ((s.slot j).order < (s.slot i).order))) []

/-- The slots that are ARMED in a mode. -/
def State.armedIn (s : State) (mode : Nat) : List Nat :=
  s.byOrder ((List.range 16).filter fun i => s.slotState i == 4 && s.get (F.TXN_TXSTAT_MODE i) == mode)

/-- A commit: one that holds FLIP takes the transactions armed in mode FLIP with it, ahead of its own writes (R112). -/
def State.fire (s : State) (sl : Nat) : State :=
  if !s.slotFlips sl then s.fireOne sl
  else
    match s.commitCheck sl with
    | (0, _) => ((s.armedIn 1).foldl State.fireOne s).applySlot sl
    | (c, i) => s.failSlot sl c i Ev.TXN_COMMIT_FAIL

/-- TXN_APPLY: the commit clock of a COMMIT in mode NOW, after every one accepted earlier. -/
def State.applyNow (s : State) (sl : Nat) : State :=
  if (s.slot sl).nowPending && (List.range 16).all fun j => !(s.slot j).nowPending || decide ((s.slot sl).order ≤ (s.slot j).order) then
    (s.setSlot sl { s.slot sl with nowPending := false }).fire sl
  else s

/-- A due transaction of mode TIME: late where a step passed its T (R389). -/
def State.fireTime (s : State) (sl : Nat) : State :=
  if (s.slot sl).late then ((s.countAt 0xd00 Ev.TIME_TRIG_LATE 1).logReport Ev.TIME_TRIG_LATE 0xd00 0 0 0).fire sl else s.fire sl

/-- TXN_TIME_FIRE: every transaction armed in mode TIME whose T has come, in the order of acceptance (R388, R389). -/
def State.timeFire (s : State) : State :=
  ((s.armedIn 2).filter s.fireDue).foldl State.fireTime s

/-- The RELEASEs of ARMED slots at the end of their core clock: a trigger that came in it first (R415). -/
def State.releasesClose (s : State) : State :=
  let s1 := ((s.armedIn 2).filter fun i => (s.slot i).releaseAfter && s.fireDue i).foldl State.fireTime s
  ((List.range 16).filter fun i => (s1.slot i).releaseAfter && s1.slotState i == 4).foldl (fun t i => (t.dropPlaced i).freeSlot i) s1

/-! ### The commands -/

def execTxnValidateDone (i : Fin 16) (s : State) : Out := finish s (s.validateDone i.val)
def execTxnApply (i : Fin 16) (s : State) : Out := finish s (s.applyNow i.val)
def execTxnTimeFire (s : State) : Out := finish s s.timeFire

end Sys2Proof.Machine
end

