-- ==== Sys2Proof/Machine/Startup.lean ====
section
/-! DEFINITION. Start-up (R499, R500): the factory identity, firmware selection (R492 to R495), settings (R484, R485),
repair (R488, R491), and the steps that follow. -/

namespace Sys2Proof.Machine

/-! ### Firmware (R492 to R495) -/

/-- Little-endian number in bytes `i` to `i + n − 1`. -/
def leAt (b : List Byte) (i n : Nat) : Nat := leNat (slice b i n)

/-- Whether a 64-byte block ends in the CRC of its first 60 bytes and of `more`. -/
def blockCrc (b more : List Byte) : Bool := leAt b 60 4 == crcStd (b.take 60 ++ more)

/-- Whether serial number `a` is later than `b` (R171). -/
def serialLater (a b : Nat) : Bool := decide (0 < (a + 2 ^ 32 - b) % 2 ^ 32) && decide ((a + 2 ^ 32 - b) % 2 ^ 32 < 2 ^ 31)

/-- A valid directory copy. -/
def State.dirCopy (s : State) (a : Nat) : Option (List Byte) :=
  let b := s.flashBytes a 64
  if leAt b 0 4 = 0x4b534452 ∧ blockCrc b [] = true then some b else none

/-- The preferred SPC and lane slots (true: B). -/
def State.preferred (s : State) : Bool × Bool :=
  let pick (b : List Byte) : Bool × Bool := (leAt b 8 1 == 1, leAt b 9 1 == 1)
  match s.dirCopy 0, s.dirCopy 0x10000 with
  | some a, some b => pick (if serialLater (leAt b 4 4) (leAt a 4 4) then b else a)
  | some a, none => pick a
  | none, some b => pick b
  | none, none => (false, false)

/-- The header of the image in a slot. -/
def State.imageHeader (s : State) (lane b : Bool) : List Byte := s.flashBytes (imageSlot lane b).1 256

/-- Whether the image in a slot is intact (R493). -/
def State.imageIntact (s : State) (lane b : Bool) : Bool :=
  let h := s.imageHeader lane b
  let n := leAt h 16 4
  leAt h 0 4 == 0x4b534657 && leAt h 4 1 == (if lane then 2 else 1) && leAt h 252 4 == crcStd (h.take 252)
    && decide (n ≤ (imageSlot lane b).2 - 256)
    && slice h 20 32 == sha256 (s.flashBytes ((imageSlot lane b).1 + 256) n)

/-- The SPC slot: the preferred one if intact, else the other. -/
def State.chooseSpc (s : State) : Option Bool :=
  let p := s.preferred.1
  if s.imageIntact false p then some p else if s.imageIntact false (!p) then some (!p) else none

/-- IFACE major and VERSION of a header. -/
def ifaceMajor (h : List Byte) : Nat := leAt h 13 1
def imageVersion (h : List Byte) : Nat := leAt h 8 4

/-- The lane slot, of an IFACE major equal to the SPC image's. -/
def State.chooseLane (s : State) (spc : List Byte) : Option Bool :=
  let p := s.preferred.2
  let fits (b : Bool) : Bool := s.imageIntact true b && ifaceMajor (s.imageHeader true b) == ifaceMajor spc
  if fits p then some p else if fits (!p) then some (!p) else none

/-- Whether an image lists a VERSION as tested. -/
def listsTested (h : List Byte) (v : Nat) : Bool := (List.range (min 16 (leAt h 14 2))).any fun i => leAt h (52 + 4 * i) 4 == v

/-- The boot record of a pair: both VERSIONs, the first 8 bytes of each DIGEST, and a check (R495).  DESIGN CHOICE: the
order of the bytes, and a CRC-32C over them. -/
def bootRecord (spc lane : List Byte) : List Byte :=
  let b := slice spc 8 4 ++ slice lane 8 4 ++ slice spc 20 8 ++ slice lane 20 8
  b ++ leBytes 4 (crcStd b)

/-- Offset of the boot record. -/
def bootBase : Nat := 0x150000

/-- WHY of the running pair, and whether an override lets it boot (R494 step 3). -/
def State.judgePair (s : State) (spc lane : List Byte) : Nat × Bool :=
  if listsTested spc (imageVersion lane) || listsTested lane (imageVersion spc) then (0, false)
  else if s.nvmBytes bootBase 28 == bootRecord spc lane then (0, true)
  else (1, false)

/-- Start-up ends without an image of its own: ROM mode (R496). -/
def State.enterRom (s : State) (stage : Nat) : State :=
  let t := (s.puts [(F.MGMT_MODE_RESTRICTED, 1), (F.BOOT_STAT_WHY, 3), (F.BOOT_STAT_STAGE, stage)]).istat
    (wordRef 0xf0212c) 1
  { t with board := { t.board with starting := none } }

/-- Step 4: the lane image, and the mode. -/
def State.bootLane (s : State) (spc : List Byte) : State :=
  match s.chooseLane spc with
  | none => s.puts [(F.BOOT_LANEIMG_VERSION, 0), (F.BOOT_STAT_WHY, 2), (F.MGMT_MODE_RESTRICTED, 1)]
  | some b =>
    let h := s.imageHeader true b
    let j := s.judgePair spc h
    s.puts [(F.BOOT_LANEIMG_VERSION, imageVersion h), (F.BOOT_SLOTS_LANE, b.toNat),
      (F.BOOT_SLOTS_LANE_FB, (b != s.preferred.2).toNat), (F.BOOT_STAT_WHY, j.1), (F.BOOT_STAT_OVERRIDDEN, j.2.toNat),
      (F.MGMT_MODE_RESTRICTED, if j.1 = 0 then 0 else 1)]

/-! ### Settings (R484, R485) -/

/-- First byte of a settings bank and of its allow-list copy. -/
def setBase (b : Bool) : Nat := if b then 0xc0000 else 0x40000
def allowBase (b : Bool) : Nat := if b then 0x148000 else 0x140000

/-- The bytes of sections that the header at an offset announces. -/
def State.bankBody (s : State) (base : Nat) : List Byte := s.nvmBytes (base + 64) (leAt (s.nvmBytes base 64) 16 4)

/-- SEQ of a valid block in the bank layout. -/
def State.bankSeq (s : State) (base magic most : Nat) : Option Nat :=
  let h := s.nvmBytes base 64
  if leAt h 0 4 = magic ∧ leAt h 4 2 = 1 ∧ leAt h 16 4 ≤ most ∧ blockCrc h (s.bankBody base) = true then some (leAt h 8 8) else none

/-- SEQ of a valid settings bank. -/
def State.settingsSeq (s : State) (b : Bool) : Option Nat := s.bankSeq (setBase b) 0x4b534554 524224

/-- The valid bank with the larger SEQ; bank A on a tie. -/
def State.chooseBank (s : State) : Option (Bool × Nat) :=
  match s.settingsSeq false, s.settingsSeq true with
  | some a, some b => if a < b then some (true, b) else some (false, a)
  | some a, none => some (false, a)
  | none, some b => some (true, b)
  | none, none => none

/-- The sections of a bank: KIND and content, at most `n`. -/
def sectionsOf : Nat → List Byte → List (Nat × List Byte)
  | 0, _ => []
  | n + 1, b =>
    if b.length < 16 then []
    else (leAt b 0 2, slice b 16 (leAt b 4 4)) :: sectionsOf n (b.drop (16 + leAt b 4 4))

/-- The content of the first section of a KIND in the bank in use. -/
def State.settingsSection (s : State) (kind : Nat) : List Byte :=
  if s.on F.NVM_STAT_NO_SETTINGS then []
  else
    let base := setBase (s.on F.NVM_STAT_BANK)
    (((sectionsOf (leAt (s.nvmBytes base 64) 6 2) (s.bankBody base)).find? fun (p : Nat × List Byte) => p.1 == kind).map
      fun (p : Nat × List Byte) => p.2).getD []

/-- Working copies as the sections give them; a byte that no section gives is the factory's. -/
def State.workingCopies (s : State) : State :=
  let eq := (s.settingsSection 2).take 16384
  let ib := (s.settingsSection 3).take 1152
  let dds := s.settingsSection 4
  let m1 := eq.zipIdx.foldl (fun m (p : Byte × Nat) => SMap.set Config.laneEq m p.2 p.1) []
  let m2 := (List.range (ib.length / 2)).foldl
    (fun m i => SMap.set (fun k => (Config.glassIb k).toNat) m i (leAt ib (2 * i) 2 % 1024)) []
  { s with
    nvm := { s.nvm with laneEq := m1, glassIb := m2 }
    time := { s.time with dds := if dds.length = 16 then dds else s.time.dds } }

/-- SEQ of the bank in use. -/
def State.seqInUse (s : State) : Nat :=
  if s.on F.NVM_STAT_NO_SETTINGS then 0 else leAt (s.nvmBytes (setBase (s.on F.NVM_STAT_BANK)) 64) 8 8

/-- The allow-list from the copy of the same letter, where it is valid with the same SEQ. -/
def State.loadAllow (s : State) (b : Bool) (seq : Nat) : State :=
  if s.bankSeq (allowBase b) 0x4b53414c 16384 = some seq ∧ (s.bankBody (allowBase b)).length = 16384 then
    (s.setBarBytes 0x06001000 (s.bankBody (allowBase b))).put F.NVM_STAT_AL_NONE 0
  else s.put F.NVM_STAT_AL_NONE 1

/-- Step 5. -/
def State.loadSettings (s : State) : State :=
  match s.chooseBank with
  | none => (s.puts [(F.NVM_STAT_NO_SETTINGS, 1), (F.NVM_STAT_AL_NONE, 1)]).workingCopies
  | some (b, seq) =>
    ((s.puts [(F.NVM_STAT_BANK, b.toNat), (F.NVM_SEQ_LO_SEQ, seq % 2 ^ 32), (F.NVM_SEQ_HI_SEQ, seq / 2 ^ 32)]).loadAllow b seq).workingCopies

/-! ### Repair (R488, R491) -/

/-- SEQ of a valid half of the remap area. -/
def State.remapSeqOf (s : State) (half : Nat) : Option Nat :=
  let h := s.nvmBytes (remapBase half) 64
  if leAt h 0 4 = 0x4b53524d ∧ leAt h 4 2 = 1 ∧ blockCrc h [] = true then some (leAt h 8 8) else none

/-- The active half.  DESIGN CHOICE: where neither is valid, half 0 receives a header with SEQ 1. -/
def State.chooseHalf (s : State) : State :=
  let use (t : State) (h q : Nat) : State :=
    let u : State := { t with nvm := { t.nvm with remapHalf := h, remapSeq := q } }
    u.put F.NVM_COUNTS_REMAP u.remapCount
  match s.remapSeqOf 0, s.remapSeqOf 1 with
  | some a, some b => if a < b then use s 1 b else use s 0 a
  | some a, none => use s 0 a
  | none, some b => use s 1 b
  | none, none => use (s.nvmPut (remapBase 0) (remapHeader 1)) 0 1

/-- A remap entry: the row lives in the spare, and in no other. -/
def State.replayRow (s : State) (v : Nat) : State :=
  let bi := v % 512 * 64 + v / 512 % 64
  let row := v / 2 ^ 20 % 4096
  let s1 := (List.range 32).foldl (fun (t : State) k =>
    if t.on (F.BANK_W32_VALID bi k) && t.get (F.BANK_W32_ROW bi k) == row then
      t.puts [(F.BANK_W32_VALID bi k, 0), (F.BANK_W32_ROW bi k, 0)]
    else t) s
  let k := v / 2 ^ 15 % 32
  s1.puts [(F.BANK_W32_VALID bi k, 1), (F.BANK_W32_ROW bi k, row)]

/-- Slot `i` of a channel takes the bank of donor slot `d`, and its own bank is MAPPED_OUT. -/
def State.mapBankOut (s : State) (c i d : Nat) : State :=
  let bank := s.bankMap c i
  let donor := s.bankMap c d
  let s1 := (s.setByte (0x07000040 + 128 * c + i) (128 + donor)).setByte (0x07000040 + 128 * c + d) 0
  (s1.put (F.CHAN_W0_NC c) d).put (F.BANK_W0_STATE (bankIx c bank)) 2

/-- One remap record, over the map as it stands. -/
def State.replay (s : State) (b : List Byte) : State :=
  match remapRecord b with
  | some (1, v) => s.replayRow v
  | some (2, v) => s.mapBankOut (v % 512) (v / 512 % 64) (v / 2 ^ 15 % 64)
  | some (3, v) => s.put (F.CHAN_W0_STATE (v % 512)) 3
  | _ => s

/-- One Cullet entry that acts on the stacks; rings, lanes, arrays and cells are looked up where they matter. -/
def State.applyCullet (s : State) (p : Nat × Nat) : State :=
  match p.1 with
  | 2 => s.orBits (F.BANK_W1_RETIRED (bankIx (p.2 / 2 ^ 11 % 512) (p.2 / 32 % 64))) (2 ^ (p.2 % 32))
  | 3 =>
    let c := p.2 / 64 % 512
    match s.slotOf c (p.2 % 64) with
    | some i => s.mapBankOut c i (s.get (F.CHAN_W0_NC c) - 1)
    | none => s.put (F.BANK_W0_STATE (bankIx c (p.2 % 64))) 2
  | 4 => s.put (F.CHAN_W0_STATE (p.2 % 512)) 3
  | _ => s

/-- Step 6. -/
def State.loadRepairs (s : State) : State :=
  let s1 := s.chooseHalf
  let n := s1.culletHeld
  let s2 := s1.puts [(F.NVM_COUNTS_CULLET, n), (F.NVM_STAT_CULLET_FULL, if n = culletMax then 1 else 0)]
  let s3 : State := s2.remapHeld.foldl State.replay s2
  let s4 : State := s3.culletList.foldl State.applyCullet s3
  s4.recomputeMap

/-! ### Guards, memory, arrays (steps 7 to 9) -/

/-- Guards and FMAX of a record. -/
def State.takeGuards (s : State) (b : List Byte) : State :=
  let s1 : State := (List.range 11).foldl (fun (t : State) d => t.put (F.ANN_DOM_GUARD d) (leAt b (24 + d) 1)) s
  let s2 : State := (List.range 50).foldl (fun (t : State) k =>
    t.puts [(F.ANN_BASIN_GUARD k, leAt b (36 + k) 1), (F.ANN_BASIN_FMAX k, leAt b (86 + k) 1), (F.THERM_BLIM_FMAX k, leAt b (86 + k) 1)]) s1
  s2.put F.ANN_STAT_LAST_RUN (recordRun b)

/-- A part without a good record starts from guard 0 and FMAX 48. -/
def State.freshGuards (s : State) : State :=
  (List.range 50).foldl (fun (t : State) k =>
    t.puts [(F.ANN_BASIN_GUARD k, 0), (F.ANN_BASIN_FMAX k, 48), (F.THERM_BLIM_FMAX k, 48)]) s

/-- The setpoint of a domain at start-up; a guard that its regulator does not take is not in force (R541). -/
def State.firstSetpoint (noAck : List Nat) (s : State) (d : Nat) : State :=
  let ack := !noAck.contains d && !s.mgmt.tap.extest
  let t := s.setpoint d (s.get (F.ANN_DOM_GUARD d)) ack
  if ack then t else (t.put (F.ANN_DOM_GUARD d) 0).pmbusFault d

/-- Step 7: guards and FMAX of the newest good record (R476), and the clocks that follow. -/
def State.loadGuards (s : State) (noAck : List Nat) : State :=
  let r := s.newestRecord
  let s1 : State := match r with
    | some b => s.takeGuards b
    | none => s.freshGuards
  let s2 : State := { s1 with pwr := { s1.pwr with onBase := (r.map fun b => leAt b 16 4).getD 0, onSince := s1.now } }
  let s3 : State := (List.range 11).foldl (State.firstSetpoint noAck) s2
  (List.range 50).foldl State.settleClock s3

/-- FULL margin of one channel; a FAIL maps it out at once. -/
def State.trainChannel (f : StartFacts) (s : State) (c : Nat) : State :=
  if s.chanLive c then
    let m := ((f.margins.find? fun p => p.1.val == c).map fun p => p.2).getD f.margin
    ((s.marginStart c 1).marginDone c (marginFact m)).mapoutStartNow
  else s

/-- Step 8: margin, then every live line holds zeros.  A stack of which a channel FAILed is not TRAINED (the model's
choice, log entry 195). -/
def State.trainMemory (s : State) (f : StartFacts) : State :=
  let s1 : State := (List.range 512).foldl (State.trainChannel f) s
  let s2 : State := (List.range 16).foldl (fun (t : State) j =>
    t.put (F.HBM_STACK_TRAINED j) (if s1.mem.untrained.any fun c => c % 16 == j then 0 else 1)) s1
  { s2 with mem := { s2.mem with bytes := [], poison := [], gen := [] } }

/-- Step 9: the states that a reset gives the arrays (R248), and the self-tests. -/
def State.testArrays (s : State) (ok : BitVec 50) : State :=
  let s1 : State := (List.range 50).foldl (fun (t : State) b =>
    t.put (F.BASIN_STATE_ARRAY b) (if Config.arrayAbsent b then 0 else if s.culletHas 5 b then 4 else 1)) s
  let s2 : State := (List.range 50).foldl (fun (t : State) b => (t.startupTest b).testEnds b (ok.getLsbD b)) s1
  s2.countArrays

/-! ### The free list, the search, the Annealer (steps 10 to 12) -/

/-- Step 10: RETIRED cells stay off the free list; LOSSY_CELLS. -/
def State.loadCells (s : State) : State :=
  let ids := (s.culletList.filter fun (p : Nat × Nat) => p.1 == 1 && decide (p.2 < cellCount)).map fun (p : Nat × Nat) => p.2
  (ids.foldl (fun (t : State) c => t.setCell c { st := .retired, bad := true }) s).recomputeLossy

/-- Step 11: the start-up values of the bias, and the search; nothing runs without lane firmware.  PIN reads 0 until
it is first reported (the model's choice, log entry 196). -/
def State.startGlass (s : State) : State :=
  let s1 : State := (List.range 576).foldl (fun (t : State) i =>
    t.put (F.SOA_W0_IB i) (SMap.get (fun k => (Config.glassIb k).toNat) s.nvm.glassIb i)) s
  if s.get F.BOOT_STAT_WHY = 2 then s1 else s1.beginSearch (2 ^ 64 - 1) true

/-- Step 12: the Annealer's start-up run, applied. -/
def State.startAnneal (s : State) (f : AnnealFacts) : State := (s.annealStart 2 true none).annealDone (s.standing f)

/-! ### CONFIG (R500) -/

/-- The agent code of the SPC (R395). -/
def spcAgent : Nat := 2

/-- The slot that CONFIG takes: the lowest FREE one. -/
def State.configSlot (s : State) : Option Nat := (List.range 16).find? fun i => s.slotState i == 0

/-- Records claimed by the SPC agent into a slot's staging. -/
def State.stageConfig (s : State) (sl : Nat) (recs : List Byte) : State :=
  ((s.claimSlot spcAgent sl 0).setBarBytes (0xc000000 + sl * 0x200000) recs).put (F.TXN_TXCOUNT_COUNT sl) (recs.length / 32)

/-- CONFIG failed: its code and record, and its slot is released. -/
def State.configFailed (s : State) (sl : Nat) : State :=
  (s.puts [(F.BOOT_CFG_STATE, 3), (F.BOOT_CFG_CODE, s.get (F.TXN_TXSTAT_CODE sl)),
    (F.BOOT_CFGIDX_INDEX, s.get (F.TXN_TXFAIL_INDEX sl))]).freeSlot sl

/-- CONFIG is validated and committed in mode NOW; its slot is released either way. -/
def State.commitConfig (s : State) (sl : Nat) : State :=
  let s1 := (s.validateSlot sl).validateDone sl
  if s1.slotState sl ≠ 3 then s1.configFailed sl
  else
    let s2 := (s1.put (F.TXN_TXSTAT_MODE sl) 0).fire sl
    if s2.slotState sl = 6 then s2.configFailed sl
    else (s2.puts [(F.BOOT_CFG_STATE, 2), (F.BOOT_CFG_CODE, 0), (F.BOOT_CFGIDX_INDEX, 0)]).freeSlot sl

/-- Step 13.  DESIGN CHOICE: with no slot FREE, which only a DATA reset can meet, CONFIG fails with REJ_FULL. -/
def State.loadConfig (s : State) : State :=
  let all := s.settingsSection 1
  let recs := all.take (all.length / 32 * 32)
  if s.get F.BOOT_CFG_STATE = 1 then s
  else if recs.isEmpty then s.puts [(F.BOOT_CFG_STATE, 0), (F.BOOT_CFG_CODE, 0), (F.BOOT_CFGIDX_INDEX, 0)]
  else match s.configSlot with
  | none => s.puts [(F.BOOT_CFG_STATE, 3), (F.BOOT_CFG_CODE, Rej.FULL), (F.BOOT_CFGIDX_INDEX, 0)]
  | some sl =>
    let t := s.stageConfig sl recs
    if s.on F.MGMT_MODE_RESTRICTED then t.put F.BOOT_CFG_STATE 1 else t.commitConfig sl

/-! ### The whole -/

/-- Step 14: RUN. -/
def State.reachRun (s : State) (kind : Nat) : State :=
  let t := s.puts [(F.BOOT_STAT_LAST, kind), (F.GLOBAL_BOARDSTAT_REFS_OK, (s.board.refA && s.board.refB).toNat)]
  let u := (t.istat (wordRef 0xf0212c) 0)
  let v := if s.on F.MGMT_MODE_RESTRICTED then u.istat (wordRef 0xf0212c) 1 else u
  { v with board := { v.board with starting := none } }

/-- Steps 10, 13 and 14, which a DATA reset runs too.  Commands reach every page from step 14 on; CONFIG does already. -/
def State.startTail (s : State) (kind : Nat) : State := (s.put F.BOOT_STAT_STAGE 10).loadConfig.reachRun kind

/-- Steps 5 to 14, with the SPC image running. -/
def State.startHardware (s : State) (kind : Nat) (f : StartFacts) : State :=
  let s1 := (s.loadSettings.loadRepairs).loadGuards (f.noAck.map Fin.val)
  let s2 := ((s1.trainMemory f).testArrays f.arraysOk).loadCells
  ((s2.startGlass).startAnneal f.anneal).startTail kind

/-- Steps 3 and 4: firmware, or ROM mode. -/
def State.startFirmware (s : State) (kind : Nat) (f : StartFacts) : State :=
  match s.chooseSpc with
  | none => s.enterRom 1
  | some b =>
    let h := s.imageHeader false b
    let t := s.puts [(F.BOOT_SPCIMG_VERSION, imageVersion h), (F.BOOT_SLOTS_SPC, b.toNat),
      (F.BOOT_SLOTS_SPC_FB, (b != s.preferred.1).toNat)]
    (t.bootLane h).startHardware kind f

/-- Whether the factory identity is good: it ends in its CRC-32C (R481). -/
def State.factoryGood (s : State) : Bool := leNat (s.nvmBytes 0x3fffc 4) == crcStd (s.nvmBytes 0 0x3fffc)

/-- Steps 1 and 2: the factory identity; device time restarts (R371).  Appends that a WARM reset found waiting reach NVM
within 1 ms (R482), before any of it is read. -/
def State.startAll (s : State) (kind : Nat) (f : StartFacts) : State :=
  let t := s.flushAppends.put F.BOOT_STAT_LAST kind
  if !s.factoryGood then (t.put F.NVM_STAT_FACTORY_BAD 1).enterRom 0
  else
    let u : State := { t with time := { t.time with sec := 0, ns := 0, frac := 0, sub := 0 } }
    u.startFirmware kind f

/-- The allow-list takes its reset value, what NVM holds in the bank in use, after a DATA reset (R262). -/
def State.reloadAllow (s : State) : State :=
  if s.on F.NVM_STAT_NO_SETTINGS then s
  else s.loadAllow (s.on F.NVM_STAT_BANK) s.seqInUse

/-- STARTUP_RUN.  DESIGN CHOICE: the start-up that a reset awaits is one command, which may come from t0 on. -/
def State.startup (s : State) (f : StartFacts) : State :=
  match s.board.starting with
  | none => s
  | some k =>
    if k = 2 then
      if s.romMode then { s with board := { s.board with starting := none } } else s.reloadAllow.loadCells.startTail 2
    else if s.board.t0 then s.startAll k f else s

/-! ### The writer (R482) -/

/-- The exit from Restricted mode that an override brings: the held CONFIG is validated and committed, and the service
answers with its outcome (R495). -/
def State.overrideDone (s : State) (m : Nat) : State :=
  let held := s.get F.BOOT_CFG_STATE == 1
  let s1 := s.puts [(F.MGMT_MODE_RESTRICTED, 0), (F.BOOT_STAT_WHY, 0)]
  let slot := (List.range 16).find? fun i => s.slotState i == 1 && s.get (F.TXN_TXSTAT_AGENT i) == spcAgent
  let s2 : State := match slot with
    | some sl => if held then s1.commitConfig sl else s1
    | none => s1
  s2.mbAnswer m 0 (leBytes 2 (if s2.get F.BOOT_CFG_STATE = 3 then s2.get F.BOOT_CFG_CODE else 0))

/-- The bank that a STORE writes: the one not in use; A where none is. -/
def State.idleBank (s : State) : Bool := !s.on F.NVM_STAT_NO_SETTINGS && !s.on F.NVM_STAT_BANK

/-- A STORE ends: SEQ and the bank written (R486). -/
def State.storeDone (s : State) (seq m : Nat) : State :=
  let s1 := s.puts [(F.NVM_STAT_BUSY, 0), (F.NVM_SEQ_LO_SEQ, seq % 2 ^ 32), (F.NVM_SEQ_HI_SEQ, seq / 2 ^ 32)]
  (s1.logNvm (setBase s.idleBank) (seq % 2 ^ 32)).mbAnswer m 0 (leBytes 8 seq ++ leBytes 1 s.idleBank.toNat)

/-- A log copy ends: its header was the last written (R525). -/
def State.logCopyDone (s : State) (header : List Byte) (slot m : Nat) : State :=
  (s.countLog Ev.LOG_COPY 1).mbAnswer m 0 (slice header 8 8 ++ leBytes 1 slot ++ leBytes 3 0 ++ slice header 16 4)

/-- A piece of a larger write reaches NVM; the last ends the service that asked for it. -/
def State.streamDone (s : State) (w : NvmWrite) : State :=
  let t := s.nvmPut w.off w.bytes
  match w.mailbox with
  | none => t
  | some m =>
    match w.kind with
    | .store => t.storeDone w.tag m
    | .boot => if w.tag = 1 then (t.logNvm bootBase 0).overrideDone m else (t.logNvm bootBase 0).mbAnswer m 0 (leBytes 2 0)
    | .logCopy => t.logCopyDone w.bytes w.tag m
    | _ => t

/-- NVM_WRITE_DONE: an append goes before the next piece of a larger write. -/
def State.nvmWritten (s : State) : State :=
  match s.nvm.appends with
  | w :: rest => ({ s with nvm := { s.nvm with appends := rest } } : State).appendDone w
  | [] =>
    match s.nvm.streams with
    | w :: rest => ({ s with nvm := { s.nvm with streams := rest } } : State).streamDone w
    | [] => s

/-! ### SPC_RESTART_DONE (R431, R498) -/

/-- The services resume, PTP_DEFAULTDS with the values that STORE saved. -/
def State.spcRestarted (s : State) : State :=
  let d := s.settingsSection 4
  let t : State := { s with
    mgmt := { s.mgmt with spcDown := false }, time := { s.time with dds := if d.length = 16 then d else s.time.dds } }
  t.hlth.leaves.foldl (fun t (x : Nat × LeafSt) => t.judgeScore x.1) t

/-! ### The commands -/

def execSpcRestartDone (s : State) : Out := finishSpc s s.spcRestarted
def execStartupRun (f : StartFacts) (s : State) : Out := finish s (s.startup f)
def execNvmWriteDone (s : State) : Out := finishAlways s s.nvmWritten

end Sys2Proof.Machine
end

