-- ==== Sys2Proof/Machine/Services.lean ====
section
/-! DEFINITION. The SPC's services (R429, R431): INFO, ECHO, LAUNCH (R449), HEALTH_READ and the fences (R453, R454),
PTP_DEFAULTDS, STORE (R486, R487), FW_OVERRIDE (R495) and LOG_COPY (R525, R526). -/

namespace Sys2Proof.Machine

/-! ### INFO, ECHO, PTP_DEFAULTDS (R431) -/

/-- The body of INFO. -/
def State.infoBody (s : State) : List Byte :=
  leBytes 4 (s.word 0).toNat ++ leBytes 4 (s.word 8).toNat ++ leBytes 4 (s.get F.BOOT_SPCIMG_VERSION)
    ++ leBytes 4 (s.get F.BOOT_LANEIMG_VERSION) ++ leBytes 1 (s.get F.MGMT_MODE_RESTRICTED) ++ leBytes 7 0
    ++ leBytes 8 ((s.now - s.mgmt.spcSince) / secClocks 1)

def State.info (s : State) (src : SvcSrc) : State := s.serve src 0x0001 fun r => s.svcAnswer src r 0 s.infoBody

def State.echo (s : State) (src : SvcSrc) : State := s.serve src 0x0002 fun r => s.svcAnswer src r 0 r.body

/-- PTP_DEFAULTDS stages its body, which the next Announce puts in force. -/
def State.ptpDefaultds (s : State) (m : Fin 8) : State :=
  s.serve (.mailbox m) 0x0300 fun r =>
    if r.len ≠ 16 ∨ leAt r.body 10 6 ≠ 0 then s.mbAnswer m Rej.RANGE []
    else ({ s with time := { s.time with ddsStaged := some r.body } }).mbAnswer m 0 []

/-! ### LAUNCH (R449) -/

/-- STATE of a context key, and the context where its position holds or awaits it. -/
def State.launchState (s : State) (part comm cseq : Nat) : Nat × Option Nat :=
  match s.commFind part comm with
  | none => (0, none)
  | some m =>
    let win := s.get (F.COMM_W3_WIN m)
    let d := (cseq + 2 ^ 32 - s.get (F.COMM_W5_BASE m)) % 2 ^ 32
    let c := s.posCtx m (cseq % win)
    let ph := (s.ctx c).phase
    if s.tearing m then (6, none)
    else if 2 ^ 31 ≤ d then (5, none)
    else if win ≤ d then (1, none)
    else if s.get (F.CTX_W11_CSEQ c) ≠ cseq then (5, none)
    else if ph = 1 then (2, none)
    else if ph = 5 then (4, some c)
    else (3, some c)

/-- Arrival bits that member `i` has set in a context. -/
def CtxSt.arrivals (x : CtxSt) (i : Nat) : Nat :=
  (x.arr.filter fun (p : Nat × Bool) => p.2 && p.1 % 2048 == i).length

/-- Whether a member has been counted for every index of a context. -/
def State.memberCounted (s : State) (c i : Nat) : Bool := (s.ctx c).arrivals i == (s.params c).nchunk

/-- Whether a member is skipped in a context. -/
def State.memberSkipped (s : State) (c i : Nat) : Bool :=
  (s.ctx c).fenced.contains i || nbit (s.get (F.CTX_W32_SKIP c (i / 32))) (i % 32) == 1

/-- PENDING: bit `i` is bit `i` mod 8 of byte `i` ÷ 8 (little-endian, R428). -/
def State.pendingBits (s : State) (c : Nat) : List Byte :=
  let n := s.nmemb (s.ctxComm c)
  let bit (i : Nat) : Nat := if i < n ∧ !s.memberCounted c i ∧ !s.memberSkipped c i then 1 else 0
  (List.range 128).map fun j => BitVec.ofNat 8 ((List.range 8).foldl (fun v b => v + bit (8 * j + b) * 2 ^ b) 0)

/-- ACKs counted: those of a BARRIER or LAUNCH context. -/
def State.acks (s : State) (c : Nat) : Nat :=
  let t := (s.params c).type
  if t = 2 ∨ t = 3 then ((s.ctx c).arr.filter fun (p : Nat × Bool) => p.2 && decide (p.1 < 1024)).length else 0

/-- The response for a context that is held. -/
def State.launchHeld (s : State) (st c : Nat) : List Byte :=
  leBytes 1 st ++ leBytes 1 (if st = 4 then s.get (F.CTX_W28_STATUS c) else 0)
    ++ leBytes 1 (if (s.ctx c).arrived 1024 then 1 else 0) ++ leBytes 1 (s.params c).type
    ++ leBytes 2 (s.acks c) ++ leBytes 2 (s.nmemb (s.ctxComm c))
    ++ leBytes 4 (s.get (F.CTX_W22_TIMES c 0)) ++ leBytes 4 (s.get (F.CTX_W22_TIMES c 1)) ++ s.pendingBits c

/-- The body of LAUNCH. -/
def State.launchBody (s : State) (part comm cseq : Nat) : List Byte :=
  match s.launchState part comm cseq with
  | (st, some c) => s.launchHeld st c
  | (st, none) =>
    leBytes 6 st ++ leBytes 2 (((s.commFind part comm).map s.nmemb).getD 0) ++ List.replicate 136 0#8

def State.launchReport (s : State) (src : SvcSrc) : State :=
  s.serve src 0x0100 fun r =>
    if r.len ≠ 8 then s.svcAnswer src r Rej.RANGE []
    else s.svcAnswer src r 0 (s.launchBody (leAt r.body 0 2) (leAt r.body 2 2) (leAt r.body 4 4))

/-! ### HEALTH_READ (R454) -/

/-- Milliseconds since the last liveness, saturating; a leaf never heard reads the largest. -/
def State.silentMs (s : State) (l : Nat) : Nat :=
  match (s.leaf l).seen with
  | some t => min 65535 ((s.now - t) / msClocks 1)
  | none => 65535

def State.leafRecord (s : State) (l : Nat) : List Byte :=
  let x := s.leaf l
  let flags := (if x.rec_.isSome then 1 else 0) + (if x.score ≤ s.get F.HLTH_SCORE_WARN then 2 else 0)
    + (if x.hard then 4 else 0) + (if x.fencedRx then 8 else 0) + (if x.confirmed then 16 else 0)
  leBytes 2 l ++ leBytes 1 x.state ++ leBytes 1 flags ++ leBytes 1 x.score ++ leBytes 1 x.cause ++ leBytes 2 (s.silentMs l)

def State.basinRecord (s : State) (b : Nat) : List Byte :=
  let h := s.basinHealth b
  let l := s.recentPairs b
  leBytes 2 b ++ leBytes 1 (s.get (F.COMMON_STATUS_FROZEN (0xa00 + b)) + (if h.suspect then 2 else 0))
    ++ leBytes 1 (min 255 l.length) ++ leBytes 1 (min 255 (l.map fun p => p.2).eraseDups.length)
    ++ leBytes 1 (s.arrayState b) ++ leBytes 2 (min 65535 h.ecc)

/-- Bits of the lanes of a fibre for which a condition holds. -/
def fibreBits (p : Nat → Bool) : Nat := (List.range 8).foldl (fun n k => n + (if p k then 2 ^ k else 0)) 0

def State.fibreRecord (s : State) (f : Nat) : List Byte :=
  let dark (k : Nat) : Bool := s.ringSt (s.dropRingOf f k) == 4
  let low (k : Nat) : Bool := SMap.get (fun _ => false) s.glass.inLowSeen (f * 8 + k)
  let outs := ((List.range 9).filter fun p => SMap.get (fun _ => false) s.glass.outLowSeen (p * 64 + f)).length
  leBytes 2 f ++ leBytes 1 (fibreBits dark) ++ leBytes 1 (fibreBits low) ++ leBytes 1 outs ++ leBytes 3 0

def State.stackRecord (s : State) (j : Nat) : List Byte :=
  leBytes 2 j ++ leBytes 1 (s.get (F.HBM_STACK_CH_LIVE j)) ++ leBytes 1 (s.get (F.COMMON_STATUS_FROZEN (0xb10 + j)))
    ++ leBytes 2 0 ++ leBytes 2 (min 65535 (SMap.get (fun _ => 0) s.hlth.stackUe j))

/-- One record of a KIND. -/
def State.healthRecord (s : State) (kind i : Nat) : List Byte :=
  match kind with
  | 0 => s.leafRecord i
  | 1 => s.basinRecord i
  | 2 => s.fibreRecord i
  | _ => s.stackRecord i

/-- How many records a KIND has. -/
def healthRange (kind : Nat) : Nat := [1024, 50, 64, 16].getD kind 0

def State.healthRead (s : State) (src : SvcSrc) : State :=
  s.serve src 0x0200 fun r =>
    let kind := leAt r.body 0 1
    let first := leAt r.body 2 2
    let count := leAt r.body 4 2
    if r.len ≠ 6 ∨ 3 < kind ∨ leAt r.body 1 1 ≠ 0 ∨ count = 0 ∨ 256 < count ∨ healthRange kind < first + count then
      s.svcAnswer src r Rej.RANGE []
    else s.svcAnswer src r 0 ((List.range count).flatMap fun i => s.healthRecord kind (first + i))

/-! ### FENCE, UNFENCE, FENCE_CONFIRM (R442, R444, R453) -/

/-- Whether a fence request is out of range: the leaf, or a byte that must be 0. -/
def State.fenceBad (s : State) (r : SvcReq) (flags : Nat) : Bool :=
  r.len != 4 || decide (s.gridSize ≤ leAt r.body 0 2) || decide (flags < leAt r.body 2 1) || leAt r.body 3 1 != 0

def State.fence (s : State) (m : Fin 8) : State :=
  s.serve (.mailbox m) 0x0201 fun r =>
    let l := leAt r.body 0 2
    if s.fenceBad r 1 then s.mbAnswer m Rej.RANGE []
    else if (s.leaf l).state = 3 then s.mbAnswer m Rej.EXISTS []
    else (s.applyFence l 1 1 (leAt r.body 2 1 == 1) false).mbAnswer m 0 []

def State.unfence (s : State) (m : Fin 8) : State :=
  s.serve (.mailbox m) 0x0202 fun r =>
    let l := leAt r.body 0 2
    if s.fenceBad r 1 then s.mbAnswer m Rej.RANGE []
    else if (s.leaf l).state ≠ 3 then s.mbAnswer m Rej.ABSENT []
    else (s.applyUnfence l (leAt r.body 2 1 == 1)).mbAnswer m 0 []

def State.fenceConfirm (s : State) (m : Fin 8) : State :=
  s.serve (.mailbox m) 0x0203 fun r =>
    let l := leAt r.body 0 2
    if s.fenceBad r 0 then s.mbAnswer m Rej.RANGE []
    else match (s.leaf l).rec_ with
      | none => s.mbAnswer m Rej.ABSENT []
      | some cause => (s.applyFence l 1 cause false true).mbAnswer m 0 []

/-! ### STORE (R486, R487) -/

/-- A section: its header and content. -/
def sectionBytes (kind : Nat) (b : List Byte) : List Byte := leBytes 4 kind ++ leBytes 4 b.length ++ leBytes 8 0 ++ b

/-- Working copies as they stand: CONFIG as FLAGS names it, LANE_EQ, GLASS_IB, PTP. -/
def State.storeSections (s : State) (config : List Byte) : List Byte :=
  sectionBytes 1 config
    ++ sectionBytes 2 ((List.range 16384).map fun i => SMap.get Config.laneEq s.nvm.laneEq i)
    ++ sectionBytes 3 ((List.range 576).flatMap fun i => leBytes 2 (SMap.get (fun k => (Config.glassIb k).toNat) s.nvm.glassIb i))
    ++ sectionBytes 4 (s.time.ddsStaged.getD s.time.dds)

/-- A 64-byte header in the bank layout, with its check. -/
def State.bankHeader (s : State) (magic sections seq : Nat) (body : List Byte) : List Byte :=
  let b := leBytes 4 magic ++ leBytes 2 1 ++ leBytes 2 sections ++ leBytes 8 seq ++ leBytes 4 body.length
    ++ leBytes 4 (s.get F.BOOT_SPCIMG_VERSION) ++ leBytes 4 s.time.sec ++ leBytes 4 s.time.ns ++ leBytes 28 0
  b ++ leBytes 4 (crcStd (b ++ body))

/-- Pieces of 4 KiB of a larger write (R482). -/
def pieces4k (kind : NvmKind) (base : Nat) (b : List Byte) : List NvmWrite :=
  (List.range (ceilDiv b.length 4096)).map fun i => ⟨kind, base + 4096 * i, (b.drop (4096 * i)).take 4096, 0, none⟩

/-- A STORE starts: sections first and header last, then the allow-list copy in the same way. -/
def State.storeStart (s : State) (m : Nat) (config : List Byte) : State :=
  let b := s.idleBank
  let seq := s.seqInUse + 1
  let body := s.storeSections config
  let allow := s.barBytes 0x06001000 4096
  let l := pieces4k .store (setBase b + 64) body ++ [⟨.store, setBase b, s.bankHeader 0x4b534554 4 seq body, seq, none⟩]
    ++ pieces4k .store (allowBase b + 64) allow ++ [⟨.store, allowBase b, s.bankHeader 0x4b53414c 0 seq allow, seq, some m⟩]
  (l.foldl State.nvmStream s).put F.NVM_STAT_BUSY 1

/-- Why a STORE is refused; 0 where it is not. -/
def State.storeCheck (s : State) (m : Nat) (r : SvcReq) : Nat :=
  let flags := leAt r.body 0 1
  let sl := leAt r.body 1 1
  let from_ : Bool := nbit flags 0 == 1
  let st := s.slotState sl
  if r.len ≠ 4 ∨ 2 < flags ∨ 15 < sl ∨ leAt r.body 2 2 ≠ 0 then Rej.RANGE
  else if s.on F.NVM_STAT_BUSY ∨ (from_ ∧ st ≠ 3 ∧ st ≠ 5) then Rej.BUSY
  else if from_ ∧ s.get (F.TXN_TXSTAT_AGENT sl) ≠ s.get (F.MB_MBSTAT_AGENT m) then Rej.LOCKED
  else if from_ ∧ 15360 < s.get (F.TXN_TXCOUNT_COUNT sl) then Rej.FULL
  else if nbit flags 1 = 1 ∧ s.on F.NVM_STAT_NO_SETTINGS then Rej.ABSENT else 0

/-- CONFIG as FLAGS names it. -/
def State.storeConfig (s : State) (flags sl : Nat) : List Byte :=
  if nbit flags 0 = 1 then s.barBytes (0xc000000 + sl * 0x200000) (8 * s.get (F.TXN_TXCOUNT_COUNT sl))
  else if nbit flags 1 = 1 then s.settingsSection 1 else []

def State.store (s : State) (m : Fin 8) : State :=
  s.serve (.mailbox m) 0x0500 fun r =>
    let c := s.storeCheck m r
    if c ≠ 0 then s.mbAnswer m c [] else s.storeStart m (s.storeConfig (leAt r.body 0 1) (leAt r.body 1 1))

/-! ### FW_OVERRIDE (R495) -/

/-- Whether a write of a KIND is under way. -/
def State.streaming (s : State) (k : NvmKind) : Bool := s.nvm.streams.any fun w => w.kind == k

/-- The code of a request that is not a CLEAR; 0 where the record is written. -/
def State.overrideCheck (s : State) (r : SvcReq) : Nat :=
  if leAt r.body 0 4 ≠ s.get F.BOOT_SPCIMG_VERSION ∨ leAt r.body 4 4 ≠ s.get F.BOOT_LANEIMG_VERSION then Rej.RANGE
  else match s.get F.BOOT_STAT_WHY with
    | 0 => Rej.EXISTS
    | 1 => 0
    | _ => Rej.ABSENT

def State.fwOverride (s : State) (m : Fin 8) : State :=
  s.serve (.mailbox m) 0x0501 fun r =>
    let flags := leAt r.body 8 1
    if r.len ≠ 16 ∨ 1 < flags ∨ leAt r.body 9 7 ≠ 0 then s.mbAnswer m Rej.RANGE []
    else if s.streaming .boot then s.mbAnswer m Rej.BUSY []
    else if flags = 1 then s.nvmStream ⟨.boot, bootBase, List.replicate 28 0#8, 0, some m⟩
    else
      let c := s.overrideCheck r
      if c ≠ 0 then s.mbAnswer m c []
      else
        let b := bootRecord (s.imageHeader false (s.on F.BOOT_SLOTS_SPC)) (s.imageHeader true (s.on F.BOOT_SLOTS_LANE))
        s.nvmStream ⟨.boot, bootBase, b, 1, some m⟩

/-! ### LOG_COPY (R525, R526) -/

/-- An entry's 32 bytes (R520). -/
def LogEntry.bytes (e : LogEntry) : List Byte :=
  leBytes 4 e.seq ++ leBytes 4 e.sec ++ leBytes 4 e.ns ++ leBytes 2 e.frac ++ leBytes 2 e.code ++ leBytes 2 e.page
    ++ leBytes 1 e.flags ++ leBytes 1 0 ++ leBytes 4 e.inst ++ leBytes 4 e.d1 ++ leBytes 4 e.d2

/-- First byte of a slot of the log copy area. -/
def copyBase (k : Nat) : Nat := 0x420000 + k * 0x4000

/-- SEQ of a valid slot. -/
def State.copySeq (s : State) (k : Nat) : Option Nat :=
  let h := s.nvmBytes (copyBase k) 64
  let n := leAt h 6 2
  if leAt h 0 4 = 0x4b534c47 ∧ leAt h 4 2 = 1 ∧ n ≤ 256 ∧ blockCrc h (s.nvmBytes (copyBase k + 64) (32 * n)) = true then
    some (leAt h 8 8)
  else none

/-- The slot and SEQ of the next copy. -/
def State.nextCopy (s : State) : Nat × Nat :=
  let best := (List.range 8).foldl (fun (o : Option (Nat × Nat)) k =>
    match s.copySeq k, o with
    | some q, some (j, p) => if p < q then some (k, q) else some (j, p)
    | some q, none => some (k, q)
    | none, o => o) none
  match best with
  | some (k, q) => ((k + 1) % 8, q + 1)
  | none => (0, 1)

/-- The newest `n` entries, oldest first. -/
def State.newestEntries (s : State) (n : Nat) : List LogEntry :=
  (List.range n).map fun i => SMap.get (fun _ => {}) s.obs.log ((s.get F.LOG_WPTR_WPTR + 16384 - n + i) % 16384)

/-- The header of a copy. -/
def State.copyHeader (s : State) (seq : Nat) (es : List LogEntry) (body : List Byte) : List Byte :=
  let b := leBytes 4 0x4b534c47 ++ leBytes 2 1 ++ leBytes 2 es.length ++ leBytes 8 seq
    ++ leBytes 4 ((es.head?.map LogEntry.seq).getD 0) ++ leBytes 4 s.time.sec ++ leBytes 4 s.time.ns ++ leBytes 32 0
  b ++ leBytes 4 (crcStd (b ++ body))

/-- A copy starts: entries first, header last. -/
def State.copyStart (s : State) (m : Nat) : State :=
  let es := s.newestEntries (min 256 s.obs.logHeld)
  let body := es.flatMap LogEntry.bytes
  let p := s.nextCopy
  let last : NvmWrite := ⟨.logCopy, copyBase p.1, s.copyHeader p.2 es body, p.1, some m⟩
  (pieces4k .logCopy (copyBase p.1 + 64) body ++ [last]).foldl State.nvmStream s

def State.logCopy (s : State) (m : Fin 8) : State :=
  s.serve (.mailbox m) 0x0600 fun r =>
    if r.len ≠ 4 ∨ leAt r.body 0 4 ≠ 0 then s.mbAnswer m Rej.RANGE []
    else if s.streaming .logCopy ∨ s.mgmt.copyFor ≠ none then s.mbAnswer m Rej.BUSY []
    else { s with mgmt := { s.mgmt with copyFor := some m } }

/-- The end of a core clock starts the copy accepted in it (R525). -/
def State.copyClose (s : State) : State :=
  match s.mgmt.copyFor with
  | none => s
  | some m => ({ s with mgmt := { s.mgmt with copyFor := none } }).copyStart m

/-! ### The commands -/

def execInfo (src : SvcSrc) (s : State) : Out := finishSpc s (s.info src)
def execEcho (src : SvcSrc) (s : State) : Out := finishSpc s (s.echo src)
def execLaunch (src : SvcSrc) (s : State) : Out := finish s (s.launchReport src)
def execHealthRead (src : SvcSrc) (s : State) : Out := finishSpc s (s.healthRead src)
def execFence (m : Fin 8) (s : State) : Out := finish s (s.fence m)
def execUnfence (m : Fin 8) (s : State) : Out := finish s (s.unfence m)
def execFenceConfirm (m : Fin 8) (s : State) : Out := finish s (s.fenceConfirm m)
def execPtpDefaultds (m : Fin 8) (s : State) : Out := finishSpc s (s.ptpDefaultds m)
def execStore (m : Fin 8) (s : State) : Out := finishSpc s (s.store m)
def execFwOverride (m : Fin 8) (s : State) : Out := finishSpc s (s.fwOverride m)
def execLogCopy (m : Fin 8) (s : State) : Out := finishSpc s (s.logCopy m)

end Sys2Proof.Machine
end

