-- ==== Sys2Proof/Machine/Read.lean ====
section
/-! DEFINITION. Reads of BAR0: what a register or window shows (R397, R399, R401, R426), and what a read does (R478,
R506). -/

namespace Sys2Proof.Machine

/-! ### The common layout (R401) -/

/-- TXOWN: whether some register of the page is owned, and the lowest owning slot. -/
def State.txOwn (s : State) (page : Nat) : Nat :=
  match (List.range 16).find? fun i => (s.slot i).units.any fun u => decide (u < pageLimit) && u / 4096 == page with
  | some i => 2 ^ 31 + s.get (F.TXN_TXSTAT_AGENT i) * 16 + i
  | none => 0

/-- Counter `n` of a page, 48 bits. -/
def State.counter (s : State) (page n : Nat) : Nat := SMap.get (fun _ => 0) s.obs.cnt (8 * page + n)

/-- A word of the common layout. -/
def State.commonVal (s : State) (page o : Nat) : Nat :=
  if o = 0x14 then nfield (s.word (page * 4096 + 0x14)).toNat 31 30 * 2 ^ 30 + (if s.ipend page = 0 then 0 else 2 ^ 29)
  else if o = 0x30 then s.ipend page
  else if o = 0x40 then s.txOwn page
  else if 0x80 ≤ o ∧ o < 0xc0 then
    let c := s.counter page ((o - 0x80) / 8)
    if o % 8 = 0 then c % 2 ^ 32 else c / 2 ^ 32
  else s.heldWord (page * 4096 + o)

/-! ### Registers that show other state -/

/-- Valid entries of a window of 16-byte entries whose VALID is bit 31 of word 2. -/
def State.validEntries (s : State) (lo hi : Nat) : Nat :=
  (s.bar.filter fun (x : Nat × Word) => decide (lo ≤ x.1) && decide (x.1 < hi) && x.1 % 16 == 8 && decide (2 ^ 31 ≤ x.2.toNat)).length

/-- VFIRST of a vector: the lowest page that holds a pending cause. -/
def State.vfirst (s : State) (v : Nat) : Nat :=
  match s.vectorPages v with
  | [] => 0
  | p :: rest => 2 ^ 31 + rest.foldl min p

/-- A register of a lane page (R369, R559): the cage registers of a lane that is not a cage's read 0, and so does SKEW where
no port has the lane. -/
def State.laneVal (s : State) (l o : Nat) : Nat :=
  let w := (s.word (0x100000 + 0x1000 * l + o)).toNat
  if 0x1c0 ≤ o ∧ o < 0x280 ∧ l % 8 ≠ 0 then 0
  else if o = 0x184 ∧ (s.portOfLane l).isNone then w / 256 * 256
  else w

/-- A block-specific register. -/
def State.regVal (s : State) (a : Nat) : Nat :=
  match a with
  | 0x603108 => (s.word a).toNat - s.get F.FWDLRN_STATUS_STASH_USED * 2 ^ 16 + s.validEntries 0x2000000 0x2000400 * 2 ^ 16
  | 0x60310c => s.validEntries 0x1000000 0x2000400
  | 0x700110 => s.cellsFree
  | 0x900108 => s.ctxFree * 2 ^ 16 + s.commFree
  | 0x90010c => s.blocksFree
  | 0x900110 => s.mapFree
  | 0xb00114 => s.mapBlock
  | 0xe00110 => s.vectors % 2 ^ 32
  | 0xe00114 => s.vectors / 2 ^ 32
  | 0xe03100 => ((s.word a).toNat ||| 2 ^ 30) - (if s.get F.RILL_STAT_ADDR = 0 then 2 ^ 30 else 0)
  | _ =>
    if 0xe00140 ≤ a ∧ a < 0xe00240 then s.vfirst ((a - 0xe00140) / 4)
    else if 0x100000 ≤ a ∧ a < 0x500000 then s.laneVal ((a - 0x100000) / 4096) (a % 4096)
    else (s.word a).toNat

/-- A word of a register page. -/
def State.pageVal (s : State) (a : Nat) : Nat := if a % 4096 < 0x100 then s.commonVal (a / 4096) (a % 4096) else s.regVal a

/-! ### Windows that show other state -/

/-- Occupancy of a port's account and of a queue (R159). -/
def State.portOccVal (s : State) (o : Nat) : Nat := s.charged (.port (o / 32) (o % 32 / 4))
def State.queueOccVal (s : State) (o : Nat) : Nat := s.queueCells (o / 4 / 64) (o / 4 % 64)

/-- A word of an arbiter instance (R302): STATUS and REQ are computed, and an instance without requesters reads 0
(R297). -/
def State.arbVal (s : State) (i o : Nat) : Nat :=
  if 512 ≤ i ∧ i < 776 ∧ ringRequesters i = 0 then 0
  else
  match o with
  | 4 => (if s.on (F.ARB_CTRL_FREEZE i) ∧ !s.arbHolds i then 2 ^ 31 else 0) + (if s.arbHolds i then 2 ^ 30 else 0) + (s.arb i).owner
  | 12 => (List.range 32).foldl (fun n r => n + (if s.arbReq i r then 2 ^ r else 0)) 0
  | _ => (s.word (0x7a00000 + 256 * i + o)).toNat

/-- A word of a table window. -/
def State.winVal (s : State) (a : Nat) : Nat :=
  if 0x3130000 ≤ a ∧ a < 0x3138000 then s.portOccVal (a - 0x3130000)
  else if 0x3140000 ≤ a ∧ a < 0x3180000 then s.queueOccVal (a - 0x3140000)
  else if 0x7a00000 ≤ a ∧ a < 0x7a30900 then s.arbVal ((a - 0x7a00000) / 256) (a % 256)
  else (s.word a).toNat

/-! ### The event log, the sample ring and NVM (R483, R518, R520) -/

/-- A sample record's 256 bytes. -/
def SampleRec.bytes (r : SampleRec) : List Byte :=
  leBytes 4 r.seq ++ leBytes 4 r.sec ++ leBytes 4 r.ns ++ leBytes 2 r.port ++ leBytes 1 (r.proto * 8 + r.vc) ++ leBytes 1 r.outcome
    ++ leBytes 2 r.len ++ leBytes 2 r.caplen ++ leBytes 12 0
    ++ r.capture.take 128 ++ List.replicate (128 - min 128 r.capture.length) 0#8 ++ leBytes 96 0

/-- A word of a view. -/
def State.viewVal (s : State) (a : Nat) : Nat :=
  if a < 0xb080000 then leAt (SMap.get (fun _ => ({} : LogEntry)) s.obs.log ((a - 0xb000000) / 32)).bytes (a % 32) 4
  else if a < 0xb300000 then leAt (SMap.get (fun _ => ({} : SampleRec)) s.obs.samples ((a - 0xb200000) / 256)).bytes (a % 256) 4
  else leNat (s.nvmBytes (a - 0xb400000) 4)

/-! ### A read by an agent -/

/-- What the word at an address shows; stacked memory is read at its channels (R300). -/
def State.shown (s : State) (a : Nat) : Nat :=
  if !s.answers a then 0
  else match placeAt a with
  | .page => s.pageVal a
  | .win _ => s.winVal a
  | .view => s.viewVal a
  | _ => 0

/-- The latch of an agent on a page (R506). -/
def State.latch (s : State) (agent page : Nat) : Option (Nat × Nat) := SMap.get (fun _ => none) s.obs.latch (4096 * agent + page)
def State.setLatch (s : State) (agent page : Nat) (v : Option (Nat × Nat)) : State :=
  { s with obs := { s.obs with latch := SMap.set (fun _ => none) s.obs.latch (4096 * agent + page) v } }

/-- Whether an address is a word of a page's counters. -/
def counterAt (a : Nat) : Bool := decide (a < pageLimit) && decide (0x80 ≤ a % 4096) && decide (a % 4096 < 0xc0)

/-- A read of a counter's word through the latch, the counters standing as in `v`: a low word fills it, and the agent's
next read on the page uses it up. -/
def State.readCounter (s v : State) (agent page o : Nat) : Nat × State :=
  let n := (o - 0x80) / 8
  let c := v.counter page n
  if o % 8 = 0 then (c % 2 ^ 32, s.setLatch agent page (some (n, c / 2 ^ 32)))
  else
    let w := match s.latch agent page with
      | some (m, h) => if m = n then h else c / 2 ^ 32
      | none => c / 2 ^ 32
    (w, s.setLatch agent page none)

/-- The highest reading that a read clears (R478): PWR.DOM and THERM.SENS. -/
def State.readClears (s : State) (a : Nat) : State :=
  let seen (i : Nat) (t : State) : State := { t with pwr := { t.pwr with seen := SMap.set (fun _ => false) t.pwr.seen i false } }
  if 0xf04180 ≤ a ∧ a < 0xf041ac then seen (128 + (a - 0xf04180) / 4) (s.put (F.THERM_PWR_DOM_PMAX ((a - 0xf04180) / 4)) 0)
  else if 0xf04200 ≤ a ∧ a < 0xf04400 then seen ((a - 0xf04200) / 4) (s.put (F.THERM_SENS_TMAX ((a - 0xf04200) / 4)) 0)
  else s

/-- A read of a counter is answered as its core clock ends (R511). -/
def State.queueRead (s : State) (agent a : Nat) (back : Bool) : State :=
  { s with obs := { s.obs with reads := s.obs.reads ++ [⟨agent, a, back⟩] } }

/-- What a read of another word leaves; one on a register page also uses the agent's latch there up, behind the reads
that this core clock still answers. -/
def State.readOther (s : State) (agent a : Nat) : State :=
  if placeAt a = .page then
    let t := s.readClears a
    if s.obs.reads.any fun q => q.agent == agent && q.addr / 4096 == a / 4096 then t.queueRead agent a false
    else t.setLatch agent (a / 4096) none
  else s

/-- The core clock ends for a read that it answers, the counters standing as in `v`. -/
def State.closeRead (v s : State) (q : CntRead) : State :=
  if counterAt q.addr then
    let r := s.readCounter v q.agent (q.addr / 4096) (q.addr % 4096)
    if q.back then r.2.emit (.readData q.agent q.addr r.1) else r.2.answerRead q.agent r.1
  else s.setLatch q.agent (q.addr / 4096) none

/-- The reads of a core clock are answered as it ends, in their order; in T_SNAP with what the snapshot shows (R511). -/
def State.readsClose (s : State) : State :=
  let v := if s.obs.snapEnd.isSome then s.counted else s
  s.obs.reads.foldl (State.closeRead v) { s with obs := { s.obs with reads := [] } }

/-- A read of a register-page word whose data return to its agent. -/
def State.hostRead (s : State) (agent a : Nat) : State :=
  if !s.answers a ∨ placeAt a = .unmapped then s.emit (.readData agent a 0)
  else if counterAt a then s.queueRead agent a true
  else (s.readOther agent a).emit (.readData agent a (s.shown a))

/-- A read of one word by the Rill chain or the TAP: its data and the code that goes with them, or none where the word
comes later: a counter's as the core clock ends, one of stacked memory from its channel (R300), and one of the photonic
die under a grant of its bus (R340).  All come to State.answerRead. -/
def State.portRead (s : State) (agent a : Nat) : Option (Nat × Nat) × State :=
  let w := a / 4 * 4
  let o := w - 0x8000000
  if placeAt w = .unmapped then (some (0, Rej.UNMAPPED), s)
  else if !s.answers w then (some (0, 0), s)
  else if placeAt w = .aperture then
    if s.apRefused o 4 ∨ (s.locate (s.apAddr o)).isNone then (some (0xffffffff, Rej.RANGE), s) else (none, s.apWord agent o)
  else if glassReadable w then (none, s.glassAsk agent w)
  else if counterAt w then (none, s.queueRead agent w false)
  else (some (s.shown w, 0), s.readOther agent w)

/-! ### The commands -/

/-- COUNTER_LO_READ, and with `next` the agent's next read on the page, of its word `next`: for a read of 64 bits the
COUNT_HI word (R397, R506). -/
def execCounterLoRead (agent : Agent) (page : Fin 4096) (n : Fin 8) (next : Option (Fin 1024)) (s : State) : Out :=
  let t := s.hostRead agent.val (page.val * 4096 + 0x80 + 8 * n.val)
  finishSpc s (match next with
    | some w => t.hostRead agent.val (page.val * 4096 + 4 * w.val)
    | none => t)
def execPwrDomRead (agent : Agent) (d : Fin 11) (s : State) : Out := finishSpc s (s.hostRead agent.val (0xf04180 + 4 * d.val))
def execThermSensRead (agent : Agent) (i : Fin 128) (s : State) : Out := finishSpc s (s.hostRead agent.val (0xf04200 + 4 * i.val))

end Sys2Proof.Machine
end

