-- ==== Sys2Proof/Machine/Board.lean ====
section
/-! DEFINITION. The board's sides of the part: the reference inputs (R547, R555), the test access port (R553, R554) and
the Rill chain (R419 to R424). -/

namespace Sys2Proof.Machine

/-! ### Reference inputs (R547) -/

/-- Presence of the inputs, as judged; t0 of R499 has come once both are present (R551). -/
def State.setRefs (s : State) (a b : Bool) : State :=
  ({ s with board := { s.board with refA := a, refB := b, t0 := s.board.t0 || (a && b) } } : State).put
    F.GLOBAL_BOARDSTAT_REFS_OK (a && b).toNat

/-- Change a bit of BOARDSTAT and log the change. -/
def State.boardBit (s : State) (f : FRef) (v : Nat) : State :=
  if s.get f = v then s
  else
    let t := s.put f v
    t.logState 0x170 (s.word 0x170).toNat (t.word 0x170).toNat

/-- A port's octet loses its reference: it leaves UP, or its attempt fails, with reason 2. -/
def State.refDown (s : State) (p : Nat) : State :=
  let st := s.portState p
  if st = 5 then s.leaveUp p 2 else if 2 ≤ st ∧ st ≤ 4 then s.failAttempt p 2 else s

/-- The lanes of the octets that an input feeds (R29). -/
def refLanes (b : Bool) : List Nat := (List.range 512).map fun i => if b then 512 + i else i

/-- The PLLs of the lost input switch to the other, and those of the other that ran from it switch back. -/
def State.refSwitch (s : State) (b : Bool) : State :=
  if b then (s.boardBit F.GLOBAL_BOARDSTAT_ON_B 0).boardBit F.GLOBAL_BOARDSTAT_ON_A 1
  else (s.boardBit F.GLOBAL_BOARDSTAT_ON_A 0).boardBit F.GLOBAL_BOARDSTAT_ON_B 1

/-- REFCLK_LOSS: input A, or B, is lost.  With both lost the PLLs hold. -/
def State.refLoss (s : State) (b : Bool) : State :=
  if !(if b then s.board.refB else s.board.refA) then s
  else
    let t := if b then s.setRefs s.board.refA false else s.setRefs false s.board.refB
    let f := if b then F.GLOBAL_BOARDSTAT_REFB_LOST else F.GLOBAL_BOARDSTAT_REFA_LOST
    let u := t.raise f
    let v := u.logState 0x170 (s.word 0x170).toNat (u.word 0x170).toNat
    let w := if t.board.refA || t.board.refB then v.refSwitch b else v
    (refLanes b).foldl State.refDown w

/-- REFCLK_RETURN: an input is present again.  After the loss of both, every PLL switches to it. -/
def State.refReturn (s : State) (b : Bool) : State :=
  if (if b then s.board.refB else s.board.refA) then s
  else
    let none_ : Bool := !s.board.refA && !s.board.refB
    let t := if b then s.setRefs s.board.refA true else s.setRefs true s.board.refB
    if none_ then t.refSwitch (!b) else t

/-- A return of the other input in the core clock of a loss is judged first. -/
def State.returnsFirst (s : State) (b : Bool) : State :=
  let comes : Bool := s.pending.any fun i => match i with
    | .refclkReturn c => c != b
    | _ => false
  if comes then s.refReturn (!b) else s

/-- The presence of an input as a part that stands still keeps it. -/
def State.refSeen (s : State) (b present : Bool) : State :=
  { s with board := { s.board with refA := if b then s.board.refA else present, refB := if b then present else s.board.refB } }

/-- The end of a command about the reference inputs: `t` is its effect on a part that does not stand still. -/
def State.refFinish (s : State) (b present : Bool) (t : State) : Out := if s.stopped then done s (s.refSeen b present) else finish s t

/-! ### Balls of the boundary register (R536 to R538, R553) -/

/-- A base position turned for the die `n`: 256 × row + column. -/
def turned (n r c : Nat) : Nat :=
  match n with
  | 0 => 256 * r + c
  | 1 => 256 * c + (153 - r)
  | 2 => 256 * (153 - r) + (153 - c)
  | _ => 256 * (153 - c) + r

/-- The ball of a cage's ModPrsL (0), IntL (1), ResetL (2) or LPMode (3). -/
def cageBall (k c : Nat) : Nat := turned (c / 32) (48 + 2 * k) (49 + c % 32)

/-- The balls of R538 that have cells: PERST_L, the two-wire masters, the Rill chain, the flash, PPS, the reset and trip
pins, and the regulator bus. -/
def miscBalls : List Nat :=
  [256 * 6 + 7] ++ ((List.range 32).map fun i => 256 * 14 + 3 + i) ++ ((List.range 4).map fun i => 256 * 18 + 3 + i)
    ++ ((List.range 6).map fun i => 256 * 22 + 3 + i) ++ [256 * 24 + 3, 256 * 24 + 4]
    ++ ((List.range 3).map fun i => 256 * 26 + 3 + i) ++ (List.range 3).map fun i => 256 * 28 + 3 + i

/-- The 563 balls in ascending row, then column; the first lies at the TDI end. -/
def tapBalls : List Nat :=
  (miscBalls ++ (List.range 512).map fun i => cageBall (i / 128) (i % 128)).foldl (fun l a => insertAddr a l) []

/-- Place of cell `j` of ball `i` in the register, whose bit 0 leaves at TDO first.  DESIGN CHOICE: a ball's input cell (0)
lies toward TDI of its output cell (1), and that of its control cell (2), which drives the ball while 1. -/
def cellBit (i j : Nat) : Nat := 1688 - (3 * i + j)

/-- The level at a ball where the state tells it: the modules' presence and interrupt, TOK_IN, TOK_OUT, and THERM_TRIP_L. -/
def State.ballLevel (s : State) (k : Nat) : Option Bool :=
  if k = 256 * 18 + 5 then some (s.on F.RILL_STAT_TOK_IN)
  else if k = 256 * 18 + 6 then some (s.on F.RILL_STAT_TOK_OUT)
  else if k = 256 * 26 + 5 then some (!s.pwr.trip)
  else match (List.range 128).find? fun c => cageBall 0 c == k || cageBall 1 c == k with
    | some c => some (!(s.on (if cageBall 0 c = k then F.LANE_CAGESTAT_PRESENT (cagePage c) else F.LANE_CAGESTAT_INT (cagePage c))))
    | none => none

/-- Balls that the part's own logic drives to a level that the state tells. -/
def drivenBall (k : Nat) : Bool := k == 256 * 18 + 6 || k == 256 * 26 + 5

/-- What the boundary register captures: at an input cell the ball, which under EXTEST shows the output cell that drives
it; at an output cell what the logic drives.  What the state does not tell is a free value (R553). -/
def State.tapCapture (s : State) : Nat :=
  let cells := s.mgmt.tap.boundary
  let free (n : Nat) : Bool := (Config.freeBits s.freeCtr n).toNat % 2 == 1
  (tapBalls.zipIdx).foldl (fun v (x : Nat × Nat) =>
    let out := cells.getLsbD (cellBit x.2 1)
    let pin := if s.mgmt.tap.extest && cells.getLsbD (cellBit x.2 2) then out else (s.ballLevel x.1).getD (free (3 * x.2))
    let own := if drivenBall x.1 then (s.ballLevel x.1).getD false else free (3 * x.2 + 1)
    v + pin.toNat * 2 ^ cellBit x.2 0 + own.toNat * 2 ^ cellBit x.2 1 + (free (3 * x.2 + 2)).toNat * 2 ^ cellBit x.2 2) 0

/-- The balls that EXTEST drives, by row and column, with their levels. -/
def State.tapDriven (s : State) : List (Nat × Nat × Bool) :=
  let cells := s.mgmt.tap.boundary
  (tapBalls.zipIdx).filterMap fun (x : Nat × Nat) =>
    if cells.getLsbD (cellBit x.2 2) then some (x.1 / 256, x.1 % 256, cells.getLsbD (cellBit x.2 1)) else none

/-! ### The test access port (R553, R554) -/

/-- The identification register: stepping, 0x5120, 0x4A3 and bit 0. -/
def tapId : Nat := Config.stepping.toNat * 2 ^ 28 + 0x5120 * 2 ^ 12 + 0x4a3 * 2 + 1

/-- Width of the data register that an instruction selects. -/
def tapWidth (ir : Nat) : Nat :=
  match ir with
  | 0x01 => 32
  | 0x02 => 1689
  | 0x03 => 1689
  | 0x20 => 62
  | _ => 1

/-- REGACC as Capture-DR gives it. -/
def TapSt.capture (t : TapSt) : Nat := t.addr * 2 ^ 35 + t.data * 8 + t.status

/-- An instruction is selected; EXTEST holds while it is. -/
def State.tapSelect (s : State) (ir : Nat) (ext : Bool) : State :=
  { s with mgmt := { s.mgmt with tap := { s.mgmt.tap with ir := ir, extest := ext } } }

/-- What a scan of the selected data register shifts out. -/
def State.tapOut (s : State) (v : Nat) : State := s.emit (.tdo (tapWidth s.mgmt.tap.ir) v)

/-- A scan of the boundary register: Capture-DR, and Update-DR of the cells shifted in. -/
def State.tapCells (s : State) (cells : Option (BitVec 1689)) : State :=
  match cells with
  | some c =>
    let t := (s.tapOut s.tapCapture).freshFree
    { t with mgmt := { t.mgmt with tap := { t.mgmt.tap with boundary := c } } }
  | none => s

/-- TAP_IDCODE: the identification register is selected and read. -/
def State.tapIdcode (s : State) : State := (s.tapSelect 0x01 false).tapOut tapId

/-- TAP_EXTEST: the boundary register drives the balls. -/
def State.tapExtest (s : State) (cells : Option (BitVec 1689)) : State :=
  let t := (s.tapSelect 0x03 true).tapCells cells
  t.emit (.driven t.tapDriven)

/-- TAP_BYPASS: the code of BYPASS, or one that no instruction has; its bit captures 0. -/
def State.tapBypass (s : State) (code : Nat) : State :=
  if [0x01, 0x02, 0x03, 0x20].contains code then s else (s.tapSelect code false).tapOut 0

/-- The TAP's access: its STATUS, its address, and the data of the last read. -/
def State.setAccess (s : State) (status addr data : Nat) : State :=
  { s with mgmt := { s.mgmt with tap := { s.mgmt.tap with status := status, addr := addr, data := data } } }

/-- One access of the TAP agent, which leaves its STATUS: busy until a word that comes later has come. -/
def State.tapAccess (s : State) (write : Bool) (addr v : Nat) : State :=
  let a := addr * 4
  let d := s.mgmt.tap.data
  if write then
    let r := s.busWrite 3 a v 15
    r.2.setAccess (if r.1 = 0 then 0 else 2) addr d
  else match s.portRead 3 a with
    | (none, t) => t.setAccess 1 addr d
    | (some (w, c), t) =>
      if c = Rej.RANGE then (t.reject 3 a 0 c).setAccess 2 addr d else t.setAccess 0 addr w

/-- TAP_REGACC: Capture-DR shows the last access, and Update-DR starts one, or is ignored while one is busy. -/
def State.tapRegacc (s : State) (write : Bool) (addr v : Nat) : State :=
  let t := (s.tapSelect 0x20 false).tapOut s.mgmt.tap.capture
  if s.mgmt.tap.status = 1 then t else t.tapAccess write addr v

/-! ### Rill frames (R420, R421) -/

/-- What a part does with a frame. -/
inductive RillKind where
  | checkErr | read | write | ping | enum | clear | repeat_
  deriving DecidableEq, Repr

/-- The part's own address. -/
def State.rillAddr (s : State) : Nat := s.get F.RILL_STAT_ADDR

/-- Fields of a frame. -/
def rAddr (b : List Byte) : Nat := hbits b 2 7
def rBcast (b : List Byte) : Bool := hbits b 1 1 == 1
def rResp (b : List Byte) : Bool := hbits b 0 0 == 1
def rOp (b : List Byte) : Nat := hbits b 8 15
def rTag (b : List Byte) : Nat := hbits b 16 23
def rLen (b : List Byte) : Nat := hbits b 24 31
def rArg (b : List Byte) : Nat := hbits b 32 63

/-- Whether the frame's check is right. -/
def rillCheckOk (b : List Byte) : Bool :=
  let n := b.length - 4
  decide (12 ≤ b.length) && beNat (b.drop n) == crcStd (b.take n)

/-- The kind of a request to the part itself; LEN 0 makes a READ or WRITE a PING (R422). -/
def rillOwn (b : List Byte) : RillKind :=
  match rOp b with
  | 0x01 => if rLen b = 0 then .ping else .read
  | 0x02 => if rLen b = 0 then .ping else .write
  | 0x04 => .clear
  | _ => .ping

/-- What the part does with a frame (R421). -/
def State.rillKind (s : State) (b : List Byte) : RillKind :=
  if !rillCheckOk b then .checkErr
  else if rResp b then .repeat_
  else if rBcast b then (if rOp b = 0x02 ∧ rLen b ≠ 0 then .write else if rOp b = 0x04 then .clear else .repeat_)
  else if rOp b = 0x03 ∧ s.on F.RILL_STAT_TOK_IN ∧ s.rillAddr = 0 ∧ hbits b 32 39 ≠ 0 then .enum
  else if s.rillAddr ≠ 0 ∧ rAddr b = s.rillAddr then rillOwn b
  else .repeat_

/-- Core clocks of a frame on the line: 200 ns a byte, with its two control symbols. -/
def rillClocks (n : Nat) : Nat := (n + 2) * 320

/-- A frame goes downstream. -/
def State.rillSend (s : State) (b : List Byte) : State := s.emit (.rill b)

/-- The part answers a request, under its address `own`. -/
def State.rillRespond (s : State) (own : Nat) (b : List Byte) (code : Nat) (data : List Byte) : State :=
  let r := rillFrame (128 + own) (rOp b) (rTag b) (data.length / 4) (beBytes 2 code ++ beBytes 2 0) data
  let t := s.rillSend r
  { t with mgmt := { t.mgmt with rillUntil := t.now + rillClocks r.length } }

/-- A request that this part performs is counted (R433). -/
def State.rillCount (s : State) : State := s.countMgmt Ev.RILL_REQ 1

/-! ### What requests do (R422, R423) -/

/-- Hold the READ that is being performed. -/
def State.setRillPend (s : State) (p : Option RillRead) : State := { s with mgmt := { s.mgmt with rillPend := p } }

/-- The READ being performed asks for its next word, unless one is on its way, and answers once it has them all; its CODE
is the first that a word brought. -/
def State.rillStep (s : State) : State :=
  match s.mgmt.rillPend with
  | none => s
  | some p =>
    if p.waits then s
    else if p.got.length < rLen p.frame then
      match s.portRead 1 (rArg p.frame + 4 * p.got.length) with
      | (none, t) => t.setRillPend (some { p with waits := true })
      | (some (v, c), t) => t.setRillPend (some { p with got := p.got ++ [v], code := if p.code = 0 then c else p.code })
    else ((s.setRillPend none).rillRespond s.rillAddr p.frame p.code (p.got.flatMap (leBytes 4))).rillCount

/-- What can be read at once of a READ is, and it is answered if that is all: at most 16 words and the response. -/
def State.rillGo (s : State) : State := (List.range 17).foldl (fun t _ => t.rillStep) s

/-- RILL_READ. -/
def State.rillRead (s : State) (b : List Byte) : State :=
  if 16 < rLen b then (s.rillRespond s.rillAddr b Rej.RANGE []).rillCount else (s.setRillPend (some { frame := b })).rillGo

/-- The words of a WRITE, in ascending order: the first rejection, and the state. -/
def State.rillWriteWords (s : State) (a : Nat) (d : List Byte) : Nat × State :=
  (List.range (d.length / 4)).foldl (fun (r : Nat × State) i =>
    let x := r.2.busWrite 1 (a + 4 * i) (leAt d (4 * i) 4) 15
    (if r.1 = 0 then x.1 else r.1, x.2)) (0, s)

/-- A WRITE: its code, and what it leaves.  One that leaves its page or window, or does not hold LEN words, writes
nothing. -/
def State.rillWriteAll (s : State) (b : List Byte) : Nat × State :=
  let n := rLen b
  let a := rArg b
  if 16 < n ∨ b.length ≠ 12 + 4 * n ∨ leaves a n then (Rej.RANGE, s) else s.rillWriteWords a (slice b 8 (4 * n))

/-- RILL_WRITE: answered, or with BCAST repeated without an answer. -/
def State.rillWrite (s : State) (b : List Byte) : State :=
  let r := s.rillWriteAll b
  if rBcast b then (r.2.rillSend b).rillCount else (r.2.rillRespond s.rillAddr b r.1 []).rillCount

/-- RILL_PING: also what is addressed to the part and is no request that it performs, which is answered REJ_RANGE. -/
def State.rillPing (s : State) (b : List Byte) : State :=
  let code := if [0x01, 0x02, 0x06].contains (rOp b) then 0 else Rej.RANGE
  (s.rillRespond s.rillAddr b code []).rillCount

/-- RILL_ENUM: the part takes the address, asserts TOK_OUT, and answers with IDENT and its EUI-64. -/
def State.rillEnum (s : State) (b : List Byte) : State :=
  let own := hbits b 32 39 % 64
  let t := (s.put F.RILL_STAT_ADDR own).emit (.pin "TOK_OUT" (own != 0))
  let e := Config.eui64.toNat
  (t.rillRespond own b 0 (leBytes 4 (s.word 0).toNat ++ leBytes 4 (e / 2 ^ 32) ++ leBytes 4 (e % 2 ^ 32))).rillCount

/-- RILL_CLEAR: the address is 0; TOK_OUT is deasserted. -/
def State.rillClear (s : State) (b : List Byte) : State :=
  let t := (State.dropToken s s).put F.RILL_STAT_ADDR 0
  if rBcast b then (t.rillSend b).rillCount else (t.rillRespond s.rillAddr b 0 []).rillCount

/-- RILL_REPEAT: a frame goes on; a broadcast READ, ENUM or PING, which a WRITE with LEN 0 is, is counted. -/
def State.rillRepeat (s : State) (b : List Byte) : State :=
  let t := s.rillSend b
  if !rResp b && rBcast b && ([0x01, 0x03, 0x06].contains (rOp b) || (rOp b == 0x02 && rLen b == 0)) then t.countMgmt Ev.RILL_BCAST_BAD 1 else t

/-- RILL_CHECK_ERR. -/
def State.rillBad (s : State) (_ : List Byte) : State := s.countMgmt Ev.RILL_CHECK_ERR 1

/-! ### Arrival (R421) -/

/-- Whether the part is performing a READ or sending a response. -/
def State.rillBusy (s : State) : Bool := s.mgmt.rillPend.isSome || decide (s.now < s.mgmt.rillUntil)

/-- A frame waits in the buffer of four. -/
def State.rillHold (s : State) (b : List Byte) : State :=
  if s.mgmt.rillBuf.length < 4 then { s with mgmt := { s.mgmt with rillBuf := s.mgmt.rillBuf ++ [b] } } else s

/-- A frame of a kind is handled. -/
def State.rillTake (s : State) (k : RillKind) (f : State → List Byte → State) (b : List Byte) : State :=
  if s.rillKind b = k then f s b else s

/-- A frame arrives (`some`), or the oldest that waits is taken (`none`).  EXTEST stops the chain (R553). -/
def State.rillRun (s : State) (frame : Option (List Byte)) (k : RillKind) (f : State → List Byte → State) : State :=
  if s.mgmt.tap.extest then s
  else match frame with
  | some b =>
    let t := s.put F.RILL_STAT_RXLOCK 1
    if s.rillBusy || !s.mgmt.rillBuf.isEmpty then t.rillHold b else t.rillTake k f b
  | none =>
    if s.rillBusy then s
    else match s.mgmt.rillBuf with
    | [] => s
    | b :: rest =>
      if s.rillKind b = k then f { s with mgmt := { s.mgmt with rillBuf := rest } } b else s

/-- RILL_OVERRUN: a frame that finds the buffer full. -/
def State.rillOverrun (s : State) : State :=
  if s.mgmt.rillBuf.length < 4 || s.mgmt.tap.extest then s else s.countMgmt Ev.RILL_OVERRUN 1

/-- TOK_IN, and comma alignment on RILL_RX, as they stand. -/
def State.setTokIn (s : State) (t : Bool) : State := s.put F.RILL_STAT_TOK_IN t.toNat
def State.setLock (s : State) (l : Bool) : State := s.put F.RILL_STAT_RXLOCK l.toNat

/-! ### The commands -/

def execRefclkLoss (b : Bool) (s : State) : Out := s.refFinish b false ((s.returnsFirst b).refLoss b)
def execRefclkReturn (b : Bool) (s : State) : Out := s.refFinish b true (s.refReturn b)
def execTapIdcode (s : State) : Out := finishAlways s s.tapIdcode
def execTapSamplePreload (cells : Option (BitVec 1689)) (s : State) : Out := finishAlways s ((s.tapSelect 0x02 false).tapCells cells)
def execTapExtest (cells : Option (BitVec 1689)) (s : State) : Out := finishAlways s (s.tapExtest cells)
def execTapBypass (code : BitVec 8) (s : State) : Out := finishAlways s (s.tapBypass code.toNat)
def execTapRegacc (write : Bool) (addr : BitVec 26) (value : BitVec 32) (s : State) : Out :=
  finishSpc s (s.tapRegacc write addr.toNat value.toNat)
def execRillRead (frame : Option (List Byte)) (s : State) : Out := finishSpc s (s.rillRun frame .read State.rillRead)
def execRillWrite (frame : Option (List Byte)) (s : State) : Out := finishSpc s (s.rillRun frame .write State.rillWrite)
def execRillPing (frame : Option (List Byte)) (s : State) : Out := finishSpc s (s.rillRun frame .ping State.rillPing)
/-- RILL_ENUM; without a frame and with none waiting it tells a change of TOK_IN or of the alignment. -/
def execRillEnum (frame : Option (List Byte)) (token lock : Bool) (s : State) : Out :=
  finishSpc s (((s.setTokIn token).setLock lock).rillRun frame .enum State.rillEnum)
def execRillClear (frame : Option (List Byte)) (s : State) : Out := finishSpc s (s.rillRun frame .clear State.rillClear)
def execRillRepeat (frame : Option (List Byte)) (s : State) : Out := finishSpc s (s.rillRun frame .repeat_ State.rillRepeat)
/-- RILL_CHECK_ERR; `lock` tells whether the alignment that the frame came in holds. -/
def execRillCheckErr (frame : Option (List Byte)) (lock : Bool) (s : State) : Out :=
  finishSpc s ((s.rillRun frame .checkErr State.rillBad).setLock lock)
def execRillOverrun (_ : List Byte) (s : State) : Out := finishSpc s s.rillOverrun

end Sys2Proof.Machine
end

