-- ==== Sys2Proof/Machine/Tick.lean ====
section
/-! DEFINITION. What passes when no command waits: one core clock (R372, R373). -/

namespace Sys2Proof.Machine

/-- Clocks of Basin `b`'s island that begin in the core clock that passes (R26, R268): the island runs at 800 MHz +
25 MHz × EFF, and the core at 1.6 GHz; stretched, it runs at half of that (R461). DESIGN CHOICE: its phase is that of
the count of core clocks. -/
def State.islandClocks (s : State) (b : Nat) : Nat :=
  let f := 32 + s.get (F.BASIN_CLK_EFF b)
  let d := if SMap.get (fun _ => 0) s.pwr.stretch (129 + b) = 0 then 64 else 128
  (s.now + 1) * f / d - s.now * f / d

/-- BSN_CYCLES counts each Basin's island clocks (R509). -/
def State.countCycles (s : State) : State :=
  (List.range 50).foldl (fun t b => t.countBasin b Ev.BSN_CYCLES (s.islandClocks b)) s

/-- The end of a core clock: the servo takes its samples, RELEASEs of ARMED slots act, its automatic fence decisions are
taken, CORE_CLK counts it, its reads of counters are answered, a snapshot and a log copy that it accepted take what then
stands, and the counters selected in it begin to count (R379, R415, R445, R505, R506, R509, R511, R525). -/
def State.clockEnd (s : State) : State :=
  (s.samplesClose.releasesClose.fencesClose.countCycles.countIn (fun _ => true) Ev.CORE_CLK 1).readsClose.snapClose.selClose.copyClose.setClose

/-- After a trip only the SPC island goes on: what it reads is answered, and the time that it measures passes (R468). -/
def State.spcTick (s : State) : State :=
  let t := s.readsClose.setClose
  (({ t with time := { t.time with core := s.time.core + 1 } } : State).rillGo).settle

/-- One core clock passes: it ends, device time and the rings advance, a granted read of the photonic die is answered,
and vectors whose condition rose are signalled.  Nothing moves in a part that stands still.  DESIGN CHOICE: the queue
being empty is what lets a clock pass. -/
def State.idleTick (s : State) : State :=
  if s.board.held then s else if s.pwr.trip then s.spcTick else (s.clockEnd.tick.moveRings.glassReturn.glassAnswer.rillGo.prbsTick.validateTick).settle

end Sys2Proof.Machine
end

