-- ==== Sys2Proof/Machine/Dispatch.lean ====
section
/-! DEFINITION. One arm per command: the call of its meaning. -/

namespace Sys2Proof.Machine

def exec (i : Instr) (s : State) : Host.Outcome State Fault Refusal :=
  match i with
  | .linkFrameRx port bytes fec => Sys2Proof.Machine.execLinkFrameRx port bytes fec s
  | .creditRx port => Sys2Proof.Machine.execCreditRx port s
  | .censusRx port => Sys2Proof.Machine.execCensusRx port s
  | .downRx port => Sys2Proof.Machine.execDownRx port s
  | .advertRx port => Sys2Proof.Machine.execAdvertRx port s
  | .advackRx port => Sys2Proof.Machine.execAdvackRx port s
  | .linkLcRsv port => Sys2Proof.Machine.execLinkLcRsv port s
  | .creditTx port vc => Sys2Proof.Machine.execCreditTx port vc s
  | .censusTx port vc => Sys2Proof.Machine.execCensusTx port vc s
  | .advertTx port => Sys2Proof.Machine.execAdvertTx port s
  | .txFrameDone port bad => Sys2Proof.Machine.execTxFrameDone port bad s
  | .portEnable agent port => Sys2Proof.Machine.execPortEnable agent port s
  | .portDisable agent port => Sys2Proof.Machine.execPortDisable agent port s
  | .bringupAttempt port => Sys2Proof.Machine.execBringupAttempt port s
  | .signalAcquired port eyes => Sys2Proof.Machine.execSignalAcquired port eyes s
  | .alignAchieved port skew => Sys2Proof.Machine.execAlignAchieved port skew s
  | .bringupTimeout port locked => Sys2Proof.Machine.execBringupTimeout port locked s
  | .laneLos lane => Sys2Proof.Machine.execLaneLos lane s
  | .lockLoss lane => Sys2Proof.Machine.execLockLoss lane s
  | .ucwInterval port idle => Sys2Proof.Machine.execUcwInterval port idle s
  | .retrainEntryExpire port => Sys2Proof.Machine.execRetrainEntryExpire port s
  | .portRetrain agent port => Sys2Proof.Machine.execPortRetrain agent port s
  | .portClearFail agent port => Sys2Proof.Machine.execPortClearFail agent port s
  | .lanecfgWrite agent lane value => Sys2Proof.Machine.execLanecfgWrite agent lane value s
  | .groupReturnRelease port queue => Sys2Proof.Machine.execGroupReturnRelease port queue s
  | .cageInsert cage => Sys2Proof.Machine.execCageInsert cage s
  | .cageDebounce cage => Sys2Proof.Machine.execCageDebounce cage s
  | .cageRemove cage => Sys2Proof.Machine.execCageRemove cage s
  | .moduleReady cage facts => Sys2Proof.Machine.execModuleReady cage facts s
  | .datapathReady cage => Sys2Proof.Machine.execDatapathReady cage s
  | .cmisTimeout cage acked => Sys2Proof.Machine.execCmisTimeout cage acked s
  | .cmisMonitorPoll cage read => Sys2Proof.Machine.execCmisMonitorPoll cage read s
  | .cageIntl cage cleared read => Sys2Proof.Machine.execCageIntl cage cleared read s
  | .cageEnWrite agent cage value => Sys2Proof.Machine.execCageEnWrite agent cage value s
  | .cageaccGo agent cage value => Sys2Proof.Machine.execCageaccGo agent cage value s
  | .cageaccDone cage ack data => Sys2Proof.Machine.execCageaccDone cage ack data s
  | .ingressPacket pipe late => Sys2Proof.Machine.execIngressPacket pipe late s
  | .weirEthDebit port => Sys2Proof.Machine.execWeirEthDebit port s
  | .learnInsert pipe => Sys2Proof.Machine.execLearnInsert pipe s
  | .learnMove pipe => Sys2Proof.Machine.execLearnMove pipe s
  | .ageSweepVisit => Sys2Proof.Machine.execAgeSweepVisit s
  | .flush agent scope arg => Sys2Proof.Machine.execFlush agent scope arg s
  | .flushDone => Sys2Proof.Machine.execFlushDone s
  | .mcReplicate => Sys2Proof.Machine.execMcReplicate s
  | .epochCopy agent => Sys2Proof.Machine.execEpochCopy agent s
  | .epochCopyDone => Sys2Proof.Machine.execEpochCopyDone s
  | .epochDrainExpire => Sys2Proof.Machine.execEpochDrainExpire s
  | .epochFreeNow agent => Sys2Proof.Machine.execEpochFreeNow agent s
  | .skipCounterClear agent desc nolink value => Sys2Proof.Machine.execSkipCounterClear agent desc nolink value s
  | .schedSelect port => Sys2Proof.Machine.execSchedSelect port s
  | .launchDue port queue => Sys2Proof.Machine.execLaunchDue port queue s
  | .queueStall port queue => Sys2Proof.Machine.execQueueStall port queue s
  | .cisternSweep => Sys2Proof.Machine.execCisternSweep s
  | .resultHandoff => Sys2Proof.Machine.execResultHandoff s
  | .originPoolGrant launch => Sys2Proof.Machine.execOriginPoolGrant launch s
  | .colMatch => Sys2Proof.Machine.execColMatch s
  | .bsnAccumulate basin => Sys2Proof.Machine.execBsnAccumulate basin s
  | .markerAtBasin basin => Sys2Proof.Machine.execMarkerAtBasin basin s
  | .bsnFinish basin bad => Sys2Proof.Machine.execBsnFinish basin bad s
  | .kernelInvoke basin => Sys2Proof.Machine.execKernelInvoke basin s
  | .kernelReturn basin core ecc budget => Sys2Proof.Machine.execKernelReturn basin core ecc budget s
  | .ctxDeadline ctx => Sys2Proof.Machine.execCtxDeadline ctx s
  | .ctxComplete ctx => Sys2Proof.Machine.execCtxComplete ctx s
  | .ctxLingerExpire ctx => Sys2Proof.Machine.execCtxLingerExpire ctx s
  | .slotReleaseMsg => Sys2Proof.Machine.execSlotReleaseMsg s
  | .slotLedgerCheck => Sys2Proof.Machine.execSlotLedgerCheck s
  | .colqTailWrite agent queue tail => Sys2Proof.Machine.execColqTailWrite agent queue tail s
  | .commAdmit queue => Sys2Proof.Machine.execCommAdmit queue s
  | .commTeardown queue => Sys2Proof.Machine.execCommTeardown queue s
  | .ctxAlloc queue => Sys2Proof.Machine.execCtxAlloc queue s
  | .ctxAbort queue => Sys2Proof.Machine.execCtxAbort queue s
  | .memberFence queue => Sys2Proof.Machine.execMemberFence queue s
  | .templateSet queue => Sys2Proof.Machine.execTemplateSet queue s
  | .colCmdInvalid queue => Sys2Proof.Machine.execColCmdInvalid queue s
  | .teardownRelease comm => Sys2Proof.Machine.execTeardownRelease comm s
  | .teardownDone comm => Sys2Proof.Machine.execTeardownDone comm s
  | .insnSalu basin core op => Sys2Proof.Machine.execInsnSalu basin core op s
  | .insnSbr basin core op => Sys2Proof.Machine.execInsnSbr basin core op s
  | .insnSmem basin core op ecc => Sys2Proof.Machine.execInsnSmem basin core op ecc s
  | .insnVfp basin core op => Sys2Proof.Machine.execInsnVfp basin core op s
  | .insnVint basin core op => Sys2Proof.Machine.execInsnVint basin core op s
  | .insnVmem basin core op ecc => Sys2Proof.Machine.execInsnVmem basin core op ecc s
  | .insnVcvt basin core => Sys2Proof.Machine.execInsnVcvt basin core s
  | .insnVperm basin core op => Sys2Proof.Machine.execInsnVperm basin core op s
  | .insnSync basin core op => Sys2Proof.Machine.execInsnSync basin core op s
  | .insnVxa basin core => Sys2Proof.Machine.execInsnVxa basin core s
  | .insnSys basin core => Sys2Proof.Machine.execInsnSys basin core s
  | .mload basin core legal fmt choice regs => Sys2Proof.Machine.execMload basin core legal fmt choice regs s
  | .mstream basin core legal acc regs => Sys2Proof.Machine.execMstream basin core legal acc regs s
  | .mdrain basin core legal acc regs => Sys2Proof.Machine.execMdrain basin core legal acc regs s
  | .mfill basin core legal fmt choice acc regs => Sys2Proof.Machine.execMfill basin core legal fmt choice acc regs s
  | .mwait basin core legal => Sys2Proof.Machine.execMwait basin core legal s
  | .mrel basin core legal => Sys2Proof.Machine.execMrel basin core legal s
  | .matrixDone basin fault => Sys2Proof.Machine.execMatrixDone basin fault s
  | .dmaStart basin core => Sys2Proof.Machine.execDmaStart basin core s
  | .dmaPoll basin core => Sys2Proof.Machine.execDmaPoll basin core s
  | .dmaWait basin core => Sys2Proof.Machine.execDmaWait basin core s
  | .dmaDone basin ecc => Sys2Proof.Machine.execDmaDone basin ecc s
  | .arraySelftest agent basin startup => Sys2Proof.Machine.execArraySelftest agent basin startup s
  | .arraySelftestDone basin equal => Sys2Proof.Machine.execArraySelftestDone basin equal s
  | .arrayRetire agent basin => Sys2Proof.Machine.execArrayRetire agent basin s
  | .bsnClkTarget agent basin value => Sys2Proof.Machine.execBsnClkTarget agent basin value s
  | .bsnClkChange basin => Sys2Proof.Machine.execBsnClkChange basin s
  | .klLoad agent slot => Sys2Proof.Machine.execKlLoad agent slot s
  | .klLoadDone => Sys2Proof.Machine.execKlLoadDone s
  | .klUnload agent slot => Sys2Proof.Machine.execKlUnload agent slot s
  | .ringInject stop ring cls => Sys2Proof.Machine.execRingInject stop ring cls s
  | .ringDeliver stop ring cls => Sys2Proof.Machine.execRingDeliver stop ring cls s
  | .memRead chan ix facts => Sys2Proof.Machine.execMemRead chan ix facts s
  | .memWrite chan ix facts => Sys2Proof.Machine.execMemWrite chan ix facts s
  | .memAdd chan ix facts => Sys2Proof.Machine.execMemAdd chan ix facts s
  | .memFadd chan ix facts => Sys2Proof.Machine.execMemFadd chan ix facts s
  | .memFaddf chan ix facts => Sys2Proof.Machine.execMemFaddf chan ix facts s
  | .memSwap chan ix facts => Sys2Proof.Machine.execMemSwap chan ix facts s
  | .memCas chan ix facts => Sys2Proof.Machine.execMemCas chan ix facts s
  | .memFmin chan ix facts => Sys2Proof.Machine.execMemFmin chan ix facts s
  | .memFmax chan ix facts => Sys2Proof.Machine.execMemFmax chan ix facts s
  | .scrubLine chan facts => Sys2Proof.Machine.execScrubLine chan facts s
  | .rowRemapDone chan bank row fail facts => Sys2Proof.Machine.execRowRemapDone chan bank row fail facts s
  | .repairRequest agent chan bank row => Sys2Proof.Machine.execRepairRequest agent chan bank row s
  | .mapreqGo agent channel chan bank => Sys2Proof.Machine.execMapreqGo agent channel chan bank s
  | .mapoutStart => Sys2Proof.Machine.execMapoutStart s
  | .bankMapoutDone => Sys2Proof.Machine.execBankMapoutDone s
  | .marginFull agent chan => Sys2Proof.Machine.execMarginFull agent chan s
  | .marginScan agent chan => Sys2Proof.Machine.execMarginScan agent chan s
  | .marginDone chan rdW rdH wrW wrH pin errors pins => Sys2Proof.Machine.execMarginDone chan rdW rdH wrW wrH pin errors pins s
  | .arbGrant inst => Sys2Proof.Machine.execArbGrant inst s
  | .arbStarve inst req => Sys2Proof.Machine.execArbStarve inst req s
  | .apertureRead agent offset len => Sys2Proof.Machine.execApertureRead agent offset len s
  | .apertureWrite agent offset data => Sys2Proof.Machine.execApertureWrite agent offset data s
  | .glassBoundary plane => Sys2Proof.Machine.execGlassBoundary plane s
  | .glassSwitch => Sys2Proof.Machine.execGlassSwitch s
  | .glassDriveLoaded => Sys2Proof.Machine.execGlassDriveLoaded s
  | .glassRealignResume => Sys2Proof.Machine.execGlassRealignResume s
  | .glassSearch agent all fib => Sys2Proof.Machine.execGlassSearch agent all fib s
  | .glassSearchDone finds => Sys2Proof.Machine.execGlassSearchDone finds s
  | .nolightRetry => Sys2Proof.Machine.execNolightRetry s
  | .ringLockStep ring mon => Sys2Proof.Machine.execRingLockStep ring mon s
  | .ringUnlock ring mon => Sys2Proof.Machine.execRingUnlock ring mon s
  | .ringRelock ring heater mon => Sys2Proof.Machine.execRingRelock ring heater mon s
  | .glassInLos fibre lane power => Sys2Proof.Machine.execGlassInLos fibre lane power s
  | .glassInRestore fibre lane power => Sys2Proof.Machine.execGlassInRestore fibre lane power s
  | .glassPowerUpdate inputs outputs => Sys2Proof.Machine.execGlassPowerUpdate inputs outputs s
  | .glassBiasStep => Sys2Proof.Machine.execGlassBiasStep s
  | .glassHeadroomLow plane => Sys2Proof.Machine.execGlassHeadroomLow plane s
  | .glassOutLow output => Sys2Proof.Machine.execGlassOutLow output s
  | .glassMigGo agent plane => Sys2Proof.Machine.execGlassMigGo agent plane s
  | .glassMigArmed => Sys2Proof.Machine.execGlassMigArmed s
  | .glassMigDone => Sys2Proof.Machine.execGlassMigDone s
  | .glassReturn agent => Sys2Proof.Machine.execGlassReturn agent s
  | .timeLatch agent => Sys2Proof.Machine.execTimeLatch agent s
  | .timeSet agent => Sys2Proof.Machine.execTimeSet agent s
  | .timeAdj agent => Sys2Proof.Machine.execTimeAdj agent s
  | .timeFreqWrite agent freq => Sys2Proof.Machine.execTimeFreqWrite agent freq s
  | .timeSrcWrite agent ctl => Sys2Proof.Machine.execTimeSrcWrite agent ctl s
  | .hostSample agent frac => Sys2Proof.Machine.execHostSample agent frac s
  | .servoHoldover => Sys2Proof.Machine.execServoHoldover s
  | .ptpSyncRx => Sys2Proof.Machine.execPtpSyncRx s
  | .ptpFollowUpRx => Sys2Proof.Machine.execPtpFollowUpRx s
  | .ptpDelayReqRx => Sys2Proof.Machine.execPtpDelayReqRx s
  | .ptpDelayRespRx => Sys2Proof.Machine.execPtpDelayRespRx s
  | .ptpAnnounceRx => Sys2Proof.Machine.execPtpAnnounceRx s
  | .timeMsgUnsup => Sys2Proof.Machine.execTimeMsgUnsup s
  | .ptpSyncTx port => Sys2Proof.Machine.execPtpSyncTx port s
  | .ptpDelayReqTx => Sys2Proof.Machine.execPtpDelayReqTx s
  | .ptpAnnounceTx port => Sys2Proof.Machine.execPtpAnnounceTx port s
  | .ppsOutEdge => Sys2Proof.Machine.execPpsOutEdge s
  | .ppsOutFall => Sys2Proof.Machine.execPpsOutFall s
  | .ppsInEdge => Sys2Proof.Machine.execPpsInEdge s
  | .txnTimeFire => Sys2Proof.Machine.execTxnTimeFire s
  | .registerWrite agent addr value be => Sys2Proof.Machine.execRegisterWrite agent addr value be s
  | .flr => Sys2Proof.Machine.execFlr s
  | .txnClaim agent slot part => Sys2Proof.Machine.execTxnClaim agent slot part s
  | .txnValidate agent slot => Sys2Proof.Machine.execTxnValidate agent slot s
  | .txnValidateDone slot => Sys2Proof.Machine.execTxnValidateDone slot s
  | .txnCommitNow agent slot => Sys2Proof.Machine.execTxnCommitNow agent slot s
  | .txnCommitFlip agent slot => Sys2Proof.Machine.execTxnCommitFlip agent slot s
  | .txnCommitTime agent slot => Sys2Proof.Machine.execTxnCommitTime agent slot s
  | .txnApply slot => Sys2Proof.Machine.execTxnApply slot s
  | .txnRelease agent slot => Sys2Proof.Machine.execTxnRelease agent slot s
  | .irearm agent vector => Sys2Proof.Machine.execIrearm agent vector s
  | .msixUnmask agent vector => Sys2Proof.Machine.execMsixUnmask agent vector s
  | .rillRead frame => Sys2Proof.Machine.execRillRead frame s
  | .rillWrite frame => Sys2Proof.Machine.execRillWrite frame s
  | .rillPing frame => Sys2Proof.Machine.execRillPing frame s
  | .rillEnum frame token lock => Sys2Proof.Machine.execRillEnum frame token lock s
  | .rillClear frame => Sys2Proof.Machine.execRillClear frame s
  | .rillRepeat frame => Sys2Proof.Machine.execRillRepeat frame s
  | .rillCheckErr frame lock => Sys2Proof.Machine.execRillCheckErr frame lock s
  | .rillOverrun frame => Sys2Proof.Machine.execRillOverrun frame s
  | .fabricRequest => Sys2Proof.Machine.execFabricRequest s
  | .info src => Sys2Proof.Machine.execInfo src s
  | .echo src => Sys2Proof.Machine.execEcho src s
  | .svcUnknown src => Sys2Proof.Machine.execSvcUnknown src s
  | .launch src => Sys2Proof.Machine.execLaunch src s
  | .healthRead src => Sys2Proof.Machine.execHealthRead src s
  | .fence mb => Sys2Proof.Machine.execFence mb s
  | .unfence mb => Sys2Proof.Machine.execUnfence mb s
  | .fenceConfirm mb => Sys2Proof.Machine.execFenceConfirm mb s
  | .ptpDefaultds mb => Sys2Proof.Machine.execPtpDefaultds mb s
  | .annealRun mb => Sys2Proof.Machine.execAnnealRun mb s
  | .annealRead mb => Sys2Proof.Machine.execAnnealRead mb s
  | .store mb => Sys2Proof.Machine.execStore mb s
  | .fwOverride mb => Sys2Proof.Machine.execFwOverride mb s
  | .logCopy mb => Sys2Proof.Machine.execLogCopy mb s
  | .leafSuspect leaf => Sys2Proof.Machine.execLeafSuspect leaf s
  | .hardLinkDown leaf => Sys2Proof.Machine.execHardLinkDown leaf s
  | .scoreRecover leaf => Sys2Proof.Machine.execScoreRecover leaf s
  | .fenceWindowExpire => Sys2Proof.Machine.execFenceWindowExpire s
  | .sluiceFreeze agent page => Sys2Proof.Machine.execSluiceFreeze agent page s
  | .sluiceDrained page => Sys2Proof.Machine.execSluiceDrained page s
  | .sluiceTimeout page => Sys2Proof.Machine.execSluiceTimeout page s
  | .sluiceUnfreeze agent page => Sys2Proof.Machine.execSluiceUnfreeze agent page s
  | .droopTrip island => Sys2Proof.Machine.execDroopTrip island s
  | .stretchEnd island => Sys2Proof.Machine.execStretchEnd island s
  | .thermSensorSample readings => Sys2Proof.Machine.execThermSensorSample readings s
  | .thermEval => Sys2Proof.Machine.execThermEval s
  | .thermalTrip sensor reading flag => Sys2Proof.Machine.execThermalTrip sensor reading flag s
  | .pwrReadingUpdate readings => Sys2Proof.Machine.execPwrReadingUpdate readings s
  | .pwrCapEval => Sys2Proof.Machine.execPwrCapEval s
  | .capFail => Sys2Proof.Machine.execCapFail s
  | .pwrDomRead agent domain => Sys2Proof.Machine.execPwrDomRead agent domain s
  | .thermSensRead agent sensor => Sys2Proof.Machine.execThermSensRead agent sensor s
  | .annealScheduled => Sys2Proof.Machine.execAnnealScheduled s
  | .annealRunDone facts => Sys2Proof.Machine.execAnnealRunDone facts s
  | .pmAlert => Sys2Proof.Machine.execPmAlert s
  | .coldReset => Sys2Proof.Machine.execColdReset s
  | .warmReset agent => Sys2Proof.Machine.execWarmReset agent s
  | .dataReset agent => Sys2Proof.Machine.execDataReset agent s
  | .spcReset agent => Sys2Proof.Machine.execSpcReset agent s
  | .brownout => Sys2Proof.Machine.execBrownout s
  | .startupRun facts => Sys2Proof.Machine.execStartupRun facts s
  | .nvmRetire agent lane => Sys2Proof.Machine.execNvmRetire agent lane s
  | .nvmWriteDone => Sys2Proof.Machine.execNvmWriteDone s
  | .flashRead agent len => Sys2Proof.Machine.execFlashRead agent len s
  | .flashProgram agent len => Sys2Proof.Machine.execFlashProgram agent len s
  | .flashErase agent => Sys2Proof.Machine.execFlashErase agent s
  | .flashOpDone answered => Sys2Proof.Machine.execFlashOpDone answered s
  | .evselWrite agent page n value => Sys2Proof.Machine.execEvselWrite agent page n value s
  | .counterLoRead agent page n next => Sys2Proof.Machine.execCounterLoRead agent page n next s
  | .snapGo agent => Sys2Proof.Machine.execSnapGo agent s
  | .snapStop agent => Sys2Proof.Machine.execSnapStop agent s
  | .snapTrigger => Sys2Proof.Machine.execSnapTrigger s
  | .snapCopyDone ok => Sys2Proof.Machine.execSnapCopyDone ok s
  | .sampleRingWrite pipe => Sys2Proof.Machine.execSampleRingWrite pipe s
  | .logWrite => Sys2Proof.Machine.execLogWrite s
  | .logClear agent => Sys2Proof.Machine.execLogClear agent s
  | .logModeWrite agent mode => Sys2Proof.Machine.execLogModeWrite agent mode s
  | .logRptrWrite agent value => Sys2Proof.Machine.execLogRptrWrite agent value s
  | .refclkLoss b => Sys2Proof.Machine.execRefclkLoss b s
  | .refclkReturn b => Sys2Proof.Machine.execRefclkReturn b s
  | .perst => Sys2Proof.Machine.execPerst s
  | .tapIdcode => Sys2Proof.Machine.execTapIdcode s
  | .tapSamplePreload cells => Sys2Proof.Machine.execTapSamplePreload cells s
  | .tapExtest cells => Sys2Proof.Machine.execTapExtest cells s
  | .tapBypass code => Sys2Proof.Machine.execTapBypass code s
  | .tapRegacc write addr value => Sys2Proof.Machine.execTapRegacc write addr value s
  | .cmisStateTimeExpire cage ms => Sys2Proof.Machine.execCmisStateTimeExpire cage ms s
  | .brownoutRecovery => Sys2Proof.Machine.execBrownoutRecovery s
  | .spcRestartDone => Sys2Proof.Machine.execSpcRestartDone s
  | .pcieLinkChange width gen cfg => Sys2Proof.Machine.execPcieLinkChange width gen cfg s

end Sys2Proof.Machine
end

