-- ==== Sys2Proof/WellFormed.lean ====
section
/-! DEFINITION. Which commands can come to the part: the bounds of an operand that its type does not
say.  The meanings are total, and ask for none of this. -/

namespace Sys2Proof

/-- A list without repeats. -/
def distinct {α : Type} [DecidableEq α] : List α → Bool
  | [] => true
  | a :: l => !l.contains a && distinct l

/-- Each key is reported once. -/
def keyed {α β : Type} [DecidableEq α] (l : List (α × β)) : Bool := distinct (l.map Prod.fst)

/-- The data that a miscorrection returned are a codeword's 64 bytes (R275). -/
def CwFind.wf : CwFind → Bool
  | .miscorrected d => d.length == 64
  | _ => true

/-- One finding for each codeword named. -/
def factsWf (l : List (Fin 64 × CwFind)) : Bool := keyed l && l.all fun (p : Fin 64 × CwFind) => p.2.wf

/-- Numbers that rise strictly. -/
def risingFrom (lo : Nat) : List Nat → Bool
  | [] => true
  | a :: l => decide (lo ≤ a) && risingFrom (a + 1) l

/-- The peaks of a ring's sweep come at rising heater codes. -/
def RingFind.wf (f : RingFind) : Bool := risingFrom 0 (f.peaks.map fun p => p.1.toNat)

/-- A codeword that arrived with errors: each symbol once, and each with an error. -/
def CwRx.wf (c : CwRx) : Bool := !c.errors.isEmpty && keyed c.errors && c.errors.all fun e => e.2 != 0

/-- The codewords of each lane are reported once. -/
def lanesWf (l : List LaneFec) : Bool := distinct (l.map LaneFec.lane) && l.all fun x => x.bad.all CwRx.wf

/-- A module's answer: eight host lanes, and flag bytes of a page. -/
def ModuleRead.wf (r : ModuleRead) : Bool := r.paths.length == 8 && decide (r.flags.length ≤ 32)

/-- At most fifteen applications are advertised. -/
def ModuleFacts.wf (f : ModuleFacts) : Bool := decide (f.apps.length ≤ 15)

/-- A channel's PHY has up to 64 pins. -/
def MarginRead.wf (m : MarginRead) : Bool := decide (m.pins.length ≤ 64)

/-- One reading for each monitor, island and channel, one acknowledgement for each regulator. -/
def AnnealFacts.wf (f : AnnealFacts) : Bool :=
  keyed f.ro && keyed f.slack && keyed f.scans && (f.scans.all fun p => p.2.wf) && distinct f.noAck

/-- The same of what start-up met. -/
def StartFacts.wf (f : StartFacts) : Bool :=
  f.margin.wf && keyed f.margins && (f.margins.all fun p => p.2.wf) && f.anneal.wf && distinct f.noAck

/-- A frame on the lanes: at least the protocol selector and the check (R350), and within the 14 bits of
a stored length. -/
def linkFrameWf (bytes : List Byte) (fec : List LaneFec) : Bool :=
  decide (5 ≤ bytes.length) && decide (bytes.length < 16384) && lanesWf fec

/-- A Rill frame: header, ARG and check around 0 to 16 data words (R420). -/
def rillWf : Option (List Byte) → Bool
  | none => true
  | some b => decide (12 ≤ b.length) && decide (b.length ≤ 76)

/-- The widths a PCIe link trains to; 0 is a link that is down (R426). -/
def pcieWidths : List (Fin 9) := [0, 1, 2, 4, 8]

/-- The payload and read request sizes that the endpoint takes (R396). -/
def PcieCfg.wf (c : PcieCfg) : Bool :=
  [128, 256, 512].contains c.payload && [128, 256, 512, 1024, 2048, 4096].contains c.readReq

/-- The operands of a command lie within what the spec lets them be. -/
def Instr.wf : Instr → Bool
  | .linkFrameRx _ bytes fec => linkFrameWf bytes fec
  | .ucwInterval _ idle => lanesWf idle
  | .moduleReady _ facts => facts.wf
  | .cmisMonitorPoll _ read => read.wf
  | .cageIntl _ _ read => read.wf
  | .txFrameDone _ bad => distinct bad
  | .signalAcquired _ eyes => decide (eyes.length ≤ 8)
  | .alignAchieved _ skew => decide (skew.length ≤ 8)
  | .cageaccDone _ _ data => decide (data.length ≤ 128)
  | .memRead _ _ f => factsWf f
  | .memWrite _ _ f => factsWf f
  | .memAdd _ _ f => factsWf f
  | .memFadd _ _ f => factsWf f
  | .memFaddf _ _ f => factsWf f
  | .memSwap _ _ f => factsWf f
  | .memCas _ _ f => factsWf f
  | .memFmin _ _ f => factsWf f
  | .memFmax _ _ f => factsWf f
  | .scrubLine _ f => factsWf f
  | .rowRemapDone _ _ _ _ f => factsWf f
  | .marginDone _ _ _ _ _ _ _ pins => decide (pins.length ≤ 64)
  | .apertureRead _ _ len => decide (0 < len.val)
  | .apertureWrite _ _ data => decide (0 < data.length) && decide (data.length ≤ 4096)
  | .glassSearchDone finds => distinct (finds.map RingFind.ring) && finds.all RingFind.wf
  | .glassPowerUpdate inputs outputs => keyed inputs && keyed outputs
  | .thermSensorSample r => keyed r
  | .pwrReadingUpdate r => keyed r
  | .annealRunDone facts => facts.wf
  | .startupRun facts => facts.wf
  | .rillRead f => rillWf f
  | .rillWrite f => rillWf f
  | .rillPing f => rillWf f
  | .rillEnum f _ _ => rillWf f
  | .rillClear f => rillWf f
  | .rillRepeat f => rillWf f
  | .rillCheckErr f _ => rillWf f
  | .rillOverrun f => decide (12 ≤ f.length) && decide (f.length ≤ 76)
  | .pcieLinkChange width _ cfg => pcieWidths.contains width && cfg.all PcieCfg.wf
  | _ => true

end Sys2Proof
end

