-- ==== Sys2Proof/Safety.lean ====
section
/-! DEFINITION. What a sound state and a safe step of the block are, in the words the statements use. -/

namespace Sys2Proof.Machine

/-- The outcome is a next state: neither a fault nor a refusal. -/
def Answers (o : Out) : Prop := ∃ t, o = .next t

/-- Executing `c` on `s` answers a next state, of which `Q` holds. -/
def Completes (c : Instr) (s : State) (Q : State → Prop) : Prop := ∃ t, exec c s = .next t ∧ Q t

/-- What left the part between two states is `l`, newest first, and after it nothing but the signals of interrupt
vectors (R417, R424). -/
def Sent (s t : State) (l : List Emit) : Prop :=
  ∃ sig : List Emit, t.obs.out = sig ++ l ++ s.obs.out ∧
    ∀ e ∈ sig, (∃ v a d, e = .msix v a d) ∨ ∃ bs, e = .rill bs

/-- Every counter that selects the event on a page of the scope gained `n`, modulo 2^48 (R504, R507). -/
def Counted (s t : State) (scope : Nat → Bool) (ev n : Nat) : Prop :=
  ∀ k, SMap.get (fun _ => 0) s.obs.sel k = 0x80000000 + ev → scope (k / 8) = true → s.obs.counts k = true →
    SMap.get (fun _ => 0) t.obs.cnt k = (SMap.get (fun _ => 0) s.obs.cnt k + n) % 2 ^ 48

/-- A write of the word `v` at `a` that no rule of R403 refuses. -/
def State.accepts (s : State) (agent a v : Nat) : Prop :=
  placeAt (a / 4 * 4) ≠ .aperture ∧ s.busCode agent a v 15 = 0

/-- The commands that come from a link's wire or its timers (chapter 11), but for frames received. -/
def linkEvent : Instr → Bool
  | .creditRx _ | .censusRx _ | .downRx _ | .advertRx _ | .advackRx _ | .linkLcRsv _ | .creditTx _ _ | .censusTx _ _
  | .advertTx _ | .txFrameDone _ _ | .bringupAttempt _ | .signalAcquired _ _ | .alignAchieved _ _ | .bringupTimeout _ _
  | .laneLos _ | .lockLoss _ | .ucwInterval _ _ | .retrainEntryExpire _ => true
  | _ => false

/-- The commands that act while a brown-out holds the part: the resets that end it, what is not the part's own to stop
(NVM writes under way, the TAP), and the reference inputs (R544, R547, R551, R553). -/
def heldCommand : Instr → Bool
  | .coldReset | .warmReset none | .brownoutRecovery | .nvmWriteDone | .tapIdcode | .tapSamplePreload _ | .tapExtest _
  | .tapBypass _ | .refclkLoss _ | .refclkReturn _ => true
  | _ => false

/-- The commands of the SPC island, which a thermal trip leaves running (R468): writes and reads of registers, the Rill
chain, the TAP, the mailbox services that the SPC answers by itself, the flash, the log and the endpoint. -/
def spcCommand : Instr → Bool
  | .portEnable _ _ | .portDisable _ _ | .portRetrain _ _ | .portClearFail _ _ | .lanecfgWrite _ _ _ | .cageEnWrite _ _ _
  | .cageaccGo _ _ _ | .flush _ _ _ | .epochCopy _ | .epochFreeNow _ | .skipCounterClear _ _ _ _ | .colqTailWrite _ _ _
  | .arraySelftest _ _ _ | .arrayRetire _ _ | .bsnClkTarget _ _ _ | .klLoad _ _ | .klUnload _ _ | .repairRequest _ _ _ _
  | .mapreqGo _ _ _ _ | .marginFull _ _ | .marginScan _ _ | .glassSearch _ _ _ | .glassMigGo _ _ | .glassReturn _
  | .timeLatch _ | .timeSet _ | .timeAdj _ | .timeFreqWrite _ _ | .timeSrcWrite _ _ | .hostSample _ _
  | .registerWrite _ _ _ _ | .flr | .txnClaim _ _ _ | .txnValidate _ _ | .txnCommitNow _ _ | .txnCommitFlip _ _
  | .txnCommitTime _ _ | .txnRelease _ _ | .irearm _ _ | .msixUnmask _ _ | .rillRead _ | .rillWrite _ | .rillPing _
  | .rillEnum _ _ _ | .rillClear _ | .rillRepeat _ | .rillCheckErr _ _ | .rillOverrun _ | .info _ | .echo _
  | .svcUnknown _ | .healthRead _ | .ptpDefaultds _ | .annealRead _ | .store _ | .fwOverride _ | .logCopy _
  | .sluiceFreeze _ _ | .sluiceUnfreeze _ _ | .pwrDomRead _ _ | .thermSensRead _ _ | .dataReset _ | .spcReset _
  | .nvmRetire _ _ | .flashRead _ _ | .flashProgram _ _ | .flashErase _ | .flashOpDone _ | .evselWrite _ _ _ _
  | .counterLoRead _ _ _ _ | .snapGo _ | .snapStop _ | .logWrite | .logClear _ | .logModeWrite _ _ | .logRptrWrite _ _
  | .perst | .tapRegacc _ _ _ | .spcRestartDone | .pcieLinkChange _ _ _ | .warmReset _ => true
  | _ => false

/-- The collective engine's own events and the commands of its queues (chapter 6). -/
def collectiveEvent : Instr → Bool
  | .markerAtBasin _ | .ctxDeadline _ | .ctxComplete _ | .ctxLingerExpire _ | .slotReleaseMsg | .slotLedgerCheck
  | .teardownRelease _ | .teardownDone _ | .commAdmit _ | .commTeardown _ | .ctxAlloc _ | .ctxAbort _ | .memberFence _
  | .templateSet _ | .colCmdInvalid _ => true
  | _ => false

/-- Core `k` of Basin `b` issues the word `w` of class `cls` of the user kernel of `v`, and its budget does not end with
it (R234, R236). -/
def State.issues (s : State) (b k cls w : Nat) (v : Inv) : Prop :=
  (s.core b k).inv = some v ∧ 0x100 ≤ v.kernel ∧ s.issuing b = true ∧ (s.core b k).atBarrier = false
    ∧ s.fetch b k = some w ∧ iClass w = cls ∧ (s.core b k).issued + 1 < s.get (F.BASIN_KBUDGET_BUDGET b)

/-- A word that tagging (R270) or the pending bits of masked vectors (R417) may change while Basin `b` issues. -/
def tagWord (b a : Nat) : Bool :=
  a == 0xa0012c + 0x1000 * b || (decide (0x06100000 + 0x2000 * b ≤ a) && decide (a < 0x06102000 + 0x2000 * b))
    || (decide (0xe08800 ≤ a) && decide (a < 0xe08808))

/-- The core is `c`, goes on at `pc`, and has issued one more instruction. Beside it only tagging, the part's records
of itself, and the number of free values drawn may have changed. -/
def CoreAfter (s t : State) (b k : Nat) (c : CoreSt) (pc : Nat) : Prop :=
  (∃ l f, t.core b k = { c with pc := pc, issued := (s.core b k).issued + 1, lfsr := l, follow := f })
  ∧ (∃ cores bar obs set n, t = { s with
    bsn := { s.bsn with cores := cores }, bar := bar, obs := obs, setNow := set, freeCtr := n })
  ∧ (∀ j, j ≠ b * 24 + k → SMap.get (fun _ => {}) t.bsn.cores j = SMap.get (fun _ => {}) s.bsn.cores j)
  ∧ ∀ a, tagWord b a = false → t.word a = s.word a

/-- The grants of an invocation lie where R232 and R233 place them. -/
def State.granted (s : State) (v : Inv) : Prop :=
  v.ctx < 16384 ∧ v.vals.length ≤ 8192 ∧ scratchAddr v + s.scratchSize v ≤ 0x01600000

/-- Channel `c` may perform the whole of request `ix` of its queue under the grant that stands, at the place `l`, within
its page, and is not CONDEMNED (R279, R283, R290, R293, R298). -/
def State.ready (s : State) (c ix : Nat) (q : MemReq) (l : Loc) : Prop :=
  (s.chanReqs c)[ix]? = some q ∧ s.mayPerform c ix q = true ∧ s.locate q.addr = some l ∧ l.off + q.len ≤ 4096
    ∧ s.chanState l.chan ≠ 2
    ∧ q.begun = false ∧ q.got = [] ∧ q.bad = false ∧ lineCount q ≤ max 1 ((s.arb c).limit - (s.arb c).used)

/-- None of the codewords that `n` bytes from `l` touch is poisoned. -/
def State.unpoisoned (s : State) (l : Loc) (n : Nat) : Prop :=
  ∀ x ∈ cwsOf l.off n, s.poisoned (s.locKey { l with off := 0 } / 64 + x) = false

/-- The answer `d` to a request leaves: to the host as read data, to the Rill frame or the TAP access that waits for it,
to the context whose hyperparameter block it is, or on the RSP class toward its Basin. -/
def Answered (s t : State) (c : Nat) (q : MemReq) (d : List Byte) : Prop :=
  match q.src with
  | .host g => Sent s t (if q.op = .read ∧ g < 4 then [.readData g q.addr (leNat d)] else [])
  | .reg g => t.mgmt = (s.answerRead g (leNat d)).mgmt
  | .hyper x n => t.col = (s.hyperCame x n d false).col
  | src =>
    let stop := memStop (c % 16)
    let dst := basinStop src.basin
    let i := stopInst stop (ringFor stop dst) 1
    t.stopPkts i (c / 16) = s.stopPkts i (c / 16) ++ [⟨ringFor stop dst, 1, stop, dst, stop, .rsp ⟨src, d, false⟩⟩]

/-- Requests of stacked memory, scrub, arbitration, ring injection and the aperture (chapter 9). -/
def memoryEvent : Instr → Bool
  | .memRead _ _ _ | .memWrite _ _ _ | .memAdd _ _ _ | .memFadd _ _ _ | .memFaddf _ _ _ | .memSwap _ _ _ | .memCas _ _ _
  | .memFmin _ _ _ | .memFmax _ _ _ | .scrubLine _ _ | .arbGrant _ | .arbStarve _ _ | .ringInject _ _ _ | .apertureRead _ _ _
  | .apertureWrite _ _ _ | .marginDone _ _ _ _ _ _ _ _ => true
  | _ => false

/-- The Glass controller's own events (chapter 10). -/
def glassEvent : Instr → Bool
  | .glassBoundary _ | .glassSwitch | .glassDriveLoaded | .glassRealignResume | .glassSearchDone _ | .nolightRetry
  | .ringLockStep _ _ | .ringUnlock _ _ | .ringRelock _ _ _ | .glassInLos _ _ _ | .glassInRestore _ _ _
  | .glassPowerUpdate _ _ | .glassBiasStep | .glassHeadroomLow _ | .glassOutLow _ | .glassMigArmed | .glassMigDone => true
  | _ => false

/-- The stores of R557, R560, chapter 9 and chapter 16 are in canonical form: keys rising, no entry equal to
what an unlisted key reads as. -/
def State.canonical (s : State) : Bool :=
  SMap.wf resetWord s.bar && s.mem.wf && SMap.wf nvmDefault s.nvm.bytes && SMap.wf Config.flashByte s.nvm.flash

end Sys2Proof.Machine
end

