-- ==== Sys2Proof/Certificates/Slice0/Obligations.lean ====
section
/-! DEFINITION. The statements for the provers: what the commands of each family do, what they leave alone, and what every
step keeps. -/

open Sys2Proof Sys2Proof.Machine


/-- For every command c, queue rest and state s whose queue is c followed by rest, step at s is exec of c at s with
the queue's rest. The queue is the model's own device for giving the block its commands, so no rule is cited. (00_scope.md) -/
def Obligations.StepRunsFrontCommand : Prop :=
  ∀ (c : Instr) (rest : List Instr) (s : State), s.pending = c :: rest → step s = exec c { s with pending := rest }

/-- In a state whose queue is empty, whose part does not stand still and in which no servo sample, RELEASE of an
ARMED slot or automatic fence decision waits for the clock's end, a step answers a next state whose core clock
count is one more, whose queue is empty, and whose device time, in units of 2^−56 ns, has gained the increment
of R372 exactly (5 × 2^53 + 5 × 2^13 × FREQ_ADJ units), if it stays below 2^64 seconds. After a thermal trip the
count goes on and device time stands. In a brown-out hold the state stays as it is. That a clock passes exactly
when the queue is empty is the model's choice (log entry 3), and so is what passes in a part that stands still
(log entry 21). (12_time.md R372, 12_time.md R373) -/
def Obligations.IdleStepPassesOneClock : Prop :=
  (∀ s : State, s.pending = [] → s.stopped = false → s.time.samples = [] → s.hlth.due = [] →
    (∀ i < 16, (s.slot i).releaseAfter = false) → s.time.units + s.clockGain < 2 ^ 64 * 1000000000 * 2 ^ 56 →
    ∃ t, step s = .next t ∧ t.pending = [] ∧ t.time.core = s.time.core + 1
      ∧ (t.time.units : Int) = s.time.units + max 0 (5 * 2 ^ 53 + 5 * 2 ^ 13 * s.freqAdj))
  ∧ (∀ s : State, s.pending = [] → s.board.held = false → s.pwr.trip = true →
    ∃ t, step s = .next t ∧ t.pending = [] ∧ t.time.core = s.time.core + 1 ∧ t.time.units = s.time.units)
  ∧ ∀ s : State, s.pending = [] → s.board.held = true → step s = .next s

/-- From every state a step answers a next state: no command of the table ends in a fault or a refusal. If a command
was at the front of the queue, the queue is then what stood behind it, first in first out, and the core clock
count is unchanged: a command takes no core clock of its own (the model's choice, log entry 3). (00_scope.md, 12_time.md R373) -/
def Obligations.EveryCommandCompletesInOrder : Prop :=
  (∀ s : State, ∃ t, step s = .next t)
  ∧ ∀ (c : Instr) (rest : List Instr) (s t : State), s.pending = c :: rest → step s = .next t →
    t.pending = rest ∧ t.time.core = s.time.core

/-- While a brown-out holds the part in WARM reset, every command other than COLD_RESET, WARM_RESET by its pin,
BROWNOUT_RECOVERY, NVM_WRITE_DONE, the four TAP instruction selects, REFCLK_LOSS and REFCLK_RETURN leaves the
whole state as it is. While the thermal trip latch is set, every command other than these and those of the SPC
island, which goes on (register writes and reads, the Rill chain, mailbox services, the flash, the log, resets),
leaves the whole state as it is; REFCLK_LOSS and REFCLK_RETURN change there only which inputs are present. That
NVM writes under way still end is the model's reading (log entry 21). (15_power_ageing.md R468, 18_electrical.md R544, 18_electrical.md R547, 18_electrical.md R551, 18_electrical.md R553) -/
def Obligations.StoppedPartStandsStill : Prop :=
  (∀ (c : Instr) (s : State), s.board.held = true → heldCommand c = false → exec c s = .next s)
  ∧ (∀ (c : Instr) (s : State), s.pwr.trip = true → heldCommand c = false → spcCommand c = false → exec c s = .next s)
  ∧ ∀ (b there : Bool) (s : State), s.stopped = true →
    exec (if there then .refclkReturn b else .refclkLoss b) s = .next { s with board := { s.board with
      refA := if b then s.board.refA else there, refB := if b then there else s.board.refB } }

/-- For every state whose thermal trip latch is set, every step whose front command is not COLD_RESET answers a next
state in which the latch is still set. (15_power_ageing.md R468) -/
def Obligations.ThermalTripHoldsUntilColdReset : Prop :=
  ∀ s t : State, s.pwr.trip = true → s.pending.head? ≠ some .coldReset → step s = .next t → t.pwr.trip = true

/-- From every state, COLD_RESET answers a next state in which start-up after COLD is to come, and every register
and window word, device time, forwarding, Cistern, collective, Glass, memory, Basin, health, port, cage, power,
management and counter state is that of reset, apart from: RILL.STAT.TOK_IN and each CAGESTAT.PRESENT, which
show pins, with a present module's insertion stamped anew; which reference inputs are present; the core clock
count, and the clock of this reset noted as that of the RED generators' seed, of the SPC's start and of the
millisecond intervals; and a log queue of one RESET entry, with nothing else logged. The contents of NVM and of
the flash are unchanged. That the pins keep showing what they did, and that the RESET entry waits in the log
queue, are the model's readings (log entry 65). (16_store_startup.md R498, 16_store_startup.md R499) -/
def Obligations.ColdResetGivesReset : Prop :=
  ∀ s : State, ∃ t, exec .coldReset s = .next t
    ∧ (∀ a, a ≠ F.RILL_STAT_TOK_IN.addr → (∀ c : CageIx, a ≠ (F.LANE_CAGESTAT_PRESENT (8 * c)).addr) → t.word a = State.reset.word a)
    ∧ t.word F.RILL_STAT_TOK_IN.addr
      = F.RILL_STAT_TOK_IN.inWord (State.reset.word F.RILL_STAT_TOK_IN.addr) (s.get F.RILL_STAT_TOK_IN)
    ∧ (∀ c : CageIx, t.word (F.LANE_CAGESTAT_PRESENT (8 * c)).addr
        = (F.LANE_CAGESTAT_PRESENT (8 * c)).inWord (State.reset.word (F.LANE_CAGESTAT_PRESENT (8 * c)).addr)
          (if s.on (F.LANE_CAGESTAT_PRESENT (8 * c)) then 1 else 0)
      ∧ t.cage c = if s.on (F.LANE_CAGESTAT_PRESENT (8 * c)) then { insertedAt := some s.now } else {})
    ∧ t.time = { State.reset.time with core := s.time.core, resetAt := s.time.core }
    ∧ t.nvm = { State.reset.nvm with bytes := s.nvm.bytes, flash := s.nvm.flash }
    ∧ t.cis = { State.reset.cis with seedAt := s.time.core } ∧ t.fwd = State.reset.fwd ∧ t.col = State.reset.col
    ∧ t.glass = State.reset.glass ∧ t.mem = State.reset.mem ∧ t.bsn = State.reset.bsn ∧ t.hlth = State.reset.hlth
    ∧ t.mgmt = { State.reset.mgmt with spcSince := s.time.core } ∧ t.ports = [] ∧ t.lcQ = []
    ∧ t.pwr = State.reset.pwr
    ∧ t.board = { State.reset.board with refA := s.board.refA, refB := s.board.refB, t0 := s.board.refA && s.board.refB }
    ∧ t.obs = { State.reset.obs with out := t.obs.out, logQ := [⟨Ev.RESET, 0xe00, 0, 0xffffffff, 0, s.time.core⟩] }
    ∧ State.reset.pwr.trip = false ∧ State.reset.board.held = false ∧ State.reset.board.starting = some 0

/-- The registers and windows, stacked memory, NVM and flash of the state after reset are in canonical form: keys
rising, and no entry equal to what an unlisted place reads as. The form is the model's. (00_scope.md R14, 16_store_startup.md R498) -/
def Obligations.ResetIsCanonical : Prop :=
  State.reset.canonical = true

/-- For every state whose register, memory, NVM and flash stores are in canonical form, a step answers only a next
state in which they are. Equal contents are then equal data, whatever commands led there. The form is the
model's. (00_scope.md R14, 09_memory.md R276, 16_store_startup.md R482) -/
def Obligations.StepKeepsCanonicalForm : Prop :=
  ∀ s t : State, s.canonical = true → step s = .next t → t.canonical = true

/-- On a port that can receive (in state ALIGN, ADVERT or UP), LINK_FRAME_RX of a frame that contains a symbol of a
codeword which the port's FEC mode cannot correct answers a next state in which every counter that selects
FEC_FRAME_DISCARD on the port's page is one higher, the received and returned counts of every VC of every port
are as they were, and nothing has reached the link control queue or an input buffer. The premise that the
counter selections are in canonical form rules out states that no run reaches. (R349) -/
def Obligations.BrokenFrameIsDiscardedAndNotReceived : Prop :=
  ∀ (p : PortIx) (bytes : List (BitVec 8)) (fec : List LaneFec) (s : State), s.stopped = false →
    SMap.wf (fun _ => 0) s.obs.sel = true → s.isPort p = true → 3 ≤ s.portState p → s.portState p ≤ 5 →
    fecBroken (s.portFec p) fec = true →
    Completes (.linkFrameRx p bytes fec) s fun t =>
      Counted s t (· == 0x100 + p.val) Ev.FEC_FRAME_DISCARD 1 ∧ (∀ q v, t.vcSt q v = s.vcSt q v)
        ∧ t.lcQ = s.lcQ ∧ t.fwd = s.fwd

/-- On a port in ADVERT or UP, LINK_FRAME_RX of a non-empty body followed by its check answers a next state. Where
it holds no symbol of an uncorrectable codeword and its selector is 00, the body is last in the link control
queue. With another selector, on a port that is UP, the body is last in the input buffer of pipeline p / 32
(R87), and the received count of its VC has gained the frame's cells modulo 2^32. A frame whose check fails
reaches neither, and the received counts stay. In each case the memory, Basin, Glass, cage, time and management
state is unchanged. (11_lanes.md R350, 11_lanes.md R351, 11_lanes.md R352, 03_headers.md R57) -/
def Obligations.GoodFrameGoesWhereItsProtocolSays : Prop :=
  (∀ (p : PortIx) (body : List (BitVec 8)) (fec : List LaneFec) (s : State), s.stopped = false →
    s.isPort p = true → 4 ≤ s.portState p → s.portState p ≤ 5 → body ≠ [] → pProto body = 0 →
    fecBroken (s.portFec p) fec = false → Completes (.linkFrameRx p (body ++ linkCheck body) fec) s fun t =>
      t.lcQ = s.lcQ ++ [⟨p, body⟩] ∧ t.fwd = s.fwd)
  ∧ (∀ (p : PortIx) (body : List (BitVec 8)) (fec : List LaneFec) (s : State), s.stopped = false →
    s.isPort p = true → s.portState p = 5 → body ≠ [] → pProto body ≠ 0 →
    fecBroken (s.portFec p) fec = false → Completes (.linkFrameRx p (body ++ linkCheck body) fec) s fun t =>
      (∃ f : RxFrame, t.inBuf (p / 32) = s.inBuf (p / 32) ++ [f] ∧ f.port = p ∧ f.bytes = body)
        ∧ (t.vcSt p (pVc body)).received = ((s.vcSt p (pVc body)).received + cellsOf body.length) % 2 ^ 32
        ∧ t.lcQ = s.lcQ)
  ∧ (∀ (p : PortIx) (bytes : List (BitVec 8)) (fec : List LaneFec) (s : State), s.stopped = false →
    s.isPort p = true → 3 ≤ s.portState p → s.portState p ≤ 5 →
    linkCheck (bytes.take (bytes.length - 4)) ≠ bytes.drop (bytes.length - 4) →
    Completes (.linkFrameRx p bytes fec) s fun t =>
      t.lcQ = s.lcQ ∧ t.fwd = s.fwd ∧ ∀ v, (t.vcSt p v).received = (s.vcSt p v).received)
  ∧ ∀ (p : PortIx) (bytes : List (BitVec 8)) (fec : List LaneFec) (s t : State),
    exec (.linkFrameRx p bytes fec) s = .next t →
    t.mem = s.mem ∧ t.bsn = s.bsn ∧ t.glass = s.glass ∧ t.cages = s.cages ∧ t.mgmt = s.mgmt ∧ t.time = s.time
      ∧ t.pwr = s.pwr ∧ t.nvm = s.nvm

/-- On a port that is UP, CREDIT_RX of its oldest link control frame, a CREDIT, sets S of the VC to C less the cells
started beyond COUNT, modulo 2^32 and signed, held at most at C, and takes the frame off the queue. CENSUS_RX of
a CENSUS of a VC other than 5 and 7 adds a positive difference between COUNT and the received count to both the
received and the returned count and sets CREDIT_REPAIR, bit 0 of BOOKS; on a negative difference it leaves every
count and sets CREDIT_FAULT, bit 1. LINK_LC_RSV takes a frame of a reserved type off the queue and changes no
count. That S is held at 0 where it would be negative, and that the received count also advances at a repair, so
that the next census finds no difference, are the model's (log entries 186, 22). (02_guarantees.md R44, 02_guarantees.md R45, 11_lanes.md R352, 11_lanes.md R354) -/
def Obligations.ReceivedCreditAndCensusMoveTheCounts : Prop :=
  (∀ (p : PortIx) (f : LcFrame) (s : State), s.stopped = false → s.portUp p = true →
    s.lcQ.find? (fun g => g.port == p.val) = some f → lcType f.bytes = 0x01 →
    Completes (.creditRx p) s fun t =>
      let v := lcVc f.bytes
      let left := (s.peerC p v : Int) - toSigned 32 (ofSigned 32 (((s.vcSt p v).started : Int) - lcCount f.bytes))
      t.lcQ = s.lcQ.eraseP (fun g => g.port == p.val)
        ∧ ((t.vcSt p v).credits : Int) = min (s.peerC p v : Int) (max 0 left)
        ∧ ∀ w, w ≠ v → t.vcSt p w = s.vcSt p w)
  ∧ (∀ (p : PortIx) (f : LcFrame) (s : State), s.stopped = false → s.portUp p = true →
    s.lcQ.find? (fun g => g.port == p.val) = some f → lcType f.bytes = 0x02 → lcVc f.bytes ≠ 5 → lcVc f.bytes ≠ 7 →
    Completes (.censusRx p) s fun t =>
      let v := lcVc f.bytes
      let d := toSigned 32 (ofSigned 32 ((lcCount f.bytes : Int) - (s.vcSt p v).received))
      t.lcQ = s.lcQ.eraseP (fun g => g.port == p.val)
        ∧ (0 < d → (t.vcSt p v).received = ((s.vcSt p v).received + d.toNat) % 2 ^ 32
            ∧ (t.vcSt p v).returned = ((s.vcSt p v).returned + d.toNat) % 2 ^ 32 ∧ nbit (t.word 0x140).toNat 0 = 1)
        ∧ (d ≤ 0 → ∀ w, t.vcSt p w = s.vcSt p w)
        ∧ (d < 0 → nbit (t.word 0x140).toNat 1 = 1))
  ∧ ∀ (p : PortIx) (f : LcFrame) (s : State), s.stopped = false →
    s.lcQ.find? (fun g => g.port == p.val) = some f → lcType f.bytes ∉ [0x01, 0x02, 0x03, 0x10, 0x11] →
    Completes (.linkLcRsv p) s fun t =>
      t.lcQ = s.lcQ.eraseP (fun g => g.port == p.val) ∧ t.ports = s.ports ∧ t.fwd = s.fwd ∧ t.cis = s.cis ∧ t.hlth = s.hlth

/-- On a port in state UP, DOWN_RX of a DOWN frame leaves it for reason 7 and sends nothing; LANE_LOS of a lane of
it leaves for reason 2 with the lane's SIGNAL and ALIGNED 0; LOCK_LOSS for reason 3 with the lane's ALIGNED 0;
UCW_INTERVAL, due, with more uncorrectable codewords than the limit, for reason 4; an accepted PORT_RETRAIN for
reason 9; an accepted PORT_DISABLE goes to DISABLED for reason 1 with EN 0. Each sends one DOWN frame with its
reason, but for reason 7, where the octet's reference clock drives its transmitter (the model's reading, log
entry 99). Afterwards the port is in DOWN or FAILED (DISABLED for PORT_DISABLE), every S is 0, no frame is being
sent, and PORTPEER.VALID is 0. (11_lanes.md R356, 11_lanes.md R359, 11_lanes.md R360, 11_lanes.md R361, 11_lanes.md R362, 11_lanes.md R369) -/
def Obligations.LeavingUpVoidsCreditAndSaysWhy : Prop :=
  let down (s t : State) (p : PortIx) (reason : Nat) (sent : List Emit) : Prop :=
    (t.portState p = 1 ∨ t.portState p = 7) ∧ t.get (F.LANE_PORTSTAT_LASTDOWN p) = reason
      ∧ (∀ v < 8, (t.vcSt p v).credits = 0) ∧ (t.portSt p).tx = none ∧ t.get (F.LANE_PORTPEER_VALID p) = 0 ∧ Sent s t sent
  let frame (s : State) (p : PortIx) (reason : Nat) : List Emit :=
    if s.octetClock p then [.linkControl p (lcBody 0x03 0 reason ++ linkCheck (lcBody 0x03 0 reason))] else []
  (∀ (p : PortIx) (f : LcFrame) (s : State), s.stopped = false → s.portState p = 5 →
    s.lcQ.find? (fun g => g.port == p.val) = some f → lcType f.bytes = 0x03 →
    Completes (.downRx p) s fun t => down s t p 7 [] ∧ t.lcQ = s.lcQ.eraseP (fun g => g.port == p.val))
  ∧ (∀ (l p : PortIx) (s : State), s.stopped = false → s.portOfLane l = some p.val → s.portState p = 5 →
    Completes (.laneLos l) s fun t => down s t p 2 (frame s p 2)
      ∧ t.get (F.LANE_LANESTAT_SIGNAL l) = 0 ∧ t.get (F.LANE_LANESTAT_ALIGNED l) = 0)
  ∧ (∀ (l p : PortIx) (s : State), s.stopped = false → s.portOfLane l = some p.val → s.portState p = 5 →
    Completes (.lockLoss l) s fun t => down s t p 3 (frame s p 3) ∧ t.get (F.LANE_LANESTAT_ALIGNED l) = 0)
  ∧ (∀ (p : PortIx) (idle : List LaneFec) (s : State), s.stopped = false → s.isPort p = true → s.portState p = 5 →
    s.passed s.time.resetAt (msClocks ((s.portSt p).ucwAt + 1)) = true →
    s.get (F.LANE_PORTLINK_UCW_LIMIT p) < (s.portSt p).ucw + uncorrOf (s.portFec p) idle →
    Completes (.ucwInterval p idle) s fun t => down s t p 4 (frame s p 4) ∧ (t.portSt p).ucw = 0
      ∧ (t.portSt p).ucwAt = (s.portSt p).ucwAt + 1)
  ∧ (∀ (g : Agent) (p : PortIx) (s : State), s.stopped = false → s.portState p = 5 →
    s.accepts g (laneReg p 0x10c) (2 ^ 31) → Completes (.portRetrain g p) s fun t => down s t p 9 (frame s p 9))
  ∧ ∀ (g : Agent) (p : PortIx) (s : State), s.stopped = false → s.isPort p = true → s.portState p = 5 →
    s.on (F.LANE_PORTCFG_EN p) = true → s.accepts g (laneReg p 0x100) (s.wordWith (F.LANE_PORTCFG_EN p) 0) →
    Completes (.portDisable g p) s fun t => t.portState p = 0 ∧ t.get (F.LANE_PORTCFG_EN p) = 0
      ∧ t.get (F.LANE_PORTSTAT_LASTDOWN p) = 1 ∧ (∀ v < 8, (t.vcSt p v).credits = 0)
      ∧ (t.portSt p).tx = none ∧ t.get (F.LANE_PORTPEER_VALID p) = 0 ∧ Sent s t (frame s p 1)

/-- Whatever the state, if one of the link's commands from the wire or its timers (CREDIT_RX, CENSUS_RX, DOWN_RX,
ADVERT_RX, ADVACK_RX, LINK_LC_RSV, CREDIT_TX, CENSUS_TX, ADVERT_TX, TX_FRAME_DONE, BRINGUP_ATTEMPT,
SIGNAL_ACQUIRED, ALIGN_ACHIEVED, BRINGUP_TIMEOUT, LANE_LOS, LOCK_LOSS, UCW_INTERVAL, RETRAIN_ENTRY_EXPIRE)
answers a next state, then stacked memory, the Basins, the Glass, the cages, the management paths, power, board,
the free-value counter and the queue of commands are unchanged, and so is the time block, but for the departure
stamps of a PTP packet that TX_FRAME_DONE lets follow. (11_lanes.md R352, 11_lanes.md R354, 11_lanes.md R359, 11_lanes.md R360) -/
def Obligations.LinkEventsLeaveTheRestAlone : Prop :=
  ∀ (c : Instr) (s t : State),
    linkEvent c = true → exec c s = .next t →
    t.mem = s.mem ∧ t.bsn = s.bsn ∧ t.glass = s.glass ∧ t.cages = s.cages ∧ t.mgmt = s.mgmt
      ∧ ((∀ p bad, c ≠ .txFrameDone p bad) → t.time = s.time)
      ∧ t.time = { s.time with txStamps := t.time.txStamps, dreqT3 := t.time.dreqT3 }
      ∧ t.pwr = s.pwr ∧ t.board = s.board ∧ t.freeCtr = s.freeCtr ∧ t.pending = s.pending

/-- An accepted PORT_ENABLE on a port in DISABLED sets EN and goes to DOWN. BRINGUP_ATTEMPT, once due on an enabled
port in DOWN with its cage READY, its clock present, not frozen, goes to SIGNAL with one more attempt if the
port account is empty; if it is not and the wait has run out, LASTDOWN is 11. SIGNAL_ACQUIRED in SIGNAL goes to
ALIGN with SIGNAL on every lane; ALIGN_ACHIEVED, after 1 ms of every lane's signal and locks within the codeword
limit (and, in fabric FEC, within 40 ns of skew), goes to ADVERT with ALIGNED on every lane. BRINGUP_TIMEOUT,
due, leaves SIGNAL for reason 2, ALIGN for 4 where the locks stood and else 3, ADVERT for 5.
RETRAIN_ENTRY_EXPIRE keeps the entries of the last 10 s. An accepted PORT_CLEAR_FAIL goes to DOWN with no entry
left. An accepted LANECFG_WRITE writes LOOP and PRBS and clears the error count. Log entries 23, 27, 99 and 173
are the model's. (11_lanes.md R344, 11_lanes.md R356, 11_lanes.md R358, 11_lanes.md R359, 11_lanes.md R361, 11_lanes.md R362, 11_lanes.md R363) -/
def Obligations.BringUpClimbsStateByState : Prop :=
  let dropped (t : State) (p : PortIx) (reason : Nat) : Prop :=
    (t.portState p = 1 ∨ t.portState p = 7) ∧ t.get (F.LANE_PORTSTAT_LASTDOWN p) = reason
  (∀ (g : Agent) (p : PortIx) (s : State), s.stopped = false → s.isPort p = true → s.portState p = 0 →
    s.on (F.LANE_PORTCFG_EN p) = false → s.accepts g (laneReg p 0x100) (s.wordWith (F.LANE_PORTCFG_EN p) 1) →
    Completes (.portEnable g p) s fun t => t.get (F.LANE_PORTCFG_EN p) = 1 ∧ t.portState p = 1
      ∧ (t.portSt p).since = s.now)
  ∧ (∀ (p : PortIx) (s : State), s.stopped = false → s.portState p = 1 → s.on (F.LANE_PORTCFG_EN p) = true →
    s.cageReady p = true → s.portFrozen p = false → s.octetClock p = true → s.passed (s.portSt p).attemptAt 0 = true →
    (s.portHeld p = 0 → Completes (.bringupAttempt p) s fun t => t.portState p = 2
      ∧ (t.portSt p).attempt = ((s.portSt p).attempt + 1) % 2 ^ 32 ∧ (t.portSt p).ownBody = [])
    ∧ (s.portHeld p ≠ 0 → s.passed (s.portSt p).attemptAt (usClocks (s.get F.CISCFG_STALL_STALL_US)) = true →
      Completes (.bringupAttempt p) s fun t => t.portState p = 1 ∧ t.get (F.LANE_PORTSTAT_LASTDOWN p) = 11))
  ∧ (∀ (p : PortIx) (eyes : List (BitVec 8 × BitVec 8)) (s : State), s.stopped = false → s.portState p = 2 →
    Completes (.signalAcquired p eyes) s fun t => t.portState p = 3
      ∧ ∀ l ∈ s.lanesOf p, t.get (F.LANE_LANESTAT_SIGNAL l) = 1)
  ∧ (∀ (p : PortIx) (skew : List (BitVec 8)) (s : State), s.stopped = false → s.portState p = 3 →
    s.lanesLit p = true → (s.portFec p = 1 → ∀ x ∈ skew, x.toNat ≤ 80) →
    s.passed (s.portSt p).heldFrom (msClocks 1) = true → (s.portSt p).ucw ≤ s.get (F.LANE_PORTLINK_UCW_LIMIT p) →
    Completes (.alignAchieved p skew) s fun t => t.portState p = 4
      ∧ ∀ l ∈ s.lanesOf p, t.get (F.LANE_LANESTAT_ALIGNED l) = 1)
  ∧ (∀ (p : PortIx) (locked : Bool) (s : State), s.stopped = false →
    (s.portState p = 2 → s.passed (s.portSt p).since (msClocks 100) = true →
      Completes (.bringupTimeout p locked) s fun t => dropped t p 2)
    ∧ (s.portState p = 3 → s.passed (s.portSt p).since (msClocks 2) = true →
      Completes (.bringupTimeout p locked) s fun t => dropped t p (if locked then 4 else 3))
    ∧ (s.portState p = 4 → s.passed (s.portSt p).since (msClocks 10) = true →
      Completes (.bringupTimeout p locked) s fun t => dropped t p 5))
  ∧ (∀ (p : PortIx) (s : State), s.stopped = false → Completes (.retrainEntryExpire p) s fun t =>
    (t.portSt p).entries = (s.portSt p).entries.filter (fun x => decide (s.now < x + secClocks 10))
      ∧ t.get (F.LANE_PORTSTAT_RETRIES p) = min (t.portSt p).entries.length 15)
  ∧ (∀ (g : Agent) (p : PortIx) (s : State), s.stopped = false → s.accepts g (laneReg p 0x10c) (2 ^ 30) →
    Completes (.portClearFail g p) s fun t => t.portState p = 1 ∧ (t.portSt p).entries = []
      ∧ t.get (F.LANE_PORTSTAT_RETRIES p) = 0)
  ∧ ∀ (g : Agent) (l : PortIx) (v : BitVec 32) (s : State), s.stopped = false →
    s.accepts g (laneReg l 0x180) v.toNat → Completes (.lanecfgWrite g l v) s fun t =>
      t.get (F.LANE_LANECFG_LOOP l) = (F.LANE_LANECFG_LOOP l).ofWord v
        ∧ t.get (F.LANE_LANECFG_PRBS l) = (F.LANE_LANECFG_PRBS l).ofWord v ∧ t.get (F.LANE_LANEBER_ERRORS l) = 0

/-- In state ADVERT, ADVERT_RX of an ADVERT that the part accepts shows it in PORTPEER and PEERADV0, sends an ADVACK
with the CRC of its body, and goes to UP if the part's own ADVERT has been answered, every lane has signal and
lock and no freeze holds it. In UP a repeat of the accepted body is acknowledged again and the port stays UP.
ADVACK_RX of the part's current ADVERT goes to UP if a peer's ADVERT has been acknowledged, every lane has
signal and lock and no freeze holds it. ADVERT_TX, due in state ADVERT, sends the part's own body and keeps it
for the rest of the state. CREDIT_TX, due in UP, sends the returned count of the VC and records it as sent.
CENSUS_TX, due, sends the consumed count. TX_FRAME_DONE adds the frame's cells to the consumed count of its VC;
then the packet that the scheduler chose to follow is being sent, or nothing where none was chosen. Log entries
26 and 173 are the model's. (02_guarantees.md R44, 02_guarantees.md R45, 11_lanes.md R344, 11_lanes.md R351, 11_lanes.md R352, 11_lanes.md R354, 11_lanes.md R357, 11_lanes.md R358, 11_lanes.md R359) -/
def Obligations.AdvertExchangeBringsThePortUp : Prop :=
  (∀ (p : PortIx) (f : LcFrame) (s : State), s.stopped = false → s.portState p = 4 →
    s.lcQ.find? (fun g => g.port == p.val) = some f → lcType f.bytes = 0x10 → s.advertOk p f.bytes = true →
    Completes (.advertRx p) s fun t =>
      let ack := lcBody 0x11 0 (crcStd f.bytes)
      t.lcQ = s.lcQ.eraseP (fun g => g.port == p.val) ∧ t.get (F.LANE_PORTPEER_VALID p) = 1 ∧ t.get (F.LANE_PORTPEER_NUMBER p) = advNumber f.bytes
        ∧ t.get (F.LANE_PEERADV0_H p) = advH f.bytes ∧ t.get (F.LANE_PEERADV0_ACCEPT p) = advAccept f.bytes
        ∧ Sent s t [.linkControl p (ack ++ linkCheck ack)]
        ∧ t.portState p = if (s.portSt p).answered = true ∧ s.lanesLocked p = true ∧ s.portFrozen p = false then 5 else 4)
  ∧ (∀ (p : PortIx) (f : LcFrame) (s : State), s.stopped = false → s.portState p = 5 →
    s.lcQ.find? (fun g => g.port == p.val) = some f → lcType f.bytes = 0x10 → f.bytes = (s.portSt p).peerBody →
    Completes (.advertRx p) s fun t =>
      let ack := lcBody 0x11 0 (crcStd f.bytes)
      t.portState p = 5 ∧ t.ports = s.ports ∧ Sent s t [.linkControl p (ack ++ linkCheck ack)])
  ∧ (∀ (p : PortIx) (f : LcFrame) (s : State), s.stopped = false → s.portState p = 4 →
    s.lcQ.find? (fun g => g.port == p.val) = some f → lcType f.bytes = 0x11 → (s.portSt p).ownBody ≠ [] →
    lcCount f.bytes = crcStd (s.portSt p).ownBody →
    Completes (.advackRx p) s fun t => t.lcQ = s.lcQ.eraseP (fun g => g.port == p.val) ∧ (t.portSt p).answered = true
      ∧ t.portState p = if (s.portSt p).acked = true ∧ s.lanesLocked p = true ∧ s.portFrozen p = false then 5 else 4)
  ∧ (∀ (p : PortIx) (s : State), s.stopped = false → s.portState p = 4 →
    (∀ x, (s.portSt p).advAt = some x → x + usClocks 10 ≤ s.now) →
    Completes (.advertTx p) s fun t => (t.portSt p).advAt = some s.now
      ∧ ((s.portSt p).ownBody ≠ [] → (t.portSt p).ownBody = (s.portSt p).ownBody)
      ∧ Sent s t [.linkControl p ((t.portSt p).ownBody ++ linkCheck (t.portSt p).ownBody)])
  ∧ (∀ (p : PortIx) (v : Vc) (s : State), s.stopped = false → s.portState p = 5 → s.creditDue p v = true →
    Completes (.creditTx p v) s fun t =>
      let b := lcBody 0x01 v (s.vcSt p v).returned
      (t.vcSt p v).sentCount = (s.vcSt p v).returned ∧ (t.vcSt p v).sentAt = s.now ∧ (t.vcSt p v).force = false
        ∧ (t.vcSt p v).unsentSince = none ∧ Sent s t [.linkControl p (b ++ linkCheck b)])
  ∧ (∀ (p : PortIx) (v : Vc) (s : State), s.stopped = false → s.portState p = 5 → v ≠ 7 →
    nbit (s.get (F.LANE_PEERADV0_ACCEPT p)) (7 - v) = 1 →
    s.passed (s.portSt p).since (nsClocks (1250 * v) + usClocks 10 * (s.vcSt p v).markers) = true →
    Completes (.censusTx p v) s fun t =>
      let b := lcBody 0x02 v (s.vcSt p v).consumed
      (t.vcSt p v).markers = (s.vcSt p v).markers + 1 ∧ Sent s t [.linkControl p (b ++ linkCheck b)])
  ∧ ∀ (p : PortIx) (bad : List (Fin 37)) (e : QEnt) (v n : Nat) (s : State), s.stopped = false →
    (s.portSt p).tx = some (e, v, n) →
    Completes (.txFrameDone p bad) s fun t => ((s.portSt p).next = none → (t.portSt p).tx = none)
      ∧ (∀ q e' k, (s.portSt p).next = some q → s.portUp p = true → s.headPkt p q = some (e', k) → e'.pkt ≠ e.pkt →
        (t.portSt p).tx = some (e', pVc k.bytes, k.cells.length))
      ∧ (t.vcSt p v).consumed = ((s.vcSt p v).consumed + n) % 2 ^ 32
      ∧ ∀ w, w ≠ v → (t.vcSt p w).consumed = (s.vcSt p w).consumed

/-- CAGE_INSERT shows PRESENT and counts. CAGE_DEBOUNCE, 50 ms later on an enabled EMPTY cage, enters RESET, asserts
LPMode and pulses ResetL. Outside EXTEST, MODULE_READY within 60 s of RESET keeps the power class and enters
INIT with an application staged for each port, or REFUSED where the major revision is not 5, the class exceeds
PMAX, or a port of the octet has no application of its width starting at its first lane. DATAPATH_READY within
60 s of INIT enters READY, and every port of the octet in DOWN may attempt at once. Later, both are a FAULT.
CAGE_REMOVE empties the cage and its registers, a module access under way apart, and from READY takes every port
of the octet that is UP out of UP for reason 10. Log entries 33, 98 and 175 are the model's. (11_lanes.md R365, 11_lanes.md R366, 11_lanes.md R367, 11_lanes.md R368, 18_electrical.md R553) -/
def Obligations.CageInsertionClimbsToReady : Prop :=
  (∀ (c : CageIx) (s : State), s.stopped = false → Completes (.cageInsert c) s fun t =>
    t.get (F.LANE_CAGESTAT_PRESENT (8 * c)) = 1 ∧ (t.cage c).insertedAt = some s.now ∧ t.cageState c = s.cageState c
      ∧ (SMap.wf (fun _ => 0) s.obs.sel = true → Counted s t (· == 0x100 + 8 * c.val) Ev.CAGE_INSERT 1))
  ∧ (∀ (c : CageIx) (x : Nat) (s : State), s.stopped = false → s.cageState c = 0 → s.on (F.LANE_CAGESTAT_PRESENT (8 * c)) = true →
    s.on (F.LANE_CAGECFG_EN (8 * c)) = true → (s.cage c).insertedAt = some x → x + msClocks 50 ≤ s.now →
    Completes (.cageDebounce c) s fun t => t.cageState c = 1 ∧ (t.cage c).since = s.now
      ∧ Sent s t [.pin ("ResetL" ++ toString c.val) true, .pin ("ResetL" ++ toString c.val) false, .pin ("LPMode" ++ toString c.val) true])
  ∧ (∀ (c : CageIx) (m : ModuleFacts) (s : State), s.stopped = false → s.mgmt.tap.extest = false → s.cageState c = 1 →
    s.on (F.LANE_CAGECFG_EN (8 * c)) = true →
    (s.cageLate c = true → Completes (.moduleReady c m) s fun t => (t.cage c).faultAt = some s.now)
    ∧ (s.cageLate c = false → Completes (.moduleReady c m) s fun t => t.get (F.LANE_CAGESTAT_POWER (8 * c)) = m.power.toNat
      ∧ (m.major = 5 ∧ m.power.toNat ≤ s.get (F.LANE_CAGECFG_PMAX (8 * c)) ∧ (∀ p ∈ s.cagePorts c, (s.appFor m.apps p).isSome = true) →
        t.cageState c = 2 ∧ (t.cage c).staged = s.stageFor m.apps c)
      ∧ (m.major ≠ 5 ∨ s.get (F.LANE_CAGECFG_PMAX (8 * c)) < m.power.toNat ∨ (∃ p ∈ s.cagePorts c, s.appFor m.apps p = none) →
        t.cageState c = 5)))
  ∧ (∀ (c : CageIx) (s : State), s.stopped = false → s.mgmt.tap.extest = false → s.cageState c = 2 →
    (s.cageLate c = true → Completes (.datapathReady c) s fun t => (t.cage c).faultAt = some s.now)
    ∧ (s.cageLate c = false → Completes (.datapathReady c) s fun t =>
      t.cageState c = 3 ∧ ∀ p ∈ s.cagePorts c, s.portState p = 1 → (t.portSt p).since = s.now ∧ (t.portSt p).tried = false))
  ∧ ∀ (c : CageIx) (s : State), s.stopped = false → Completes (.cageRemove c) s fun t =>
    t.cageState c = 0 ∧ t.get (F.LANE_CAGESTAT_PRESENT (8 * c)) = 0 ∧ t.get (F.LANE_CAGESTAT_INT (8 * c)) = 0
      ∧ t.get (F.LANE_CAGESTAT_POWER (8 * c)) = 0 ∧ t.cage c = { req := (s.cage c).req }
      ∧ (s.cageState c = 3 → ∀ p ∈ s.cagePorts c, s.portState p = 5 →
        (t.portState p = 1 ∨ t.portState p = 7) ∧ t.get (F.LANE_PORTSTAT_LASTDOWN p) = 10)

/-- CMIS_TIMEOUT in a state with transactions takes off those acknowledged before it and issues the next again, at
most three times; after them, and at CMIS_STATE_TIME_EXPIRE once the advertised time has passed in RESET or
INIT, the cage starts again in RESET, but stays in FAULT where a FAULT came less than 60 s before. Outside
EXTEST, CMIS_MONITOR_POLL, due in READY with the SPC running, selects the cage at its switch, reads the monitors
and keeps the module's flags; the cage stays READY, but is in FAULT or starts again where the module reports a
fault, and in INIT where a data path of a port is not active. CAGE_INTL shows whether the interrupt stands, and
in READY reads the flags. An accepted CAGE_EN_WRITE writes EN; where it changes EN with a module present for 50
ms the cage is in RESET. An accepted CAGEACC_GO that no check refuses sets BUSY and, outside EXTEST, makes the
access; CAGEACC_DONE clears BUSY, sets DONE, and gives OK with the data read in the buffer, or code REJ_IO where
the module did not acknowledge, and a cage in INIT, READY or REFUSED is then in FAULT or starts again. That the
flags are read as 8 bytes, the monitors as 128, and what CMIS_TIMEOUT issues where nothing is listed as sent,
are the model's choices (log entries 32, 33, 187). (11_lanes.md R365, 11_lanes.md R366, 11_lanes.md R367, 11_lanes.md R368) -/
def Obligations.CageFaultsRetriesAndModuleAccess : Prop :=
  let faults (c : CageIx) (s t : State) : Prop := (t.cage c).faultAt = some s.now
    ∧ t.cageState c = if (s.cage c).faultAt.any (fun x => decide (s.now < x + secClocks 60)) then 4 else 1
  (∀ (c : CageIx) (acked : Fin 8) (s : State), s.stopped = false → s.cageState c ∉ [0, 4, 5] →
    let left := (s.cage c).sent.drop acked.val
    let x := left.head?.getD cmisPoll
    let tried := if acked.val = 0 then (s.cage c).retries else 0
    (tried < 3 → Completes (.cmisTimeout c acked) s fun t => (t.cage c).retries = tried + 1 ∧ (t.cage c).sent = left
      ∧ t.cageState c = s.cageState c ∧ t.ports = s.ports
      ∧ (s.mgmt.tap.extest = false → Sent s t [.cmis c x.write x.bank x.page x.off x.bytes,
        .twoWire (c.val / 8) 0x70 (2 ^ (c.val % 8))]))
    ∧ (3 ≤ tried → Completes (.cmisTimeout c acked) s (faults c s)))
  ∧ (∀ (c : CageIx) (ms : BitVec 16) (s : State), s.stopped = false → s.cageState c = 1 ∨ s.cageState c = 2 →
    s.on (F.LANE_CAGECFG_EN (8 * c)) = true → (s.cage c).since + msClocks (min ms.toNat 60000) ≤ s.now →
    Completes (.cmisStateTimeExpire c ms) s (faults c s))
  ∧ (∀ (c : CageIx) (r : ModuleRead) (s : State), s.stopped = false → s.cageState c = 3 → s.mgmt.spcDown = false →
    s.mgmt.tap.extest = false → (s.cage c).polledAt + secClocks 1 ≤ s.now →
    let idle := ∃ x ∈ (s.cage c).staged.zip r.paths, x.1.isSome = true ∧ x.2.toNat ≠ 4
    (r.state ≠ 5 → ¬ idle → Completes (.cmisMonitorPoll c r) s fun t =>
      (t.cage c).polledAt = s.now ∧ t.cageState c = 3 ∧ (t.cage c).flags = r.flags
        ∧ Sent s t [.cmis c false 0 0x11 128 [], .twoWire (c.val / 8) 0x70 (2 ^ (c.val % 8))])
    ∧ (r.state = 5 → Completes (.cmisMonitorPoll c r) s (faults c s))
    ∧ (r.state ≠ 5 → idle → Completes (.cmisMonitorPoll c r) s fun t => t.cageState c = 2))
  ∧ (∀ (c : CageIx) (cleared : Bool) (r : ModuleRead) (s : State), s.stopped = false → s.mgmt.tap.extest = false →
    Completes (.cageIntl c cleared r) s fun t =>
    t.get (F.LANE_CAGESTAT_INT (8 * c)) = (if cleared then 0 else 1)
      ∧ (s.cageState c ≠ 3 → t.cages = s.cages ∧ t.ports = s.ports ∧ Sent s t [])
      ∧ (s.cageState c = 3 → (t.cage c).flags = r.flags))
  ∧ (∀ (g : Agent) (c : CageIx) (v : BitVec 32) (s : State), s.stopped = false → s.accepts g (laneReg (8 * c) 0x1c4) v.toNat →
    Completes (.cageEnWrite g c v) s fun t =>
      t.get (F.LANE_CAGECFG_EN (8 * c)) = (F.LANE_CAGECFG_EN (8 * c)).ofWord v
        ∧ (s.cageHere c = true →
          s.get (F.LANE_CAGECFG_EN (8 * c)) ≠ (F.LANE_CAGECFG_EN (8 * c)).ofWord v → t.cageState c = 1))
  ∧ (∀ (g : Agent) (c : CageIx) (v : BitVec 32) (s : State), s.stopped = false →
    let w := v.toNat ||| 2 ^ 31
    s.accepts g (laneReg (8 * c) 0x1c8) w →
    s.cageAccCheck c (nbit w 30 == 1) (nfield w 7 0) (nfield w 29 23 + 1) = 0 →
    Completes (.cageaccGo g c v) s fun t => t.get (F.LANE_CAGEACCST_BUSY (8 * c)) = 1
      ∧ (t.cage c).req = some ⟨nbit w 30 == 1, nfield w 7 0, nfield w 29 23 + 1⟩
      ∧ (s.mgmt.tap.extest = false → ∃ data, Sent s t [.cmis c (nbit w 30 == 1) (s.get (F.LANE_CAGEBANK_BANK (8 * c))) (nfield w 15 8) (nfield w 7 0) data,
        .twoWire (c.val / 8) 0x70 (2 ^ (c.val % 8))]))
  ∧ ∀ (c : CageIx) (ack : Bool) (data : List (BitVec 8)) (r : CageReq) (s : State), s.stopped = false → s.mgmt.tap.extest = false →
    (s.cage c).req = some r → r.len ≤ 128 →
    Completes (.cageaccDone c ack data) s fun t => (t.cage c).req = none ∧ t.get (F.LANE_CAGEACCST_BUSY (8 * c)) = 0
      ∧ t.get (F.LANE_CAGEACCST_DONE (8 * c)) = 1 ∧ t.get (F.LANE_CAGEACCST_OK (8 * c)) = (if ack then 1 else 0)
      ∧ t.get (F.LANE_CAGEACCST_CODE (8 * c)) = (if ack then 0 else Rej.IO)
      ∧ (ack = false → s.cageState c ∈ [2, 3, 5] → faults c s t) ∧ (ack = false → s.cageState c ∉ [2, 3, 5] → t.cageState c = s.cageState c)
      ∧ (ack = true → r.write = false → ∀ i < r.len,
        t.byteAt (0x100200 + 0x8000 * c.val + i) = (data.getD i 0).toNat)

/-- INGRESS_PACKET takes the frame at the head of the pipeline's input buffer. If a header check drops it, or it
names a bank that is not in use, nothing enters the Cistern, its credit returns as cells, and the drop is
counted on its port; a VC7 frame that passed the checks before those of size, addresses and FCS and finds no
cell is dropped there, its credit returned. Else, where enough cells are FREE, a TIME packet is charged and
waits at the time block with its receive timestamp, a chunk waits for the matcher, and a control packet for this
spine for the SPC; where too few are, its credit returns. A frame that comes too late for its lookup slot stays,
but one of VC7 is dropped and counted, its credit returned. An empty buffer leaves the buffers as they are.
Frames whose policer a higher pipeline has used in the same core clock wait, and are left out here (R152). Log
entries 11, 15, 19 and 147 are the model's. (03_headers.md R79, 03_headers.md R84, 03_headers.md R86, 04_forwarding.md R88, 04_forwarding.md R92, 04_forwarding.md R111, 05_cistern.md R130, 05_cistern.md R134, 05_cistern.md R152, 12_time.md R383) -/
def Obligations.IngressSendsEachFrameToItsConsumer : Prop :=
  (∀ (pipe : Fin 32) (f : RxFrame) (rest : List RxFrame) (s : State), s.stopped = false → s.inBuf pipe = f :: rest →
    f.bytes ≠ [] → s.policerBehind f.port (pVc f.bytes) = false →
    let p := f.port
    let v := pVc f.bytes
    let credited (t : State) : Prop := t.cis = s.cis
      ∧ (t.vcSt p v).returned = ((s.vcSt p v).returned + cellsOf f.bytes.length) % 2 ^ 32
    let code := s.headerCheck f.bytes
    let room : Prop := s.hasCells (cellsOf f.bytes.length) = true
    let placed (t : State) : Prop := t.inBuf pipe = rest
      ∧ (t.pkt? s.cis.nextPkt).map (fun k => (k.bytes, k.acct)) = some (f.bytes, Account.port p v)
    let time : Prop := pProto f.bytes = 1 ∧ pType f.bytes = 1
    let chunk : Prop := pProto f.bytes = 1 ∧ pType f.bytes = 4
    let ctrl : Prop := pProto f.bytes = 1 ∧ pType f.bytes ≠ 1 ∧ pType f.bytes ≠ 4 ∧ epKind (pDest f.bytes) = 2
    (code ≠ 0 → s.notStored f code = false → Completes (.ingressPacket pipe false) s fun t => t.inBuf pipe = rest ∧ credited t
      ∧ (SMap.wf (fun _ => 0) s.obs.sel = true →
        Counted s t (· == 0x100 + p) (Ev.HDR_1 + code - 1) 1))
    ∧ (s.notStored f code = true → Completes (.ingressPacket pipe false) s fun t => t.inBuf pipe = rest ∧ credited t)
    ∧ (code = 0 → time → room → Completes (.ingressPacket pipe false) s fun t => placed t
        ∧ t.time.rxQ = s.time.rxQ ++ [⟨p, f.bytes, f.sec, f.ns, f.frac, f.epoch, some s.cis.nextPkt⟩])
    ∧ (code = 0 → chunk → room → Completes (.ingressPacket pipe false) s fun t => placed t
        ∧ t.cis.chunkQ = s.cis.chunkQ ++ [s.cis.nextPkt])
    ∧ (code = 0 → ctrl → room → Completes (.ingressPacket pipe false) s fun t => placed t
        ∧ t.mgmt.fabIn = s.mgmt.fabIn ++ [⟨p, f.bytes, some s.cis.nextPkt⟩])
    ∧ (code = 0 → time ∨ chunk ∨ ctrl → ¬ room → Completes (.ingressPacket pipe false) s fun t =>
        t.inBuf pipe = rest ∧ t.cis.pkts = s.cis.pkts
          ∧ (t.vcSt p v).returned = ((s.vcSt p v).returned + cellsOf f.bytes.length) % 2 ^ 32)
    ∧ (code = 0 → s.notStored f 0 = false → pProto f.bytes ≠ 1 → pE f.bytes ≠ s.activeBank → s.get F.FWDEPOCH_STATUS_STATE ≠ 1 →
      Completes (.ingressPacket pipe false) s fun t => t.inBuf pipe = rest ∧ credited t
        ∧ (SMap.wf (fun _ => 0) s.obs.sel = true → Counted s t (· == 0x100 + p) Ev.FWD_EPOCH 1))
    ∧ (v ≠ 7 → Completes (.ingressPacket pipe true) s fun t => t.fwd = s.fwd ∧ t.cis = s.cis ∧ t.ports = s.ports)
    ∧ (v = 7 → Completes (.ingressPacket pipe true) s fun t => t.inBuf pipe = rest ∧ credited t
        ∧ SMap.get (fun _ => 0) t.fwd.lateDrops pipe = SMap.get (fun _ => 0) s.fwd.lateDrops pipe + 1))
  ∧ ∀ (pipe : Fin 32) (late : Bool) (s : State), s.inBuf pipe = [] →
    Completes (.ingressPacket pipe late) s fun t => t.fwd = s.fwd ∧ t.cis = s.cis ∧ t.ports = s.ports

/-- LEARN_MOVE of a request whose key is found in a learned entry with neither result equal to the arrival result:
below MOVE_LIMIT both results become the arrival result and MOVES is one more. At MOVE_LIMIT the entry stays as
it is, LEARN_MOVE_DAMPED is counted, and the first such refusal of the entry is reported to the log, a later one
is not. A visit of the sweeper to a valid learned entry that it does not remove leaves it with its key, MOVES 0
and no record of a refusal; a PENDING entry is among these (log entry 144). The premises that a result fits its
24 bits and that the counter selections are in canonical form rule out states that no run reaches. (R104) -/
def Obligations.MoveSetsBothResultsUntilTheLimit : Prop :=
  (∀ (pipe : Fin 32) (r : LearnReq) (rest : List LearnReq) (e : Nat) (s : State), s.stopped = false →
    SMap.get (fun _ => []) s.fwd.learnQ pipe = r :: rest → r.move = true → r.res < 2 ^ 24 → s.epFind r.key = some e →
    s.epResult 0 e ≠ r.res → s.epResult 1 e ≠ r.res → s.on (F.EP_W2_STATIC e) = false →
    (s.get (F.EP_W2_MOVES e) < s.get F.FWDCFG_LOOKUP_MOVE_LIMIT → ∃ t, exec (.learnMove pipe) s = .next t ∧
      t.epResult 0 e = r.res ∧ t.epResult 1 e = r.res ∧ t.get (F.EP_W2_MOVES e) = s.get (F.EP_W2_MOVES e) + 1
        ∧ t.epKey e = s.epKey e ∧ SMap.get (fun _ => []) t.fwd.learnQ pipe = rest)
    ∧ (s.get (F.EP_W2_MOVES e) = s.get F.FWDCFG_LOOKUP_MOVE_LIMIT → ∃ t, exec (.learnMove pipe) s = .next t ∧
      t.epWords e = s.epWords e
        ∧ (SMap.wf (fun _ => 0) s.obs.sel = true →
          Counted s t (fun q => decide (0x600 ≤ q) && decide (q < 0x605)) Ev.LEARN_MOVE_DAMPED 1)
        ∧ s.epKey e ∈ t.fwd.damped
        ∧ (s.epKey e ∈ s.fwd.damped → t.obs.logQ = s.obs.logQ)
        ∧ (s.epKey e ∉ s.fwd.damped → s.obs.logQ.length < 64 →
          t.obs.logQ = s.obs.logQ ++ [⟨Ev.LEARN_MOVE_DAMPED, 0x603, e, 0, 0, s.time.core⟩])))
  ∧ ∀ s : State, s.stopped = false → s.get F.FWDLRN_AGE_PERIOD_S ≠ 0 →
    s.passed s.fwd.sweepAt (secClocks (s.get F.FWDLRN_AGE_PERIOD_S) / epCount) = true →
    let e := s.fwd.sweepPos
    e < epCount → s.epValid e = true → s.on (F.EP_W2_STATIC e) = false →
    (s.on (F.EP_W2_PENDING e) = true ∨ s.on (F.EP_W3_HIT e) = true ∨ s.on (F.EP_W2_AGE1 e) = false) →
    Completes .ageSweepVisit s fun t => t.epValid e = true ∧ t.epKey e = s.epKey e ∧ t.get (F.EP_W2_MOVES e) = 0
      ∧ s.epKey e ∉ t.fwd.damped

/-- LEARN_INSERT of a request for a key that no entry holds, with a way free in its bucket of table 0, places it:
the key is then found there, with both results the arrival result. AGE_SWEEP_VISIT, due, of a learned entry
clears its hit bit, unless it was set in that clock: one that was hit starts ageing again, one that was not ages
by one, and one of the stash that has aged is removed; the position moves on, wrapping after the last entry. An
accepted FLUSH sets FLUSH_BUSY and, while the stash is empty (else R99 draws its entries into the tables),
clears exactly the valid entries in its scope, STATIC and PENDING ones never (at once is the model's choice, log
entry 188); FLUSH_DONE clears FLUSH_BUSY. The premises on where keys stand and on canonical form rule out states
that no run reaches. An accepted SKIP_COUNTER_CLEAR leaves the counter 0. (04_forwarding.md R98, 04_forwarding.md R100, 04_forwarding.md R102, 04_forwarding.md R103, 04_forwarding.md R106, 04_forwarding.md R108, 04_forwarding.md R128) -/
def Obligations.LearningAgeingAndFlush : Prop :=
  (∀ (pipe : Fin 32) (r : LearnReq) (rest : List LearnReq) (e : Nat) (s : State), s.stopped = false →
    SMap.get (fun _ => []) s.fwd.learnQ pipe = r :: rest → r.move = false → r.key < 2 ^ 64 → r.res < 2 ^ 24 →
    s.epFind r.key = none → s.epFreeWay 0 r.key = some e → Completes (.learnInsert pipe) s fun t =>
      t.epFind r.key = some e ∧ t.epResult 0 e = r.res ∧ t.epResult 1 e = r.res ∧ t.on (F.EP_W2_STATIC e) = false
        ∧ SMap.get (fun _ => []) t.fwd.learnQ pipe = rest)
  ∧ (∀ s : State, s.stopped = false → s.get F.FWDLRN_AGE_PERIOD_S ≠ 0 →
    s.passed s.fwd.sweepAt (secClocks (s.get F.FWDLRN_AGE_PERIOD_S) / epCount) = true →
    let e := s.fwd.sweepPos
    e < epCount → s.epValid e = true → s.on (F.EP_W2_STATIC e) = false → s.on (F.EP_W2_PENDING e) = false →
    let moved (t : State) : Prop := t.fwd.sweepPos = (if e + 1 < epCount then e + 1 else 0) ∧ t.fwd.sweepAt = s.now
    (s.on (F.EP_W3_HIT e) = true → Completes .ageSweepVisit s fun t =>
      t.epValid e = true ∧ t.get (F.EP_W2_AGE1 e) = 0 ∧ t.get (F.EP_W3_HIT e) = (if s.hitNow e then 1 else 0) ∧ moved t)
    ∧ (s.on (F.EP_W3_HIT e) = false → s.on (F.EP_W2_AGE1 e) = false → Completes .ageSweepVisit s fun t =>
      t.epValid e = true ∧ t.get (F.EP_W2_AGE1 e) = 1 ∧ moved t)
    ∧ (s.on (F.EP_W3_HIT e) = false → s.on (F.EP_W2_AGE1 e) = true → stashBase ≤ e →
      Completes .ageSweepVisit s fun t => t.epValid e = false ∧ moved t))
  ∧ (∀ (g : Agent) (scope : Fin 4) (arg : BitVec 16) (s : State), s.stopped = false →
    s.accepts g 0x603104 (2 ^ 31 + scope.val * 2 ^ 29 + arg.toNat) →
    Completes (.flush g scope arg) s fun t => t.get F.FWDLRN_STATUS_FLUSH_BUSY = 1
      ∧ (SMap.wf resetWord s.bar = true → (∀ e < epCount, s.epValid e = true → s.epFind (s.epKey e) = some e) →
        (∀ i < 64, s.epValid (stashBase + i) = false) →
        ∀ e < epCount, t.epWords e
          = if s.epValid e = true ∧ s.flushCovers scope.val arg.toNat e = true then [0#32, 0#32, 0#32, 0#32] else s.epWords e))
  ∧ (∀ s : State, s.stopped = false → Completes .flushDone s fun t =>
    t.get F.FWDLRN_STATUS_FLUSH_BUSY = 0 ∧ t.fwd = s.fwd ∧ ∀ e < epCount, t.epWords e = s.epWords e)
  ∧ ∀ (g : Agent) (desc : BitVec 16) (nolink : Bool) (v : BitVec 32) (s : State), s.stopped = false →
    s.accepts g (0x2400000 + 8 * desc.toNat + (if nolink then 4 else 0)) v.toNat →
    Completes (.skipCounterClear g desc nolink v) s fun t =>
      t.get (if nolink then F.SKIP_W1_NOLINK_SKIPS desc.toNat else F.SKIP_W0_FENCE_SKIPS desc.toNat) = 0

/-- An accepted EPOCH_COPY enters COPYING. EPOCH_COPY_DONE in COPYING returns to STABLE with every banked table of
R109 in the free bank equal to that of the active bank, which stays as it was: the leaf routes, the results of
valid endpoint and stash entries, the chip-number table, the multicast descriptors and the pin tables. That the
copy stands whole at EPOCH_COPY_DONE is the model's reading (log entry 130). EPOCH_DRAIN_EXPIRE in BOTH, with no
packet naming OLD for the drain time, returns to STABLE and counts EPOCH_FREED; before that it changes nothing.
An accepted EPOCH_FREE_NOW returns to STABLE at once and reports it to the log. The active bank is the same
throughout. The premise that registers are in canonical form rules out states that no run reaches. (04_forwarding.md R109, 04_forwarding.md R110, 04_forwarding.md R111, 04_forwarding.md R112) -/
def Obligations.RouteEpochsCopyDrainAndFree : Prop :=
  (∀ (g : Agent) (s : State), s.stopped = false → s.accepts g 0x602100 2 →
    Completes (.epochCopy g) s fun t => t.get F.FWDEPOCH_STATUS_STATE = 2 ∧ t.activeBank = s.activeBank)
  ∧ (∀ s : State, s.stopped = false → SMap.wf resetWord s.bar = true → s.get F.FWDEPOCH_STATUS_STATE = 2 →
    Completes .epochCopyDone s fun t => t.get F.FWDEPOCH_STATUS_STATE = 0 ∧ t.activeBank = s.activeBank
      ∧ (∀ leaf < 1024, t.leafRoute (1 - s.activeBank) leaf = s.leafRoute s.activeBank leaf
        ∧ t.leafRoute s.activeBank leaf = s.leafRoute s.activeBank leaf)
      ∧ (∀ e < epCount, s.epValid e = true → t.epResult (1 - s.activeBank) e = s.epResult s.activeBank e
        ∧ t.epResult s.activeBank e = s.epResult s.activeBank e)
      ∧ ∀ base size : Nat, (base, size) ∈ [(0x02010000, 0x1000), (0x02100000, 0x40000), (0x02200000, 0x100000), (0x02480000, 0x4000)] →
        ∀ o < size, o % 4 = 0 → t.word (base + (1 - s.activeBank) * size + o) = s.word (base + s.activeBank * size + o)
          ∧ t.word (base + s.activeBank * size + o) = s.word (base + s.activeBank * size + o))
  ∧ (∀ s : State, s.stopped = false → s.get F.FWDEPOCH_STATUS_STATE = 1 → SMap.wf (fun _ => 0) s.obs.sel = true →
    (s.passed s.fwd.drainFrom (usClocks (s.get F.FWDEPOCH_DRAIN_DRAIN_US)) = true → Completes .epochDrainExpire s fun t =>
      t.get F.FWDEPOCH_STATUS_STATE = 0 ∧ t.activeBank = s.activeBank
        ∧ Counted s t (fun q => decide (0x600 ≤ q) && decide (q < 0x605)) Ev.EPOCH_FREED 1)
    ∧ (s.passed s.fwd.drainFrom (usClocks (s.get F.FWDEPOCH_DRAIN_DRAIN_US)) = false → Completes .epochDrainExpire s fun t =>
      t.get F.FWDEPOCH_STATUS_STATE = 1 ∧ t.activeBank = s.activeBank ∧ t.fwd = s.fwd))
  ∧ ∀ (g : Agent) (s : State), s.stopped = false → s.accepts g 0x602100 4 → s.obs.logQ.length < 64 →
    Completes (.epochFreeNow g) s fun t => t.get F.FWDEPOCH_STATUS_STATE = 0 ∧ t.activeBank = s.activeBank
      ∧ t.obs.logQ = s.obs.logQ ++ [⟨Ev.EPOCH_FREED, 0x602, 0, 0, 0, s.time.core⟩]

/-- A queue that a decision of R148 picks is eligible by R147. On a port that is UP and sends nothing, SCHED_SELECT
starts the head of the queue picked: the frame leaves on the port, S of its VC falls by the packet's cells and
the cells started rise by them, the entry leaves the queue, and the port is sending. While the port sends, the
queue picked is kept as the one that follows. If no queue is picked, or one is kept already, or a transaction's
device time has come and it has not committed (R388), nothing leaves and no link changes. LAUNCH_DUE does the
same where the head of a LAUNCH queue has reached its launch time, and on another queue leaves links and queues
as they are. That it decides one packet ahead is the model's (log entry 50). (05_cistern.md R136, 05_cistern.md R147, 05_cistern.md R148, 05_cistern.md R149, 05_cistern.md R155, 11_lanes.md R352, 12_time.md R388) -/
def Obligations.SchedulerStartsAnEligibleHead : Prop :=
  let starts (p : PortIx) (q : Nat) (e : QEnt) (k : Pkt) (s t : State) : Prop :=
    let v := pVc k.bytes
    (t.portSt p).tx = some (e, v, k.cells.length) ∧ (t.vcSt p v).credits = (s.vcSt p v).credits - k.cells.length
      ∧ (t.vcSt p v).started = ((s.vcSt p v).started + k.cells.length) % 2 ^ 32
      ∧ (t.queue p q).ents = (s.queue p q).ents.drop 1
      ∧ (∀ w, w ≠ v → t.vcSt p w = s.vcSt p w) ∧ ∃ b, Sent s t [.frame p b]
  let decides (p : PortIx) (s : State) : Prop := s.portUp p = true ∧ (s.portSt p).next = none ∧ s.commitDue = false
  (∀ (p : PortIx) (q : Nat) (s : State), (s.select p).1 = some q → (s.select p).2.eligible p q = true)
  ∧ (∀ (p : PortIx) (q : Nat) (e : QEnt) (k : Pkt) (s : State), s.stopped = false → decides p s →
    (s.portSt p).tx = none → (s.select p).1 = some q → s.headPkt p q = some (e, k) →
    Completes (.schedSelect p) s (starts p q e k s))
  ∧ (∀ (p : PortIx) (q : Nat) (s : State), s.stopped = false → decides p s → (s.portSt p).tx ≠ none →
    (s.select p).1 = some q → Completes (.schedSelect p) s fun t => (t.portSt p).next = some q
      ∧ (t.portSt p).tx = (s.portSt p).tx ∧ (∀ v, t.vcSt p v = s.vcSt p v) ∧ Sent s t [])
  ∧ (∀ (p : PortIx) (s : State), s.stopped = false → (s.select p).1 = none ∨ ¬ decides p s →
    Completes (.schedSelect p) s fun t => t.ports = s.ports ∧ Sent s t [])
  ∧ (∀ (p : PortIx) (l : Fin 64) (h : QEnt × Pkt) (q : Nat) (e : QEnt) (k : Pkt) (s : State), s.stopped = false →
    decides p s → (s.portSt p).tx = none → s.headPkt p l = some h → s.on (F.QUEUE_W0_LAUNCH (64 * p + l)) = true →
    h.2.launch.any s.launchDue = true → (s.select p).1 = some q → s.headPkt p q = some (e, k) →
    Completes (.launchDue p l) s (starts p q e k s))
  ∧ ∀ (p : PortIx) (l : Fin 64) (s : State), s.on (F.QUEUE_W0_LAUNCH (64 * p + l)) = false →
    Completes (.launchDue p l) s fun t => t.ports = s.ports ∧ t.cis = s.cis

/-- QUEUE_STALL of a queue whose head has been blocked for the stall time empties it and drops its arrivals until
credit of that VC comes. GROUP_RETURN_RELEASE ends a wait whose entries have all left, the one being sent among
them. WEIR_ETH_DEBIT credits the policer of the port's oldest waiting debit, raises a bucket below −M_F to it
and debits the buckets its colour names (green both, yellow the peak bucket, red none). CISTERN_SWEEP counts a
walk; a sound ALLOCATED cell that this walk and the last missed returns to FREE with ORPHAN set in BOOKS; a
packet with fewer references than were found gets the number found, with REF_FAULT. MC_REPLICATE takes the
oldest waiting packet; where its first descriptor is not valid, the packet is gone. The premise that the list of
cells is in canonical form rules out states that no run reaches. Log entries 142, 148 and 149 are the model's. (02_guarantees.md R33, 02_guarantees.md R47, 02_guarantees.md R49, 02_guarantees.md R50, 04_forwarding.md R121, 04_forwarding.md R126, 05_cistern.md R150, 05_cistern.md R157) -/
def Obligations.QueuesPolicersAndTheSweep : Prop :=
  (∀ (p : PortIx) (q : Fin 64) (x : Nat) (h : QEnt × Pkt) (s : State), s.stopped = false →
    (s.queue p q).blockedSince = some x → s.headPkt p q = some h →
    s.passed x (usClocks (s.get F.CISCFG_STALL_STALL_US)) = true →
    Completes (.queueStall p q) s fun t => (t.queue p q).ents = [] ∧ (t.queue p q).stalled = true
      ∧ (t.queue p q).stallVc = pVc h.2.bytes ∧ (t.queue p q).blockedSince = none)
  ∧ (∀ (p : PortIx) (q : Fin 64) (s : State), s.stopped = false → (s.queue p q).wait ≠ [] →
    (∀ n ∈ (s.queue p q).wait, ∀ y ∈ s.cis.queues, ∀ e ∈ y.2.ents, e.seq ≠ n) →
    (∀ n ∈ (s.queue p q).wait, ∀ y ∈ s.ports, ∀ x, y.2.tx = some x → x.1.seq ≠ n) →
    Completes (.groupReturnRelease p q) s fun t => (t.queue p q).wait = [] ∧ (t.queue p q).ents = (s.queue p q).ents)
  ∧ (∀ (p : PortIx) (x i c b : Nat) (s : State), s.stopped = false →
    s.cis.ethDebits.find? (fun y => y.1 == p.val) = some (x, i, c, b) → Completes (.weirEthDebit p) s fun t =>
      let cc := (((s.policer i).c.credit s.now (s.get (F.POLICER_W0_CIR i)) (s.get (F.POLICER_W2_CBS i))).1.floor s.maxFrame).1
      let pp := (((s.policer i).p.credit s.now (s.get (F.POLICER_W1_PIR i)) (s.get (F.POLICER_W3_PBS i))).1.floor s.maxFrame).1
      t.cis.ethDebits = s.cis.ethDebits.erase (x, i, c, b)
        ∧ (t.policer i).c = (if c = 0 then (cc.debit b s.maxFrame).1 else cc)
        ∧ (t.policer i).p = (if c ≤ 1 then (pp.debit b s.maxFrame).1 else pp)
        ∧ ∀ j, j ≠ i → t.policer j = s.policer j)
  ∧ (∀ s : State, s.stopped = false → SMap.wf (fun _ => ({} : Cell)) s.cis.cells = true →
    Completes .cisternSweep s fun t => t.cis.walk = s.cis.walk + 1
      ∧ (∀ (c : Nat) (x : Cell), s.cell c = x → x.st = .allocated → x.bad = false → x.missed = true → x.walk < s.cis.walk →
        c ∉ s.reached (s.references ++ s.heldPkts s.pathPkts) → t.cell c = {} ∧ nbit (t.word 0x140).toNat 2 = 1)
      ∧ ∀ (i : Nat) (k : Pkt), s.pkt? i = some k → k.cells ≠ [] → k.refs < s.references.count i →
        (t.pkt? i).map Pkt.refs = some (s.references.count i) ∧ nbit (t.word 0x140).toNat 4 = 1)
  ∧ (∀ (m : McItem) (rest : List McItem) (s : State), s.stopped = false → s.cis.mcQ = m :: rest →
    Completes .mcReplicate s fun t => t.cis.mcQ = rest
      ∧ ∀ k, s.pkt? m.pkt = some k → s.on (F.MDESC_W0_VALID (k.bank * 65536 + m.desc)) = false →
        t.pkt? m.pkt = none)

/-- Whatever the state, if LEARN_INSERT, LEARN_MOVE, AGE_SWEEP_VISIT, FLUSH_DONE, EPOCH_COPY_DONE or
EPOCH_DRAIN_EXPIRE answers a next state, only registers and tables, forwarding state and what the part records
of itself may have changed; WEIR_ETH_DEBIT and GROUP_RETURN_RELEASE leave everything but registers, the Cistern
and those records. (04_forwarding.md R98, 04_forwarding.md R106, 04_forwarding.md R111, 05_cistern.md R150) -/
def Obligations.ForwardingEventsLeaveTheRestAlone : Prop :=
  ∀ s t : State,
    (∀ c : Instr, (∃ p, c = .learnInsert p ∨ c = .learnMove p) ∨ c = .ageSweepVisit ∨ c = .flushDone ∨ c = .epochCopyDone
        ∨ c = .epochDrainExpire → exec c s = .next t →
      t.cis = s.cis ∧ t.ports = s.ports ∧ t.mem = s.mem ∧ t.bsn = s.bsn ∧ t.col = s.col ∧ t.glass = s.glass
        ∧ t.time = s.time ∧ t.mgmt = s.mgmt ∧ t.nvm = s.nvm ∧ t.cages = s.cages ∧ t.pwr = s.pwr ∧ t.hlth = s.hlth)
    ∧ ∀ c : Instr, (∃ p, c = .weirEthDebit p) ∨ (∃ p q, c = .groupReturnRelease p q) → exec c s = .next t →
      t.fwd = s.fwd ∧ t.ports = s.ports ∧ t.mem = s.mem ∧ t.bsn = s.bsn ∧ t.col = s.col ∧ t.glass = s.glass
        ∧ t.time = s.time ∧ t.mgmt = s.mgmt ∧ t.nvm = s.nvm ∧ t.cages = s.cages ∧ t.pwr = s.pwr ∧ t.hlth = s.hlth

/-- For each command of R190 and for opcodes outside them: where the round robin comes to the queue next (the first
from its cursor on that is enabled with HEAD not at TAIL) and the entry at HEAD has the command's opcode, the
command answers a next state. The entry's first word then holds the opcode, DONE, and either OK or the code; its
OUT word holds the outcome's OUT where it was applied and else stays; HEAD has moved on modulo 64 and DONE_COUNT
by one modulo 2^16. A rejected command leaves the collective engine's state as it was but for the cursor, and an
opcode outside R190 is rejected with REJ_RANGE. An accepted COLQ_TAIL_WRITE writes TAIL. Log entry 114 (the
round robin) is the model's. (06_collectives.md R188, 06_collectives.md R189, 06_collectives.md R190, 06_collectives.md R194) -/
def Obligations.CommandQueuesAnswerEachEntryInTurn : Prop :=
  let answers (mk : Fin 256 → Instr) (ok : Nat → Prop) : Prop := ∀ (q : Fin 256) (s : State), s.stopped = false →
    let n := q.val / 128
    let i := q.val % 128
    let h := s.get (F.COLQ_HEAD_HEAD n i)
    let a := colqBase q + 64 * h
    let op := nfield (s.word a).toNat 31 24
    let key := (s.word (a + 4)).toNat
    let r := s.colCommand q op (key / 65536) (key % 65536) (s.word (a + 8)).toNat
    s.nextQueue = some q.val → ok op →
    Completes (mk q) s fun t =>
      t.word a = BitVec.ofNat 32 (op * 2 ^ 24 + 2 ^ 23 + if r.code = 0 then 2 ^ 22 else r.code)
        ∧ t.word (a + 12) = (if r.code = 0 then BitVec.ofNat 32 r.out else s.word (a + 12))
        ∧ t.get (F.COLQ_HEAD_HEAD n i) = (h + 1) % 64
        ∧ t.get (F.COLQ_DONE_DONE_COUNT n i) = (s.get (F.COLQ_DONE_DONE_COUNT n i) + 1) % 2 ^ 16
        ∧ (r.code ≠ 0 → t.col = { s.col with cursor := (q.val + 1) % 256 }) ∧ (op = 0 ∨ 6 < op → r.code = Rej.RANGE)
  answers .commAdmit (· = 1) ∧ answers .commTeardown (· = 2) ∧ answers .ctxAlloc (· = 3) ∧ answers .ctxAbort (· = 4)
    ∧ answers .memberFence (· = 5) ∧ answers .templateSet (· = 6) ∧ answers .colCmdInvalid (fun o => o = 0 ∨ 6 < o)
    ∧ ∀ (g : Agent) (q : Fin 256) (tail : BitVec 32) (s : State), s.stopped = false →
      s.accepts g (0x901104 + 0x1000 * (q.val / 128) + 16 * (q.val % 128)) tail.toNat →
      Completes (.colqTailWrite g q tail) s fun t =>
        t.get (F.COLQ_TAIL_TAIL (q.val / 128) (q.val % 128)) = tail.toNat % 64

/-- These are the operations that the commands of R190 apply. COMM_ADMIT applied leaves a valid communicator with
its key, its members' number and BASE, and each position of its window IDLE. CTX_ALLOC applied leaves the
position of the CSEQ OPEN. CTX_ABORT of an OPEN context leaves it CLOSING with ABORTED as its reason.
MEMBER_FENCE fences the member for later contexts, or ends that. TEMPLATE_SET applied leaves the staged block as
TEMPLATE, its reserved bits read as 0. COMM_TEARDOWN applied leaves the communicator TEARING. Log entries 112
and 151 are the model's. (06_collectives.md R167, 06_collectives.md R171, 06_collectives.md R190, 06_collectives.md R192) -/
def Obligations.AppliedCommandsActOnTheTables : Prop :=
  (∀ (q part comm arg : Nat) (s : State), q < 256 → part < 65536 → comm < 65536 → arg < 2 ^ 32 →
    let r := s.commAdmit q part comm arg
    r.code = 0 → r.out < 4096 ∧ s.on (F.COMM_W1_VALID r.out) = false ∧ r.st.on (F.COMM_W1_VALID r.out) = true
      ∧ r.st.get (F.COMM_W0_PART r.out) = part ∧ r.st.get (F.COMM_W0_COMM r.out) = comm
      ∧ r.st.get (F.COMM_W5_BASE r.out) = arg ∧ r.st.nmemb r.out = nfield (s.stagedComm q 1) 10 0
      ∧ ∀ c ∈ r.st.commCtxs r.out, (r.st.ctx c).phase = 1)
  ∧ (∀ (q m part cseq c : Nat) (s : State), s.seqPos m cseq = some c → (s.ctxAlloc q m part cseq).code = 0 →
    ((s.ctxAlloc q m part cseq).st.ctx c).phase = 2 ∧ (s.ctx c).phase = 1)
  ∧ (∀ (m cseq : Nat) (s : State), let c := s.posCtx m (cseq % s.get (F.COMM_W3_WIN m))
    (s.ctx c).phase = 2 → s.get (F.CTX_W11_CSEQ c) = cseq → let r := s.ctxAbort m cseq
    r.code = 0 ∧ (r.st.ctx c).phase = 4 ∧ (r.st.ctx c).close = some stAborted)
  ∧ (∀ (m arg : Nat) (s : State), nfield arg 9 0 < s.nmemb m → let r := s.memberFence m arg
    r.code = 0 ∧ (nfield arg 9 0 ∈ (r.st.comm m).fenced ↔ nbit arg 31 = 1))
  ∧ (∀ (q m part : Nat) (s : State), m < 4096 → (s.templateSet q m part).code = 0 →
    (s.templateSet q m part).st.template m = s.stagedParams q)
  ∧ ∀ (m arg : Nat) (s : State), m < 4096 → (s.commTeardown m arg).code = 0 →
    s.tearing m = false ∧ (s.commTeardown m arg).st.tearing m = true

/-- COL_MATCH takes the oldest chunk. Checks 1, 2, 3, 4, 8, 9, 10 and 11 of R172 drop it: its packet is gone, the
credit of its cells returns to its port account, the check's event counts on the collective pages, MISMATCH,
LATE and DUPLICATES rise in the context entry where one holds the CSEQ, and the engine is otherwise as it was.
Checks 5 and 7 count COL_FB_WINDOW and COL_FB_NORES and, for NORES, FALLBACKS, and the chunk goes on as a
FALLBACK. Of an OPEN context that is not PAIRED, a chunk that no check stops has its arrival bit set, raises
MATCHED (saturating) and is last on the path to the Basin of its index, whose staging has room and whose clock
is not changing. A chunk for which the bridge has no credit waits (the model's reading, log entry 155). The
premises on canonical form and small numbers rule out states that no run reaches. (06_collectives.md R172, 06_collectives.md R181, 06_collectives.md R182, 03_headers.md R84, 06_collectives.md R175) -/
def Obligations.MatcherAcceptsOnceAndDropsTheRest : Prop :=
  ∀ (i : Nat) (rest : List Nat) (k : Pkt) (s : State), s.stopped = false → s.cis.chunkQ = i :: rest → s.pkt? i = some k →
    SMap.wf (fun _ => 0) s.obs.sel = true → SMap.wf (fun _ => []) s.col.path = true →
    let b := k.bytes
    let counted (t : State) (ev : Nat) : Prop := Counted s t (fun q => decide (0x900 ≤ q) && decide (q < 0x904)) ev 1
    let dropped (ev : Nat) (t : State) : Prop := t.cis.chunkQ = rest ∧ t.pkt? i = none ∧ t.col = s.col ∧ counted t ev
      ∧ ∀ p v, k.acct = .port p v → (t.vcSt p v).returned = ((s.vcSt p v).returned + k.cells.length) % 2 ^ 32
    (s.on F.COLCFG_CTRL_EN = false → Completes .colMatch s (dropped Ev.COL_DISABLED))
    ∧ (s.on F.COLCFG_CTRL_EN = true → s.commFind (cPart b) (cComm b) = none → Completes .colMatch s (dropped Ev.COL_NOCOMM))
    ∧ ∀ m : Nat, s.on F.COLCFG_CTRL_EN = true → s.commFind (cPart b) (cComm b) = some m →
      (s.tearing m = true → Completes .colMatch s (dropped Ev.COL_TORN))
      ∧ (s.tearing m = false →
        let win := s.get (F.COMM_W3_WIN m)
        let d := (cSeq b + 2 ^ 32 - s.get (F.COMM_W5_BASE m)) % 2 ^ 32
        let c := s.posCtx m (cSeq b % win)
        let holds := s.get (F.CTX_W11_CSEQ c) = cSeq b
        let seen := (s.ctx c).arrived (arrKey b) = true
        let gone := (s.ctx c).phase = 5 ∧ holds ∧ ¬ seen
        let fenced := cSub b ≠ 0x2 ∧ cContrib b ∈ (s.ctx c).fenced
        let raised (t : State) (n : Nat) : Prop := t.ctxCounter c n = min (s.ctxCounter c n + 1) (2 ^ 32 - 1)
        c < 16384 →
        (2 ^ 31 ≤ d ∨ (d < win ∧ ¬ holds) → Completes .colMatch s (dropped Ev.COL_LATE))
        ∧ (d < 2 ^ 31 → gone → Completes .colMatch s fun t => dropped Ev.COL_LATE t ∧ raised t 3)
        ∧ (d < 2 ^ 31 → ¬ gone → win ≤ d → Completes .colMatch s fun t => t.cis.chunkQ = rest ∧ counted t Ev.COL_FB_WINDOW)
        ∧ (d < 2 ^ 31 → d < win → holds → (s.ctx c).phase = 3 → Completes .colMatch s fun t =>
          t.cis.chunkQ = rest ∧ counted t Ev.COL_FB_NORES ∧ raised t 5)
        ∧ (d < 2 ^ 31 → d < win → holds → (s.ctx c).phase = 2 ∨ (s.ctx c).phase = 4 →
          (s.chunkFits c b = false → Completes .colMatch s fun t => dropped Ev.COL_MISMATCH t ∧ raised t 4)
          ∧ (s.chunkFits c b = true → fenced → Completes .colMatch s (dropped Ev.COL_FENCED))
          ∧ (s.chunkFits c b = true → ¬ fenced → seen → Completes .colMatch s fun t => dropped Ev.COL_DUP t ∧ raised t 2)
          ∧ (s.chunkFits c b = true → ¬ fenced → ¬ seen → (s.ctx c).phase = 4 →
            Completes .colMatch s fun t => dropped Ev.COL_LATE t ∧ raised t 3)
          ∧ (s.chunkFits c b = true → ¬ fenced → ¬ seen → (s.ctx c).phase = 2 → (s.params c).paired = false →
            let n := (s.params c).basinOf (if cSub b = 0x1 then 0 else cIdx b) 0
            s.stagedOn n + (pPayload b).length ≤ s.stagingBytes n → s.clkHeld n = false → Completes .colMatch s fun t =>
              t.cis.chunkQ = rest ∧ (t.ctx c).arrived (arrKey b) = true ∧ raised t 1 ∧ counted t Ev.COL_ACCEPT
                ∧ t.path n = s.path n ++ [.chunk i c (cIdx b) 0])))

/-- On a Basin that takes items (not FROZEN, its clock not changing, not paused, a core idle), BSN_ACCUMULATE takes
the chunk at the head of the path, accounts its member as arrived unless it is a RECORD, counts it once in the
context, and counts BSN_ITEM_ACC; the path then holds what stood behind, and the context's close marker where
this completed it. MARKER_AT_BASIN, the Basin's clock not changing, takes a marker at the head: a fence marker
records the member as skipped on that Basin, a close marker records the Basin as closed. BSN_FINISH, no chunk
being ready and the staging having room, of the oldest ready item, without spill, of a REDUCE context that is
not PAIRED, stages a RESULT whose bytes are the images' values encoded in OFMT by R207, and the item is gone.
Log entries 154, 155 and 161 are the model's. (02_guarantees.md R52, 06_collectives.md R174, 06_collectives.md R175, 06_collectives.md R176, 07_numerics.md R207, 08_basins.md R268) -/
def Obligations.BasinsTakeChunksMarkersAndFinishItems : Prop :=
  (∀ (b : BasinIx) (i c idx half : Nat) (rest : List BasinItem) (k : Pkt) (s : State), s.stopped = false →
    s.path b = .chunk i c idx half :: rest → s.takesItems b = true → s.pkt? i = some k →
    SMap.wf (fun _ => 0) s.obs.sel = true → Completes (.bsnAccumulate b) s fun t =>
      (t.path b = rest ∨ t.path b = rest ++ [.close c])
        ∧ (t.ctx c).accd = (s.ctx c).accd + (if half = 0 then 1 else 0)
        ∧ (cSub k.bytes ≠ 0x2 → cContrib k.bytes ∈ ((t.ctx c).index idx half).arrived)
        ∧ Counted s t (· == 0xa00 + b.val) Ev.BSN_ITEM_ACC 1)
  ∧ (∀ (b : BasinIx) (c i : Nat) (rest : List BasinItem) (s : State), s.stopped = false →
    s.path b = .fence c i :: rest → s.clkHeld b = false → Completes (.markerAtBasin b) s fun t =>
      (t.path b = rest ∨ t.path b = rest ++ [.close c]) ∧ i ∈ (t.ctx c).skipOn b)
  ∧ (∀ (b : BasinIx) (c : Nat) (rest : List BasinItem) (s : State), s.stopped = false →
    s.path b = .close c :: rest → s.clkHeld b = false → Completes (.markerAtBasin b) s fun t =>
      t.path b = rest ∧ (t.ctx c).closedAt = b.val :: (s.ctx c).closedAt)
  ∧ ∀ (b : BasinIx) (bad : Bool) (c idx half : Nat) (s : State), s.stopped = false →
    s.nextFin b = some (c, idx, half) → s.takesItems b = true → s.chunkReady b = false →
    (s.params c).spill = false → (s.params c).type = 0 → (s.params c).paired = false →
    let p := s.params c
    let y := (s.ctx c).index idx half
    let vals := y.images.map (imageVal p.op p.fmt (s.weightOf c y.arrived))
    let key := s.ctxKey c
    let bytes := (encodeVals p.ofmt vals p.sr (srDraw p.srseed key.1 key.2.1 key.2.2 idx) p.ovf).1
    s.stagedOn b + bytes.length ≤ s.stagingBytes b → Completes (.bsnFinish b bad) s fun t =>
      t.finItems b = (s.finItems b).erase (c, idx, half) ∧ ∃ o : ColOut, t.col.outQ = s.col.outQ ++ [o] ∧ o.ctx = c ∧ o.sub = 0x8 ∧ o.cidx = idx
        ∧ o.body.bytes = bytes

/-- RESULT_HANDOFF with a packet staged: where its Basin's clock is not changing (a record has none) and the VC5
pool and the Cistern have its cells, those released in this clock not counted as free, the packet stands in the
Cistern with the engine's header and payload, charged to VC5, and waits for the replicator at the communicator's
descriptor, and the writer goes on to the next (a completion record counting COL_COMPLETE then); where the pool
has not, no packet is placed, the writer keeps it, and CIS_VC5_WAIT is counted the first time. Log entries 146
and 161 are the model's. (05_cistern.md R130, 06_collectives.md R174, 06_collectives.md R177, 08_basins.md R268) -/
def Obligations.ResultsAreHandedWithinThePools : Prop :=
  (∀ (o : ColOut) (rest : List ColOut) (s : State), s.stopped = false → s.col.outQ = o :: rest →
    (o.sub ≠ 0x9 → s.clkHeld o.body.basin = false) →
    let b := s.outBytes o
    s.chargedSeen .vc5 + cellsOf b.length ≤ s.get F.CISCFG_POOL_VC5_CELLS →
    s.hasCells (cellsOf b.length) = true →
    Completes .resultHandoff s fun t => t.col.outQ = rest
      ∧ (t.pkt? s.cis.nextPkt).map (fun k => (k.bytes, k.acct)) = some (b, Account.vc5)
      ∧ t.cis.mcQ = s.cis.mcQ ++ [⟨s.cis.nextPkt, s.get (F.COMM_W2_RDESC (s.ctxComm o.ctx)), none⟩]
      ∧ (o.sub = 0x9 → SMap.wf (fun _ => 0) s.obs.sel = true →
        Counted s t (fun q => decide (0x900 ≤ q) && decide (q < 0x904)) Ev.COL_COMPLETE 1))
  ∧ ∀ (o : ColOut) (rest : List ColOut) (s : State), s.stopped = false → s.col.outQ = o :: rest →
    (o.sub ≠ 0x9 → s.clkHeld o.body.basin = false) → s.get F.CISCFG_POOL_VC5_CELLS < s.chargedSeen .vc5 + cellsOf (s.outBytes o).length →
    SMap.wf (fun _ => 0) s.obs.sel = true →
    Completes .resultHandoff s fun t => t.col.outQ = { o with waited := true } :: rest ∧ t.cis = s.cis
      ∧ Counted s t (fun q => decide (0x700 ≤ q) && decide (q < 0x702)) Ev.CIS_VC5_WAIT (if o.waited then 0 else 1)

/-- CTX_DEADLINE, past, closes an OPEN context as TIMEOUT with a close marker last on the path to each Basin of its
mask, and finishes a NORES one; both set ISTAT.TIMEOUT. CTX_COMPLETE of a CLOSING context with no work left
finishes it: it is DONE, STATUS is that of R179 and its record is staged. CTX_LINGER_EXPIRE, past, returns a
DONE context to IDLE with CSEQ advanced by WIN. SLOT_RELEASE_MSG takes the oldest release message off the
ledger, but in a teardown keeps its bytes and blocks in use until event 5. SLOT_LEDGER_CHECK, due, takes off a
record whose owner is gone and which no Basin holds, found so before, and sets bit 7 of BOOKS. TEARDOWN_RELEASE
of a quiet TEARING communicator sends its releases; TEARDOWN_DONE, when they are processed, frees its entry and
its contexts. The premises on indices rule out states that no run reaches. Log entry 117 (bytes of an ONDEMAND
context) is the model's. (02_guarantees.md R53, 02_guarantees.md R54, 06_collectives.md R169, 06_collectives.md R171, 06_collectives.md R176, 06_collectives.md R178, 06_collectives.md R179, 06_collectives.md R192) -/
def Obligations.ContextsCloseFinishAndReturn : Prop :=
  let finished (c : Nat) (s t : State) : Prop := (t.ctx c).phase = 5 ∧ (t.ctx c).doneAt = s.now
    ∧ t.get (F.CTX_W28_STATUS c) = s.statusOf c ∧ ∃ o : ColOut, t.col.outQ = s.col.outQ ++ [o] ∧ o.ctx = c ∧ o.sub = 0x9
  (∀ (c : Fin 16384) (s : State), s.stopped = false → (s.ctx c).openAt + usClocks (s.params c).deadline ≤ s.now →
    ((s.ctx c).phase = 2 → Completes (.ctxDeadline c) s fun t => (t.ctx c).phase = 4 ∧ (t.ctx c).close = some stTimeout
      ∧ t.get F.COLCFG_ISTAT_TIMEOUT = 1 ∧ ∀ b ∈ (s.params c).basins, t.path b = s.path b ++ [.close c.val])
    ∧ ((s.ctx c).phase = 3 → Completes (.ctxDeadline c) s fun t => finished c s t ∧ t.get F.COLCFG_ISTAT_TIMEOUT = 1))
  ∧ (∀ (c : Fin 16384) (s : State), s.stopped = false → (s.ctx c).phase = 4 → s.ctxQuiet c = true →
    Completes (.ctxComplete c) s (finished c s))
  ∧ (∀ (c : Fin 16384) (s : State), s.stopped = false → (s.ctx c).phase = 5 → s.tearing (s.ctxComm c) = false →
    (s.ctx c).doneAt + usClocks (s.get F.COLCFG_LINGER_LINGER_US) ≤ s.now → (∀ o ∈ s.col.outQ, o.ctx ≠ c) →
    (∀ r ∈ s.col.held, r.basin < 50) → Completes (.ctxLingerExpire c) s fun t => (t.ctx c).phase = 1
      ∧ t.get (F.CTX_W11_CSEQ c) = (s.get (F.CTX_W11_CSEQ c) + s.get (F.COMM_W3_WIN (s.ctxComm c))) % 2 ^ 32)
  ∧ (∀ (r : SlotRec) (blocks : Nat) (rest : List (SlotRec × Nat)) (s : State), s.stopped = false →
    s.col.releaseQ = (r, blocks) :: rest → Completes .slotReleaseMsg s fun t => t.col.releaseQ = rest
      ∧ (s.ownerTorn r.owner = false → t.col.ledger = s.col.ledger.erase r ∧ t.col.blocksUsed = s.col.blocksUsed - blocks)
      ∧ (s.ownerTorn r.owner = true → t.col.ledger = s.col.ledger ∧ t.col.blocksUsed = s.col.blocksUsed))
  ∧ (∀ s : State, s.stopped = false → s.col.lastCheck + msClocks 1 ≤ s.now → Completes .slotLedgerCheck s fun t =>
    t.col.lastCheck = s.now ∧ ∀ r ∈ s.col.ledger, s.ownerLives r.owner = false → r ∉ s.col.held → r ∈ s.col.suspects →
      r ∉ t.col.ledger ∧ nbit (t.word 0x140).toNat 7 = 1)
  ∧ (∀ (m : Fin 4096) (s : State), s.stopped = false → s.on (F.COMM_W1_VALID m) = true → s.tearing m = true →
    (s.comm m).releasing = false → s.commQuiet m = true → Completes (.teardownRelease m) s fun t =>
      (t.comm m).releasing = true ∧ ∀ r ∈ t.col.held, r.owner ≠ 16384 + m.val)
  ∧ ∀ (m : Fin 4096) (s : State), s.stopped = false → (s.comm m).releasing = true → s.col.releaseQ = [] →
    (∀ c ∈ s.commCtxs m, c < 16384) → Completes (.teardownDone m) s fun t => t.on (F.COMM_W1_VALID m) = false
      ∧ t.comm m = {} ∧ (∀ c ∈ s.commCtxs m, (t.ctx c).phase = 0) ∧ t.get F.COLCFG_ISTAT_TORN_DONE = 1

/-- Whatever the state, if MARKER_AT_BASIN, CTX_DEADLINE, CTX_COMPLETE, CTX_LINGER_EXPIRE, SLOT_RELEASE_MSG,
SLOT_LEDGER_CHECK, TEARDOWN_RELEASE, TEARDOWN_DONE or a command of a queue answers a next state, only registers
and tables, the engine's own state and what the part records of itself may have changed; MARKER_AT_BASIN may
also have requests of the spill path waiting at its stop. (06_collectives.md R172, 06_collectives.md R176, 06_collectives.md R178, 06_collectives.md R188) -/
def Obligations.CollectiveEventsLeaveTheRestAlone : Prop :=
  ∀ (c : Instr) (s t : State), collectiveEvent c = true → exec c s = .next t →
    t.cis = s.cis ∧ t.ports = s.ports ∧ t.fwd = s.fwd ∧ ((∀ b, c ≠ .markerAtBasin b) → t.mem = s.mem)
      ∧ t.mem = { s.mem with stopQ := t.mem.stopQ, arb := t.mem.arb } ∧ t.bsn = s.bsn ∧ t.glass = s.glass ∧ t.time = s.time
      ∧ t.mgmt = s.mgmt ∧ t.nvm = s.nvm ∧ t.cages = s.cages ∧ t.pwr = s.pwr ∧ t.hlth = s.hlth ∧ t.lcQ = s.lcQ

/-- A core that issues such a word completes it: SALU writes D (S0 discards it), with any value where a shift count
is 64 or more; VFP and VINT write the enabled byte lanes of D, or a mask register where they compare; VCVT
converts, and copies where SFMT equals DFMT; VPERM moves lanes. Then pc is 8 further. SBR goes to its own
address plus EXT where it jumps, calls or its condition holds, CALL leaves pc + 8 in D, and the return from a
call goes to the address in A. With the bytes go the marks of elements that a convert saturated (log entry 126),
which a copy and a move of lanes carry; a new value has none. One more instruction counts against BUDGET, and
but for tagging no other register, core, memory or component changes. Merging takes each byte lane whose mask
bit is set from the new value, and every other from the old. Log entries 119 to 121 and 125 are the model's. (07_numerics.md R208, 08_basins.md R234, 08_basins.md R236, 08_basins.md R237, 08_basins.md R239, 08_basins.md R240, 08_basins.md R270) -/
def Obligations.CoresExecuteComputeInstructions : Prop :=
  let does (mk : Instr) (b : BasinIx) (k : CoreIx) (cls : Nat) (f : CoreSt → Nat → CoreSt → Prop) : Prop :=
    ∀ (w : Nat) (v : Inv) (s : State), s.stopped = false → s.issues b k cls w v →
      Completes mk s fun t => ∃ c, f (s.core b k) w c ∧ CoreAfter s t b k c ((s.core b k).pc + 8)
  let goes (mk : Instr) (b : BasinIx) (k : CoreIx) (f : CoreSt → Nat → CoreSt × Nat) : Prop :=
    ∀ (w : Nat) (v : Inv) (s : State), s.stopped = false → s.issues b k 0x1 w v →
      Completes mk s fun t => CoreAfter s t b k (f (s.core b k) w).1 (f (s.core b k) w).2
  let lane (n : Nat) (c : CoreSt) (r i : Nat) : Nat := laneOf n (c.vreg r) i
  let target (c : CoreSt) (w : Nat) : Nat := (c.pc + iImm w) % 2 ^ 64
  (∀ (mask old new i : Nat), i < 64 → laneOf 8 (mergeBytes mask old new) i = laneOf 8 (if nbit mask i = 1 then new else old) i)
  ∧ ∀ (b : BasinIx) (k : CoreIx),
    (∀ (o : SaluBin) (imm : Bool), does (.insnSalu b k (some (.bin o imm))) b k 0x0 fun c w c' => ∃ free,
      c' = c.setS (iD w) (saluBin o (c.sreg (iA w)) (if imm then iImm w else c.sreg (iB w)) free))
    ∧ (does (.insnSalu b k (some .not_)) b k 0x0 fun c w c' => c' = c.setS (iD w) (2 ^ 64 - 1 - c.sreg (iA w)))
    ∧ (does (.insnSalu b k (some .movi)) b k 0x0 fun c w c' => c' = c.setS (iD w) (iImm w))
    ∧ (∀ o : VfpOp, does (.insnVfp b k (some o)) b k 0x3 fun c w c' =>
      let l := (List.range 16).map fun i => vfpLane o (lane 32 c (iA w) i) (lane 32 c (iB w) i) (lane 32 c (iC w) i)
      let mask := c.laneMask (iMask w)
      c' = if vfpCompares o then c.setK (iD w % 8) (laneBits 4 mask (c.kreg (iD w % 8)) l) else c.setV (iD w) mask (ofLanes 32 l))
    ∧ (∀ o : VintOp, does (.insnVint b k (some o)) b k 0x4 fun c w c' => ∃ free : Nat → Nat,
      let n := 2 ^ o.lane.val
      let l := (List.range (64 / n)).map fun i => vintLane o.op (8 * n) (lane (8 * n) c (iA w) i) (lane (8 * n) c (iB w) i) (free i)
      let mask := c.laneMask (iMask w)
      c' = if vintCompares o.op then c.setK (iD w % 8) (laneBits n mask (c.kreg (iD w % 8)) l)
        else c.setV (iD w) mask (ofLanes (8 * n) l))
    ∧ (∀ (w : Nat) (v : Inv) (s : State), s.stopped = false → s.issues b k 0x6 w v →
      let c := s.core b k
      let sf := nfield (iExt w) 31 28
      let df := nfield (iExt w) 27 24
      let blk := nfield (iExt w) 21 19
      nfield (iExt w) 3 0 = 0 → sf ≤ 0xa → df ≤ 0xa →
      (sf = df → Completes (.insnVcvt b k) s fun t =>
        CoreAfter s t b k (c.setVM (iD w) (c.laneMask (iMask w)) (c.vreg (iA w)) (c.mark (iA w) 0) (c.mark (iA w) 1)) (c.pc + 8))
      ∧ (sf ≠ df → blk < cvtPortions sf df → Completes (.insnVcvt b k) s fun t =>
        let draw := cvtDraw (c.sreg (nfield (iExt w) 18 14)) (c.sreg (nfield (iExt w) 13 9)) (c.sreg (nfield (iExt w) 8 4))
        CoreAfter s t b k (c.cvtWrite w sf df blk (c.cvtSource w sf df blk) (nbit (iExt w) 23 == 1) draw
          (nbit (iExt w) 22 == 1)).1 (c.pc + 8)))
    ∧ (∀ o : VpermOp, does (.insnVperm b k (some o)) b k 0x7 fun c w c' =>
      let mask := c.laneMask (iMask w)
      let a := (List.range 16).map (lane 32 c (iA w))
      let one (i x sat nan : Nat) : CoreSt :=
        c.setVM (iD w) (mask &&& (15 * 2 ^ (4 * i))) (x * 2 ^ (32 * i)) (sat * 2 ^ (8 * i)) (nan * 2 ^ (8 * i))
      let sm (kind : Nat) : Nat := c.sMark (iA w) kind % 256
      c' = match o with
        | .broadcast => c.setVM (iD w) mask (ofLanes 32 (List.replicate 16 (c.sreg (iA w) % 2 ^ 32)))
          (ofLanes 8 (List.replicate 16 (sm 0))) (ofLanes 8 (List.replicate 16 (sm 1)))
        | .permute =>
          let from_ (i : Nat) : Nat := lane 32 c (iB w) i % 16
          let m (kind : Nat) : Nat := ofLanes 8 ((List.range 16).map fun i => laneOf 8 (c.mark (iA w) kind) (from_ i))
          c.setVM (iD w) mask (ofLanes 32 ((List.range 16).map fun i => a.getD (from_ i) 0)) (m 0) (m 1)
        | .extract => c.setSM (iD w) (a.getD (iExt w % 16) 0) (laneOf 8 (c.mark (iA w) 0) (iExt w % 16))
          (laneOf 8 (c.mark (iA w) 1) (iExt w % 16))
        | .insert => one (iExt w % 16) (c.sreg (iA w) % 2 ^ 32) (sm 0) (sm 1)
        | .hadd => one 0 (horizontal fAdd a) 0 0
        | .hmin => one 0 (horizontal fMin a) 0 0)
    ∧ goes (.insnSbr b k (some .jump)) b k (fun c w => (c, target c w))
    ∧ goes (.insnSbr b k (some .ifZero)) b k (fun c w => (c, if c.sreg (iA w) = 0 then target c w else c.pc + 8))
    ∧ goes (.insnSbr b k (some .ifNonzero)) b k (fun c w => (c, if c.sreg (iA w) ≠ 0 then target c w else c.pc + 8))
    ∧ goes (.insnSbr b k (some .call)) b k (fun c w => (c.setS (iD w) (c.pc + 8), target c w))
    ∧ goes (.insnSbr b k (some .back)) b k (fun c w => (c, c.sreg (iA w)))

/-- An aligned scalar load of a local grant whose bytes are correctable writes D with them, extended as its form
says; an aligned store changes those bytes of the grant and no others. In the window, a scalar load, store or
atomic, and a vector load, whole store or whole add, leave one request of that operation, address and data last
at the Basin's stop, whose answer the core awaits by its number; an add under a mask leaves one for each enabled
element; the registers stay. A vector load of a grant writes the enabled lanes of D, and a vector store the
enabled bytes; gathers and scatters act lane by lane. SYNC fence and wait complete where nothing is outstanding
and else leave the core; the barrier holds a core until every core of the Basin that runs a user kernel has
arrived. Each of these commands then answers a next state. The premises on the invocation rule out states that
no run reaches. Log entries 119, 120, 126 and 134 are the model's. (08_basins.md R232, 08_basins.md R236, 08_basins.md R237, 08_basins.md R238, 08_basins.md R253, 09_memory.md R284, 09_memory.md R285) -/
def Obligations.KernelsReachTheirGrantsAndMemory : Prop :=
  ∀ (b : BasinIx) (k : CoreIx) (v : Inv) (w : Nat) (s : State), s.stopped = false →
    let c := s.core b k
    let a := (c.sreg (iA w) + iImm w) % 2 ^ 64
    let mask := c.laneMask (iMask w)
    let sent (op : MemOp) (y n : Nat) (d : List Byte) (p : Pend) (l : Loc) (x : Nat) (t : State) : Prop :=
      let dst := memStop (l.chan % 16)
      let ring := ringFor (basinStop b) dst
      let q : MemReq := { src := .core b k c.nextTag, op := op, addr := y, len := n, data := d }
      (t.core b k).pc = c.pc + 8 ∧ (t.core b k).pend = c.pend ++ [⟨c.nextTag, p, c.pc, x⟩] ∧ (t.core b k).s = c.s
        ∧ (t.core b k).v = c.v ∧ t.stopPkts (stopInst (basinStop b) ring 0) k = s.stopPkts (stopInst (basinStop b) ring 0) k
          ++ [⟨ring, 0, basinStop b, dst, basinStop b, .req l.chan q⟩]
    let atWindow (x n : Nat) (write : Bool) (y : Nat) (l : Loc) : Prop :=
      x % n = 0 ∧ windowBase ≤ x ∧ s.accessFault k v x n write = none
        ∧ s.winAddr (s.ctxKey v.ctx).1 (x - windowBase) = some y ∧ s.locate y = some l
    let stored (n : Nat) (x : Nat → Bool) (d : Nat → Byte) (t : State) : Prop :=
      ∃ (c' : CoreSt) (v' : Inv), CoreAfter s t b k c' (c.pc + 8) ∧ c'.s = c.s ∧ c'.v = c.v ∧ c'.k = c.k ∧ c'.inv = some v'
        ∧ ∀ i, t.localByte b k v' i = if a ≤ i ∧ i < a + n ∧ x (i - a) = true then d (i - a) else s.localByte b k v i
    -- scalar: a local load, a local store, and an access to the window
    (∀ (sz : Fin 4) (sg ecc : Bool), s.issues b k 0x2 w v → a % 2 ^ sz.val = 0 → a < windowBase →
      s.accessFault k v a (2 ^ sz.val) false = none → s.loadBad k v a (2 ^ sz.val) ecc = false →
      ∃ t, exec (.insnSmem b k (some (.load sz sg)) ecc) s = .next t
        ∧ CoreAfter s t b k (c.loadS (iD w) (2 ^ sz.val) sg (s.localBytes b k v a (2 ^ sz.val)) (v.marksAt a (2 ^ sz.val))) (c.pc + 8)
        ∧ (iD w ≠ 0 → (t.core b k).sreg (iD w) = loadValue (2 ^ sz.val) sg (s.localBytes b k v a (2 ^ sz.val)) % 2 ^ 64))
    ∧ (∀ (sz : Fin 4) (ecc : Bool), s.issues b k 0x2 w v → s.granted v → a % 2 ^ sz.val = 0 → a < windowBase →
      s.accessFault k v a (2 ^ sz.val) true = none → ∃ t, exec (.insnSmem b k (some (.store sz)) ecc) s = .next t
        ∧ stored (2 ^ sz.val) (fun _ => true) (fun i => BitVec.ofNat 8 (c.sreg (iB w) / 2 ^ (8 * i))) t)
    ∧ (∀ (ecc : Bool) (y : Nat) (l : Loc), s.issues b k 0x2 w v →
      (∀ (sz : Fin 4) (sg : Bool), atWindow a (2 ^ sz.val) false y l →
        ∃ t, exec (.insnSmem b k (some (.load sz sg)) ecc) s = .next t
          ∧ sent .read y (2 ^ sz.val) [] (.scalar (iD w) (2 ^ sz.val) sg) l a t)
      ∧ (∀ sz : Fin 4, atWindow a (2 ^ sz.val) true y l → ∃ t, exec (.insnSmem b k (some (.store sz)) ecc) s = .next t
        ∧ sent .write y (2 ^ sz.val) (leBytes (2 ^ sz.val) (c.sreg (iB w))) .none l a t)
      ∧ ∀ (o : AtomicOp) (wide : Bool), let n := atomicSize o wide
        atWindow (c.sreg (iA w)) n true y l → ∃ t, exec (.insnSmem b k (some (.atomic o wide)) ecc) s = .next t
          ∧ sent (atomicOp o wide) y n (leBytes n (c.sreg (iB w)) ++ (if o = .cas then leBytes n (c.sreg (iC w)) else []))
            (.scalar (iD w) n false) l (c.sreg (iA w)) t)
    -- vector: an access to the window, a local load, a local store, gathers and scatters
    ∧ (∀ (ecc : Bool) (y : Nat) (l : Loc), s.issues b k 0x5 w v →
      (atWindow a 64 false y l → ∃ t, exec (.insnVmem b k (some .load) ecc) s = .next t
        ∧ sent .read y 64 [] (.vector (iD w) mask) l a t)
      ∧ (atWindow a 64 true y l → mask = 2 ^ 64 - 1 → ∃ t, exec (.insnVmem b k (some .store) ecc) s = .next t
        ∧ sent .write y 64 (leBytes 64 (c.vreg (iD w))) .none l a t)
      ∧ ∀ f : Fin 16, f ∈ [0x0, 0x2, 0x5, 0x6] → atWindow a 64 true y l →
        let n := (fmtOf f.val).bits / 8
        let on := (List.range (64 / n)).filter (laneOn mask n)
        let dst := memStop (l.chan % 16)
        let ring := ringFor (basinStop b) dst
        let i := stopInst (basinStop b) ring 0
        let part (x : Nat × Nat) : MemReq := { src := .core b k (c.nextTag + x.2), op := .add f, addr := y + n * x.1, len := n
                                               data := slice (leBytes 64 (c.vreg (iD w))) (n * x.1) n }
        ∃ t, exec (.insnVmem b k (some (.add f)) ecc) s = .next t
          ∧ (t.core b k).pc = c.pc + 8 ∧ (t.core b k).s = c.s ∧ (t.core b k).v = c.v
          ∧ if on.length = 64 / n then sent (.add f) y 64 (leBytes 64 (c.vreg (iD w))) .none l a t
            else (t.core b k).pend = c.pend ++ on.zipIdx.map (fun x => ⟨c.nextTag + x.2, .none, c.pc, a + n * x.1⟩)
              ∧ t.stopPkts i k = s.stopPkts i k ++ on.zipIdx.map (fun x =>
                ⟨ring, 0, basinStop b, dst, basinStop b, .req l.chan (part x)⟩))
    ∧ (∀ ecc : Bool, s.issues b k 0x5 w v → a % 64 = 0 → a < windowBase → s.accessFault k v a 64 false = none →
      s.loadBad k v a 64 ecc = false → ∃ t, exec (.insnVmem b k (some .load) ecc) s = .next t
        ∧ CoreAfter s t b k (c.setVM (iD w) mask (leNat (s.localBytes b k v a 64)) (marksOf 0 0 (v.marksAt a 64))
          (marksOf 1 0 (v.marksAt a 64))) (c.pc + 8))
    ∧ (∀ ecc : Bool, s.issues b k 0x5 w v → s.granted v → a % 64 = 0 → a < windowBase → s.accessFault k v a 64 true = none →
      ∃ t, exec (.insnVmem b k (some .store) ecc) s = .next t
        ∧ stored 64 (fun i => nbit mask i == 1) (fun i => BitVec.ofNat 8 (c.vreg (iD w) / 2 ^ (8 * i))) t)
    ∧ (∀ wide ecc : Bool, s.issues b k 0x5 w v → let n := if wide then 8 else 4
      (s.laneFault b k v w n mask false = none → s.laneBad b k v w n mask ecc = none →
        ∃ t, exec (.insnVmem b k (some (.gather wide)) ecc) s = .next t ∧
          let u := s.lanes b k v w n mask false
          (t.core b k).pc = c.pc + 8 ∧ (t.core b k).v = (u.core b k).v ∧ (t.core b k).pend = (u.core b k).pend ∧ t.mem = u.mem)
      ∧ (s.laneFault b k v w n mask true = none → ∃ t, exec (.insnVmem b k (some (.scatter wide)) ecc) s = .next t
        ∧ (t.core b k).pc = c.pc + 8 ∧ (t.core b k).v = c.v ∧ t.mem = (s.lanes b k v w n mask true).mem))
    -- SYNC
    ∧ (∀ o : SyncOp, o ≠ .barrier → s.issues b k 0xa w v →
      (c.pend = [] → ∃ t, exec (.insnSync b k (some o)) s = .next t ∧ CoreAfter s t b k c (c.pc + 8))
      ∧ (c.pend ≠ [] → ∃ t, exec (.insnSync b k (some o)) s = .next t ∧ t.bsn = s.bsn))
    ∧ (s.issues b k 0xa w v → ∃ t, exec (.insnSync b k (some .barrier)) s = .next t ∧ (t.core b k).pc = c.pc + 8 ∧
      if ∀ j ∈ s.kernelCores b, j = k.val ∨ (s.core b j).atBarrier = true
      then ∀ j ∈ s.kernelCores b, (t.core b j).atBarrier = false
      else (t.core b k).atBarrier = true)

/-- START of a descriptor whose bytes have come and that passes the checks of R286 and R287, on a queue with room,
puts it last under the next ticket, which D receives; on a full queue it waits, and the core stays. POLL writes
the ticket's status to D. WAIT completes for status 1, and leaves the core where it is for status 0. DMA_DONE
leaves the oldest descriptor while reads or acknowledgements of its are outstanding. It ends with status 2 where
its invocation has ended or reading its source found uncorrectable data, which writes nothing; and with status 1
once its writes are acknowledged. A source that is read goes to a destination in the grants at once, a COPY of
one row leaving every other byte of them as it was, and to stacked memory as requests of requester 24 of the
Basin's stop, which it then awaits (that DMA_DONE stands for both is the model's choice, log entry 140). (08_basins.md R256, 09_memory.md R286, 09_memory.md R287) -/
def Obligations.DmaDescriptorsRunInOrder : Prop :=
  ∀ (b : BasinIx) (s : State), s.stopped = false →
    (∀ (k : CoreIx) (w : Nat) (v : Inv), s.issues b k 0x9 w v →
      let c := s.core b k
      let a := c.sreg (iA w)
      (∀ raw : List Byte, iOp w = 0 → s.accessFault k v a 32 false = none → s.descBytes b k v a = .ok raw →
        s.descFault k v (descOf raw) raw = none →
        (∀ i rest, (s.dma b).q = i :: rest → rest.length < 15 → i.phase ≠ 0 → Completes (.dmaStart b k) s fun t =>
          (t.dma b).q = (s.dma b).q ++ [{ ticket := (s.dma b).next, core := k, desc := descOf raw }]
            ∧ (t.dma b).next = (s.dma b).next + 1 ∧ (iD w ≠ 0 → (t.core b k).sreg (iD w) = (s.dma b).next % 2 ^ 64)
            ∧ (t.core b k).pc = c.pc + 8)
        ∧ ((s.dma b).q = [] → Completes (.dmaStart b k) s fun t =>
          (t.dma b).q = [{ ticket := (s.dma b).next, core := k, desc := descOf raw, phase := 1
                           out := (s.dmaPieces v (descOf raw)).length }]
            ∧ (t.dma b).next = (s.dma b).next + 1 ∧ (iD w ≠ 0 → (t.core b k).sreg (iD w) = (s.dma b).next % 2 ^ 64)
            ∧ (t.core b k).pc = c.pc + 8)
        ∧ (16 ≤ (s.dma b).q.length → Completes (.dmaStart b k) s fun t => t.bsn = s.bsn))
      ∧ (iOp w = 1 → Completes (.dmaPoll b k) s fun t => CoreAfter s t b k (c.setS (iD w) (s.ticket b a)) (c.pc + 8))
      ∧ (iOp w = 2 → (s.ticket b a = 1 → Completes (.dmaWait b k) s fun t => CoreAfter s t b k c (c.pc + 8))
        ∧ (s.ticket b a = 0 → Completes (.dmaWait b k) s fun t => t.bsn = s.bsn)))
    ∧ ∀ (i : DmaItem) (rest : List DmaItem), (s.dma b).q = i :: rest →
      let ended (t : State) (st : Nat) : Prop :=
        t.ticket b i.ticket = st ∧ (t.dma b).q.map DmaItem.ticket = rest.map DmaItem.ticket
      (∀ ecc : Bool, (s.core b i.core).inv = none → Completes (.dmaDone b ecc) s fun t => ended t 2 ∧ t.mem.bytes = s.mem.bytes)
      ∧ ∀ v : Inv, (s.core b i.core).inv = some v →
        (∀ ecc : Bool, i.out ≠ 0 → Completes (.dmaDone b ecc) s fun t => t.bsn = s.bsn ∧ t.mem = s.mem)
        ∧ (∀ ecc : Bool, i.out = 0 → i.phase = 1 → (ecc = true ∨ i.bad = true) → Completes (.dmaDone b ecc) s fun t =>
          ended t 2 ∧ t.mem.bytes = s.mem.bytes ∧ t.bsn.cores = s.bsn.cores)
        ∧ (∀ ecc : Bool, i.out = 0 → i.phase = 2 → Completes (.dmaDone b ecc) s fun t => ended t 1 ∧ t.bsn.cores = s.bsn.cores)
        ∧ (i.out = 0 → i.phase = 1 → i.bad = false →
          (0 < s.dmaWrites v (s.dmaData b v i) → Completes (.dmaDone b false) s fun t =>
            (t.dma b).q = { i with phase := 2, out := s.dmaWrites v (s.dmaData b v i) } :: rest)
          ∧ (i.desc.op = 0 → i.desc.rows = 1 →
            let n := i.desc.cols * i.desc.esz
            i.desc.src + n ≤ windowBase → i.desc.dst + n ≤ windowBase → i.core < 24 → s.granted v →
            s.accessFault i.core v i.desc.dst n true = none →
            Completes (.dmaDone b false) s fun t => ended t 1 ∧ t.mem.bytes = s.mem.bytes ∧ ∃ v', (t.core b i.core).inv = some v' ∧
              ∀ x, t.localByte b i.core v' x = if i.desc.dst ≤ x ∧ x < i.desc.dst + n
                then s.localByte b i.core v (i.desc.src + (x - i.desc.dst)) else s.localByte b i.core v x))

/-- On an idle READY array whose rows lie in the grants of the invocation, MLOAD and MFILL by a core that may own it
take it and start their operation, MSTREAM (of 1 to 2^40 - 1 rows) and MDRAIN (in OS) by its owner start theirs;
MFILL also where the array is TESTING. MWAIT by its owner, or by a core that waits since it owned it, writes
whether the last operation faulted to D once that has finished, and MREL by its owner releases it; with an
operation in progress each leaves the core. MATRIX_DONE, but during a clock change, ends the operation, MFILL's
releases the array, and a fault writes nothing. ATEST.GO accepted, or start-up's test of an UNTESTED array,
makes it TESTING; an equal result, once the Basin takes items and none of a higher priority waits, makes it
READY, a different one DISABLED, as RETIRE does, which ends the owner's invocation. ARRAYS_LIVE is then the
number of READY arrays. Log entries 124 and 163 are the model's. (08_basins.md R246, 08_basins.md R248, 08_basins.md R249, 08_basins.md R250, 08_basins.md R251, 08_basins.md R268) -/
def Obligations.MatrixArraysServeTheirOwner : Prop :=
  let live (t : State) : Prop := t.get F.GLOBAL_CAP_ARRAYS_LIVE = ((List.range 50).filter fun b => t.arrayState b == 3).length
  ∀ (b : BasinIx) (s : State), s.stopped = false →
    let a := s.array b
    let st := s.arrayState b
    let starts (mk : Instr) (k : CoreIx) (v : Inv) (j : MtxJob) (fmt choice : Nat) : Prop :=
      (mtxSpans j fmt choice).findSome? (s.spanFault k v) = none →
      Completes mk s fun t => (t.core b k).pc = (s.core b k).pc + 8 ∧ (t.core b k).s = (s.core b k).s
        ∧ t.array b = { a with owner := some k.val, job := some j, faulted := false }
    (∀ (k : CoreIx) (w : Nat) (v : Inv) (r : MtxRegs) (fmt : Fin 16) (choice : Fin 3) (acc : Bool), s.issues b k 0x8 w v →
      (a.job = none → (a.owner = none ∨ a.owner = some k.val) → mtxFormat fmt = true →
        (st = 3 → starts (.mload b k true fmt choice r) k v (mtxJob (s.core b k) 0 fmt choice false r) fmt choice)
        ∧ ((st = 3 ∨ st = 2) → starts (.mfill b k true fmt choice acc r) k v (mtxJob (s.core b k) 3 fmt choice acc r) fmt choice))
      ∧ (a.job = none → a.owner = some k.val → st = 3 →
        (1 ≤ (s.core b k).sreg r.count → (s.core b k).sreg r.count < 2 ^ 40 →
          starts (.mstream b k true acc r) k v (mtxJob (s.core b k) 1 0 0 acc r) a.fmt a.choice)
        ∧ (a.choice = 2 → starts (.mdrain b k true acc r) k v (mtxJob (s.core b k) 2 0 0 acc r) a.fmt a.choice))
      ∧ ((a.owner = some k.val ∧ a.job = none ∨ a.owner ≠ some k.val ∧ a.waiter = some k.val) → Completes (.mwait b k true) s fun t =>
        (t.core b k).s = ((s.core b k).setS (iD w) (if a.faulted then 1 else 0)).s ∧ (t.core b k).pc = (s.core b k).pc + 8
          ∧ (t.array b).owner = a.owner ∧ (t.array b).job = a.job ∧ (t.array b).waiter ≠ some k.val)
      ∧ (a.owner = some k.val → a.job = none → Completes (.mrel b k true) s fun t =>
        (t.array b).owner = none ∧ (t.core b k).pc = (s.core b k).pc + 8)
      ∧ (a.owner = some k.val → a.job ≠ none →
        (Completes (.mwait b k true) s fun t => t.core b k = s.core b k ∧ t.array b = { a with waiter := some k.val })
        ∧ Completes (.mrel b k true) s fun t => t.bsn = s.bsn))
    ∧ (∀ (j : MtxJob) (k : Nat) (v : Inv), s.clkHeld b = false → a.job = some j → a.owner = some k → (s.core b k).inv = some v →
      (Completes (.matrixDone b true) s fun t => t.bsn.cores = s.bsn.cores ∧ (t.array b).job = none ∧ (t.array b).faulted = true
        ∧ (t.array b).owner = if j.kind = 3 then none else some k)
      ∧ (Completes (.matrixDone b false) s fun t => (t.array b).job = none ∧ (t.array b).faulted = false
        ∧ (t.array b).owner = if j.kind = 3 then none else some k)
      ∧ (j.kind = 0 → Completes (.matrixDone b false) s fun t => t.bsn.cores = s.bsn.cores ∧ (t.array b).fmt = j.fmt
        ∧ (t.array b).choice = j.choice ∧ (t.array b).tile = (List.range (tileShape j.fmt j.choice).1).map fun i =>
          s.rowCodes b k v j.fmt (j.tile + i * j.tileStride) (tileShape j.fmt j.choice).2))
    ∧ (∀ g : Agent, s.accepts g (0xa00114 + 0x1000 * b.val) 1 → Completes (.arraySelftest g b false) s fun t =>
      t.arrayState b = 2 ∧ live t)
    ∧ (∀ g : Agent, st = 1 → Completes (.arraySelftest g b true) s fun t => t.arrayState b = 2 ∧ live t)
    ∧ (st = 2 → s.takesItems b = true → s.itemsWait b = false → (Completes (.arraySelftestDone b true) s fun t => t.arrayState b = 3 ∧ live t)
      ∧ Completes (.arraySelftestDone b false) s fun t => t.arrayState b = 4 ∧ live t)
    ∧ ∀ g : Agent, s.accepts g (0xa00114 + 0x1000 * b.val) 2 → Completes (.arrayRetire g b) s fun t => t.arrayState b = 4
      ∧ live t ∧ ∀ k, a.owner = some k → (s.core b k).inv.isSome = true → (t.core b k).inv = none ∧ (t.array b).owner = none

/-- In a user kernel a firmware-only class faults with PRIV, a reserved class, operation or field with ILLEGAL, a
misaligned scalar access with ALIGN, an access outside the grants, or an atomic or memory-side add on one of
them, with BOUND, a load of uncorrectable SRAM with ECC, and a matrix instruction on an array that another core
owns, or a wait or release by a core that owns none, with ARRAY. Each then leaves the core without an invocation
and with its registers and private SRAM reset, closes an OPEN context as ABORTED, stages no result, records
code, core, context and pc where the fault record was empty and else leaves it, counts BSN_KFAULT and reports it
to the log. On a core that runs no kernel, the firmware classes complete: of them only tagging shows (the
model's reading, log entry 126). Log entries 119, 132 and 158 to 160 are the model's. (08_basins.md R232, 08_basins.md R235, 08_basins.md R236, 08_basins.md R237, 08_basins.md R246) -/
def Obligations.KernelFaultsEndTheInvocation : Prop :=
  ∀ (b : BasinIx) (k : CoreIx) (s : State), s.stopped = false →
    let c := s.core b k
    let faults (mk : Instr) (v : Inv) (code : Nat) : Prop := SMap.wf (fun _ => 0) s.obs.sel = true → Completes mk s fun t =>
      (∃ l, t.core b k = { nextTag := c.nextTag, lfsr := l }) ∧ t.col.outQ = s.col.outQ ∧ t.mem.bytes = s.mem.bytes
        ∧ ((s.ctx v.ctx).phase = 2 → (t.ctx v.ctx).phase = 4 ∧ (t.ctx v.ctx).close = some stAborted)
        ∧ (s.on (F.BASIN_FAULT_VALID b) = false → t.on (F.BASIN_FAULT_VALID b) = true ∧ t.get (F.BASIN_FAULT_CODE b) = code
          ∧ t.get (F.BASIN_FAULT_CORE b) = k ∧ t.get (F.BASIN_FAULT_CTX b) = v.ctx % 2 ^ 14
          ∧ t.get (F.BASIN_FAULT_PC_PC b) = c.pc % 2 ^ 16)
        ∧ (s.on (F.BASIN_FAULT_VALID b) = true → t.word (0xa00118 + 0x1000 * b.val) = s.word (0xa00118 + 0x1000 * b.val))
        ∧ Counted s t (· == 0xa00 + b.val) Ev.BSN_KFAULT 1
        ∧ (s.obs.logQ.length < 64 → t.obs.logQ = s.obs.logQ
          ++ [⟨Ev.BSN_KFAULT, 0xa00 + b, b.val * 32 + k, code * 2 ^ 16 + v.ctx, c.pc, s.time.core⟩])
    (∀ (w : Nat) (v : Inv),
      (s.issues b k 0x10 w v → faults (.insnVxa b k) v KF.PRIV) ∧ (s.issues b k 0x11 w v → faults (.insnSys b k) v KF.PRIV)
      ∧ (∀ cls, s.issues b k cls w v → classKnown cls = false → faults (.insnVxa b k) v KF.ILLEGAL)
      ∧ (s.issues b k 0x0 w v → faults (.insnSalu b k none) v KF.ILLEGAL)
      ∧ (s.issues b k 0x2 w v → ∀ (sz : Fin 4) (sg ecc : Bool), let a := (c.sreg (iA w) + iImm w) % 2 ^ 64
        (a % 2 ^ sz.val ≠ 0 → faults (.insnSmem b k (some (.load sz sg)) ecc) v KF.ALIGN
          ∧ faults (.insnSmem b k (some (.store sz)) ecc) v KF.ALIGN)
        ∧ (a % 2 ^ sz.val = 0 → s.place k v a (2 ^ sz.val) = .nothing →
          faults (.insnSmem b k (some (.load sz sg)) ecc) v KF.BOUND ∧ faults (.insnSmem b k (some (.store sz)) ecc) v KF.BOUND)
        ∧ (a % 2 ^ sz.val = 0 → a < windowBase → s.accessFault k v a (2 ^ sz.val) false = none →
          s.loadBad k v a (2 ^ sz.val) ecc = true → faults (.insnSmem b k (some (.load sz sg)) ecc) v KF.ECC)
        ∧ ∀ (o : AtomicOp) (wide : Bool), let x := c.sreg (iA w)
          x % atomicSize o wide = 0 → x < windowBase → s.accessFault k v x (atomicSize o wide) true = none →
          faults (.insnSmem b k (some (.atomic o wide)) ecc) v KF.BOUND)
      ∧ (s.issues b k 0x5 w v → ∀ (f : Fin 16) (ecc : Bool), let a := (c.sreg (iA w) + iImm w) % 2 ^ 64
        f ∈ [0x0, 0x2, 0x5, 0x6] → a % 64 = 0 → a < windowBase → s.accessFault k v a 64 true = none →
        faults (.insnVmem b k (some (.add f)) ecc) v KF.BOUND)
      ∧ (s.issues b k 0x8 w v → ∀ (r : MtxRegs) (acc : Bool), faults (.mstream b k false acc r) v KF.ILLEGAL
        ∧ ((s.array b).owner ≠ some k.val → faults (.mstream b k true acc r) v KF.ARRAY ∧ faults (.mrel b k true) v KF.ARRAY
          ∧ ((s.array b).waiter ≠ some k.val → faults (.mwait b k true) v KF.ARRAY))))
    ∧ (c.inv = none → (Completes (.insnVxa b k) s fun t => t.col = s.col ∧ t.mem = s.mem ∧ (t.core b k).inv = none)
      ∧ Completes (.insnSys b k) s fun t => t.col = s.col ∧ t.mem = s.mem ∧ (t.core b k).inv = none)

/-- KL_LOAD accepted with every check of R263 passed makes the loader BUSY with the slot; a failed check sets DONE
with OK 0 and its code. KL_LOAD_DONE holds the image, marks the slot loaded, takes its code from FREE and ends
with OK; KL_UNLOAD of a loaded slot that nothing names frees it. KERNEL_INVOKE, where the Basin takes items and
none of a higher priority is ready, gives the oldest item that may start to the lowest idle core, with S1 to S11
of R233 and cleared private data. KERNEL_RETURN of a user kernel with status 0 and a legal length stages the
output buffer's bytes as the index's RESULT; of a built-in one, whose state has been written back, what it made.
What R267 computes from the state block stands as made once the last piece of the block comes. The core is then
free. Log entries 122, 126, 128 and 161 are the model's. (08_basins.md R228, 08_basins.md R229, 08_basins.md R233, 08_basins.md R263, 08_basins.md R265, 08_basins.md R267, 08_basins.md R268) -/
def Obligations.KernelsAreLoadedInvokedAndReturn : Prop :=
  let resulted (b k : Nat) (v : Inv) (bs : List Byte) (s t : State) : Prop := (t.core b k).inv = none
    ∧ ∃ e, t.col.outQ = s.col.outQ ++ [⟨v.ctx, 0x8, v.cidx, { bytes := bs, elems := e, basin := b, partial_ := v.partial_ }, false⟩]
  (∀ (g : Agent) (slot : Fin 256) (s : State), s.stopped = false → s.accepts g 0x6018000 (2 ^ 31 + slot.val) →
    (s.loadCheck slot = 0 → Completes (.klLoad g slot) s fun t => t.on F.KL_STATUS_BUSY = true ∧ t.bsn.loading = some slot.val)
    ∧ (s.loadCheck slot ≠ 0 → Completes (.klLoad g slot) s fun t => t.bsn = s.bsn ∧ t.on F.KL_STATUS_DONE = true
      ∧ t.on F.KL_STATUS_OK = false ∧ t.get F.KL_STATUS_CODE = s.loadCheck slot))
  ∧ (∀ (slot : Nat) (s : State), s.stopped = false → s.bsn.loading = some slot → slot < 256 → Completes .klLoadDone s fun t =>
    t.bsn.loading = none ∧ SMap.get (fun _ => []) t.bsn.kernels slot = s.staged ∧ t.slotLoaded slot = true
      ∧ t.on F.KL_STATUS_BUSY = false ∧ t.on F.KL_STATUS_OK = true
      ∧ t.get F.KL_FREE_BYTES = s.get F.KL_FREE_BYTES - leNat (slice s.staged 8 4))
  ∧ (∀ (g : Agent) (slot : Fin 256) (s : State), s.stopped = false → s.accepts g 0x6018000 (2 ^ 31 + 2 ^ 29 + slot.val) →
    s.on F.KL_STATUS_BUSY = false → s.slotNamed slot = false → s.slotLoaded slot = true → Completes (.klUnload g slot) s fun t =>
      t.slotLoaded slot = false ∧ SMap.get (fun _ => []) t.bsn.kernels slot = [] ∧ t.on F.KL_STATUS_OK = true)
  ∧ (∀ (b : BasinIx) (i : KernelItem) (k : Nat) (s : State), s.stopped = false → s.idleCore b = some k → s.takesItems b = true →
    s.chunkReady b = false → s.nextFin b = none → (SMap.get (fun _ => []) s.col.kernQ b).find? (s.mayInvoke b) = some i → Completes (.kernelInvoke b) s fun t =>
      SMap.get (fun _ => []) t.col.kernQ b = (SMap.get (fun _ => []) s.col.kernQ b).erase i ∧ (t.core b k).priv = []
        ∧ (t.core b k).issued = 0 ∧ ∃ v, (t.core b k).inv = some v ∧ v.ctx = i.ctx ∧ v.cidx = i.cidx ∧ v.vals = i.vals
          ∧ v.imgs = i.imgs ∧ v.kernel = (s.params i.ctx).kernel ∧ ∀ n, n < 11 → (t.core b k).sreg (n + 1) = (s.entryRegs k v).getD n 0 % 2 ^ 64)
  ∧ (∀ (b : BasinIx) (k : CoreIx) (budget : Bool) (v : Inv) (w : Nat) (s : State), s.stopped = false →
    (s.core b k).inv = some v → 0x100 ≤ v.kernel → s.issuing b = true → (s.core b k).atBarrier = false →
    (∀ i ∈ (s.dma b).q, i.core ≠ k) → s.fetch b k = some w → iClass w = 0x1 →
    returnFault (s.params v.ctx).ofmt ((s.core b k).sreg 1) ((s.core b k).sreg 2) = none →
    s.stagedOn b + (s.core b k).sreg 1 ≤ s.stagingBytes b →
    Completes (.kernelReturn b k false budget) s (resulted b k v (s.localBytes b k v (outAddr v) ((s.core b k).sreg 1)) s))
  ∧ ∀ (b : BasinIx) (k : CoreIx) (v : Inv) (s : State), s.stopped = false → s.issuing b = true →
    (s.core b k).inv = some v → v.kernel < 0x100 → (s.core b k).pend = [] → (v.kernel = 3 → s.arrayState b = 3) →
    let p := s.params v.ctx
    let key := s.ctxKey v.ctx
    let draw := srDraw p.srseed key.1 key.2.1 key.2.2 v.cidx
    let o := builtin p draw (s.ctx v.ctx).hyper v.vals (s.readFields v)
    let r := o.made.getD (encodeVals p.ofmt o.vals p.sr draw p.ovf)
    (v.made = none → ∃ v', ((s.builtinStep b k).core b k).inv = some v' ∧ v'.made = some r)
    ∧ ∀ r', v.made = some r' → kparamOk v.kernel p.ofmt (s.ctx v.ctx).hyper = true → (s.ctx v.ctx).hyperBad = false →
      (s.winAddr key.1 (s.stateOffset v.ctx v.cidx)).isSome = true → s.stagedOn b + r'.1.length ≤ s.stagingBytes b →
      Completes (.kernelReturn b k false false) s (resulted b k v r'.1 s)

/-- ARB_GRANT of an instance whose grant has ended and that is not frozen grants a requester, raised before this
clock, whose rank (PRIO, then the order after the last owner) none beats, under its BURST, both as the clock
found them, from the next clock on; frozen, it grants nobody. ARB_STARVE of a requester raised without a grant
for STARVE_CLK clocks of its island, a stretched one counting half, sets its bit, and MEMCFG.ISTAT.STARVE but
for the Glass instance. RING_INJECT moves the granted requester's oldest packet onto the ring while two of the
stop's four buffers are free, else it stays; it stays too while a packet in transit goes first. RING_DELIVER
takes the oldest packet at its destination: a request joins its channel's queue last, held where its row is
being copied; an answer to a core of a user kernel writes what its access awaits. The premise on stopHeld is
R268: while a Basin's clock changes, its crossings withhold credit. One packet a stop and clock, when a decision
acts, the owner at reset and how a stretched clock is counted are the model's readings (log entries 40, 58, 103
to 105, 133, 136), and so is when a register of a load is written (134). (08_basins.md R238, 08_basins.md R252, 08_basins.md R253, 08_basins.md R254, 08_basins.md R268, 09_memory.md R290, 09_memory.md R295, 09_memory.md R297, 09_memory.md R298, 09_memory.md R302, 15_power_ageing.md R461) -/
def Obligations.ArbitersAndRingsMoveRequests : Prop :=
  (∀ (i : Fin 777) (s : State), s.stopped = false → s.arbHolds i = false →
    (s.arbFrozen i = true → Completes (.arbGrant i) s fun t => t.mem = s.mem)
    ∧ ∀ x : Nat, x < 32 → s.arbSeen i x = true → s.arbFrozen i = false → Completes (.arbGrant i) s fun t =>
      (t.arb i).busy = true ∧ (t.arb i).used = 0 ∧ (t.arb i).since = s.now + 1 ∧ (t.arb i).owner < 32
        ∧ (t.arb i).limit = nfield (s.arbCfg i (t.arb i).owner) 7 0
        ∧ s.arbSeen i (t.arb i).owner = true ∧ (t.arb i).wait (t.arb i).owner = 0
        ∧ ∀ r, r < 32 → s.arbSeen i r = true → s.arbRank i (t.arb i).owner ≤ s.arbRank i r)
  ∧ (∀ (i : Fin 777) (r : Fin 32) (s : State), s.stopped = false → s.on (F.ARB_CTRL_FREEZE i) = false → s.arbReq i r = true →
    ¬ (s.arbHolds i = true ∧ (s.arb i).owner = r.val) →
    2 * s.get (F.ARB_CTRL_STARVE_CLK i) * 1600 ≤ s.ranHalves (instIsland i) (s.arbSince i r - 1) * s.arbMhz i →
    Completes (.arbStarve i r) s fun t => nbit (t.get (F.ARB_STARVE_STARVE i)) r = 1 ∧ t.mem = s.mem
      ∧ (nbit (s.get (F.ARB_STARVE_STARVE i)) r = 0 → i.val ≠ 776 → nbit (t.get F.MEMCFG_ISTAT_ISTAT) 7 = 1))
  ∧ (∀ (stop : Fin 66) (ring cls : Fin 2) (p : RingPkt) (rest : List RingPkt) (s : State), s.stopped = false →
    let i := stopInst stop ring cls
    let waits := s.transitWaits stop ring && decide (s.transit stop ring < 16)
    s.arbOwns i (s.arb i).owner = true → s.stopHeld stop = false → s.stopPkts i (s.arb i).owner = p :: rest →
    (waits = false → s.ringHeld ring cls stop ≤ 2 → Completes (.ringInject stop ring cls) s fun t =>
      t.mem.ring = s.mem.ring ++ [p] ∧ t.stopPkts i (s.arb i).owner = rest)
    ∧ (waits = true ∨ 2 < s.ringHeld ring cls stop → Completes (.ringInject stop ring cls) s fun t => t.mem = s.mem))
  ∧ ∀ (stop : Fin 66) (ring cls : Fin 2) (p : RingPkt) (u s : State), s.stopped = false → s.stopHeld stop = false →
    s.ringArrived ring cls stop = some (p, u) →
    (∀ (c : Nat) (q : MemReq), p.body = .req c q → Completes (.ringDeliver stop ring cls) s fun t =>
      t.mem.ring = u.mem.ring ∧ t.chanReqs c = (s.chanReqs c ++ [q]).map fun x => { x with held := s.waitsRow x })
    ∧ ∀ (b k tag : Nat) (d : List Byte) (x : Access) (v : Inv), p.body = .rsp ⟨.core b k tag, d, false⟩ →
      ((s.core b k).pend.find? fun y => y.tag == tag) = some x → (s.core b k).inv = some v → 0x100 ≤ v.kernel →
      Completes (.ringDeliver stop ring cls) s fun t =>
        t.mem.ring = u.mem.ring ∧ (t.core b k).s = ((s.core b k).answer x.pend d).s
          ∧ (t.core b k).v = ((s.core b k).answer x.pend d).v ∧ (t.core b k).pend = (s.core b k).pend.filter fun y => y.tag != tag

/-- On a request at an aligned word that its channel may perform, whose codeword is sound, each atomic answers the
old bytes, and the word then holds: FADD of 32 or 64 bits, old plus operand wrapping; FADDF, the binary32 sum of
R284; SWAP, the operand; CAS, the new operand if old equals the compare operand and else old; FMIN and FMAX, the
signed 64-bit minimum and maximum of old and operand. Every other byte of memory is as it was, and the request
has left the queue. An atomic on an address that is not a multiple of its size faults at issue with ALIGN. (R285) -/
def Obligations.AtomicsReturnOldAndLeaveNew : Prop :=
  let does (mk : Fin 512 → Nat → CwFacts → Instr) (op : MemOp) (n args : Nat) (new : Nat → Nat → Nat → Nat) : Prop :=
    ∀ (c : Fin 512) (ix : Nat) (q : MemReq) (l : Loc) (s : State), s.stopped = false → s.ready c ix q l → s.unpoisoned l n →
      q.op = op → q.len = n → q.addr % n = 0 → q.data.length = args * n → Completes (mk c ix []) s fun t =>
        let k := s.locKey l
        let old := s.memBytes k n
        Answered s t c q old ∧ t.chanReqs c = (s.chanReqs c).eraseIdx ix
          ∧ t.memBytes k n = leBytes n (new (leNat old) (leNat (q.data.take n)) (leNat (slice q.data n n)))
          ∧ ∀ x, ¬ (k ≤ x ∧ x < k + n) → t.memAt x = s.memAt x
  (∀ wide : Bool, let n := if wide then 8 else 4
    does .memFadd (.fadd wide) n 1 (fun old x _ => (old + x) % 2 ^ (8 * n))
      ∧ does .memSwap (.swap wide) n 1 (fun _ x _ => x)
      ∧ does .memCas (.cas wide) n 2 (fun old x y => if old = x then y else old))
  ∧ does .memFaddf .faddf 4 1 (fun old x _ => Fmt.fp32.rne ((Fmt.fp32.decode old).add (Fmt.fp32.decode x)))
  ∧ does .memFmin .fmin 8 1 (fun old x _ => ofSigned 64 (min (toSigned 64 old) (toSigned 64 x)))
  ∧ does .memFmax .fmax 8 1 (fun old x _ => ofSigned 64 (max (toSigned 64 old) (toSigned 64 x)))
  ∧ ∀ (b : BasinIx) (k : CoreIx) (o : AtomicOp) (wide : Bool) (w : Nat) (v : Inv) (s : State), s.stopped = false →
    s.issues b k 0x2 w v → (s.core b k).sreg (iA w) % atomicSize o wide ≠ 0 →
    ∀ ecc : Bool, Completes (.insnSmem b k (some (.atomic o wide)) ecc) s fun t => (t.core b k).inv = none ∧ t.mem.bytes = s.mem.bytes
      ∧ (s.on (F.BASIN_FAULT_VALID b) = false → t.get (F.BASIN_FAULT_CODE b) = KF.ALIGN)

/-- On a request that its channel may perform and whose codewords are sound: MEM_READ answers the bytes held and
changes none, and where the grant's BURST leaves fewer lines than it touches, reads those and keeps the rest of
the request in its place; MEM_WRITE leaves its data there and MEM_ADD the element sums of R284, and every other
byte as it was. A host read that touches a poisoned codeword completes as poisoned. SCRUB_LINE, due and granted,
moves the scrubber to its next line, is counted, and changes no byte where decoding finds nothing. An aperture
access within one page joins its channel's queue last as a HOST request; a refused read answers all ones, and a
refused write changes no memory and is rejected with RANGE; before the window answers a read gives 0 and a write
is rejected with BUSY. These commands change no other component, but that the answer of a channel may end the
read of a Rill frame or of the TAP, or bring a context its hyperparameter block. Running line by line, what
decoding finds, the scrubber's rows and pace, the aperture's reads and bytes never written rest on log entries
96, 101, 102, 104, 106, 107, 108, 111, 164 and 166. (09_memory.md R278, 09_memory.md R279, 09_memory.md R281, 09_memory.md R282, 09_memory.md R283, 09_memory.md R284, 09_memory.md R288, 09_memory.md R290, 09_memory.md R297, 09_memory.md R298, 09_memory.md R300, 09_memory.md R304) -/
def Obligations.ChannelsReadWriteAndAdd : Prop :=
  (∀ (c : Fin 512) (ix : Nat) (q : MemReq) (l : Loc) (s : State), s.stopped = false → s.ready c ix q l →
    let k := s.locKey l
    let gone (t : State) : Prop := t.chanReqs c = (s.chanReqs c).eraseIdx ix
    let others (n : Nat) (t : State) : Prop := ∀ x, ¬ (k ≤ x ∧ x < k + n) → t.memAt x = s.memAt x
    (s.unpoisoned l q.len →
      (q.op = .read → Completes (.memRead c ix []) s fun t => Answered s t c q (s.memBytes k q.len) ∧ gone t
        ∧ t.mem.bytes = s.mem.bytes)
      ∧ (q.op = .write → q.len = q.data.length → Completes (.memWrite c ix []) s fun t => Answered s t c q [] ∧ gone t
        ∧ t.memBytes k q.len = q.data ∧ others q.len t)
      ∧ (∀ f, q.op = .add f → q.len = q.data.length → q.len % addSize f = 0 → Completes (.memAdd c ix []) s fun t =>
        Answered s t c q [] ∧ gone t ∧ t.memBytes k q.len = addBytes f (s.memBytes k q.len) q.data ∧ others q.len t))
    ∧ (∀ g : Nat, q.op = .read → q.src = .host g → g < 4 →
      (∃ x ∈ cwsOf l.off q.len, s.poisoned (s.locKey { l with off := 0 } / 64 + x) = true) →
      Completes (.memRead c ix []) s fun t => Sent s t [.readPoison g q.addr] ∧ gone t ∧ t.mem.bytes = s.mem.bytes))
  ∧ (∀ (c : Fin 512) (ix : Nat) (q : MemReq) (l : Loc) (s : State), s.stopped = false → (s.chanReqs c)[ix]? = some q →
    s.mayPerform c ix q = true → s.locate q.addr = some l → s.chanState l.chan ≠ 2 → q.op = .read → q.bad = false →
    let n := max 1 ((s.arb c).limit - (s.arb c).used)
    n < lineCount q → s.unpoisoned l (partLen q n) → Completes (.memRead c ix []) s fun t => t.mem.bytes = s.mem.bytes
      ∧ t.chanReqs c = (s.chanReqs c).set ix (q.rest n (s.memBytes (s.locKey l) (partLen q n)) false))
  ∧ (∀ (c : Fin 512) (s : State), s.stopped = false → s.scrubDue c = true → s.arbOwns c 3 = true →
    SMap.wf (fun _ => 0) s.obs.sel = true → Completes (.scrubLine c []) s fun t =>
      let p := SMap.get (fun _ => 0) s.mem.scrubPos c
      SMap.get (fun _ => 0) t.mem.scrubPos c = (if p + 1 = scrubLines then 0 else p + 1) ∧ t.mem.bytes = s.mem.bytes
        ∧ Counted s t (fun p => p == 0xb00 || p == 0xb10 + c.val % 16) Ev.MEM_SCRUB_LINE 1)
  ∧ (∀ (g : Agent) (o : Fin 16777216) (n : Fin 4097) (d : List Byte) (s : State), s.stopped = false → let a := s.apAddr o
    (n.val ≠ 0 → s.answers 0x8000000 = false → Completes (.apertureRead g o n) s fun t => t.mem = s.mem
      ∧ Sent s t [.readData g (0x08000000 + o) 0])
    ∧ (d ≠ [] → s.answers 0x8000000 = false → Completes (.apertureWrite g o d) s fun t => t.mem = s.mem
      ∧ (s.on F.MGMT_REJECT_VALID = false → t.get F.MGMT_REJECT_CODE = Rej.BUSY))
    ∧ (n.val ≠ 0 → s.answers 0x8000000 = true → s.apRefused o n = true → Completes (.apertureRead g o n) s fun t => t.mem = s.mem
      ∧ Sent s t [.readData g (0x08000000 + o) (256 ^ n.val - 1)])
    ∧ (∀ l, n.val ≠ 0 → s.answers 0x8000000 = true → s.apRefused o n = false → a % 4096 + n ≤ 4096 → s.locate a = some l →
      Completes (.apertureRead g o n) s fun t =>
        let q : MemReq := { src := .host g, op := .read, addr := a, len := n }
        t.chanReqs l.chan = (s.chanReqs l.chan ++ [q]).map fun x => { x with held := s.waitsRow x })
    ∧ (d ≠ [] → s.answers 0x8000000 = true → s.apRefused o d.length = true → Completes (.apertureWrite g o d) s fun t => t.mem = s.mem
      ∧ (s.on F.MGMT_REJECT_VALID = false → t.get F.MGMT_REJECT_CODE = Rej.RANGE))
    ∧ (∀ l, d ≠ [] → s.answers 0x8000000 = true → s.apRefused o d.length = false → a % 4096 + d.length ≤ 4096 → s.locate a = some l →
      Completes (.apertureWrite g o d) s fun t =>
        let q : MemReq := { src := .host g, op := .write, addr := a, len := d.length, data := d }
        t.chanReqs l.chan = (s.chanReqs l.chan ++ [q]).map fun x => { x with held := s.waitsRow x }))
  ∧ ∀ (c : Instr) (s t : State), memoryEvent c = true → exec c s = .next t →
    t.cis = s.cis ∧ (t.col = s.col ∨ ∃ x n d bad, t.col = (s.hyperCame x n d bad).col) ∧ t.bsn = s.bsn ∧ t.ports = s.ports
      ∧ t.fwd = s.fwd ∧ t.glass = s.glass ∧ t.time = s.time
      ∧ (t.mgmt = s.mgmt ∨ ∃ g v, t.mgmt = (s.answerRead g v).mgmt) ∧ t.nvm = s.nvm ∧ t.cages = s.cages ∧ t.pwr = s.pwr ∧ t.board = s.board ∧ t.mem.gen = s.mem.gen

/-- REPAIR accepted completes and starts the copy of the row to a FREE spare of a bank in service. ROW_REMAP_DONE
under the REPAIR grant reads as many of the row's 8 lines as BURST leaves, and with the last leaves the row's
bytes in the spare and its entry valid with ROW, or, on a failed read-back, retires the spare; of the row that a
map-out copies, it leaves with the last the bytes in the donor's row and moves the copy pointer on. MAPREQ
accepted completes and makes the map-out PENDING with its kind, channel and bank. MAPOUT_START with no blocking
window maps a channel out at once, so that nothing of its contents is known, or makes the bank MOVING and begins
with row 0, every bank but the donor keeping its bytes. BANK_MAPOUT_DONE does nothing while rows are left to
copy, and then makes it MAPPED_OUT, gives its slot to the donor, and takes one bank from the channel. MARGIN
accepted starts its procedure, FULL out of service; MARGIN_DONE, of a FULL one once the arbiter has drained,
records RESULT by R296 and sets the pins of a FULL one; LOW shows at the Annealer, and a FAIL requests the
channel's map-out and condemns it. Premises on counts and spares rule out states that no run reaches. Copies'
ends, what bank and channel map-outs drop, the pins' settings and what a result tells rest on log entries 95,
101, 104, 107, 135, 164, 166 and 208. (09_memory.md R289, 09_memory.md R290, 09_memory.md R291, 09_memory.md R292, 09_memory.md R294, 09_memory.md R295, 09_memory.md R296) -/
def Obligations.RowsBanksAndChannelsAreReplaced : Prop :=
  (∀ (g : Agent) (c : Fin 512) (bank : Fin 64) (row : Fin 4096) (k : Nat) (s : State), s.stopped = false →
    s.accepts g 0xb0011c (2 ^ 31 + c.val * 2 ^ 18 + bank.val * 2 ^ 12 + row.val) → s.repairing c bank row = false →
    s.get (F.BANK_W0_STATE (bankIx c bank)) = 0 → s.freeSpare c bank = some k →
    ∃ t, exec (.repairRequest g c bank row) s = .next t ∧ t.mem.repairs = s.mem.repairs ++ [⟨c, bank, row, k, s.now, 0, []⟩])
  ∧ (∀ (c : Fin 512) (bank : Fin 64) (row : Fin 4096) (r : Repair) (s : State), s.stopped = false → r.spare < 32 →
    r.chan = c → r.bank = bank → r.row = row →
    (s.mem.repairs.find? fun x => x.chan == c.val && x.bank == bank.val && x.row == row.val) = some r → s.arbOwns c 4 = true →
    let n := s.copyLeft c r.lines
    (r.lines + n < 8 → ∀ fail : Bool, Completes (.rowRemapDone c bank row fail []) s fun t => t.mem.bytes = s.mem.bytes
      ∧ ∃ bad, t.mem.repairs = { r with lines := r.lines + n, bad := bad } :: s.mem.repairs.filter fun x => !x.same r)
    ∧ (8 ≤ r.lines + n → Completes (.rowRemapDone c bank row false []) s fun t => t.on (F.BANK_W32_VALID (bankIx c bank) r.spare) = true
      ∧ t.get (F.BANK_W32_ROW (bankIx c bank) r.spare) = row ∧ t.repairing c bank row = false
      ∧ ∀ o, o < 4096 → t.memAt (rowKey c bank (4096 + r.spare) + o) = s.memAt (rowKey c bank (s.physRow c bank row) + o))
    ∧ (8 ≤ r.lines + n → Completes (.rowRemapDone c bank row true []) s fun t =>
      nbit (t.get (F.BANK_W1_RETIRED (bankIx c bank))) r.spare = 1 ∧ t.mem.bytes = s.mem.bytes))
  ∧ (∀ (c : Fin 512) (bank : Fin 64) (row : Fin 4096) (s : State), s.stopped = false → s.arbOwns c 4 = true →
    (∀ r ∈ s.mem.repairs, ¬ (r.chan = c ∧ r.bank = bank ∧ r.row = row)) → s.copying c bank = true → s.mem.copied = row →
    let donor := s.bankMap c (s.get (F.CHAN_W0_NC c) - 1)
    let n := s.copyLeft c s.mem.copyLines
    (s.mem.copyLines + n < 8 → Completes (.rowRemapDone c bank row false []) s fun t => t.mem.bytes = s.mem.bytes
      ∧ t.mem.copied = row ∧ t.mem.copyLines = s.mem.copyLines + n)
    ∧ (8 ≤ s.mem.copyLines + n → Completes (.rowRemapDone c bank row false []) s fun t => t.mem.copied = row + 1
      ∧ t.get (F.BANK_W0_COPY (bankIx c bank)) = min 4095 (row + 1)
      ∧ ∀ o, o < 4096 → t.memAt (rowKey c donor (s.physRow c donor row) + o) = s.memAt (rowKey c bank (s.physRow c bank row) + o)))
  ∧ (∀ (g : Agent) (channel : Bool) (c : Fin 512) (bank : Fin 64) (s : State), s.stopped = false →
    s.accepts g 0xb00118 (2 ^ 31 + (if channel then 2 ^ 30 else 0) + c.val * 2 ^ 20 + bank.val * 2 ^ 14) →
    ∃ t, exec (.mapreqGo g channel c bank) s = .next t ∧ t.on F.MEMCFG_MAPOUT_PENDING = true
      ∧ t.on F.MEMCFG_MAPOUT_KIND = channel ∧ t.get F.MEMCFG_MAPOUT_GCH = c ∧ (channel = false → t.get F.MEMCFG_MAPOUT_BANK = bank))
  ∧ (∀ s : State, s.stopped = false → s.on F.MEMCFG_MAPOUT_PENDING = true → s.on F.MEMCFG_MAPOUT_MOVING = false →
    s.mapBlockers = [] → let c := s.get F.MEMCFG_MAPOUT_GCH
    (s.on F.MEMCFG_MAPOUT_KIND = true → ∃ t, exec .mapoutStart s = .next t ∧ t.chanState c = 3 ∧ t.mem.bytes = []
      ∧ t.on F.MEMCFG_MAPOUT_PENDING = false ∧ t.liveN = ((List.range 512).filter t.chanLive).length)
    ∧ ∀ i, s.on F.MEMCFG_MAPOUT_KIND = false → s.slotOf c (s.get F.MEMCFG_MAPOUT_BANK) = some i →
      let d := s.get (F.CHAN_W0_NC c) - 1
      ∃ t, exec .mapoutStart s = .next t ∧ t.on F.MEMCFG_MAPOUT_MOVING = true
        ∧ t.get (F.BANK_W0_STATE (bankIx c (s.get F.MEMCFG_MAPOUT_BANK))) = 1 ∧ t.mem.mapSlot = i ∧ t.mem.copied = 0
        ∧ ∀ x, (i = d ∨ x / 4096 / 4128 ≠ bankIx c (s.bankMap c d)) → t.memAt x = s.memAt x)
  ∧ (∀ s : State, s.stopped = false → s.on F.MEMCFG_MAPOUT_MOVING = true → let c := s.get F.MEMCFG_MAPOUT_GCH
    let d := s.get (F.CHAN_W0_NC c) - 1
    (s.copying c (s.get F.MEMCFG_MAPOUT_BANK) = true → Completes .bankMapoutDone s fun t => t.mem = s.mem)
    ∧ (s.copying c (s.get F.MEMCFG_MAPOUT_BANK) = false → s.mem.mapSlot ≤ d → d < 64 → 1 ≤ s.get (F.CHAN_W0_NC c) →
      ∃ t, exec .bankMapoutDone s = .next t ∧ t.get (F.CHAN_W0_NC c) = d ∧ t.get (F.BANK_W0_STATE (bankIx c (s.get F.MEMCFG_MAPOUT_BANK))) = 2
        ∧ (s.mem.mapSlot < d → t.bankMap c s.mem.mapSlot = s.bankMap c d)
        ∧ (64 - d < s.get F.MEMCFG_POLICY_CHMAP_LIMIT → t.on F.MEMCFG_MAPOUT_PENDING = false)
        ∧ (s.get F.MEMCFG_POLICY_CHMAP_LIMIT ≤ 64 - d → t.on F.MEMCFG_MAPOUT_KIND = true ∧ t.get F.MEMCFG_MAPOUT_GCH = c)))
  ∧ (∀ (g : Agent) (c : Fin 512) (s : State), s.stopped = false →
    (s.accepts g 0xb00120 (2 ^ 31 + c.val) → ∃ t, exec (.marginFull g c) s = .next t ∧ t.margining c = 1 ∧ t.chanState c = 1)
    ∧ (s.accepts g 0xb00120 (2 ^ 31 + 2 ^ 30 + c.val) → ∃ t, exec (.marginScan g c) s = .next t ∧
      t.margining c = 2 ∧ t.chanState c = s.chanState c))
  ∧ ∀ (c : Fin 512) (rdW rdH wrW wrH : BitVec 8) (pin : Fin 64) (bad : Bool) (pins : List PinSet) (s : State), s.stopped = false →
    let full := s.margining c == 1
    let r := marginResult (if full then min rdW.toNat wrW.toNat else rdW.toNat) (if full then min rdH.toNat wrH.toNat else rdH.toNat)
      (full && bad)
    (s.margining c = 1 ∧ s.arbHolds c = false ∨ s.margining c = 2) →
    ∃ t, exec (.marginDone c rdW rdH wrW wrH pin bad pins) s = .next t ∧
      t.margining c = 0 ∧ t.get (F.MARGIN_W1_RESULT c) = r ∧ t.get (F.MARGIN_W1_PIN c) = pin
        ∧ t.get (F.MARGIN_W0_RDW c) = rdW.toNat ∧ t.get (F.MARGIN_W0_RDH c) = rdH.toNat
        ∧ (full = true → t.pinSets c = pins ++ (s.pinSets c).drop pins.length)
        ∧ (r ≠ 2 → full = true → s.on F.MEMCFG_MAPOUT_PENDING = false → t.chanState c = 0)
        ∧ (r = 1 → nbit (t.get F.MEMCFG_ISTAT_ISTAT) 6 = 1 ∧ nbit (t.get F.ANN_ISTAT_ISTAT) 4 = 1)
        ∧ (r = 2 → s.on F.MEMCFG_MAPOUT_PENDING = false → t.chanState c = 2 ∧ t.on F.MEMCFG_MAPOUT_PENDING = true
          ∧ t.on F.MEMCFG_MAPOUT_KIND = true ∧ t.get F.MEMCFG_MAPOUT_GCH = c)

/-- At its boundary, a running plane that no migration concerns begins its next entry, entry 0 after LAST; its slot
ends DUR × 2 ns later, and exactly the enabled outputs whose path R312 allows are lit, each at its slot bias of
R327, none where the plane is frozen. Before the boundary nothing of the Glass changes; in a realignment its
slot ends dark, once what remained of it has passed. GLASS_DRIVE_LOADED of a load under way, granted, sets
IDLE_READY. GLASS_SWITCH at its time makes the bank active, clears ARMED, sets T_START to that time and LATE
where it is not T_SW or a step of device time passed T_SW, and starts each enabled plane at entry 0; with none
enabled the controller is READY. GLASS_REALIGN_RESUME at the chosen cycle start starts each enabled plane at
entry 0. Frozen slots, the times of a switch, lit windows of held rings and what a step of device time moves
rest on log entries 34, 35, 38, 168 and 204. (10_glass.md R312, 10_glass.md R316, 10_glass.md R317, 10_glass.md R318, 10_glass.md R320, 10_glass.md R321, 10_glass.md R327) -/
def Obligations.SlotsFollowTheSchedule : Prop :=
  let atStart (t : State) : Prop := ∀ k, k < 8 → t.planeEn t.glActive k = true → (t.plane k).entry = some 0
  (∀ (k : Fin 8) (e : Nat) (s : State), s.stopped = false → (s.plane k).entry = some e → s.glRunning = true →
    s.planeEn s.glActive k = true →
    (s.glass.realign = none → s.devNs < (s.plane k).next → Completes (.glassBoundary k) s fun t => t.glass = s.glass)
    ∧ (s.glass.realign.isSome = true → (s.now < (s.plane k).ends.getD 0 → Completes (.glassBoundary k) s fun t => t.glass = s.glass)
      ∧ ((s.plane k).ends.getD 0 ≤ s.now → Completes (.glassBoundary k) s fun t => (t.plane k).entry = none ∧ (t.plane k).lit = 0))
    ∧ (s.glass.realign = none → (s.plane k).next ≤ s.devNs → s.spareServes ≠ some k.val →
      boundaryCame s.glass.takeover (s.plane k).next = false → Completes (.glassBoundary k) s fun t =>
        let e' := if s.gsLast s.glActive k e then 0 else e + 1
        (t.plane k).entry = some e' ∧ (t.plane k).next = (s.plane k).next + 2 * s.gsDur s.glActive k e'
          ∧ ∀ o, o < 64 → (nbit (t.plane k).lit o = 1 ↔ s.planeFrozen k = false
            ∧ ∃ src, (o, src) ∈ s.entryOuts s.glActive k e' ∧ s.pathLit k k o src = true)
          ∧ ∀ o src, o < 64 → nbit (t.plane k).lit o = 1 → (o, src) ∈ s.entryOuts s.glActive k e' →
            (o, s.slotBias k k o src (fanOut (s.entryOuts s.glActive k e') src)) ∈ (t.plane k).bias))
  ∧ (∀ s : State, s.stopped = false → s.glass.loading = true → s.arbOwns 776 4 = true → Completes .glassDriveLoaded s fun t =>
    t.on F.GLASS_GLSTAT_CTRL_IDLE_READY = true ∧ t.glass.loading = false ∧ t.glass.readyNs = (s.devNs : Int))
  ∧ (∀ (a : SwitchSt) (s : State), s.stopped = false → s.glass.armed = some a → a.bank < 2 → s.glass.realign = none →
    s.on F.GLASS_GLSTAT_CTRL_IDLE_READY = true → let at_ := s.switchTime a
    (s.devNs < at_ → Completes .glassSwitch s fun t => t.glass = s.glass)
    ∧ (at_ ≤ s.devNs → Completes .glassSwitch s fun t => t.glActive = a.bank ∧ t.on F.GLASS_GLSTAT_CTRL_ARMED = false
      ∧ t.glass.armed = none ∧ t.on F.GLASS_GLSTAT_CTRL_LATE = (decide (at_ ≠ a.tsw) || a.stepped.isSome)
      ∧ t.get F.GLASS_GLSTAT_TSTART_S_SEC = at_ / 1000000000 % 2 ^ 32 ∧ t.get F.GLASS_GLSTAT_TSTART_NS_NS = at_ % 1000000000
      ∧ t.glRunning = (List.range 8).any (s.planeEn a.bank) ∧ atStart t))
  ∧ ∀ (at_ : Nat) (s : State), s.stopped = false → s.glass.realign = some at_ → s.glass.armed = none →
    (s.devNs < at_ → Completes .glassRealignResume s fun t => t.glass = s.glass)
    ∧ (at_ ≤ s.devNs → Completes .glassRealignResume s fun t => t.glass.realign = none ∧ atStart t)

/-- GLCFG.SEARCH accepted puts every ring of the fibre, or of all, to SEARCHING. GLASS_SEARCH_DONE, granted, leaves
no ring SEARCHING. A ring whose peaks, labelled, give one of its own lane takes that peak's heater code and
power, and is LOCKED, PARKED as a spare that serves nothing, or HOLD where it is a working drop ring of a served
lane or a working add ring that no slot lights; one without is HOLD where it is that drop ring, and else NOLIGHT
with fewer than two peaks and FAILED with more. A second after the last retry NOLIGHT rings are searched again.
A LOCKED ring's step, granted and 25 µs after its last, records its monitor, and its parked spare's heater keeps
its offset; an add ring that no slot lights goes to HOLD, where its steps record its monitor; the size of a step
is open. RING_UNLOCK, its monitor 3 dB low for 100 µs with light, makes it UNLOCKED; RING_RELOCK, granted,
within 256 codes makes it LOCKED again and counted in RELOCKS, else SEARCHING. GLASS_IN_LOS below P_IN_LOS holds
the drop ring, and GLASS_IN_RESTORE locks it again. The rest is log entries 36 to 38, 139, 165, 171, 210 and
211. (10_glass.md R323, 10_glass.md R324, 10_glass.md R325, 10_glass.md R330, 10_glass.md R334) -/
def Obligations.RingsAreSearchedAndLocked : Prop :=
  (∀ (g : Agent) (all : Bool) (f : Fin 64) (s : State), s.stopped = false →
    s.accepts g 0xc00170 (2 ^ 31 + (if all then 64 else 0) + f.val) → Completes (.glassSearch g all f) s fun t =>
      ∀ x i, x < 64 → i < 32 → (all = true ∨ x = f.val) → nbit t.glass.searching x = 1 ∧ t.ringSt (x * 32 + i) = 1)
  ∧ (∀ (fs : List RingFind) (s : State), s.stopped = false → s.glass.searching ≠ 0 → s.arbOwns 776 6 = true →
    Completes (.glassSearchDone fs) s fun t => t.glass.searching = 0 ∧ ∀ r, r < 2048 → t.ringSt r ≠ 1)
  ∧ (∀ (x : RingFind) (s : State), s.stopped = false → s.glass.searching ≠ 0 → s.arbOwns 776 6 = true → s.ringSt x.ring = 1 →
    let r := x.ring.val
    Completes (.glassSearchDone [x]) s fun t =>
      (∀ p, s.labelled x = some p → t.get (F.RING_W0_HEATER r) = p.1 ∧ t.get (F.RING_W1_MON r) = p.2
        ∧ t.ringSt r = if 8 ≤ r % 16 then (if s.spareServes = some (r % 8) then 2 else 3)
          else if r / 16 % 2 = 0 then (if s.spareServes = some (r % 8) then 4 else 2)
          else if s.addLit r = true then 2 else 4)
      ∧ (s.labelled x = none → t.ringSt r = if s.ringServed r = true then 4 else if (peaksAbove x).length < 2 then 6 else 7))
  ∧ (∀ s : State, s.stopped = false → s.passed s.glass.lastRetry (secClocks 1) = true → Completes .nolightRetry s fun t =>
    t.glass.lastRetry = s.now ∧ ∀ r, r < 2048 → s.ringSt r = 6 → t.ringSt r = 1 ∧ nbit t.glass.searching (r / 32) = 1)
  ∧ ∀ (r : Fin 2048) (mon : BitVec 16) (s : State), s.stopped = false → SMap.wf (fun _ => 0) s.obs.sel = true →
    let glass (q : Nat) : Bool := q == 0xc00 || (decide (0xc10 ≤ q) && decide (q ≤ 0xc18))
    let near (h : BitVec 12) : Bool := decide (((h.toNat : Int) - (s.get (F.RING_W0_HEATER r) : Int)).natAbs ≤ 256)
    let again (t : State) : Prop := t.ringSt r = 1 ∧ nbit t.glass.searching (r.val / 32) = 1
    (s.ringSt r = 2 → s.arbOwns 776 1 = true → s.passed ((s.ringLock r).stepped - 1) lockClocks = true →
      ((r.val / 16 % 2 = 0 ∨ s.addLit r = true) → Completes (.ringLockStep r mon) s fun t =>
        t.ringSt r = 2 ∧ t.get (F.RING_W1_MON r) = mon.toNat ∧ (t.ringLock r).stepped = s.now + 1
          ∧ (r.val % 16 < 8 → s.ringSt (r + 8) = 3 → (t.get (F.RING_W0_HEATER (r + 8)) : Int)
            = max 0 (min 4095 ((t.get (F.RING_W0_HEATER r) : Int) + SMap.get (fun _ => 0) s.glass.offset (r + 8)))))
      ∧ (r.val / 16 % 2 = 1 → s.addLit r = false → Completes (.ringLockStep r mon) s fun t => t.ringSt r = 4))
    ∧ (s.ringSt r = 4 → r.val / 16 % 2 = 1 → s.arbOwns 776 1 = true → s.passed ((s.ringLock r).stepped - 1) lockClocks = true →
      Completes (.ringLockStep r mon) s fun t => t.ringSt r = 4 ∧ t.get (F.RING_W1_MON r) = mon.toNat
        ∧ (t.ringLock r).stepped = s.now + 1)
    ∧ (s.ringSt r = 2 → s.arbOwns 776 1 = true → (s.ringLock r).low ≠ 0 → s.passed ((s.ringLock r).low - 1) unlockClocks = true →
      (s.ringLock r).lowAt mon.toNat = true → s.ringLight r = true → Completes (.ringUnlock r mon) s fun t =>
        t.ringSt r = 5 ∧ Counted s t glass Ev.GLASS_UNLOCK 1)
    ∧ (s.ringSt r = 5 → s.arbOwns 776 1 = true → (∀ h, near h = true → Completes (.ringRelock r (some h) mon) s fun t => t.ringSt r = 2
        ∧ t.get (F.RING_W0_HEATER r) = h.toNat ∧ t.get (F.RING_W1_RELOCKS r) = min (s.get (F.RING_W1_RELOCKS r) + 1) (2 ^ 16 - 1)
        ∧ Counted s t glass Ev.GLASS_RELOCK 1)
      ∧ (∀ h, near h = false → Completes (.ringRelock r (some h) mon) s again) ∧ Completes (.ringRelock r none mon) s again)
    ∧ ∀ (x : Fin 64) (lane : Fin 8) (power : BitVec 16), let d := s.dropRingOf x lane
      (s.ringSt d = 2 → s.arbOwns 776 1 = true → power.toInt < s.gets F.GLASS_GLCFG_POWER_P_IN_LOS → Completes (.glassInLos x lane power) s fun t =>
        t.ringSt d = 4 ∧ t.gets (F.GIN_W0_PIN (x.val * 8 + lane)) = power.toInt ∧ Counted s t glass Ev.GLASS_IN_LOS 1)
      ∧ (s.ringSt d = 4 → s.arbOwns 776 1 = true → s.gets F.GLASS_GLCFG_POWER_P_IN_LOS ≤ power.toInt → Completes (.glassInRestore x lane power) s fun t =>
        t.ringSt d = 2 ∧ t.gets (F.GIN_W0_PIN (x.val * 8 + lane)) = power.toInt)

/-- GLASS_POWER_UPDATE, granted and due every 1 ms, records an input's reading, and an output's where it was lit
since the last update; a reading that is not listed stands. A bias step, granted and due every 10 ms, moves IC
by at most one code, never up where the input is at its reference, and IB of an output lit since the last step
by one code where its power is more than 0.1 dB off. A headroom low for 1 s starts a migration where AUTO_MIG is
1 and the spare IDLE, and else is logged once; an output low for 10 ms is reported once. GLMIG GO accepted makes
the spare ARMING for the plane; armed 20 ms and granted, the controller chooses the boundary, refreshes the
spare's heaters and loads its SOA terms; at it the spare SERVES, the plane is MIGRATED and its drop rings HOLD,
locked or not; 1 ms later MIG_DONE is set. RETURN asks MIG for its bus, which once granted chooses a boundary
(the idle clock's glassReturn), at which the spare is IDLE again, its rings PARKED, and drop rings lock where
their input has light. No event of the Glass changes another component but NVM's queue and the arbiter of its
bus. The rest is log entries 13, 37, 108, 137, 138, 169, 170 and 205. (10_glass.md R326, 10_glass.md R328, 10_glass.md R329, 10_glass.md R330, 10_glass.md R331, 10_glass.md R332) -/
def Obligations.PowerLoopsAndTheSparePlane : Prop :=
  (∀ (i : Fin 512) (o : Fin 576) (x y : BitVec 16) (s : State), s.stopped = false → s.arbOwns 776 3 = true →
    s.passed s.glass.lastPower (msClocks 1) = true →
    Completes (.glassPowerUpdate [(i, x)] [(o, y)]) s fun t => t.get (F.GIN_W0_PIN i) = x.toNat ∧ t.glass.lastPower = s.now
      ∧ (∀ j, j < 512 → j ≠ i.val → t.get (F.GIN_W0_PIN j) = s.get (F.GIN_W0_PIN j))
      ∧ t.get (F.SOA_W1_POUT o) = if nbit (s.plane (o.val / 64)).litPower (o.val % 64) = 1 then y.toNat else s.get (F.SOA_W1_POUT o))
  ∧ (∀ s : State, s.stopped = false → s.arbOwns 776 2 = true → s.passed s.glass.lastBias (msClocks 10) = true → Completes .glassBiasStep s fun t =>
    t.glass.lastBias = s.now
      ∧ (∀ i, i < 512 → t.get (F.GIN_W0_IC i) ≤ s.get (F.GIN_W0_IC i) + 1 ∧ s.get (F.GIN_W0_IC i) ≤ t.get (F.GIN_W0_IC i) + 1
        ∧ (s.gets F.GLASS_GLCFG_POWER_P_IN_REF ≤ s.gets (F.GIN_W0_PIN i) → t.get (F.GIN_W0_IC i) ≤ s.get (F.GIN_W0_IC i)))
      ∧ ∀ i, i < 576 → let d := s.gets (F.SOA_W2_TARGET i) - s.gets (F.SOA_W1_POUT i)
        let ib := s.get (F.SOA_W0_IB i)
        t.get (F.SOA_W0_IB i) = if nbit (s.plane (i / 64)).litBias (i % 64) = 0 then ib
          else if 10 < d then min 1023 (ib + 1) else if d < -10 then ib - 1 else ib)
  ∧ (∀ (p : Fin 9) (since : Nat) (s : State), s.stopped = false → p.val < 8 → (s.plane p).lowSince = some since →
    s.passed since (secClocks 1) = true → s.planeFrozen 8 = false → s.get F.GLASS_GLMIG_STATUS_SPARE = 0 →
    (s.on F.GLASS_GLCFG_CTRL_AUTO_MIG = true → s.glRunning = true →
      (∀ r, s.glass.returnedAt = some r → s.passed r (secClocks 60) = true) → Completes (.glassHeadroomLow p) s fun t =>
      t.get F.GLASS_GLMIG_STATUS_SPARE = 1 ∧ t.get F.GLASS_GLMIG_STATUS_PLANE = p ∧ t.get (F.PLANE_PSTATE_STATE p) = 2
        ∧ t.glass.armingAt = s.now)
    ∧ (s.on F.GLASS_GLCFG_CTRL_AUTO_MIG = false → (s.plane p).lowLogged = false → Completes (.glassHeadroomLow p) s fun t =>
      t.get F.GLASS_GLMIG_STATUS_SPARE = 0 ∧ (t.plane p).lowLogged = true ∧ nbit (t.get F.GLASS_GLCFG_ISTAT_ISTAT) 4 = 1))
  ∧ (∀ (o : Fin 576) (s : State), s.stopped = false → let since := SMap.get (fun _ => 0) s.glass.outLow o
    since ≠ 0 → s.passed (since - 1) (msClocks 10) = true → SMap.get (fun _ => false) s.glass.outLowSeen o = false →
    Completes (.glassOutLow o) s fun t => SMap.get (fun _ => false) t.glass.outLowSeen o = true
      ∧ nbit (t.get F.GLASS_GLCFG_ISTAT_ISTAT) 7 = 1)
  ∧ (∀ (g : Agent) (p : Fin 9) (s : State), s.stopped = false →
    (p.val < 8 → s.accepts g 0xc00160 (2 ^ 31 + p.val) → Completes (.glassMigGo g p) s fun t => t.get F.GLASS_GLMIG_STATUS_SPARE = 1
      ∧ t.get F.GLASS_GLMIG_STATUS_PLANE = p ∧ t.glass.armingAt = s.now ∧ t.glass.takeover = none)
    ∧ (s.accepts g 0xc00160 (2 ^ 30) → Completes (.glassReturn g) s fun t =>
      t.glass.returnAsk = some s.now)
    ∧ (s.glass.returnAsk.isSome = true → s.arbOwns 776 0 = true →
      s.glassReturn.glass.returnNs = some ((s.chooseBoundary (s.get F.GLASS_GLMIG_STATUS_PLANE)).getD 0)))
  ∧ (∀ s : State, s.stopped = false → s.get F.GLASS_GLMIG_STATUS_SPARE = 1 → s.passed s.glass.armingAt (msClocks 20) = true →
    s.glass.takeover = none → s.glass.realign = none → s.arbOwns 776 0 = true → Completes .glassMigArmed s fun t =>
      let k := s.get F.GLASS_GLMIG_STATUS_PLANE
      t.glass.takeover = s.chooseBoundary k ∧ t.glass.spareTerms = some k ∧ ∀ f, f < 64 → ∀ side, side < 2 → let r := ringIx f side k
        (t.get (F.RING_W0_HEATER (r + 8)) : Int)
          = max 0 (min 4095 ((s.get (F.RING_W0_HEATER r) : Int) + SMap.get (fun _ => 0) s.glass.offset (r + 8))))
  ∧ (∀ (since : Nat) (s : State), s.stopped = false → s.glass.servingAt = some since → s.passed since (msClocks 1) = true →
    Completes .glassMigDone s fun t => t.glass.servingAt = none ∧ nbit (t.get F.GLASS_GLCFG_ISTAT_ISTAT) 3 = 1)
  ∧ (∀ (k : Fin 8) (e : Nat) (s : State), s.stopped = false → (s.plane k).entry = some e → s.glRunning = true →
    s.planeEn s.glActive k = true → s.glass.realign = none → (s.plane k).next ≤ s.devNs → s.get F.GLASS_GLMIG_STATUS_PLANE = k →
    (s.get F.GLASS_GLMIG_STATUS_SPARE = 1 → s.glass.takeover = some (s.plane k).next → Completes (.glassBoundary k) s fun t =>
      t.spareServes = some k.val ∧ t.get (F.PLANE_PSTATE_STATE k) = 3 ∧ t.get (F.PLANE_PSTATE_STATE 8) = 5 ∧ (t.plane k).lit = 0
        ∧ (t.plane 8).entry = (t.plane k).entry ∧ t.glass.servingAt = some s.now
        ∧ ∀ f, f < 64 → (s.ringSt (ringIx f 0 k) = 2 ∨ s.ringSt (ringIx f 0 k) = 5) → t.ringSt (ringIx f 0 k) = 4)
    ∧ (s.get F.GLASS_GLMIG_STATUS_SPARE = 2 → s.glass.returnNs = some (s.plane k).next → Completes (.glassBoundary k) s fun t =>
      t.get F.GLASS_GLMIG_STATUS_SPARE = 0 ∧ t.get (F.PLANE_PSTATE_STATE 8) = 4 ∧ (t.plane 8).lit = 0
        ∧ t.glass.returnedAt = some s.now ∧ ∀ f, f < 64 →
          (s.ringSt (ringIx f 0 k) = 4 → t.ringSt (ringIx f 0 k) = if s.inputLit f k = true then 2 else 4)
          ∧ (s.ringSt (ringIx f 0 (8 + k)) ∈ [2, 4, 5] → t.ringSt (ringIx f 0 (8 + k)) = 3)))
  ∧ ∀ (c : Instr) (s t : State), glassEvent c = true → exec c s = .next t →
    t.cis = s.cis ∧ t.col = s.col ∧ t.bsn = s.bsn ∧ t.mem = { s.mem with arb := t.mem.arb } ∧ t.ports = s.ports ∧ t.fwd = s.fwd ∧ t.time = s.time
      ∧ t.mgmt = s.mgmt ∧ t.cages = s.cages ∧ t.pwr = s.pwr ∧ t.hlth = s.hlth ∧ t.nvm.bytes = s.nvm.bytes

/-- An accepted TIME.LATCH.GO copies SEC, NS and FRAC into the NOW registers, the values from before the step where
device time was stepped in the same core clock, and leaves device time alone. An accepted SET makes device time
SET_SEC and SET_NS with FRAC 0; an accepted ADJ moves it by exactly ADJ_NS. Either is one step: STEPS rises by
one, saturating, TIME_STEP is counted, the integral term is kept, and a servo that is not FREE is in ACQUIRE. An
accepted write of FREQ leaves FREQ_ADJ as written, within SLEW_MAX, and needs source FREE. An accepted write of
TIME.CTL that changes SRC puts the servo to FREE for source 0 and to ACQUIRE for another, keeps the integral
term and device time; one that keeps SRC leaves the servo's state. What a latch in the core clock of a step
takes is R374 (log entry 176 says whose the step may be). (12_time.md R374, 12_time.md R375, 12_time.md R376, 12_time.md R378, 12_time.md R389, 12_time.md R392) -/
def Obligations.HostReadsAndSetsDeviceTime : Prop :=
  (∀ (g : Agent) (s : State), s.stopped = false → s.accepts g 0xd00108 1 → Completes (.timeLatch g) s fun t =>
    t.time = s.time ∧ ((∀ u, s.time.preStep ≠ some (s.now, u)) →
        t.get F.TIME_NOW_SEC_HI_SEC_HI = s.time.sec / 2 ^ 32 % 2 ^ 32 ∧ t.get F.TIME_NOW_SEC_LO_SEC_LO = s.time.sec % 2 ^ 32
          ∧ t.get F.TIME_NOW_NS_NS = s.time.ns % 2 ^ 30 ∧ t.get F.TIME_NOW_FRAC_FRAC = s.time.frac % 2 ^ 16)
      ∧ ∀ u, s.time.preStep = some (s.now, u) →
        t.get F.TIME_NOW_SEC_HI_SEC_HI = u / 2 ^ 56 / 1000000000 / 2 ^ 32 % 2 ^ 32
          ∧ t.get F.TIME_NOW_SEC_LO_SEC_LO = u / 2 ^ 56 / 1000000000 % 2 ^ 32
          ∧ t.get F.TIME_NOW_NS_NS = u / 2 ^ 56 % 1000000000 ∧ t.get F.TIME_NOW_FRAC_FRAC = u / 2 ^ 40 % 2 ^ 16)
  ∧ (let stepped (s t : State) : Prop := t.time.steps = s.time.steps + 1 ∧ t.time.acc = s.time.acc
      ∧ t.get F.TIME_STAT_STEPS = min (s.get F.TIME_STAT_STEPS + 1) 0xffff
      ∧ t.get F.TIME_STAT_SERVO = (if s.get F.TIME_STAT_SERVO = 0 then 0 else 1)
      ∧ (SMap.wf (fun _ => 0) s.obs.sel = true → Counted s t (fun q => q == 0xd00) Ev.TIME_STEP 1)
    ∀ (g : Agent) (s : State), s.stopped = false →
      (s.accepts g 0xd0012c (2 ^ 31) → Completes (.timeSet g) s fun t =>
        t.time.units = ((s.get F.TIME_SET_SEC_HI_SEC_HI * 2 ^ 32 + s.get F.TIME_SET_SEC_LO_SEC_LO) * 1000000000
          + s.get F.TIME_SET_NS_NS) * 2 ^ 56 ∧ stepped s t)
      ∧ (s.accepts g 0xd0012c (2 ^ 30) → Completes (.timeAdj g) s fun t =>
        (t.time.units : Int) = s.time.units + s.gets F.TIME_ADJ_NS_ADJ_NS * 2 ^ 56 ∧ stepped s t))
  ∧ (∀ (g : Agent) (freq : BitVec 32) (s : State), s.stopped = false → s.accepts g 0xd00134 freq.toNat →
    s.get F.TIME_CTL_SRC = 0 ∧ |freq.toInt| * 1000000000 ≤ (s.get F.TIME_SLEW_SLEW_MAX : Int) * 2 ^ 40
      ∧ Completes (.timeFreqWrite g freq) s fun t => t.freqAdj = freq.toInt ∧ t.time = s.time)
  ∧ ∀ (g : Agent) (ctl : BitVec 32) (s : State), s.stopped = false → s.accepts g 0xd00100 ctl.toNat →
    Completes (.timeSrcWrite g ctl) s fun t => let src := nfield ctl.toNat 31 30
      t.get F.TIME_CTL_SRC = src ∧ t.time.acc = s.time.acc ∧ t.time.units = s.time.units
        ∧ t.get F.TIME_STAT_SERVO = if src = s.get F.TIME_CTL_SRC then s.get F.TIME_STAT_SERVO else if src = 0 then 0 else 1

/-- An accepted HOST sample of offset x, in 2^−16 ns, waits for the end of its core clock (samplesClose, the first
act of clockEnd), as a sample of PORT or PPS does. There, in the core clock of a host step before or after it,
with the servo FREE, formed before a step, or asking for a step below 0, it is discarded and counted, and device
time and FREQ_ADJ stay. With STEP_EN and |x| above STEP_NS it steps device time by −x. Else the integral term
gains x × 2^−KI and FREQ_ADJ cancels y, each held to SLEW_MAX, rounded to nearest, ties away from zero; a sample
above LOCK_NS puts the servo to ACQUIRE, and the eighth in a row within it to LOCKED. The integral term's unit
of 2^−40 ppb, below which x × 2^−KI is cut, and LASTOFS rounded down are the model's choices (log entries 42,
46), and so is the end of the clock as the moment of a sample (198). With no sample for HOLD_MS the servo is in
HOLDOVER and FREQ_ADJ cancels the integral term. PPS_OUT rises at an edge not yet sent where pulses are allowed,
and falls WIDTH_US later. A PPS_IN edge within 0.9 s of the last is counted and ignored; another is captured
less its delay, and raises NEXT_SEC in source PPS. (12_time.md R376, 12_time.md R377, 12_time.md R378, 12_time.md R379, 12_time.md R386, 12_time.md R387) -/
def Obligations.SamplesDriveTheServo : Prop :=
  let cancel (y : Int) : Int := -(y.sign * ((2 * |y| + 1000000000) / 2000000000))
  let hold (s : State) (v : Int) : Int := max (-((s.get F.TIME_SLEW_SLEW_MAX : Int) * 2 ^ 40))
    (min ((s.get F.TIME_SLEW_SLEW_MAX : Int) * 2 ^ 40) v)
  (∀ (g : Agent) (frac : BitVec 16) (s : State), s.stopped = false → s.accepts g 0xd0013c frac.toNat →
    Completes (.hostSample g frac) s fun t => t.freqAdj = s.freqAdj ∧ t.time = { s.time with
      samples := s.time.samples ++ [(s.gets F.TIME_OFFS_NS_NS * 65536 + (frac.toNat : Int), s.time.steps)] })
  ∧ (∀ (x : Int) (epoch : Nat) (s : State), s.time.samples = [(x, epoch)] → SMap.wf (fun _ => 0) s.obs.sel = true →
    let t := s.samplesClose
    let to_ : Int := (s.time.units : Int) - x * 2 ^ 40
    let big : Bool := s.on F.TIME_CTL_STEP_EN && decide ((s.get F.TIME_STEPTH_STEP_NS : Int) * 65536 < |x|)
    (epoch ≠ s.time.steps ∨ s.time.hostStepAt = some s.now ∨ s.get F.TIME_STAT_SERVO = 0 ∨ (big = true ∧ to_ < 0) →
      t.time = { s.time with samples := [] } ∧ t.freqAdj = s.freqAdj
        ∧ Counted s t (fun q => q == 0xd00) Ev.TIME_SAMPLE_DROP 1)
    ∧ (epoch = s.time.steps → s.time.hostStepAt ≠ some s.now → s.get F.TIME_STAT_SERVO ≠ 0 →
      (big = true → 0 ≤ to_ → to_ < 2 ^ 64 * 1000000000 * 2 ^ 56 →
        (t.time.units : Int) = to_ ∧ t.time.steps = s.time.steps + 1 ∧ t.time.acc = s.time.acc
          ∧ t.get F.TIME_STAT_SERVO = 1 ∧ Counted s t (fun q => q == 0xd00) Ev.TIME_SAMPLE 1)
      ∧ (big = false →
        let acc := hold s (s.time.acc + x * 2 ^ 24 / (2 ^ s.get F.TIME_SERVO_KI : Nat))
        let near : Bool := decide (|x| ≤ (s.get F.TIME_LOCK_LOCK_NS : Int) * 65536)
        t.time.acc = acc ∧ t.freqAdj = cancel (hold s (x * 2 ^ 24 / (2 ^ s.get F.TIME_SERVO_KP : Nat) + acc))
          ∧ t.time.units = s.time.units ∧ t.time.lockRun = (if near then s.time.lockRun + 1 else 0)
          ∧ t.gets F.TIME_LASTOFS_NS = max (-2147483648) (min 2147483647 (x / 65536))
          ∧ t.get F.TIME_STAT_SERVO = (if ¬ near ∨ s.get F.TIME_STAT_SERVO = 3 then 1
            else if 8 ≤ s.time.lockRun + 1 then 2 else s.get F.TIME_STAT_SERVO)
          ∧ Counted s t (fun q => q == 0xd00) Ev.TIME_SAMPLE 1)))
  ∧ (∀ s : State, s.stopped = false → SMap.wf (fun _ => 0) s.obs.sel = true → s.mgmt.spcDown = false → s.time.samples = [] →
    s.get F.TIME_STAT_SERVO = 1 ∨ s.get F.TIME_STAT_SERVO = 2 →
    |s.time.acc| ≤ (s.get F.TIME_SLEW_SLEW_MAX : Int) * 2 ^ 40 →
    s.passed s.time.lastSample (msClocks (s.get F.TIME_LOCK_HOLD_MS)) = true → Completes .servoHoldover s fun t =>
      t.get F.TIME_STAT_SERVO = 3 ∧ t.freqAdj = cancel s.time.acc ∧ Counted s t (fun q => q == 0xd00) Ev.TIME_HOLDOVER 1)
  ∧ (∀ s : State, s.stopped = false → let due := s.ppsEdgesBy s.devNs
    (due ≤ s.time.ppsLastSec → Completes .ppsOutEdge s fun t => t.time = s.time ∧ Sent s t [])
    ∧ (s.time.ppsLastSec < due → Completes .ppsOutEdge s fun t => t.time.ppsLastSec = due
      ∧ Sent s t (if s.on F.TIME_CTL_PPSOUT_EN = true ∧ (s.on F.TIME_CTL_PPS_GATE = true → 2 ≤ s.get F.TIME_STAT_SERVO)
          ∧ s.time.ppsWasSent due = false
        then [.pin "PPS_OUT" true] else [])))
  ∧ (∀ (since : Nat) (s : State), s.stopped = false → s.time.ppsHighSince = some since →
    s.passed since (usClocks (s.get F.TIME_PPSOUT_WIDTH_US)) = true → Completes .ppsOutFall s fun t =>
      t.time.ppsHighSince = none ∧ Sent s t [.pin "PPS_OUT" false])
  ∧ ∀ s : State, s.stopped = false → SMap.wf (fun _ => 0) s.obs.sel = true → let at_ := s.dev16 - s.get F.TIME_PPSIN_DELAY_NS * 65536
    (∀ since, s.time.ppsInLast = some since → s.now < since + 1440000000 → Completes .ppsInEdge s fun t =>
      t.time = s.time ∧ t.get F.TIME_PPSIN_COUNT = s.get F.TIME_PPSIN_COUNT
        ∧ Counted s t (fun q => q == 0xd00) Ev.TIME_PPS_GLITCH 1)
    ∧ ((∀ since, s.time.ppsInLast = some since → since + 1440000000 ≤ s.now) → Completes .ppsInEdge s fun t =>
      t.get F.TIME_PPSIN_COUNT = (s.get F.TIME_PPSIN_COUNT + 1) % 2 ^ 16 ∧ t.get F.TIME_PPSIN_FRAC_FRAC = at_ % 65536
        ∧ t.get F.TIME_PPSIN_NS_NS = at_ / 65536 % 1000000000 ∧ t.get F.TIME_PPSIN_SEC_SEC_LO = at_ / 65536 / 1000000000 % 2 ^ 32
        ∧ t.time.ppsInLast = some s.now ∧ Counted s t (fun q => q == 0xd00) Ev.TIME_PPS_IN 1
        ∧ t.get F.TIME_NEXTSEC_SEC = (if s.get F.TIME_CTL_SRC = 2 ∧ s.on F.TIME_NEXTSEC_VALID = true
          then (s.get F.TIME_NEXTSEC_SEC + 1) % 2 ^ 31 else s.get F.TIME_NEXTSEC_SEC)
        ∧ let ns := at_ / 65536 % 1000000000
          let whole : Int := if s.on F.TIME_NEXTSEC_VALID then
              (((at_ / 65536 / 1000000000 : Nat) : Int) - (s.get F.TIME_NEXTSEC_SEC : Int)) * 1000000000 + (ns : Int)
            else if ns < 500000000 then (ns : Int) else (ns : Int) - 1000000000
          let x : Int := whole * 65536 + ((at_ % 65536 : Nat) : Int)
          t.time.samples = s.time.samples ++ (if s.get F.TIME_CTL_SRC = 2 then [(x, s.time.steps)] else []))

/-- A TIME packet at the front is taken by the command of its kind, and by no other. A Sync leaves its sequenceId,
its receive stamp, and its origin time unless a Follow_Up is to bring it; a Follow_Up of that sequenceId adds
its time. A Delay_Resp that does not answer the outstanding request is counted TIME_SAMPLE_DROP; the matching
one ends the exchange and, with a complete Sync, leaves the mean path delay. An Announce is kept. A packet of no
kind taken is dropped and counted. A Delay_Req is answered on its port by a Delay_Resp with its sequenceId and
its source as the requesting port. Sync and Announce leave a MASTER port that is UP when due, and Delay_Req the
slave port, with the next sequenceId. The oldest packet handed in is refused with a launch NS above 999,999,999,
waits and is counted once while ORIG_CELLS or free cells do not hold it, and else is placed. Messages are laid
out by IEEE 1588, presumed (log entry 52); the exchange, the ports that send, and cells counted as held in the
clock of their release are log entries 53, 54, 129, 146 and 147. (12_time.md R380, 12_time.md R381, 12_time.md R382, 12_time.md R384, 12_time.md R385, 05_cistern.md R130, 12_time.md R390) -/
def Obligations.TimeMessagesAreTakenAndAnswered : Prop :=
  let due (at_ d : Nat) (s : State) : Prop := at_ = 0 ∨ at_ - 1 + d ≤ s.now
  (∀ (x : TimeRx) (rest : List TimeRx) (s : State), s.stopped = false → s.time.rxQ = x :: rest →
    SMap.wf (fun _ => 0) s.obs.sel = true →
    let b := x.bytes
    let both (q : Nat) : Bool := q == 0xd00 || q == 0x100 + x.port
    (s.timeKind x = some 0 → Completes .ptpSyncRx s fun t => Counted s t both Ev.TIME_SYNC_RX 1 ∧ t.time = { s.time with
      rxQ := rest, syncSeq := ptpSeq b, syncT1 := (if ptpTwoStep b then 0 else ptpTime b) + ptpCorr b, syncT2 := x.stamp,
      syncWait := ptpTwoStep b, syncValid := !ptpTwoStep b })
    ∧ (s.timeKind x = some 8 → Completes .ptpFollowUpRx s fun t => t.time =
      if s.time.syncWait = true ∧ s.time.syncSeq = ptpSeq b then { s.time with
        rxQ := rest, syncT1 := s.time.syncT1 + ptpTime b + ptpCorr b, syncWait := false, syncValid := true }
      else { s.time with rxQ := rest })
    ∧ (s.timeKind x = some 9 → let mine := s.time.dreqSeq = some (ptpSeq b) ∧ ptpRequester b = portIdentity x.port
      (¬ mine → Completes .ptpDelayRespRx s fun t => t.time = { s.time with rxQ := rest }
        ∧ Counted s t (fun q => q == 0xd00) Ev.TIME_SAMPLE_DROP 1)
      ∧ (mine → Completes .ptpDelayRespRx s fun t => t.time.rxQ = rest ∧ t.time.dreqSeq = none ∧ t.time.syncValid = false
        ∧ (s.time.syncValid = true → (t.get (F.LANE_PORTMPD_MPD x.port) : Int)
          = max 0 (min 4294967295 (s.exchange b).1))))
    ∧ (s.timeKind x = some 0xb → Completes .ptpAnnounceRx s fun t =>
      t.time = { s.time with rxQ := rest, announce := (ptpMsg b).take 64 })
    ∧ (s.timeKind x = none → Completes .timeMsgUnsup s fun t => t.time = { s.time with rxQ := rest }
      ∧ Counted s t both Ev.TIME_MSG_UNSUP 1)
    ∧ (s.timeKind x = some 1 → Completes .ptpDelayReqRx s fun t => t.time = { s.time with rxQ := rest }
      ∧ Counted s t both Ev.TIME_DREQ_RX 1
      ∧ (s.on F.FWDID_SELF_VALID = true → ∃ r, t.cis.origQ = s.cis.origQ ++ [⟨r, some x.port, .delayResp, false⟩]
        ∧ ptpType r = 9 ∧ ptpSeq r = ptpSeq b ∧ ptpRequester r = ptpSource b))
    ∧ ∀ (c : Instr) (k : Nat), (c, k) ∈ [(Instr.ptpSyncRx, 0), (.ptpFollowUpRx, 8), (.ptpDelayRespRx, 9), (.ptpAnnounceRx, 0xb),
      (.ptpDelayReqRx, 1)] → s.timeKind x ≠ some k → Completes c s fun t => t.time = s.time ∧ t.cis = s.cis)
  ∧ (∀ (p : PortIx) (s : State), s.stopped = false → s.servesTime p = true → s.portUp p = true → s.on F.FWDID_SELF_VALID = true →
    (due (SMap.get (fun _ => 0) s.time.lastSyncTx p) (1600000000 / 2 ^ s.get (F.LANE_PORTTIME_SYNC_LOG p)) s →
      Completes (.ptpSyncTx p) s fun t => SMap.get (fun _ => 0) t.time.lastSyncTx p = s.now + 1
        ∧ ∃ r, t.cis.origQ = s.cis.origQ ++ [⟨r, some p.val, .sync, false⟩] ∧ ptpType r = 0
          ∧ ptpSeq r = SMap.get (fun _ => 0) s.time.seqSync p % 65536)
    ∧ (due (SMap.get (fun _ => 0) s.time.lastAnnTx p) 1600000000 s →
      Completes (.ptpAnnounceTx p) s fun t => SMap.get (fun _ => 0) t.time.lastAnnTx p = s.now + 1
        ∧ ∃ r, t.cis.origQ = s.cis.origQ ++ [⟨r, some p.val, .announce, false⟩] ∧ ptpType r = 0xb))
  ∧ (∀ (p : Nat) (s : State), s.stopped = false → s.slavePort = some p → s.portUp p = true → s.on F.FWDID_SELF_VALID = true →
    Completes .ptpDelayReqTx s fun t => t.time.dreqSeq = some s.time.seqDreq ∧ t.time.seqDreq = (s.time.seqDreq + 1) % 65536
      ∧ ∃ r, t.cis.origQ = s.cis.origQ ++ [⟨r, some p, .delayReq, false⟩] ∧ ptpType r = 1 ∧ ptpSeq r = s.time.seqDreq % 65536)
  ∧ ∀ (launch : Option (BitVec 64)) (o : OrigReq) (rest : List OrigReq) (s : State), s.stopped = false →
    s.cis.origQ = o :: rest → SMap.wf (fun _ => 0) s.obs.sel = true →
    let bad : Prop := ∃ l, launch = some l ∧ 999999999 < l.toNat % 2 ^ 30
    let need := cellsOf o.bytes.length
    let fits : Prop := s.chargedSeen .origin + need ≤ s.get F.CISCFG_ORIG_ORIG_CELLS ∧ s.hasCells need = true
    (bad → Completes (.originPoolGrant launch) s fun t => t.cis = { s.cis with origQ := rest })
    ∧ (¬ bad → ¬ fits → Completes (.originPoolGrant launch) s fun t => t.cis = { s.cis with origQ := { o with waited := true } :: rest }
      ∧ Counted s t (fun q => decide (0x700 ≤ q) && decide (q < 0x702)) Ev.CIS_ORIG_WAIT (if o.waited then 0 else 1))
    ∧ (¬ bad → fits → Completes (.originPoolGrant launch) s fun t => t.cis.origQ = rest ∧ s.cis.nextPkt < t.cis.nextPkt)

/-- A register write outside the aperture that a rule refuses leaves every component of the part as it was but the
registers and the records the part keeps of itself; of the registers only the page's REJECT record, MGMT.REJECT
and pending bits of masked vectors may change. MGMT.REJECT then holds agent, code, address and value where it
was clear, and else OVER with the first record kept; MGMT_REJECT is counted. An address that holds nothing is
REJ_UNMAPPED; else a misaligned or partial access outside byte tables is REJ_WIDTH; else, outside the read-only
views, a 1 in a reserved bit, but for the two that R311 and R333 make REJ_RANGE, is REJ_RESERVED. An accepted
write of a common register that starts nothing, or of a directly written window below the arbiters', leaves its
word as the access types merge it and every other register, but pending bits, and every other component as it
was, beside the note of which bits were set in this clock and of what an instantiation's and an arbiter's
settings were. Words that no register lays out, and the order of the codes, are log entries 72 and 74. (13_management.md R395, 13_management.md R397, 13_management.md R403, 13_management.md R404, 13_management.md R426) -/
def Obligations.RejectedWritesLeaveOnlyTraces : Prop :=
  let pba (x : Nat) : Bool := decide (0xe08800 ≤ x) && decide (x < 0xe08808)
  let trace (a x : Nat) : Bool := pba x || (decide (0xe00100 ≤ x) && decide (x < 0xe0010c))
    || (decide (a < 0x1000000) && decide (a / 4096 * 4096 + 0x18 ≤ x) && decide (x < a / 4096 * 4096 + 0x24));
  (∀ (g : Agent) (addr : BitVec 28) (value : BitVec 32) (be : BitVec 4) (s : State), s.stopped = false →
    let a := addr.toNat
    let code := s.busCode g a value.toNat be.toNat
    placeAt (a / 4 * 4) ≠ .aperture → code ≠ 0 → Completes (.registerWrite g addr value be) s fun t =>
      t = { s with bar := t.bar, obs := t.obs, setNow := t.setNow } ∧ (∀ x, trace a x = false → t.word x = s.word x)
      ∧ (s.on F.MGMT_REJECT_VALID = false → t.on F.MGMT_REJECT_VALID = true ∧ t.get F.MGMT_REJECT_AGENT = g
        ∧ t.get F.MGMT_REJECT_CODE = code % 2 ^ 16 ∧ t.get F.MGMT_REJ_ADDR_OFFSET = a ∧ t.get F.MGMT_REJ_DATA_DATA = value.toNat)
      ∧ (s.on F.MGMT_REJECT_VALID = true → t.on F.MGMT_REJECT_OVER = true ∧ t.get F.MGMT_REJECT_AGENT = s.get F.MGMT_REJECT_AGENT
        ∧ t.get F.MGMT_REJECT_CODE = s.get F.MGMT_REJECT_CODE ∧ t.word 0xe00104 = s.word 0xe00104 ∧ t.word 0xe00108 = s.word 0xe00108)
      ∧ (SMap.wf (fun _ => 0) s.obs.sel = true → Counted s t (fun q => decide (0xe00 ≤ q) && decide (q < 0xe10)) Ev.MGMT_REJECT 1))
  ∧ (∀ (g : Agent) (a v be : Nat) (s : State), let p := placeAt (a / 4 * 4)
    (p = .unmapped → s.busCode g a v be = 0x0e)
    ∧ (p ≠ .unmapped → a % 4 ≠ 0 ∨ (be ≠ 15 ∧ byteEntries (a / 4 * 4) = false) → s.busCode g a v be = 0x0f)
    ∧ (p ≠ .unmapped → a % 4 = 0 → be = 15 → viewAt a = false → (∃ f ∈ fldsAt a, f.acc = .rsv ∧ nfield (lessNamed a (v &&& byteMask be)) f.hi f.lo ≠ 0) →
      s.busCode g a v be = 0x02))
  ∧ ∀ (g : Agent) (addr : BitVec 28) (value : BitVec 32) (s : State), s.stopped = false → let a := addr.toNat
    let o := a % 4096
    s.accepts g a value.toNat → (if a < 0x1000000 then o < 0xc0 ∧ o ≠ 0x10 else a < 0x7a00000 ∧ a ≠ 0x6018000) →
    Completes (.registerWrite g addr value 15#4) s fun t =>
      t.word a = BitVec.ofNat 32 (mergeWord (s.setBits a) (fldsAt a) (s.word a).toNat value.toNat 0xffffffff)
      ∧ (∀ x, x ≠ a → pba x = false → t.word x = s.word x)
      ∧ t = { s with bar := t.bar, obs := t.obs, setNow := t.setNow, mem := { s.mem with cfgOld := t.mem.cfgOld } }

/-- An accepted CLAIM finds the slot FREE and leaves it OPEN with agent and PART, COUNT 0. An accepted VALIDATE is
of the claiming agent, from OPEN or FAILED with records. The end of its validation leaves the slot VALID, owning
every unit that its WRITE records touch, or FAILED with code and record and owning nothing. An accepted COMMIT
finds it VALID; NOW awaits its commit clock, FLIP and TIME are ARMED, a T already past is counted. At the clock
of the oldest commit in mode NOW, or at T (from the next core clock on where a step passed T), a transaction
without FLIP or GLOBAL.RESET is APPLIED, or FAILED where the check finds a record: then no port, packet, context
or memory changes; either way its units are released and its TXISTAT bit is set, and a RELEASE that waited frees
it. Before T nothing of the slots changes. An accepted RELEASE leaves the slot FREE, or waits for the commit
clock of mode NOW, and where ARMED for the end of its core clock (releasesClose), before which a trigger of that
clock acts. Turns of the validator, triggers past at the COMMIT and what RELEASE clears are log entries 77, 79,
81, 198 and 206. (13_management.md R406, 13_management.md R407, 13_management.md R408, 13_management.md R409, 13_management.md R410, 13_management.md R411, 13_management.md R412, 13_management.md R413, 13_management.md R414, 13_management.md R415, 12_time.md R388, 12_time.md R389) -/
def Obligations.TransactionSlotsRunTheirOperations : Prop :=
  let at_ (i : Fin 16) : Nat := 0xe01100 + 32 * i.val
  let mine (g : Agent) (i : Fin 16) (s : State) : Prop := s.get (F.TXN_TXSTAT_AGENT i) = g.val
  let ended (i : Fin 16) (st : Nat) (t : State) : Prop := (t.slotState i = st ∨ t.slotState i = 0) ∧ (t.slot i).units = []
    ∧ nbit (t.get F.TXN_TXISTAT_DONE) i = 1
  let fires (i : Fin 16) (s : State) (o : Instr) : Prop := let c := s.commitCheck i
    (c.1 = 0 → Completes o s fun t => ended i 5 t)
    ∧ (c.1 ≠ 0 → Completes o s fun t => ended i 6 t ∧ t.ports = s.ports ∧ t.cis = s.cis ∧ t.col = s.col ∧ t.mem = s.mem)
  let plain (i : Fin 16) (s : State) : Prop := s.slotFlips i = false ∧ ∀ x ∈ s.slotWords i, x.addr ≠ 0x160;
  (∀ (g : Agent) (i : Fin 16) (part : BitVec 16) (s : State), s.stopped = false → s.accepts g (at_ i) (2 ^ 31 + part.toNat) →
    s.slotState i = 0 ∧ Completes (.txnClaim g i part) s fun t => t.slotState i = 1 ∧ mine g i t
      ∧ t.get (F.TXN_TXPART_PART i) = part.toNat ∧ t.get (F.TXN_TXCOUNT_COUNT i) = 0)
  ∧ (∀ (g : Agent) (i : Fin 16) (s : State), s.stopped = false → s.accepts g (at_ i) (2 ^ 31 + 2 ^ 28) →
    (s.slotState i = 1 ∨ s.slotState i = 6) ∧ mine g i s ∧ s.get (F.TXN_TXCOUNT_COUNT i) ≠ 0
      ∧ Completes (.txnValidate g i) s fun t => t.slotState i = 2 ∧ t.get (F.TXN_TXSTAT_CODE i) = 0)
  ∧ (∀ (i : Fin 16) (s : State), s.stopped = false → s.slotState i = 2 → (s.slot i).releaseAfter = false →
    (∀ r, r < (s.slot i).checked → ∀ x ∈ s.recWords i r, ∀ u ∈ unitsOf x.addr x.be, u ∈ (s.slot i).units) →
    Completes (.txnValidateDone i) s fun t =>
      (t.slotState i = 3 ∧ ∀ r ∈ s.slotRecs i, ∀ x ∈ s.recWords i r, ∀ u ∈ unitsOf x.addr x.be, u ∈ (t.slot i).units)
      ∨ (t.slotState i = 6 ∧ t.on (F.TXN_TXFAIL_VALID i) = true ∧ ended i 6 t ∧ ∃ r, r < s.get (F.TXN_TXCOUNT_COUNT i)
        ∧ t.get (F.TXN_TXFAIL_INDEX i) = r))
  ∧ (∀ (g : Agent) (i : Fin 16) (s : State), s.stopped = false →
    (s.accepts g (at_ i) (2 ^ 31 + 2 ^ 29) → s.slotState i = 3 ∧ mine g i s ∧ Completes (.txnCommitNow g i) s fun t =>
      t.slotState i = 3 ∧ (t.slot i).nowPending = true ∧ (t.slot i).order = s.mgmt.commits ∧ t.mgmt.commits = s.mgmt.commits + 1)
    ∧ (s.accepts g (at_ i) (2 ^ 31 + 2 ^ 29 + 2 ^ 26) → s.slotState i = 3 ∧ mine g i s ∧ s.slotFlips i = false
      ∧ Completes (.txnCommitFlip g i) s fun t => t.slotState i = 4 ∧ t.get (F.TXN_TXSTAT_MODE i) = 1)
    ∧ (s.accepts g (at_ i) (2 ^ 31 + 2 ^ 29 + 2 ^ 27) → s.slotState i = 3 ∧ mine g i s
      ∧ s.get (F.TXN_TXT_NS_NS i) ≤ 999999999 ∧ Completes (.txnCommitTime g i) s fun t =>
        t.slotState i = 4 ∧ t.get (F.TXN_TXSTAT_MODE i) = 2 ∧ (SMap.wf (fun _ => 0) s.obs.sel = true →
          Counted s t (fun q => q == 0xd00) Ev.TIME_TRIG_LATE (if s.slotTimeNs i < s.devNs then 1 else 0)))
    ∧ (s.accepts g (at_ i) (2 ^ 31 + 3 * 2 ^ 28) → mine g i s ∧ s.slotState i ≠ 0 ∧ s.slotState i ≠ 2
      ∧ Completes (.txnRelease g i) s fun t => if (s.slot i).nowPending = true ∨ s.slotState i = 4 then t.slot i = { s.slot i with releaseAfter := true }
        else t.slotState i = 0 ∧ (t.slot i).units = []))
  ∧ (∀ (i : Fin 16) (s : State), s.slotState i = 4 → (s.slot i).releaseAfter = true →
    (∀ j, j < 16 → (s.slot j).releaseAfter = true → s.fireDue j = false) →
    s.releasesClose.slotState i = 0 ∧ (s.releasesClose.slot i).units = [])
  ∧ (∀ (i : Fin 16) (s : State), s.stopped = false → (s.slot i).nowPending = true →
    (∀ j, j < 16 → (s.slot j).nowPending = true → (s.slot i).order ≤ (s.slot j).order) → plain i s → fires i s (.txnApply i))
  ∧ ∀ s : State, s.stopped = false → 
    let due (i : Nat) : Prop := s.slotState i = 4 ∧ s.get (F.TXN_TXSTAT_MODE i) = 2 ∧ s.slotTimeNs i ≤ s.devNs
      ∧ ¬ ((s.slot i).late = true ∧ s.steppedNow = true);
    ((∀ i, i < 16 → ¬ due i) → Completes .txnTimeFire s fun t => t.mgmt = s.mgmt
      ∧ ∀ x, x < 0xe08800 ∨ 0xe08808 ≤ x → t.word x = s.word x)
    ∧ ∀ i : Fin 16, (∀ j, j < 16 → (due j ↔ j = i)) → plain i s → fires i s .txnTimeFire

/-- A frame that arrives while no response is sent and none waits, outside EXTEST, does what its kind says. One of a
broken check is counted and gone. One for another part, or a response, goes on unchanged. A PING is answered
with the part's address, the request's OP and TAG and the code. ENUM takes the address given, drives TOK_OUT and
answers with IDENT and the EUI-64; CLEAR leaves address 0 and is answered under the address that was. A READ of
one word is answered with that word as an agent's read shows it, and its code, or waits where the word comes
later (a counter's at the clock's end, stacked memory's and the photonic die's from there); a WRITE of one word
is made as agent 1's register write, and answered with its code. A frame that arrives while a READ is performed
or a response is sent waits where fewer than four do; with four waiting an overrun is counted. RXLOCK, reads of
the aperture and malformed frames are log entries 71, 96 and 97. (13_management.md R420, 13_management.md R421, 13_management.md R422, 13_management.md R423, 13_management.md R425, 13_management.md R433, 13_management.md R395, 17_observation.md R511) -/
def Obligations.RillRequestsArePerformedAndRepeated : Prop :=
  let free (s : State) : Prop := s.stopped = false ∧ s.mgmt.tap.extest = false ∧ s.mgmt.rillBuf = [] ∧ s.mgmt.rillPend = none ∧ s.mgmt.rillUntil ≤ s.now
  let reply (own : Nat) (b : List Byte) (n code : Nat) (data : List Byte) : Emit :=
    .rill (rillFrame (128 + own) (rOp b) (rTag b) n (beBytes 2 code ++ [0#8, 0#8]) data)
  let mgmt (q : Nat) : Bool := decide (0xe00 ≤ q) && decide (q < 0xe10);
  (∀ (b : List Byte) (s : State), free s → SMap.wf (fun _ => 0) s.obs.sel = true → let own := s.get F.RILL_STAT_ADDR
    (rillCheckOk b = false → ∀ lock : Bool, Completes (.rillCheckErr (some b) lock) s fun t => Sent s t []
      ∧ Counted s t mgmt Ev.RILL_CHECK_ERR 1 ∧ t.on F.RILL_STAT_RXLOCK = lock)
    ∧ (rillCheckOk b = true → rResp b = true ∨ (rBcast b = false ∧ rOp b ≠ 3 ∧ rAddr b ≠ own) →
      Completes (.rillRepeat (some b)) s fun t => Sent s t [.rill b] ∧ Counted s t mgmt Ev.RILL_REQ 0)
    ∧ (rillCheckOk b = true → rResp b = false → rBcast b = false → own ≠ 0 → rAddr b = own → rOp b ≠ 3 →
      (rOp b = 6 ∨ (rLen b = 0 ∧ (rOp b = 1 ∨ rOp b = 2)) → Completes (.rillPing (some b)) s fun t => Sent s t [reply own b 0 0 []]
        ∧ Counted s t mgmt Ev.RILL_REQ 1)
      ∧ (rOp b = 4 → Completes (.rillClear (some b)) s fun t => t.get F.RILL_STAT_ADDR = 0
        ∧ ∃ l, t.obs.out = l ++ reply own b 0 0 [] :: (if own ≠ 0 then [.pin "TOK_OUT" false] else []) ++ s.obs.out)
      ∧ (rOp b = 1 → rLen b = 1 → rArg b < 2 ^ 28 → let r := (s.put F.RILL_STAT_RXLOCK 1).portRead 1 (rArg b)
        (∀ v c, r.1 = some (v, c) → Completes (.rillRead (some b)) s fun t => Sent s t [reply own b 1 c (leBytes 4 v)]
          ∧ t.mgmt.rillPend = none ∧ Counted s t mgmt Ev.RILL_REQ 1)
        ∧ (r.1 = none → Completes (.rillRead (some b)) s fun t => Sent s t []
          ∧ t.mgmt.rillPend = some { frame := b, waits := true }))
      ∧ (rOp b = 2 → rLen b = 1 → b.length = 16 → leaves (rArg b) 1 = false →
        let r := (s.put F.RILL_STAT_RXLOCK 1).busWrite 1 (rArg b) (leNat (slice b 8 4)) 15
        Completes (.rillWrite (some b)) s fun t => Sent r.2 t [reply own b 0 r.1 []]
          ∧ ∀ x, x < 0xe08800 ∨ 0xe08808 ≤ x → t.word x = r.2.word x))
    ∧ (rillCheckOk b = true → rResp b = false → rBcast b = false → rOp b = 3 → own = 0 → hbits b 32 39 ≠ 0 →
      ∀ lock : Bool, Completes (.rillEnum (some b) true lock) s fun t => let n := hbits b 32 39 % 64
        t.get F.RILL_STAT_ADDR = n ∧ Sent s t [reply n b 3 0 (leBytes 4 (s.word 0).toNat ++ leBytes 4 (Config.eui64.toNat / 2 ^ 32)
          ++ leBytes 4 (Config.eui64.toNat % 2 ^ 32)), .pin "TOK_OUT" (n != 0)]))
  ∧ ∀ (b : List Byte) (s : State), s.stopped = false → s.mgmt.tap.extest = false →
    (s.rillBusy = true → s.mgmt.rillBuf.length < 4 → ∀ c ∈ [Instr.rillRead (some b), .rillWrite (some b), .rillPing (some b),
      .rillClear (some b), .rillRepeat (some b), .rillCheckErr (some b) true], Completes c s fun t => Sent s t []
        ∧ t.mgmt = { s.mgmt with rillBuf := s.mgmt.rillBuf ++ [b] })
    ∧ (4 ≤ s.mgmt.rillBuf.length → SMap.wf (fun _ => 0) s.obs.sel = true → Completes (.rillOverrun b) s fun t =>
      t.mgmt = s.mgmt ∧ Counted s t mgmt Ev.RILL_OVERRUN 1)

/-- A request that the SPC takes and no rule refuses is answered on its path: a mailbox is DONE, no longer BUSY,
with the code, its MBISTAT bit and the response bytes in its buffer; a fabric request leaves the queue and,
where the part has its number, a packet with the response goes for origination, to the request's SRC with its
TAG. INFO, ECHO, LAUNCH and HEALTH_READ answer with their bodies, and LAUNCH and HEALTH_READ with REJ_RANGE
where the request is out of range; a refused request is answered with its code. PTP_DEFAULTDS stages its 16
bytes or is out of range. An arriving fabric request is queued, or dropped and counted where 64 wait. With bus
mastering enabled, an accepted IREARM of a pending unmasked vector, and an unmasking write that finds the
vector's pending bit, send its MSI-X message; a masked vector is held in its pending bit, and so (the model's
choice, log entry 12) is any while bus mastering is off. FLR clears the configuration space, the MSI-X table and
pending bits, and the PCIe agent's outstanding requests, whose answers go nowhere; no port, packet, context,
table entry, group or slot changes. Log entries 68 (header bytes 6 and 7), 69 (CLASS and FLOW of an answer), 93
(PENDING), 94 (HEALTH_READ) and 179 (turns) are the model's. (13_management.md R396, 13_management.md R399, 13_management.md R417, 13_management.md R418, 13_management.md R427, 13_management.md R428, 13_management.md R429, 13_management.md R430, 13_management.md R431, 14_fencing.md R449, 14_fencing.md R453, 14_fencing.md R454) -/
def Obligations.RequestsAreAnsweredOnTheirPath : Prop :=
  let answered (m : Fin 8) (r : SvcReq) (code : Nat) (body : List Byte) (t : State) : Prop :=
    t.on (F.MB_MBSTAT_BUSY m) = false ∧ t.on (F.MB_MBSTAT_DONE m) = true ∧ t.on (F.MB_MBSTAT_OK m) = decide (code = 0)
      ∧ t.get (F.MB_MBSTAT_CODE m) = code ∧ nbit (t.get F.MB_MBISTAT_DONE) m = 1
      ∧ ∀ i x, (svcResponse r code body)[i]? = some x → t.byteAt (mbRspAt m + i) = x.toNat
  let replied (src : SvcSrc) (r : SvcReq) (code : Nat) (body : List Byte) (s t : State) : Prop := match src with
    | .mailbox m => answered m r code body t
    | .fabric => t.mgmt.fabQ = s.mgmt.fabQ.drop 1 ∧ (s.on F.FWDID_SELF_VALID = true → ∃ h : List Byte,
      t.cis.origQ = s.cis.origQ ++ [⟨h ++ svcResponse r code body, none, .none, false⟩] ∧ h.length = 16
        ∧ pDest h = pSrc r.packet ∧ pTag h = pTag r.packet)
  let sent (s t : State) (v : Nat) : Prop := ∃ l1 l2, t.obs.out = l1 ++ .msix v (s.get (wordRef (0xe08404 + v * 16)) * 2 ^ 32
    + s.get (wordRef (0xe08400 + v * 16))) (s.get (wordRef (0xe08408 + v * 16))) :: l2 ++ s.obs.out;
  (∀ (src : SvcSrc) (r : SvcReq) (s : State), s.stopped = false → s.svcTake src = some r →
    let code := s.svcRefusal src r
    let b := r.body
    let kind := leNat (slice b 0 1)
    let first := leNat (slice b 2 2)
    let count := leNat (slice b 4 2)
    let bad : Bool := r.len != 6 || decide (3 < kind) || leNat (slice b 1 1) != 0 || count == 0 || decide (256 < count)
      || decide ([1024, 50, 64, 16].getD kind 0 < first + count)
    (code ≠ 0 → Completes (.svcUnknown src) s fun t => replied src r code [] s t)
    ∧ (code = 0 → r.svc = 1 → Completes (.info src) s fun t => replied src r 0 s.infoBody s t)
    ∧ (code = 0 → r.svc = 2 → Completes (.echo src) s fun t => replied src r 0 b s t)
    ∧ (code = 0 → r.svc = 0x100 → Completes (.launch src) s fun t => if r.len = 8
      then replied src r 0 (s.launchBody (leNat (slice b 0 2)) (leNat (slice b 2 2)) (leNat (slice b 4 4))) s t
      else replied src r 1 [] s t)
    ∧ (code = 0 → r.svc = 0x200 → Completes (.healthRead src) s fun t => if bad then replied src r 1 [] s t
      else replied src r 0 ((List.range count).flatMap fun i => s.healthRecord kind (first + i)) s t)
    ∧ ∀ m, src = .mailbox m → code = 0 → r.svc = 0x300 → Completes (.ptpDefaultds m) s fun t =>
      if r.len = 16 ∧ leNat (slice b 10 6) = 0 then answered m r 0 [] t ∧ t.time.ddsStaged = some b
      else answered m r 1 [] t ∧ t.time.ddsStaged = s.time.ddsStaged)
  ∧ (∀ (r : FabReq) (rest : List FabReq) (s : State), s.stopped = false → s.mgmt.fabIn = r :: rest →
    SMap.wf (fun _ => 0) s.obs.sel = true → Completes .fabricRequest s fun t => t.mgmt.fabIn = rest ∧
      if s.mgmt.fabQ.length < 64 then t.mgmt.fabQ = s.mgmt.fabQ ++ [r]
      else t.mgmt.fabQ = s.mgmt.fabQ ∧ Counted s t (fun q => decide (0xe00 ≤ q) && decide (q < 0xe10)) Ev.SPC_FAB_DROP 1)
  ∧ (∀ (g : Agent) (v : Fin 64) (s : State), s.stopped = false →
    (s.accepts g 0xe00118 v → Completes (.irearm g v) s fun t => nbit s.vectors v = 1 →
      if s.on (F.MSIX_VCTRL_MASK v) = true ∨ s.mgmt.pcie.busMaster = false then nbit (t.get (F.MSIX_PBA_PENDING (v / 32))) (v % 32) = 1 else sent s t v)
    ∧ (s.accepts g (0xe0840c + 16 * v) 0 → Completes (.msixUnmask g v) s fun t => t.on (F.MSIX_VCTRL_MASK v) = false
      ∧ (nbit (s.get (F.MSIX_PBA_PENDING (v / 32))) (v % 32) = 1 → s.mgmt.pcie.busMaster = true →
        sent s t v ∧ nbit (t.get (F.MSIX_PBA_PENDING (v / 32))) (v % 32) = 0)))
  ∧ ∀ s : State, s.stopped = false → Completes .flr s fun t =>
    (∀ a, 0xe08400 ≤ a → a < 0xe08800 → t.word a = resetWord a)
      ∧ (∀ a, a < 0xe08400 ∨ 0xe08900 ≤ a → t.word a = s.word a)
      ∧ t.ports = s.ports ∧ t.cis = s.cis ∧ t.col = s.col ∧ t.fwd = s.fwd ∧ t.mgmt = { s.mgmt with pcie := {} } ∧ t.time = s.time
      ∧ t.mem = (s.mapSources MemSrc.lostHost).mem ∧ t.mem.bytes = s.mem.bytes
      ∧ (∀ q ∈ t.obs.reads, q.agent = 0 → q.back = false)
      ∧ t.glass = { s.glass with reads := s.glass.reads.filter fun q => q.agent != 0 }

/-- FENCE of a leaf of the grid that is not FENCED leaves it FENCED, its bit set, no recommendation, one more entry
in the window unless RESTORE, and code 0; of a FENCED leaf REJ_EXISTS. UNFENCE of a FENCED leaf clears the bit
and leaves it ALIVE where liveness came within SUSPECT_US, else SUSPECT, counted; hard link-down and a low score
that then hold count as holding; of another leaf REJ_ABSENT. FENCE_CONFIRM applies the recommendation held,
keeping its cause; without one REJ_ABSENT. A leaf beyond the grid or a byte that must be 0 is REJ_RANGE. An
ALIVE leaf silent for SUSPECT_US is SUSPECT, from the next core clock on. Hard link-down that begins, with AUTO
on, makes a decision due, which the end of the core clock takes after the clock's commands: it fences the leaf
where the window holds fewer than BUDGET fences, else leaves a recommendation, and does nothing to a leaf that
is then FENCED or was unfenced in that clock; of two, with one place left, the lower leaf is fenced. Each
RECOVER_S without a penalty raises the score by one. The window keeps only entries younger than WINDOW_S, and
EXHAUSTED says whether they reach BUDGET. Log entries 30 (RESET_SCORE), 31 (no decision while the SPC is down),
184 (ends of SUSPECT_US and HARD_MS) and 198 (the end of the clock) are the model's. (14_fencing.md R437, 14_fencing.md R438, 14_fencing.md R439, 14_fencing.md R440, 14_fencing.md R441, 14_fencing.md R442, 14_fencing.md R443, 14_fencing.md R444, 14_fencing.md R445, 14_fencing.md R453, 14_fencing.md R454) -/
def Obligations.FencesAndTheBudget : Prop :=
  let done (m : Fin 8) (code : Nat) (t : State) : Prop := t.on (F.MB_MBSTAT_DONE m) = true ∧ t.on (F.MB_MBSTAT_BUSY m) = false
    ∧ t.get (F.MB_MBSTAT_CODE m) = code
  let bit (t : State) (l : Nat) : Nat := nbit (t.get (F.FWDFENCE_LEAF_FENCED (l / 32))) (l % 32)
  let alive (s : State) (l : Nat) : Prop := ∃ t, (s.leaf l).seen = some t ∧ s.now < t + usClocks (s.get F.HLTH_CFG_SUSPECT_US)
  let mgmt (q : Nat) : Bool := decide (0xe00 ≤ q) && decide (q < 0xe10);
  (∀ (m : Fin 8) (r : SvcReq) (s : State), s.stopped = false → s.svcTake (.mailbox m) = some r → s.svcRefusal (.mailbox m) r = 0 →
    let l := leNat (slice r.body 0 2)
    let arg := leNat (slice r.body 2 1)
    let bad (most : Nat) : Prop := r.len ≠ 4 ∨ s.gridSize ≤ l ∨ most < arg ∨ leNat (slice r.body 3 1) ≠ 0
    (r.svc = 0x201 → (bad 1 → Completes (.fence m) s fun t => done m 1 t ∧ t.hlth = s.hlth)
      ∧ (¬ bad 1 → (s.leaf l).state = 3 → Completes (.fence m) s fun t => done m 9 t ∧ t.hlth = s.hlth)
      ∧ (¬ bad 1 → l < 1024 → (s.leaf l).state ≠ 3 → Completes (.fence m) s fun t => done m 0 t ∧ bit t l = 1
        ∧ (t.leaf l).state = 3 ∧ (t.leaf l).rec_ = none ∧ (t.leaf l).cause = 1
        ∧ t.hlth.window = (if arg = 1 then s.inBudget else s.now :: s.inBudget)
        ∧ (SMap.wf (fun _ => 0) s.obs.sel = true → Counted s t mgmt Ev.HLTH_FENCE 1)))
    ∧ (r.svc = 0x202 → (bad 1 → Completes (.unfence m) s fun t => done m 1 t ∧ t.hlth = s.hlth)
      ∧ (¬ bad 1 → (s.leaf l).state ≠ 3 → Completes (.unfence m) s fun t => done m 0x0a t ∧ t.hlth = s.hlth)
      ∧ (¬ bad 1 → l < 1024 → (s.leaf l).state = 3 → Completes (.unfence m) s fun t => done m 0 t ∧ bit t l = 0
        ∧ (alive s l → (t.leaf l).state = 1) ∧ (¬ alive s l → (t.leaf l).state = 2) ∧ (t.leaf l).rec_ = none
        ∧ (t.leaf l).hard = ((s.leaf l).hard || s.hardDown l 0)
        ∧ (arg = 0 → (t.leaf l).low = decide ((t.leaf l).score ≤ s.get F.HLTH_SCORE_FENCE))
        ∧ (arg = 1 → (t.leaf l).score = 255) ∧ t.hlth.window = s.hlth.window
        ∧ (SMap.wf (fun _ => 0) s.obs.sel = true → Counted s t mgmt Ev.HLTH_UNFENCE 1 ∧ (¬ alive s l → Counted s t mgmt Ev.HLTH_SUSPECT 1))))
    ∧ (r.svc = 0x203 → (bad 0 → Completes (.fenceConfirm m) s fun t => done m 1 t ∧ t.hlth = s.hlth)
      ∧ (¬ bad 0 → (s.leaf l).rec_ = none → Completes (.fenceConfirm m) s fun t => done m 0x0a t ∧ t.hlth = s.hlth)
      ∧ (¬ bad 0 → l < 1024 → ∀ cause, (s.leaf l).rec_ = some cause → Completes (.fenceConfirm m) s fun t => done m 0 t ∧ bit t l = 1
        ∧ (t.leaf l).state = 3 ∧ (t.leaf l).rec_ = none ∧ (t.leaf l).cause = cause ∧ (t.leaf l).confirmed = true
        ∧ t.hlth.window = s.now :: s.inBudget)))
  ∧ (∀ (l : Fin 1024) (s : State), s.stopped = false →
    (∀ since, (s.leaf l).state = 1 → (s.leaf l).seen = some since → s.passed since (usClocks (s.get F.HLTH_CFG_SUSPECT_US) + 1) = true →
      Completes (.leafSuspect l) s fun t => (t.leaf l).state = 2)
    ∧ ((s.leaf l).state ≠ 1 → Completes (.leafSuspect l) s fun t => t.hlth = s.hlth)
    ∧ ((s.leaf l).hard = false → s.mgmt.spcDown = false → s.hardDown l 1 = true → Completes (.hardLinkDown l) s fun t =>
      t.leaf l = { s.leaf l with hard := true } ∧ t.hlth.due = s.hlth.due ++ (if s.on F.HLTH_AUTO_HARD_EN then [(l.val, 2)] else []))
    ∧ ((s.leaf l).hard = true ∨ s.mgmt.spcDown = true ∨ s.hardDown l 1 = false → Completes (.hardLinkDown l) s fun t => t.hlth = s.hlth)
    ∧ ((s.leaf l).score ≠ 255 → s.passed (s.leaf l).paidAt (secClocks (s.get F.HLTH_SCORE_RECOVER_S)) = true →
      Completes (.scoreRecover l) s fun t => (t.leaf l).score = (s.leaf l).score + 1))
  ∧ (∀ (l c : Nat) (s : State), l < 1024 → s.hlth.due = [(l, c)] → let t := s.fencesClose
    t.hlth.due = []
      ∧ ((s.leaf l).state = 3 ∨ (s.leaf l).freedAt = some s.now → t = { s with hlth := { s.hlth with due := [] } })
      ∧ ((s.leaf l).state ≠ 3 → (s.leaf l).freedAt ≠ some s.now → if s.inBudget.length < s.get F.HLTH_BUDGET_BUDGET then
          (t.leaf l).state = 3 ∧ (t.leaf l).cause = c ∧ (t.leaf l).rec_ = none ∧ bit t l = 1 ∧ t.hlth.window = s.now :: s.inBudget
        else (t.leaf l).state = (s.leaf l).state ∧ (t.leaf l).rec_ = some ((s.leaf l).rec_.getD c) ∧ bit t l = bit s l
          ∧ t.hlth.window = s.inBudget))
  ∧ (∀ (l j c d : Nat) (s : State), j < l → l < 1024 → s.hlth.due = [(l, c), (j, d)] → s.get F.HLTH_BUDGET_WINDOW_S ≠ 0 →
    s.inBudget.length + 1 = s.get F.HLTH_BUDGET_BUDGET → (∀ i, i = l ∨ i = j → (s.leaf i).state ≠ 3 ∧ (s.leaf i).freedAt ≠ some s.now) →
    (s.fencesClose.leaf j).state = 3 ∧ (s.fencesClose.leaf l).state = (s.leaf l).state
      ∧ (s.fencesClose.leaf l).rec_ = some ((s.leaf l).rec_.getD c))
  ∧ ∀ s : State, s.stopped = false → Completes .fenceWindowExpire s fun t =>
    t.hlth.window = s.hlth.window.filter (fun x => decide (s.now < x + secClocks (s.get F.HLTH_BUDGET_WINDOW_S)))
      ∧ t.on F.HLTH_STAT_EXHAUSTED = decide (s.get F.HLTH_BUDGET_BUDGET ≤ t.hlth.window.length)

/-- An accepted write of FREEZE 1 names a port's first lane, a Basin, a stack or a plane; where FREEZE was 0 the
block is DRAINING, SLUICE_FREEZE is counted, a port that was not UP is not, a Basin's OPEN contexts that name it
are no longer OPEN, and each arbiter of a stack is frozen; where it was 1 the status stays. A DRAINING block
whose condition holds is FROZEN with SLUICE_DONE, a port once it has left UP and its account is empty; one whose
condition does not hold stays. A block that has been DRAINING for TIMEOUT_MS is flushed and FROZEN: a port is
not UP, no core of a Basin runs. An accepted write of FREEZE 0 to a FROZEN block clears FREEZE and FROZEN,
leaves no core of a Basin with an invocation and no chunk on its path, and unfreezes the arbiters of a stack.
Log entries 55, 56, 154 and 157 (freeze and flush) are the model's. (05_cistern.md R130, 06_collectives.md R171, 06_collectives.md R176, 09_memory.md R298, 14_fencing.md R451, 14_fencing.md R452) -/
def Obligations.TheSluiceFreezesDrainsAndReturns : Prop :=
  let arbs (j : Nat) (p : Nat → Prop) : Prop := ∀ i, i < 32 → p (16 * i + j)
  let frozen (page bit : Nat) (t : State) : Prop := t.on (F.COMMON_STATUS_FROZEN page) = true
    ∧ t.on (F.COMMON_STATUS_DRAINING page) = false ∧ nbit (t.get F.HLTH_ISTAT_ISTAT) bit = 1;
  (∀ (g : Agent) (page : Fin 4096) (s : State), s.stopped = false → s.accepts g (page.val * 4096 + 0x10) 1 →
    (s.on (F.COMMON_CTRL_FREEZE page) = false → ∃ b, s.blockOf page = some b ∧ Completes (.sluiceFreeze g page) s fun t =>
      t.on (F.COMMON_CTRL_FREEZE page) = true ∧ t.on (F.COMMON_STATUS_DRAINING page) = true
      ∧ (SMap.wf (fun _ => 0) s.obs.sel = true → Counted s t (fun q => decide (0xe00 ≤ q) && decide (q < 0xe10)) Ev.SLUICE_FREEZE 1)
      ∧ (∀ p, b = .port p → s.portState p ≠ 5 → t.portState p ≠ 5)
      ∧ (∀ n, b = .basin n → ∀ c ∈ s.ctxsOn n, (t.ctx c).phase ≠ 2)
      ∧ (∀ j, b = .stack j → arbs j fun i => t.on (F.ARB_CTRL_FREEZE i) = true))
    ∧ (s.on (F.COMMON_CTRL_FREEZE page) = true → Completes (.sluiceFreeze g page) s fun t =>
      t.on (F.COMMON_CTRL_FREEZE page) = true ∧ t.on (F.COMMON_STATUS_DRAINING page) = s.on (F.COMMON_STATUS_DRAINING page)
        ∧ t.on (F.COMMON_STATUS_FROZEN page) = s.on (F.COMMON_STATUS_FROZEN page) ∧ t.hlth = s.hlth))
  ∧ (∀ (page : Fin 4096) (b : Block) (s : State), s.stopped = false → s.blockOf page = some b →
    s.on (F.COMMON_STATUS_DRAINING page) = true →
    (s.drained b = false → Completes (.sluiceDrained page) s fun t => t.hlth = s.hlth
      ∧ t.on (F.COMMON_STATUS_DRAINING page) = true ∧ t.on (F.COMMON_STATUS_FROZEN page) = s.on (F.COMMON_STATUS_FROZEN page))
    ∧ (s.drained b = true → Completes (.sluiceDrained page) s fun t => match b with
      | .port p => t.portState p ≠ 5 ∧ (t.portHeld p = 0 → frozen page 10 t)
      | _ => frozen page 10 t)
    ∧ (∀ since, SMap.get (fun _ => 0) s.hlth.freezeAt page = since + 1 →
      s.passed since (msClocks (s.get F.HLTH_SLUICE_TIMEOUT_MS)) = true → Completes (.sluiceTimeout page) s fun t => frozen page 8 t
        ∧ (∀ p, b = .port p → t.portState p ≠ 5) ∧ ∀ n, b = .basin n → ∀ k, k < 24 → (t.core n k).inv = none))
  ∧ ∀ (g : Agent) (page : Fin 4096) (s : State), s.stopped = false → s.accepts g (page.val * 4096 + 0x10) 0 →
    s.on (F.COMMON_CTRL_FREEZE page) = true → s.on (F.COMMON_STATUS_DRAINING page) = false
      ∧ Completes (.sluiceUnfreeze g page) s fun t =>
        t.on (F.COMMON_CTRL_FREEZE page) = false ∧ t.on (F.COMMON_STATUS_FROZEN page) = false
        ∧ (∀ n, s.blockOf page = some (.basin n) → (∀ k, k < 24 → (t.core n k).inv = none)
          ∧ ∀ i ∈ t.path n, ∀ p j y x, i ≠ .chunk p j y x)
        ∧ ∀ j, s.blockOf page = some (.stack j) → arbs j fun i => t.on (F.ARB_CTRL_FREEZE i) = false

/-- An accepted write of BSN.CLK leaves TARGET as written. A due thermal evaluation leaves, for each Basin, TL 0 at
T_EMERG, the lower of TL and the code less STEP at T_THROT, one more (at most 48) where it has been below
T_THROT − HYST for 1 ms and has not risen for 100 µs, and else as it was. A due comparison of power with CAP_W
leaves PL of all Basins one lower where power is above, one higher where it has been more than 20 W below for 1
ms, and else as it was. Wherever a term changed, CODE is the least of the four and BIND the first that equals
it. BSN_CLK_CHANGE of a Basin whose change is under way, to a lower code or with the voltage within 2 mV of its
target, leaves EFF at CODE and is counted; of another, or while the voltage still rises, it changes nothing of
the Basins. The voltage of a code is the factory table's, a free value (log entry 177). (08_basins.md R268, 15_power_ageing.md R459, 15_power_ageing.md R463, 15_power_ageing.md R465, 15_power_ageing.md R467) -/
def Obligations.ClockCodesFollowTheirTerms : Prop :=
  let coded (t : State) (b : Nat) : Prop :=
    let c := min (min (t.get (F.BASIN_CLK_TARGET b)) (t.get (F.THERM_BLIM_FMAX b))) (min (t.get (F.THERM_BLIM_TL b)) (t.get (F.THERM_BLIM_PL b)))
    t.get (F.THERM_BLIM_CODE b) = c ∧ t.get (F.THERM_BLIM_BIND b) = (if t.get (F.BASIN_CLK_TARGET b) = c then 0
      else if t.get (F.THERM_BLIM_FMAX b) = c then 1 else if t.get (F.THERM_BLIM_TL b) = c then 2 else 3)
  let busy (t : State) (b : Nat) : Bool := SMap.get (fun _ => false) t.bsn.clkBusy b
  let ready (t : State) (b : Nat) : Prop := busy t b = true ∧ (t.get (F.THERM_BLIM_CODE b) < t.get (F.BASIN_CLK_EFF b)
    ∨ t.voltGoal b ≤ t.volt b + 2 * 160)
  let tl (t : State) (b : Nat) : Nat := t.get (F.THERM_BLIM_TL b)
  let pl (t : State) (b : Nat) : Nat := t.get (F.THERM_BLIM_PL b);
  (∀ (g : Agent) (b : BasinIx) (value : BitVec 32) (s : State), s.stopped = false → s.accepts g (0xa00100 + 0x1000 * b.val) value.toNat →
    Completes (.bsnClkTarget g b value) s fun t => t.get (F.BASIN_CLK_TARGET b) = value.toNat % 64 ∧ coded t b
      ∧ busy t b = decide (t.get (F.THERM_BLIM_CODE b) ≠ t.get (F.BASIN_CLK_EFF b)))
  ∧ (∀ (b : BasinIx) (s : State), s.stopped = false →
    (ready s b → Completes (.bsnClkChange b) s fun t => t.get (F.BASIN_CLK_EFF b) = s.get (F.THERM_BLIM_CODE b) ∧ busy t b = false
      ∧ (SMap.wf (fun _ => 0) s.obs.sel = true → Counted s t (fun q => q == 0xa00 + b.val) Ev.BSN_CLK_CHANGE 1))
    ∧ (¬ ready s b → Completes (.bsnClkChange b) s fun t => t.bsn = s.bsn ∧ t.get (F.BASIN_CLK_EFF b) = s.get (F.BASIN_CLK_EFF b)))
  ∧ (∀ s : State, s.stopped = false →
    (s.passed s.pwr.evalAt (usClocks 10) = true → Completes .thermEval s fun t => t.pwr.evalAt = s.now ∧ ∀ b, b < 50 →
      let temp := s.gets (F.THERM_SENS_T (48 + b))
      let since := SMap.get (fun _ => 0) s.pwr.coolSince b
      let rose := SMap.get (fun _ => 0) s.pwr.roseAt b
      let low : Int := ((s.get F.THERM_CFG_T_THROT : Int) - (s.get F.THERM_CFG_HYST : Int)) * 8
      if (s.get F.THERM_CFG_T_EMERG : Int) * 8 ≤ temp then tl t b = 0 ∧ coded t b ∧ nbit (t.get F.THERM_ISTAT_ISTAT) 1 = 1
      else if (s.get F.THERM_CFG_T_THROT : Int) * 8 ≤ temp then
        tl t b = min (tl s b) (s.get (F.THERM_BLIM_CODE b)) - s.get F.THERM_CFG_STEP ∧ coded t b
      else if temp < low ∧ tl s b < 48 ∧ since ≠ 0 ∧ since - 1 + msClocks 1 ≤ s.now ∧ (rose = 0 ∨ rose - 1 + usClocks 100 ≤ s.now) then
        tl t b = tl s b + 1 ∧ coded t b
      else tl t b = tl s b ∧ t.get (F.THERM_BLIM_CODE b) = s.get (F.THERM_BLIM_CODE b))
    ∧ (s.passed s.pwr.evalAt (usClocks 10) = false → Completes .thermEval s fun t => t.pwr = s.pwr ∧ t.bsn = s.bsn))
  ∧ ∀ s : State, s.stopped = false → let cap := s.get F.THERM_PWR_CAP_CAP_W * 8
    (s.passed s.pwr.capAt (usClocks 100) = true →
      (cap < s.power → pl s 0 = 0 → Completes .pwrCapEval s fun t => ∀ b, b < 50 → pl t b = pl s b)
      ∧ (cap < s.power → pl s 0 ≠ 0 → Completes .pwrCapEval s fun t => (∀ b, b < 50 → pl t b = pl s 0 - 1 ∧ coded t b)
        ∧ (SMap.wf (fun _ => 0) s.obs.sel = true → Counted s t (fun q => decide (0xf00 ≤ q) && decide (q < 0xf10)) Ev.PWR_CAP 1))
      ∧ (∀ since, s.power + 160 < cap → pl s 0 < 48 → s.pwr.lowSince = some since → since + msClocks 1 ≤ s.now →
        Completes .pwrCapEval s fun t => ∀ b, b < 50 → pl t b = pl s 0 + 1 ∧ coded t b)
      ∧ (s.power ≤ cap → cap ≤ s.power + 160 → Completes .pwrCapEval s fun t => t.pwr.lowSince = none ∧ ∀ b, b < 50 → pl t b = pl s b))
    ∧ (s.passed s.pwr.capAt (usClocks 100) = false → Completes .pwrCapEval s fun t => t.pwr = s.pwr ∧ t.bsn = s.bsn)

/-- A due conversion leaves a sensor's reading and, unless it had none since its last read, the higher of it and
TMAX; each Basin's issue is paused from 105 °C until below 104 °C; a switch or port sensor at T_WARN, a stack at
100 °C and a photonic sensor at T_PIC set their status bits. A read of THERM.SENS or PWR.DOM returns the word
and clears the highest reading. A due power reading leaves the domain's value and the sum. a stack's limit of
requests holds from T_MEM until its reading is 3 °C below. The first droop trip of an island begins its stretch,
each sets the time of its last trip, and its end, 16 of its halved clocks after that trip, is counted; one of
more than 10 µs sets DROOP. Power above CAP_W for 10 ms with PL 0 sets CAP_FAIL once. A sensor at 115 °C or a
stack's own flag sets the trip latch, asserts THERM_TRIP_L, idles the lanes, abandons a run, loses what the
stopped islands held, and appends a trip record with sensor and reading; a lower reading changes nothing.
PM_ALERT is logged, and nothing follows. Log entries 21 (what a trip leaves running), 61 (the first reading
after a clearing read) and 201 (what a trip loses) are the model's. (15_power_ageing.md R458, 15_power_ageing.md R461, 15_power_ageing.md R462, 15_power_ageing.md R464, 15_power_ageing.md R466, 15_power_ageing.md R467, 15_power_ageing.md R468, 15_power_ageing.md R478, 18_electrical.md R541) -/
def Obligations.SensorsStretchesAndTheTrip : Prop :=
  let seen (s : State) (i : Nat) : Bool := SMap.get (fun _ => false) s.pwr.seen i
  let ist (t : State) (b : Nat) : Nat := nbit (t.get F.THERM_ISTAT_ISTAT) b
  let ended (s : State) (i : Nat) : Bool := decide (16 * 2 * 1600000 ≤ (s.now + 1 - SMap.get (fun _ => 0) s.pwr.tripAt i) * s.islandKhz i);
  (∀ (i : Fin 122) (v : BitVec 16) (s : State), s.stopped = false →
    (s.passed s.pwr.sampledAt (usClocks 5) = true → Completes (.thermSensorSample [(i, v)]) s fun t => t.get (F.THERM_SENS_T i) = v.toNat
      ∧ t.gets (F.THERM_SENS_TMAX i) = (if seen s i then max (s.gets (F.THERM_SENS_TMAX i)) v.toInt else v.toInt)
      ∧ (∀ b, b < 50 → SMap.get (fun _ => false) t.bsn.paused b = (decide (840 ≤ t.gets (F.THERM_SENS_T (48 + b)))
        || (SMap.get (fun _ => false) s.bsn.paused b && decide (832 ≤ t.gets (F.THERM_SENS_T (48 + b))))))
      ∧ (i.val < 48 → (s.get F.THERM_LIM_T_WARN : Int) * 8 ≤ v.toInt → ist t 2 = 1)
      ∧ (98 ≤ i.val → i.val < 114 → 800 ≤ v.toInt → ist t 3 = 1)
      ∧ (∀ j, j < 16 → let mem := (s.get F.THERM_LIM_T_MEM : Int) * 8
        let at_ := t.gets (F.THERM_SENS_T (98 + j))
        SMap.get (fun _ => false) t.pwr.memThr j
          = (decide (mem ≤ at_) || (SMap.get (fun _ => false) s.pwr.memThr j && decide (mem - 24 < at_))))
      ∧ (114 ≤ i.val → (s.get F.THERM_LIM_T_PIC : Int) * 8 ≤ v.toInt → ist t 4 = 1))
    ∧ (s.passed s.pwr.sampledAt (usClocks 5) = false → Completes (.thermSensorSample [(i, v)]) s fun t => t.pwr = s.pwr ∧ t.bsn = s.bsn)
    ∧ (∀ flag : Bool, let hot := 920 ≤ v.toInt ∨ (flag = true ∧ 98 ≤ i.val ∧ i.val ≤ 113)
      (hot → Completes (.thermalTrip i v flag) s fun t => t.pwr.trip = true ∧ t.pwr.run = none ∧ t.get F.ANN_STAT_RUNNING = 0
        ∧ t.ports = [] ∧ Sent s t [.lanesIdle, .pin "THERM_TRIP_L" false] ∧ t.cages = [] ∧ t.fwd = {} ∧ t.col = {} ∧ t.bsn = {} ∧ t.glass = {}
        ∧ (∀ a, spcHolds a = false → t.word a = resetWord a) ∧ ∃ w, t.nvm.appends = s.nvm.appends ++ [w] ∧ w.kind = .history
          ∧ w.bytes[4]? = some 3#8 ∧ slice w.bytes 204 3 = leBytes 1 i ++ leBytes 2 v.toNat)
      ∧ (¬ hot → Completes (.thermalTrip i v flag) s fun t => t.pwr = s.pwr ∧ t.nvm = s.nvm ∧ Sent s t [])))
  ∧ (∀ (g : Agent) (i : Fin 128) (d : Fin 11) (s : State), s.stopped = false → s.inRun = true →
    Completes (.thermSensRead g i) s (fun t => Sent s t [.readData g (0xf04200 + 4 * i.val) (s.word (0xf04200 + 4 * i.val)).toNat]
      ∧ t.get (F.THERM_SENS_TMAX i) = 0 ∧ t.get (F.THERM_SENS_T i) = s.get (F.THERM_SENS_T i) ∧ seen t i = false)
    ∧ Completes (.pwrDomRead g d) s fun t => Sent s t [.readData g (0xf04180 + 4 * d.val) (s.word (0xf04180 + 4 * d.val)).toNat]
      ∧ t.get (F.THERM_PWR_DOM_PMAX d) = 0 ∧ t.get (F.THERM_PWR_DOM_P d) = s.get (F.THERM_PWR_DOM_P d))
  ∧ (∀ (d : Fin 11) (v : BitVec 16) (s : State), s.stopped = false → s.passed s.pwr.readAt (usClocks 100) = true →
    Completes (.pwrReadingUpdate [(d, v)]) s fun t => t.get (F.THERM_PWR_DOM_P d) = v.toNat
      ∧ t.get F.THERM_PWR_TOTAL_P = min (s.power - s.get (F.THERM_PWR_DOM_P d) + v.toNat) 0xffff
      ∧ t.get (F.THERM_PWR_DOM_PMAX d) = if seen s (128 + d) then max (s.get (F.THERM_PWR_DOM_PMAX d)) v.toNat else v.toNat)
  ∧ (∀ (i : Fin 197) (s : State), s.stopped = false → let since := SMap.get (fun _ => 0) s.pwr.stretch i
    (Completes (.droopTrip i) s fun t => SMap.get (fun _ => 0) t.pwr.stretch i = (if since = 0 then s.now + 1 else since)
      ∧ SMap.get (fun _ => 0) t.pwr.tripAt i = s.now + 1)
    ∧ (since = 0 ∨ ended s i = false → Completes (.stretchEnd i) s fun t => t.pwr = s.pwr)
    ∧ (since ≠ 0 → ended s i = true → SMap.wf (fun _ => 0) s.obs.sel = true → Completes (.stretchEnd i) s fun t => SMap.get (fun _ => 0) t.pwr.stretch i = 0
      ∧ Counted s t (fun q => decide (0xf00 ≤ q) && decide (q < 0xf10)) Ev.PWR_STRETCH 1
      ∧ ist t 6 = if usClocks 10 < s.now + 1 - since then 1 else ist s 6))
  ∧ (∀ (since : Nat) (s : State), s.stopped = false →
    (s.pwr.capFailed = false → s.pwr.overSince = some since → since + msClocks 10 ≤ s.now → Completes .capFail s fun t =>
      ist t 5 = 1 ∧ t.pwr.capFailed = true)
    ∧ (s.pwr.capFailed = true → Completes .capFail s fun t => t.pwr = s.pwr ∧ ist t 5 = ist s 5))
  ∧ ∀ s : State, s.stopped = false → s.obs.logQ.length < 64 → Completes .pmAlert s fun t =>
    t.obs.logQ = s.obs.logQ ++ [⟨Ev.STATE, 0, 0x170, (s.word 0x170).toNat, (s.word 0x170).toNat, s.time.core⟩]
      ∧ t = { s with bar := t.bar, obs := t.obs, setNow := t.setNow } ∧ ∀ a, a < 0xe08800 ∨ 0xe08808 ≤ a → t.word a = s.word a

/-- ANNEAL_RUN starts a run, or is answered with REJ_BUSY while one runs and REJ_RANGE where its length is wrong. A
scheduled run starts PERIOD_H hours after the last ended, where none runs, and one that fell due during a
requested run after that. A run's end clears RUNNING, sets DONE, is counted, raises LAST_RUN by one, queues its
record, and answers the mailbox that asked. It needs the Glass bus for the SPC requester, without which nothing
ends. Whatever was read, no guard of a Basin or domain is lower after it and no FMAX higher, and without APPLY,
of the request or of CFG, none differs. A Basin that is not kept and whose slack, read with its die at 40 to 100
°C, is below SLACK_MIN gets 5 mV more guard up to GUARD_MAX, then one code less FMAX with DERATE, then LIMIT. A
domain whose island's slack is below SLACK_MIN gets 5 mV more where its regulator acknowledges, or LIMIT.
ANNEAL_READ answers with the records asked for, newest first, or REJ_RANGE. Log entries 63 (numbers of runs), 64
(free values of a plan) and 178 (a guard without an acknowledgement) are the model's. (10_glass.md R334, 15_power_ageing.md R469, 15_power_ageing.md R470, 15_power_ageing.md R471, 15_power_ageing.md R472, 15_power_ageing.md R475, 15_power_ageing.md R476, 15_power_ageing.md R477) -/
def Obligations.AnnealerRunsAndPlans : Prop :=
  let guard (s : State) (b : Nat) : Nat := s.get (F.ANN_BASIN_GUARD b)
  let fmax (s : State) (b : Nat) : Nat := s.get (F.ANN_BASIN_FMAX b)
  let ist (t : State) (b : Nat) : Nat := nbit (t.get F.ANN_ISTAT_ISTAT) b
  let code (m : Fin 8) (c : Nat) (t : State) : Prop := t.on (F.MB_MBSTAT_DONE m) = true ∧ t.get (F.MB_MBSTAT_CODE m) = c;
  (∀ (m : Fin 8) (r : SvcReq) (s : State), s.stopped = false → s.svcTake (.mailbox m) = some r → s.svcRefusal (.mailbox m) r = 0 →
    (r.svc = 0x400 → (r.len ≠ 4 → Completes (.annealRun m) s fun t => code m 1 t ∧ t.pwr = s.pwr)
      ∧ (r.len = 4 → s.pwr.run.isSome = true → Completes (.annealRun m) s fun t => code m 4 t ∧ t.pwr = s.pwr)
      ∧ (r.len = 4 → s.pwr.run = none → Completes (.annealRun m) s fun t => t.on F.ANN_STAT_RUNNING = true ∧ ∃ x, t.pwr.run = some x
        ∧ x.kind = 1 ∧ x.apply = (leNat (slice r.body 0 1) % 2 == 1) ∧ x.mailbox = some m.val))
    ∧ (r.svc = 0x401 → let back := leNat (slice r.body 0 2)
      let count := leNat (slice r.body 2 1)
      let recs := s.recordsNewest
      if r.len ≠ 4 ∨ count = 0 ∨ 15 < count ∨ recs.length < back + count then Completes (.annealRead m) s (code m 1)
      else Completes (.annealRead m) s fun t => code m 0 t
        ∧ ∀ i x, ((recs.drop back).take count).flatten[i]? = some x → t.byteAt (mbRspAt m + 8 + i) = x.toNat))
  ∧ (∀ s : State, s.stopped = false → let h := s.get F.ANN_CFG_PERIOD_H
    if h ≠ 0 ∧ s.pwr.run = none ∧ s.mgmt.spcDown = false ∧ (s.pwr.runDue = true ∨ s.passed s.pwr.runEnd (h * 3600 * secClocks 1) = true) then
      Completes .annealScheduled s fun t => t.on F.ANN_STAT_RUNNING = true ∧ t.pwr.runDue = false ∧ ∃ x, t.pwr.run = some x ∧ x.kind = 0
        ∧ x.mailbox = none
    else Completes .annealScheduled s fun t => t.pwr = s.pwr)
  ∧ (∀ (f : AnnealFacts) (s : State), s.stopped = false → s.arbOwns 776 7 = false → Completes (.annealRunDone f) s fun t =>
    t.pwr = s.pwr ∧ t.nvm = s.nvm)
  ∧ ∀ (r : AnnRun) (f : AnnealFacts) (s : State), s.stopped = false → s.mgmt.spcDown = false → s.pwr.run = some r →
    s.arbOwns 776 7 = true → let applies : Bool := r.apply || s.on F.ANN_CFG_APPLY
    (Completes (.annealRunDone f) s fun t => t.pwr.run = none ∧ t.pwr.runEnd = s.now ∧ t.pwr.runDue = s.fellDue r ∧ t.get F.ANN_STAT_RUNNING = 0 ∧ ist t 0 = 1
      ∧ t.get F.ANN_STAT_LAST_RUN = (s.get F.ANN_STAT_LAST_RUN + 1) % 2 ^ 31
      ∧ (∃ w, w.kind = .history ∧ w.tag = t.get F.ANN_STAT_LAST_RUN ∧ t.nvm.appends.getLast? = some w)
      ∧ (SMap.wf (fun _ => 0) s.obs.sel = true → Counted s t (fun q => decide (0xf00 ≤ q) && decide (q < 0xf10)) Ev.ANN_RUN 1)
      ∧ (∀ m : Fin 8, r.mailbox = some m.val → code m 0 t)
      ∧ (∀ b, b < 50 → guard s b ≤ guard t b ∧ fmax t b ≤ fmax s b ∧ (applies = false → guard t b = guard s b ∧ fmax t b = fmax s b))
      ∧ ∀ d, d < 11 → s.get (F.ANN_DOM_GUARD d) ≤ t.get (F.ANN_DOM_GUARD d)
        ∧ (applies = false → t.get (F.ANN_DOM_GUARD d) = s.get (F.ANN_DOM_GUARD d)))
    ∧ (∀ (b : BasinIx) (i : Fin 197) (v : BitVec 16), i.val = 129 + b.val → f.slack = [(i, v)] →
      inRange (s.islandDie i) = true → applies = true → s.annealKeeps b = false →
      Completes (.annealRunDone f) s fun t => if s.get F.ANN_CFG_SLACK_MIN ≤ v.toNat then guard t b = guard s b ∧ fmax t b = fmax s b
        else if guard s b + 5 ≤ s.get F.ANN_CFG_GUARD_MAX then guard t b = guard s b + 5 ∧ fmax t b = fmax s b
        else if fmax s b ≠ 0 then fmax t b = fmax s b - 1 ∧ t.get (F.THERM_BLIM_FMAX b) = fmax s b - 1 ∧ ist t 1 = 1
        else fmax t b = 0 ∧ ist t 2 = 1)
    ∧ ∀ (d : Nat) (i : Fin 197) (v : BitVec 16), islandDomain i = some d → f.slack = [(i, v)] →
      inRange (s.islandDie i) = true → applies = true →
      v.toNat < s.get F.ANN_CFG_SLACK_MIN → Completes (.annealRunDone f) s fun t => let g := s.get (F.ANN_DOM_GUARD d)
        if g + 5 ≤ s.get F.ANN_CFG_GUARD_MAX then
          t.get (F.ANN_DOM_GUARD d) = (if f.noAck.any (fun x => x.val == d) ∨ s.mgmt.tap.extest = true then g else g + 5)
        else t.get (F.ANN_DOM_GUARD d) = g ∧ ist t 2 = 1

/-- WARM, by its pin or GLOBAL.RESET, clears ports, Cistern, forwarding, collective engine, Basins, Glass and
health, restarts device time, keeps NVM, flash, the event log and the PCIe endpoint, and awaits start-up; during
a trip the pin is logged only, while a COLD reset awaits its start-up it is ignored, and a brown-out goes on.
DATA clears the same data blocks and their windows, fails slots that own their units with REJ_BUSY, and keeps
device time, memory contents and NVM. SPC clears no hardware block; mailboxes in progress end with REJ_BUSY, the
fabric queue is empty and holds no cells, and services pause until it is back, with the PTP values that STORE
saved, when scores that crossed FENCE meanwhile are judged. A brown-out holds the part in WARM reset; recovery
awaits start-up with BROWNOUT set. STARTUP_RUN after COLD or WARM acts once both references were present, and
none is then awaited. PERST clears configuration space and MSI-X table and takes the link down; a link change
sets width and rate, and the configuration space where the host wrote it. A reference lost sets its bit and
takes the ports of its octets from UP; REFS_OK follows both inputs, and a return in the clock of a loss is
judged first. A part that stands still only keeps which inputs are present. Log entries 12, 21, 31, 65, 66, 67,
86, 99, 182, 185 and 199 are the model's. (13_management.md R396, 13_management.md R399, 13_management.md R426, 13_management.md R431, 16_store_startup.md R498, 16_store_startup.md R499, 16_store_startup.md R501, 18_electrical.md R544, 18_electrical.md R547, 18_electrical.md R551) -/
def Obligations.ResetsClearTheirBlocks : Prop :=
  let data (s t : State) : Prop := t.ports = [] ∧ t.cis = { State.reset.cis with seedAt := s.now } ∧ t.fwd = {} ∧ t.col = {}
  let pba (a : Nat) : Bool := decide (0xe08800 ≤ a) && decide (a < 0xe08808)
  let warm (s t : State) : Prop := data s t ∧ t.bsn = {} ∧ t.glass = State.reset.glass ∧ t.hlth = State.reset.hlth ∧ t.time.units = 0
    ∧ t.nvm.bytes = s.nvm.bytes ∧ t.nvm.appends = s.nvm.appends ∧ t.nvm.flash = s.nvm.flash ∧ t.obs.log = s.obs.log
    ∧ t.board.starting = some 1 ∧ t.get F.BOOT_STAT_LAST = 1
    ∧ ∀ a, (a / 4096 = 0xf00 ∨ a / 4096 = 0xe08) → pba a = false → t.word a = s.word a;
  (∀ s : State, s.pwr.trip = false → (s.board.starting ≠ some 0 → Completes (.warmReset none) s fun t => warm s t ∧ t.board.held = s.board.held)
    ∧ (s.board.starting = some 0 → Completes (.warmReset none) s fun t => t.board = s.board ∧ t.nvm = s.nvm ∧ t.time = s.time ∧ t.ports = s.ports))
  ∧ (∀ s : State, s.pwr.trip = true → Completes (.warmReset none) s fun t => t = { s with bar := t.bar, obs := t.obs, setNow := t.setNow }
    ∧ ∀ a, pba a = false → t.word a = s.word a)
  ∧ (∀ (g : Agent) (s : State), s.stopped = false → s.accepts g 0x160 0xa5000002 → Completes (.warmReset (some g)) s fun t => warm s t)
  ∧ (∀ (g : Agent) (s : State), s.stopped = false → s.accepts g 0x160 0xa5000001 → Completes (.dataReset g) s fun t => data s t
    ∧ t.time = { s.time with rxQ := [] } ∧ t.mem.bytes = s.mem.bytes ∧ t.nvm = s.nvm ∧ t.board.starting = some (s.board.starting.getD 2)
    ∧ t.get F.BOOT_STAT_LAST = 2 ∧ (∀ a, 0x1000000 ≤ a → a < 0x6200000 → t.word a = resetWord a)
    ∧ ∀ i, i < 16 → s.slotState i = 3 ∨ s.slotState i = 4 → (s.slot i).units.any dataClears = true →
      t.slotState i = 6 ∧ t.get (F.TXN_TXSTAT_CODE i) = Rej.BUSY ∧ (t.slot i).units = [])
  ∧ (∀ (g : Agent) (s : State), s.stopped = false → s.accepts g 0x160 0xa5000000 → Completes (.spcReset g) s fun t =>
    t.mgmt.spcDown = true ∧ t.mgmt.fabQ = [] ∧ t.nvm.streams = [] ∧ t.pwr = { s.pwr with run := none } ∧ t.get F.BOOT_STAT_LAST = 3
      ∧ (∀ r ∈ s.mgmt.fabIn ++ s.mgmt.fabQ, ∀ i, r.pkt = some i → t.pkt? i = none)
      ∧ ((∀ r ∈ s.mgmt.fabIn ++ s.mgmt.fabQ, r.pkt = none) → t.ports = s.ports ∧ t.cis = s.cis)
      ∧ t.fwd = s.fwd ∧ t.col = s.col ∧ t.bsn = s.bsn ∧ t.mem = s.mem ∧ t.glass = s.glass
      ∧ t.hlth = s.hlth ∧ t.nvm.appends = s.nvm.appends ∧ ∀ m, m < 8 → s.on (F.MB_MBSTAT_BUSY m) = true →
        t.on (F.MB_MBSTAT_BUSY m) = false ∧ t.on (F.MB_MBSTAT_DONE m) = true ∧ t.get (F.MB_MBSTAT_CODE m) = Rej.BUSY)
  ∧ (∀ s : State, s.stopped = false → Completes .spcRestartDone s (fun t => t.mgmt.spcDown = false
      ∧ ((∀ l, (s.leaf l).low = decide ((s.leaf l).score ≤ s.get F.HLTH_SCORE_FENCE)) → t.mgmt = { s.mgmt with spcDown := false }
        ∧ t.time.dds = (if (s.settingsSection 4).length = 16 then s.settingsSection 4 else s.time.dds)
        ∧ ∀ l, t.leaf l = s.leaf l))
    ∧ Completes .brownout s fun t => warm s t ∧ t.board.held = true)
  ∧ (∀ s : State, (s.board.held = true → Completes .brownoutRecovery s fun t => t.board.held = false ∧ t.board.starting = some 1
      ∧ t.on F.GLOBAL_BOARDSTAT_BROWNOUT = true ∧ t.nvm = s.nvm)
    ∧ (s.board.held = false → Completes .brownoutRecovery s fun t => t.board = s.board ∧ t.nvm = s.nvm))
  ∧ (∀ (f : StartFacts) (s : State), s.stopped = false →
    (s.board.starting = none → Completes (.startupRun f) s fun t => t.board = s.board ∧ t.nvm = s.nvm ∧ t.cis = s.cis)
    ∧ (∀ k, s.board.starting = some k → k ≠ 2 → s.board.t0 = false → Completes (.startupRun f) s fun t => t.board = s.board)
    ∧ (∀ k, s.board.starting = some k → k = 2 ∨ s.board.t0 = true → Completes (.startupRun f) s fun t => t.board.starting = none))
  ∧ (∀ s : State, s.stopped = false → Completes .perst s (fun t => t.get F.MGMT_PCIESTAT_WIDTH = 0 ∧ t.get F.MGMT_PCIESTAT_GEN = 0
      ∧ (∀ a, 0xe08400 ≤ a → a < 0xe08800 → t.word a = resetWord a) ∧ t.ports = s.ports ∧ t.cis = s.cis ∧ t.mgmt = { s.mgmt with pcie := {} })
    ∧ ∀ (w : Fin 9) (gen : Fin 6) (cfg : Option PcieCfg), Completes (.pcieLinkChange w gen cfg) s fun t =>
      let up := w.val ∈ [1, 2, 4, 8] ∧ 1 ≤ gen.val
      t.get F.MGMT_PCIESTAT_WIDTH = (if up then w.val else 0) ∧ t.get F.MGMT_PCIESTAT_GEN = (if up then gen.val else 0)
        ∧ t.mgmt = { s.mgmt with pcie := cfg.getD s.mgmt.pcie })
  ∧ (∀ (b : Bool) (s : State), s.stopped = true → let frame (t : State) : Prop := t.ports = s.ports ∧ t.nvm = s.nvm ∧ t.pwr = s.pwr
    Completes (.refclkLoss b) s (fun t => (if b then t.board.refB else t.board.refA) = false ∧ frame t)
    ∧ Completes (.refclkReturn b) s fun t => (if b then t.board.refB else t.board.refA) = true ∧ frame t)
  ∧ ∀ (b : Bool) (s : State), s.stopped = false → let here (u : State) : Bool := if b then u.board.refB else u.board.refA
    let other (u : State) : Bool := if b then u.board.refA else u.board.refB
    let comes : Bool := s.pending.any fun i => match i with
      | .refclkReturn c => c != b
      | _ => false
    (here s = true → Completes (.refclkLoss b) s fun t => here t = false ∧ other t = (other s || comes) ∧ t.get F.GLOBAL_BOARDSTAT_REFS_OK = 0
      ∧ t.on (if b then F.GLOBAL_BOARDSTAT_REFB_LOST else F.GLOBAL_BOARDSTAT_REFA_LOST) = true
      ∧ ∀ p, p < 512 → t.portState (if b then 512 + p else p) ≠ 5)
    ∧ (here s = false → comes = false → Completes (.refclkLoss b) s fun t => t.board = s.board ∧ t.ports = s.ports)
    ∧ (here s = false → Completes (.refclkReturn b) s fun t => here t = true ∧ other t = other s
      ∧ t.get F.GLOBAL_BOARDSTAT_REFS_OK = (other s).toNat)
    ∧ (here s = true → Completes (.refclkReturn b) s fun t => t.board = s.board ∧ t.ports = s.ports)

/-- STORE, FW_OVERRIDE and LOG_COPY are answered with the code that refuses them, and then NVM's state is as it was;
else they queue their pieces, a LOG_COPY at the end of the core clock, of at most 4 KiB, the last naming the
mailbox that it answers, and a STORE sets BUSY. An accepted NVM.RETIRE queues one Cullet entry for a lane not
listed, where the list has room. NVM_WRITE_DONE takes the oldest append before any piece of a larger write; its
bytes then read back at their place, and a piece without a mailbox just leaves the queue (a boot record's end,
which may commit the settings held back, apart). With nothing waiting it changes nothing of NVM. An accepted
flash operation is BUSY with its address and length; at its end it is DONE, and where the flash answered READ
has filled the buffer, PROGRAM the flash from it, and ERASE has cleared the sector to FFH (presumed, log entry
62); else the code is REJ_IO and the flash as it was. Log entries 91 and 92 (what STORE and FW_OVERRIDE write
and answer) are the model's. (16_store_startup.md R482, 16_store_startup.md R486, 16_store_startup.md R489, 16_store_startup.md R495, 16_store_startup.md R497, 17_observation.md R525) -/
def Obligations.StoresAndFlashActInOrder : Prop :=
  let code (m : Fin 8) (c : Nat) (t : State) : Prop := t.on (F.MB_MBSTAT_DONE m) = true ∧ t.get (F.MB_MBSTAT_CODE m) = c
  let queued (m : Fin 8) (s t : State) : Prop := ∃ (l : List NvmWrite) (w : NvmWrite), t.nvm.streams = s.nvm.streams ++ l ++ [w]
    ∧ w.mailbox = some m.val ∧ (∀ x ∈ l, x.mailbox = none) ∧ (∀ x ∈ l ++ [w], x.bytes.length ≤ 4096) ∧ t.nvm.appends = s.nvm.appends
    ∧ t.get (F.MB_MBSTAT_BUSY m) = s.get (F.MB_MBSTAT_BUSY m);
  (∀ (m : Fin 8) (r : SvcReq) (s : State), s.stopped = false → s.svcTake (.mailbox m) = some r → s.svcRefusal (.mailbox m) r = 0 →
    (r.svc = 0x500 → let c := s.storeCheck m r
      (c ≠ 0 → Completes (.store m) s fun t => code m c t ∧ t.nvm = s.nvm)
      ∧ (c = 0 → Completes (.store m) s fun t => queued m s t ∧ t.on F.NVM_STAT_BUSY = true))
    ∧ (r.svc = 0x501 → let flags := leNat (slice r.body 8 1)
      let bad := r.len ≠ 16 ∨ 1 < flags ∨ leNat (slice r.body 9 7) ≠ 0
      let busy := s.nvm.streams.any (fun w => w.kind == .boot)
      (bad → Completes (.fwOverride m) s fun t => code m 1 t ∧ t.nvm = s.nvm)
      ∧ (¬ bad → busy = true → Completes (.fwOverride m) s fun t => code m 4 t ∧ t.nvm = s.nvm)
      ∧ (¬ bad → busy = false → flags = 0 → s.overrideCheck r ≠ 0 → Completes (.fwOverride m) s fun t =>
        code m (s.overrideCheck r) t ∧ t.nvm = s.nvm)
      ∧ (¬ bad → busy = false → flags = 1 ∨ s.overrideCheck r = 0 → Completes (.fwOverride m) s fun t => queued m s t))
    ∧ (r.svc = 0x600 → let bad := r.len ≠ 4 ∨ leNat (slice r.body 0 4) ≠ 0
      let busy := s.nvm.streams.any (fun w => w.kind == .logCopy) || s.mgmt.copyFor.isSome
      (bad → Completes (.logCopy m) s fun t => code m 1 t ∧ t.nvm = s.nvm)
      ∧ (¬ bad → busy = true → Completes (.logCopy m) s fun t => code m 4 t ∧ t.nvm = s.nvm)
      ∧ (¬ bad → busy = false → Completes (.logCopy m) s fun t => t.mgmt.copyFor = some m.val ∧ t.nvm = s.nvm
        ∧ t.get (F.MB_MBSTAT_BUSY m) = s.get (F.MB_MBSTAT_BUSY m))))
  ∧ (∀ (m : Fin 8) (s : State), s.mgmt.copyFor = some m.val → s.copyClose.mgmt.copyFor = none ∧ queued m s s.copyClose)
  ∧ (∀ s : State, s.pending = [] → s.stopped = false → ∃ t, step s = .next t ∧ t.mgmt.copyFor = none)
  ∧ (∀ (g : Agent) (l : Fin 1024) (s : State), s.stopped = false → s.accepts g 0xf01110 (2 ^ 31 + l.val) →
    (s.culletHas 7 l = false → s.culletCount < 32768 → Completes (.nvmRetire g l) s fun t => ∃ w : NvmWrite,
      t.nvm = { s.nvm with appends := s.nvm.appends ++ [w] } ∧ w.kind = .cullet ∧ w.off = 0x160000 + 16 * s.culletCount
        ∧ slice w.bytes 0 8 = leBytes 1 7 ++ leBytes 1 7 ++ leBytes 2 0 ++ leBytes 4 l))
  ∧ (∀ (w : NvmWrite) (rest : List NvmWrite) (s : State),
    (s.nvm.appends = w :: rest → w.kind ≠ .remap → Completes .nvmWriteDone s fun t => t.nvm.appends = rest ∧ t.nvm.streams = s.nvm.streams
      ∧ t.nvmBytes w.off w.bytes.length = w.bytes)
    ∧ (s.nvm.appends = w :: rest → w.kind = .remap → s.get F.NVM_COUNTS_REMAP < 65532 → Completes .nvmWriteDone s fun t =>
      t.nvm.appends = rest ∧ t.get F.NVM_COUNTS_REMAP = s.get F.NVM_COUNTS_REMAP + 1
        ∧ t.nvmBytes (remapBase s.nvm.remapHalf + 64 + 16 * s.get F.NVM_COUNTS_REMAP) w.bytes.length = w.bytes)
    ∧ (s.nvm.appends = [] → s.nvm.streams = w :: rest → w.kind ≠ .boot → Completes .nvmWriteDone s fun t => t.nvmBytes w.off w.bytes.length = w.bytes
      ∧ (w.mailbox = none → t.nvm.streams = rest))
    ∧ (s.nvm.appends = [] → s.nvm.streams = [] → Completes .nvmWriteDone s fun t => t.nvm = s.nvm))
  ∧ (∀ (g : Agent) (s : State), s.stopped = false → let starts (op n : Nat) (t : State) : Prop := t.on F.BOOT_FLSTAT_BUSY = true
      ∧ t.nvm = { s.nvm with flOp := some (op, s.get F.BOOT_FLADDR_ADDR, n) }
    (∀ len : BitVec 13, s.accepts g 0xf02120 (2 ^ 31 + len.toNat) → Completes (.flashRead g len) s (starts 0 len.toNat))
    ∧ (∀ len : BitVec 13, s.accepts g 0xf02120 (2 ^ 31 + 2 ^ 29 + len.toNat) → Completes (.flashProgram g len) s (starts 1 len.toNat))
    ∧ (s.accepts g 0xf02120 (2 ^ 31 + 2 ^ 30) → Completes (.flashErase g) s (starts 2 0x10000)))
  ∧ ∀ (op a n : Nat) (s : State), s.stopped = false → s.nvm.flOp = some (op, a, n) → n ≤ 0x10000 → (op ≠ 2 → n ≤ 4096) →
    let ended (c : Nat) (t : State) : Prop := t.on F.BOOT_FLSTAT_BUSY = false ∧ t.on F.BOOT_FLSTAT_DONE = true
      ∧ t.on F.BOOT_FLSTAT_OK = decide (c = 0) ∧ t.get F.BOOT_FLSTAT_CODE = c ∧ t.nvm.flOp = none
    Completes (.flashOpDone false) s (fun t => ended 0x0c t ∧ t.nvm.flash = s.nvm.flash)
    ∧ Completes (.flashOpDone true) s fun t => ended 0 t
      ∧ (op = 0 → t.nvm.flash = s.nvm.flash ∧ ∀ i, i < n → t.byteAt (0xbc00000 + i) = (s.flashByte (a + i)).toNat)
      ∧ (op = 1 → ∀ i, i < n → (t.flashByte (a + i)).toNat = s.byteAt (0xbc00000 + i))
      ∧ (op = 2 → ∀ i, i < n → t.flashByte (a + i) = 0xff#8)

/-- An accepted EVSEL write leaves the selection as written, the counter 0 and its WRAP bit 0. A read of COUNT_LO
waits for the end of its core clock, and with it the agent's next read on the page where it is a counter's; it
then returns the low word and fills the agent's latch with the high word, which a read of COUNT_HI behind it
returns and uses up; in T_SNAP the counters stand as the snapshot shows them. A count past 2^48 − 1 keeps the
remainder and sets WRAP. SNAP.CTRL.GO with TRIG 0 triggers a snapshot; while busy it is MISSED; with TRIG 1 or 2
it arms. STOP disarms. A due trigger does the same (one that a step passed, from the next core clock on), TRIG 1
disarms, and TRIG 2 waits for the next time on its grid. The end of that core clock takes the snapshot: its
time, its settings, and the counters as they then stand, those whose EVSEL was written in it as before the
write; CLEAR then zeroes every counter. A copy that ends with the link up and bus mastering on writes the
snapshot with SEQ one more, counts SNAP_TAKEN and sets DONE; one that fails gives REJ_IO, FAIL, and no write. In
a snapshot's counter record each slot holds EN, EVENT and the count, and is zero where no page is. 8 core clocks
after the last, the oldest sample of a pipeline goes to the ring at WPTR, and WPTR advances. Log entries 82, 84,
100, 180 and 198 are the model's. (17_observation.md R505, 17_observation.md R506, 17_observation.md R507, 17_observation.md R510, 17_observation.md R511, 17_observation.md R514, 17_observation.md R515, 17_observation.md R517) -/
def Obligations.SnapshotsCountersAndSamples : Prop :=
  let ist (t : State) (b : Nat) : Nat := nbit (t.get F.SNAP_ISTAT_ISTAT) b
  let cnt (t : State) (k : Nat) : Nat := SMap.get (fun _ => 0) t.obs.cnt k
  let sel (t : State) (k : Nat) : Nat := SMap.get (fun _ => 0) t.obs.sel k
  let logPage (q : Nat) : Bool := decide (0xf00 ≤ q) && decide (q < 0xf10)
  let wf (s : State) : Prop := SMap.wf (fun _ => 0) s.obs.sel = true
  let taken (s t : State) (late : Bool) : Prop := t.obs.snapEnd = some late ∧ t.obs.snap = s.obs.snap ∧ t.on F.SNAP_STAT_BUSY = true
  let missed (s t : State) : Prop := t.obs.snap = s.obs.snap ∧ t.obs.snapEnd = s.obs.snapEnd ∧ ist t 1 = 1 ∧ (wf s → Counted s t logPage Ev.SNAP_MISSED 1);
  (∀ (g : Agent) (page : Fin 4096) (n : Fin 8) (value : BitVec 32) (s : State), s.stopped = false →
    s.accepts g (page.val * 4096 + 0xc0 + 4 * n.val) value.toNat →
    Completes (.evselWrite g page n value) s fun t => sel t (8 * page + n) = value.toNat ∧ (wf s → cnt t (8 * page + n) = 0
      ∧ nbit (SMap.get (fun _ => 0) t.obs.wrap page) n = 0 ∧ ∀ k, k ≠ 8 * page.val + n.val → sel t k = sel s k))
  ∧ (∀ (g : Agent) (page : Fin 4096) (n : Fin 8) (s : State), s.stopped = false → let a := page.val * 4096 + 0x80 + 8 * n.val
    s.answers a = true → placeAt a = .page →
    Completes (.counterLoRead g page n none) s (fun t => Sent s t [] ∧ t.obs.reads = s.obs.reads ++ [⟨g, a, true⟩])
    ∧ ∀ w : Fin 1024, let b := page.val * 4096 + 4 * w.val
      s.answers b = true → placeAt b = .page → Completes (.counterLoRead g page n (some w)) s fun t =>
        t.obs.reads = s.obs.reads ++ [⟨g, a, true⟩, ⟨g, b, counterAt b⟩] ∧ (counterAt b = true → Sent s t []))
  ∧ (∀ (g : Nat) (page : Fin 4096) (n : Fin 8) (s : State), let lo := page.val * 4096 + 0x80 + 8 * n.val
    let c := (if s.obs.snapEnd.isSome then s.counted else s).counter page n
    let t := s.readsClose
    (s.obs.reads = [⟨g, lo, true⟩] → t.obs.reads = [] ∧ t.latch g page = some (n.val, c / 2 ^ 32)
      ∧ t.obs.out = .readData g lo (c % 2 ^ 32) :: s.obs.out)
    ∧ (s.obs.reads = [⟨g, lo, true⟩, ⟨g, lo + 4, true⟩] → t.obs.reads = [] ∧ t.latch g page = none
      ∧ t.obs.out = .readData g (lo + 4) (c / 2 ^ 32) :: .readData g lo (c % 2 ^ 32) :: s.obs.out))
  ∧ (∀ (n k : Nat) (o : ObsSt), SMap.get (fun _ => 0) (bumpCounter n o k).cnt k = (SMap.get (fun _ => 0) o.cnt k + n) % 2 ^ 48
    ∧ (2 ^ 48 ≤ SMap.get (fun _ => 0) o.cnt k + n → nbit (SMap.get (fun _ => 0) (bumpCounter n o k).wrap (k / 8)) (k % 8) = 1)
    ∧ (SMap.get (fun _ => 0) o.cnt k + n < 2 ^ 48 → (bumpCounter n o k).wrap = o.wrap))
  ∧ (∀ (g : Agent) (s : State), s.stopped = false → s.accepts g 0xf03118 (2 ^ 31) →
    (s.get F.SNAP_CFG_TRIG = 0 → s.on F.SNAP_STAT_BUSY = false → Completes (.snapGo g) s fun t => taken s t false)
    ∧ (s.get F.SNAP_CFG_TRIG = 0 → s.on F.SNAP_STAT_BUSY = true → Completes (.snapGo g) s fun t => missed s t)
    ∧ (s.get F.SNAP_CFG_TRIG ≠ 0 → Completes (.snapGo g) s fun t => t.on F.SNAP_STAT_ARMED = true ∧ t.obs.snap = s.obs.snap
      ∧ (s.get F.SNAP_CFG_TRIG = 1 → t.obs.snapNext = s.snapT)))
  ∧ (∀ (g : Agent) (s : State), s.stopped = false → s.accepts g 0xf03118 (2 ^ 30) → Completes (.snapStop g) s fun t =>
    t.on F.SNAP_STAT_ARMED = false ∧ t.obs.snap = s.obs.snap ∧ t.get F.SNAP_STAT_BUSY = s.get F.SNAP_STAT_BUSY)
  ∧ (∀ s : State, s.stopped = false →
    (s.on F.SNAP_STAT_ARMED = false ∨ s.devNs < s.obs.snapNext ∨ (s.obs.snapLate = true ∧ s.steppedNow = true) → Completes .snapTrigger s fun t => t.obs.snap = s.obs.snap
      ∧ t.get F.SNAP_STAT_ARMED = s.get F.SNAP_STAT_ARMED ∧ t.get F.SNAP_STAT_BUSY = s.get F.SNAP_STAT_BUSY)
    ∧ (s.on F.SNAP_STAT_ARMED = true → s.obs.snapNext ≤ s.devNs → ¬ (s.obs.snapLate = true ∧ s.steppedNow = true) → let busy := s.on F.SNAP_STAT_BUSY
      let d := s.get F.SNAP_PERIOD_PERIOD_US * 1000
      Completes .snapTrigger s fun t => (busy = false → taken s t s.obs.snapLate) ∧ (busy = true → missed s t)
        ∧ (s.get F.SNAP_CFG_TRIG = 1 → t.on F.SNAP_STAT_ARMED = false)
        ∧ (s.get F.SNAP_CFG_TRIG = 2 → t.on F.SNAP_STAT_ARMED = true ∧ (0 < d → s.devNs < t.obs.snapNext
          ∧ t.obs.snapNext ≤ s.devNs + d ∧ (t.obs.snapNext - s.obs.snapNext) % d = 0))))
  ∧ (∀ (late : Bool) (s : State), s.pending = [] → s.stopped = false → let u := s.samplesClose.releasesClose.fencesClose
    u.obs.snapEnd = some late → wf u → SMap.wf (fun _ => none) u.obs.fresh = true → ∃ img t, step s = .next t ∧ t.obs.snap = some img
      ∧ t.obs.snapEnd = none ∧ img.late = late ∧ (img.sec, img.ns, img.frac) = (u.time.sec, u.time.ns, u.time.frac)
      ∧ img.sect = u.get F.SNAP_CFG_SECT ∧ img.cleared = u.on F.SNAP_CFG_CLEAR
      ∧ (nbit (u.get F.SNAP_CFG_SECT) 0 = 1 → ∀ k, match SMap.get (fun _ => none) u.obs.fresh k with
        | some y => SMap.get (fun _ => 0) img.sel k = y.sel ∧ SMap.get (fun _ => 0) img.cnt k = y.cnt
        | none => SMap.get (fun _ => 0) img.sel k = sel u k ∧ (sel u k ≠ 0x80000000 + Ev.CORE_CLK → sel u k ≠ 0x80000000 + Ev.BSN_CYCLES →
          SMap.get (fun _ => 0) img.cnt k = cnt u k))
      ∧ (u.on F.SNAP_CFG_CLEAR = true → s.clockEnd.obs.cnt = [] ∧ s.clockEnd.obs.wrap = []))
  ∧ (∀ (img : SnapImage) (s : State), s.stopped = false → s.obs.snap = some img →
    (s.get F.MGMT_PCIESTAT_WIDTH ≠ 0 → s.mgmt.pcie.busMaster = true → Completes (.snapCopyDone true) s fun t =>
      Sent s t [.snapshot img (s.obs.snapCount + 1)] ∧ t.obs.snapCount = s.obs.snapCount + 1 ∧ t.obs.snap = none
      ∧ t.on F.SNAP_STAT_BUSY = false ∧ t.get F.SNAP_SEQ_SEQ = (s.obs.snapCount + 1) % 2 ^ 32 ∧ ist t 0 = 1
      ∧ (wf s → Counted s t logPage Ev.SNAP_TAKEN 1))
    ∧ ∀ ok : Bool, ok = false ∨ s.get F.MGMT_PCIESTAT_WIDTH = 0 ∨ s.mgmt.pcie.busMaster = false → Completes (.snapCopyDone ok) s fun t => Sent s t [] ∧ t.obs.snap = none ∧ t.on F.SNAP_STAT_BUSY = false
      ∧ t.get F.SNAP_STAT_CODE = Rej.IO ∧ ist t 2 = 1 ∧ t.get F.SNAP_SEQ_SEQ = s.get F.SNAP_SEQ_SEQ
      ∧ (s.obs.logQ.length < 64 → t.obs.logQ = s.obs.logQ ++ [⟨Ev.SNAP_FAIL, 0xf03, 0, 0, 0, s.time.core⟩]))
  ∧ (∀ (p n seq : Nat) (s : State) (late : Bool), p < 4096 → n < 8 → nbit (s.get F.SNAP_CFG_SECT) 0 = 1 → ∃ lo hi,
    (s.snapImage late).word seq (0x1000 + 64 * p + 8 * n) = some lo ∧ (s.snapImage late).word seq (0x1000 + 64 * p + 8 * n + 4) = some hi
    ∧ lo < 2 ^ 32 ∧ lo + 2 ^ 32 * hi = if (pageDef p).isNone then 0
      else nbit (sel s (8 * p + n)) 31 * 2 ^ 63 + nfield (sel s (8 * p + n)) 14 0 * 2 ^ 48 + cnt s (8 * p + n) % 2 ^ 48)
  ∧ ∀ (pipe : Fin 32) (r : SampleRec) (s : State), s.stopped = false → let w := s.get F.SNAP_SAMP_WPTR_WPTR
    (0 < s.obs.sampleAt → s.now + 1 < s.obs.sampleAt + 8 → Completes (.sampleRingWrite pipe) s fun t => t.obs.samples = s.obs.samples
      ∧ t.obs.sampleQ = s.obs.sampleQ)
    ∧ (s.obs.sampleAt = 0 ∨ s.obs.sampleAt + 8 ≤ s.now + 1 → s.obs.sampleQ.find? (fun x => x.1 == pipe.val) = some (pipe.val, r) →
      Completes (.sampleRingWrite pipe) s fun t =>
      SMap.get (fun _ => {}) t.obs.samples w = { r with seq := (s.obs.sampleSeq + 1) % 2 ^ 32 }
      ∧ (∀ k, k ≠ w → SMap.get (fun _ => {}) t.obs.samples k = SMap.get (fun _ => {}) s.obs.samples k)
      ∧ t.get F.SNAP_SAMP_WPTR_WPTR = (w + 1) % 4096 ∧ t.obs.sampleQ.length + 1 = s.obs.sampleQ.length
      ∧ (wf s → Counted s t (fun q => q == 0x100 + r.port) Ev.SAMPLE_TAKEN 1))

/-- LOG_WRITE takes, at most once in a core clock, an entry of its queue: of the oldest core clock, one of the
lowest page. In STOP mode with the log full, or full when RPTR moved in the same clock, it is discarded and
counted as LOG_LOST; else it stands at WPTR, stamped, WPTR, SEQ and HELD advance, LOG_WRITE is counted, and in
STOP mode the last free place sets FULL. CLEAR sets RPTR to WPTR, also after an entry of its own clock. A change
to STOP sets RPTR to the oldest entry held, and FULL where all 16,384 are; a change to OVERWRITE clears FULL. An
accepted RPTR is stored and, in STOP mode, where it moves, FULL goes. Each TAP instruction is selected, also on
a part that stands still; IDCODE shifts out stepping, part and maker, BYPASS a 0, and only EXTEST drives the
balls, with the cells shifted in. REGACC shifts out the last access and starts the next, but none while one is
busy: it writes as agent 3, with status 2 where the write is refused; a read of COUNT_HI is busy until its core
clock ends, and then holds the data, through the agent's latch. Log entries 98 (EXTEST), 181 (the log's writer)
and 200 (cells of the boundary register) are the model's. (17_observation.md R506, 17_observation.md R519, 17_observation.md R520, 17_observation.md R523, 17_observation.md R524, 18_electrical.md R552, 18_electrical.md R553, 18_electrical.md R554) -/
def Obligations.LogAndTestPort : Prop :=
  let logPage (q : Nat) : Bool := decide (0xf00 ≤ q) && decide (q < 0xf10)
  let wf (s : State) : Prop := SMap.wf (fun _ => 0) s.obs.sel = true
  let entry (t : State) (k : Nat) : LogEntry := SMap.get (fun _ => {}) t.obs.log k
  let pba (a : Nat) : Bool := decide (0xe08800 ≤ a) && decide (a < 0xe08808);
  (∀ (r : LogReq) (s : State), s.stopped = false →
    let full : Prop := s.on F.LOG_CFG_MODE = true ∧ (s.on F.LOG_STAT_FULL = true ∨ s.obs.roomAt = s.now + 1)
    (s.obs.logQ = [] ∨ s.obs.logAt = s.now + 1 → Completes .logWrite s fun t => t.obs.log = s.obs.log ∧ t.obs.logQ = s.obs.logQ
      ∧ t.get F.LOG_WPTR_WPTR = s.get F.LOG_WPTR_WPTR)
    ∧ (s.logNext = some r → r ∈ s.obs.logQ ∧ (∀ x, s.obs.logQ.head? = some x → r.at_ = x.at_)
      ∧ ∀ x ∈ s.obs.logQ, x.at_ = r.at_ → r.page ≤ x.page)
    ∧ (s.logNext = some r → s.obs.logAt ≠ s.now + 1 → full → Completes .logWrite s fun t =>
      t.obs.logQ = s.obs.logQ.erase r ∧ t.obs.log = s.obs.log ∧ t.obs.lostBefore = true ∧ t.get F.LOG_WPTR_WPTR = s.get F.LOG_WPTR_WPTR
        ∧ (wf s → Counted s t logPage Ev.LOG_LOST 1))
    ∧ (s.logNext = some r → s.obs.logAt ≠ s.now + 1 → ¬ full → let w := s.get F.LOG_WPTR_WPTR
      Completes .logWrite s fun t => t.obs.logQ = s.obs.logQ.erase r ∧ t.obs.lostBefore = false
        ∧ entry t w = ⟨s.get F.LOG_SEQ_SEQ, s.time.sec % 2 ^ 32, s.time.ns, s.time.frac, r.code, r.page, s.obs.lostBefore.toNat, r.inst, r.d1, r.d2⟩
        ∧ (∀ k, k ≠ w → entry t k = entry s k) ∧ t.get F.LOG_WPTR_WPTR = (w + 1) % 16384
        ∧ t.get F.LOG_SEQ_SEQ = (s.get F.LOG_SEQ_SEQ + 1) % 2 ^ 32 ∧ t.obs.logHeld = min 16384 (s.obs.logHeld + 1)
        ∧ (s.obs.clearAt = s.now + 1 → t.get F.LOG_RPTR_RPTR = (w + 1) % 16384 ∧ t.get F.LOG_STAT_FULL = 0)
        ∧ (s.obs.clearAt ≠ s.now + 1 → t.get F.LOG_RPTR_RPTR = s.get F.LOG_RPTR_RPTR ∧ t.get F.LOG_STAT_FULL = if s.on F.LOG_CFG_MODE = true ∧ (w + 16384 - s.get F.LOG_RPTR_RPTR) % 16384 = 16383 then 1 else s.get F.LOG_STAT_FULL)
        ∧ (wf s → Counted s t logPage Ev.LOG_WRITE 1)))
  ∧ (∀ (g : Agent) (s : State), s.stopped = false →
    (s.accepts g 0xf00104 (2 ^ 31) → Completes (.logClear g) s fun t => t.get F.LOG_RPTR_RPTR = s.get F.LOG_WPTR_WPTR
      ∧ t.on F.LOG_STAT_FULL = false ∧ t.obs.log = s.obs.log)
    ∧ (∀ m : Bool, s.accepts g 0xf00100 m.toNat → Completes (.logModeWrite g m) s fun t => t.on F.LOG_CFG_MODE = m ∧ t.obs.log = s.obs.log
      ∧ t.get F.LOG_RPTR_RPTR = (if m = true ∧ s.on F.LOG_CFG_MODE = false
        then (s.get F.LOG_WPTR_WPTR + 16384 - s.obs.logHeld % 16384) % 16384 else s.get F.LOG_RPTR_RPTR)
      ∧ t.get F.LOG_STAT_FULL = (if m = s.on F.LOG_CFG_MODE then s.get F.LOG_STAT_FULL
        else if m = true ∧ s.obs.logHeld = 16384 then 1 else 0))
    ∧ (∀ v : BitVec 32, s.accepts g 0xf0010c v.toNat → Completes (.logRptrWrite g v) s fun t => t.get F.LOG_RPTR_RPTR = v.toNat
      ∧ t.get F.LOG_STAT_FULL = (if s.on F.LOG_CFG_MODE = true ∧ v.toNat ≠ s.get F.LOG_RPTR_RPTR then 0 else s.get F.LOG_STAT_FULL)))
  ∧ (∀ (v : BitVec 32) (g : Agent) (s : State), s.on F.LOG_CFG_MODE = true →
    s.logUnread < (nfield v.toNat 13 0 + 16384 - s.get F.LOG_RPTR_RPTR) % 16384 → ¬ s.accepts g 0xf0010c v.toNat)
  ∧ (∀ (cells : Option (BitVec 1689)) (code : BitVec 8) (s : State),
    let selects (ir : Nat) (ext : Bool) (t : State) : Prop := t.mgmt = { s.mgmt with tap := { s.mgmt.tap with ir := ir, extest := ext, boundary := t.mgmt.tap.boundary } }
      ∧ t.ports = s.ports ∧ t.time.units = s.time.units
    let shifted (t : State) : Prop := t.mgmt.tap.boundary = cells.getD s.mgmt.tap.boundary
    Completes .tapIdcode s (fun t => selects 1 false t ∧ Sent s t [.tdo 32 tapId]) ∧ tapId = Config.stepping.toNat * 2 ^ 28 + 0x05120947
    ∧ Completes (.tapSamplePreload cells) s (fun t => selects 2 false t ∧ shifted t)
    ∧ Completes (.tapExtest cells) s (fun t => selects 3 true t ∧ shifted t ∧ ∃ l, Sent s t (.driven t.tapDriven :: l))
    ∧ (code.toNat ∉ [1, 2, 3, 0x20] → Completes (.tapBypass code) s (fun t => selects code.toNat false t ∧ Sent s t [.tdo 1 0]) ∧ tapWidth code.toNat = 1))
  ∧ (∀ (w : Bool) (addr : BitVec 26) (v : BitVec 32) (s : State), s.stopped = false → s.mgmt.tap.status = 1 →
    Completes (.tapRegacc w addr v) s fun t => t.mgmt = { s.mgmt with tap := { s.mgmt.tap with ir := 0x20, extest := false } }
      ∧ Sent s t [.tdo 62 s.mgmt.tap.capture] ∧ t.mem = s.mem ∧ t.obs.reads = s.obs.reads)
  ∧ (∀ (addr : BitVec 26) (v : BitVec 32) (s : State), s.stopped = false → s.mgmt.tap.status ≠ 1 →
    let r := ((s.tapSelect 0x20 false).tapOut s.mgmt.tap.capture).busWrite 3 (4 * addr.toNat) v.toNat 15
    Completes (.tapRegacc true addr v) s fun t => t.mgmt.tap.status = (if r.1 = 0 then 0 else 2) ∧ t.mgmt.tap.addr = addr.toNat
      ∧ t.mgmt.tap.ir = 0x20 ∧ t.mgmt.tap.extest = false ∧ t.mem = r.2.mem ∧ t.ports = r.2.ports ∧ ∀ a, pba a = false → t.word a = r.2.word a)
  ∧ ∀ (page : Fin 4096) (n : Fin 8) (v : BitVec 32) (s : State), let a := page.val * 4096 + 0x84 + 8 * n.val
    (s.stopped = false → s.mgmt.tap.status ≠ 1 → s.answers a = true → placeAt a = .page →
      Completes (.tapRegacc false (BitVec.ofNat 26 (a / 4)) v) s fun t => t.mgmt.tap.status = 1 ∧ t.mgmt.tap.addr = a / 4
        ∧ t.obs.reads = s.obs.reads ++ [⟨3, a, false⟩] ∧ Sent s t [.tdo 62 s.mgmt.tap.capture])
    ∧ (s.mgmt.tap.status = 1 → s.obs.reads = [⟨3, a, false⟩] → s.obs.snapEnd = none →
      let h := SMap.get (fun _ => 0) s.obs.cnt (8 * page + n) / 2 ^ 32
      let t := s.readsClose
      t.mgmt.tap.status = 0 ∧ t.latch 3 page = none ∧ t.mgmt.tap.data = (match s.latch 3 page with
        | some (m, x) => if m = n.val then x else h
        | none => h))
end

