-- ==== Sys2Proof/Laws/Config.lean ====
section
/-! SUPPORT. What the factory's choice of the Basins without an array can be, whichever it is (R3, R4). -/

namespace Sys2Proof.Config

/-- One choice moves one Basin over. -/
theorem pickBasin_perm (p : List Nat × List Nat) (i : Nat) (h : p.2 ≠ []) :
    ((pickBasin p i).1 ++ (pickBasin p i).2).Perm (p.1 ++ p.2) ∧ (pickBasin p i).1.length = p.1.length + 1 := by
  have hl : 0 < p.2.length := List.length_pos_of_ne_nil h
  have hm : p.2.getD (absentPick i % p.2.length) 0 ∈ p.2 := by
    rw [List.getD_eq_getElem _ _ (Nat.mod_lt _ hl)]
    exact List.getElem_mem _
  refine ⟨?_, rfl⟩
  refine List.perm_middle.symm.trans ?_
  exact List.Perm.append_left p.1 (List.perm_cons_erase hm).symm

/-- After `n` choices, `n` of the Basins have moved, and none is lost. -/
theorem pickBasins (l : List Nat) (n : Nat) (hn : n ≤ l.length) :
    (((List.range n).foldl pickBasin ([], l)).1 ++ ((List.range n).foldl pickBasin ([], l)).2).Perm l
      ∧ ((List.range n).foldl pickBasin ([], l)).1.length = n := by
  induction n with
  | zero => exact ⟨List.Perm.refl _, rfl⟩
  | succ n ih =>
    obtain ⟨hp, hl⟩ := ih (by omega)
    rw [List.range_succ, List.foldl_append, List.foldl_cons, List.foldl_nil]
    generalize (List.range n).foldl pickBasin ([], l) = p at hp hl ⊢
    have hne : p.2 ≠ [] := fun h0 => by
      have := hp.length_eq
      simp [h0, hl] at this
      omega
    obtain ⟨hp', hl'⟩ := pickBasin_perm p n hne
    exact ⟨hp'.trans hp, by omega⟩

/-- Whichever they are, they are six different ones of the 50 Basins. -/
theorem absentBasins_six : absentBasins.length = 6 ∧ absentBasins.Nodup ∧ ∀ b ∈ absentBasins, b < 50 := by
  obtain ⟨hp, hl⟩ := pickBasins (List.range 50) 6 (by simp)
  have hn := hp.symm.nodup List.nodup_range
  exact ⟨hl, (List.nodup_append.1 hn).1, fun b hb => List.mem_range.1 (hp.subset (List.mem_append_left _ hb))⟩

end Sys2Proof.Config
end

