-- ==== Sys2Proof/Laws/SMap.lean ====
section
/-! SUPPORT. The laws of the canonical sparse map: read after write, writes apart, and that every
write keeps the canonical form. -/

namespace Sys2Proof.SMap

variable {α : Type}

@[simp] theorem get_nil (d : Nat → α) (k : Nat) : get d [] k = d k := rfl

theorem get_insert_same (d : Nat → α) (m : SMap α) (k : Nat) (v : α) :
    get d (insert k v m) k = v := by
  induction m with
  | nil => simp [insert, get]
  | cons p m ih =>
    obtain ⟨k', v'⟩ := p
    simp only [insert]
    split
    · simp [get]
    · split
      · simp [get]
      · simp_all [get]

theorem get_insert_ne (d : Nat → α) (m : SMap α) {k j : Nat} (v : α) (h : j ≠ k) :
    get d (insert k v m) j = get d m j := by
  induction m with
  | nil => simp [insert, get, h]
  | cons p m ih =>
    obtain ⟨k', v'⟩ := p
    simp only [insert]
    split
    · simp [get, h]
    · split
      · rename_i e; subst e; simp [get, h]
      · simp [get, ih]

theorem get_erase_same (d : Nat → α) (m : SMap α) (k : Nat) : get d (erase k m) k = d k := by
  induction m with
  | nil => rfl
  | cons p m ih =>
    obtain ⟨k', v'⟩ := p
    simp only [erase]
    split
    · exact ih
    · rename_i h; simp [get, h, ih]

theorem get_erase_ne (d : Nat → α) (m : SMap α) {k j : Nat} (h : j ≠ k) :
    get d (erase k m) j = get d m j := by
  induction m with
  | nil => rfl
  | cons p m ih =>
    obtain ⟨k', v'⟩ := p
    simp only [erase]
    split
    · rename_i e; subst e; simp [get, h, ih]
    · simp [get, ih]

variable [DecidableEq α]

/-- A read of the key just written gives the value written. -/
@[simp] theorem get_set_same (d : Nat → α) (m : SMap α) (k : Nat) (v : α) :
    get d (set d m k v) k = v := by
  unfold set
  split
  · rename_i e; rw [get_erase_same, e]
  · exact get_insert_same d m k v

/-- A write leaves every other key alone. -/
theorem get_set_ne (d : Nat → α) (m : SMap α) {k j : Nat} (v : α) (h : j ≠ k) :
    get d (set d m k v) j = get d m j := by
  unfold set
  split
  · exact get_erase_ne d m h
  · exact get_insert_ne d m v h

theorem wfFrom_mono (d : Nat → α) {lo lo' : Nat} (h : lo' ≤ lo) {m : SMap α}
    (hw : wfFrom d lo m = true) : wfFrom d lo' m = true := by
  cases m with
  | nil => rfl
  | cons p m =>
    obtain ⟨k, v⟩ := p
    simp only [wfFrom, Bool.and_eq_true, decide_eq_true_eq] at hw ⊢
    exact ⟨⟨le_trans h hw.1.1, hw.1.2⟩, hw.2⟩

theorem wfFrom_insert (d : Nat → α) {lo k : Nat} {v : α} (hv : v ≠ d k) (hk : lo ≤ k)
    {m : SMap α} (hw : wfFrom d lo m = true) : wfFrom d lo (insert k v m) = true := by
  induction m generalizing lo with
  | nil => simp [insert, wfFrom, hv, hk]
  | cons p m ih =>
    obtain ⟨k', v'⟩ := p
    simp only [wfFrom, Bool.and_eq_true, decide_eq_true_eq] at hw
    simp only [insert]
    split
    · rename_i hlt
      simp only [wfFrom, Bool.and_eq_true, decide_eq_true_eq]
      exact ⟨⟨hk, hv⟩, ⟨⟨hlt, hw.1.2⟩, hw.2⟩⟩
    · split
      · rename_i e; subst e
        simp only [wfFrom, Bool.and_eq_true, decide_eq_true_eq]
        exact ⟨⟨hk, hv⟩, hw.2⟩
      · rename_i h1 h2
        simp only [wfFrom, Bool.and_eq_true, decide_eq_true_eq]
        exact ⟨hw.1, ih (by omega) hw.2⟩

theorem wfFrom_erase (d : Nat → α) {lo k : Nat} {m : SMap α}
    (hw : wfFrom d lo m = true) : wfFrom d lo (erase k m) = true := by
  induction m generalizing lo with
  | nil => rfl
  | cons p m ih =>
    obtain ⟨k', v'⟩ := p
    simp only [wfFrom, Bool.and_eq_true, decide_eq_true_eq] at hw
    simp only [erase]
    split
    · exact wfFrom_mono d (by omega) (ih hw.2)
    · simp only [wfFrom, Bool.and_eq_true, decide_eq_true_eq]
      exact ⟨hw.1, ih hw.2⟩

/-- Every write keeps the canonical form. -/
theorem wf_set (d : Nat → α) {m : SMap α} (k : Nat) (v : α) (hw : wf d m = true) :
    wf d (set d m k v) = true := by
  unfold wf set at *
  split
  · exact wfFrom_erase d hw
  · rename_i hv; exact wfFrom_insert d hv (Nat.zero_le _) hw

end Sys2Proof.SMap
end

