-- ==== Sys2Proof/Laws/Fields.lean ====
section
/-! SUPPORT. The laws of named fields: a read after a write of the same field, writes of other words
and of disjoint bits apart, and what each basic operation leaves alone. -/

namespace Sys2Proof.Machine

/-- A field lies in its 32-bit word. -/
def FRef.ok (f : FRef) : Prop := f.lo ≤ f.hi ∧ f.hi < 32

theorem FRef.ofWord_lt (f : FRef) (w : Word) : f.ofWord w < 2 ^ f.width :=
  Nat.mod_lt _ (Nat.two_pow_pos _)

theorem State.get_lt (s : State) (f : FRef) : s.get f < 2 ^ f.width := f.ofWord_lt _

/-- The parts of a word below, in and above a field. -/
theorem FRef.split (f : FRef) (w : Word) :
    w.toNat = w.toNat / 2 ^ f.lo / 2 ^ f.width * 2 ^ f.width * 2 ^ f.lo
      + f.ofWord w * 2 ^ f.lo + w.toNat % 2 ^ f.lo := by
  unfold FRef.ofWord
  have h1 := Nat.div_add_mod w.toNat (2 ^ f.lo)
  have h2 := Nat.div_add_mod (w.toNat / 2 ^ f.lo) (2 ^ f.width)
  calc w.toNat = 2 ^ f.lo * (w.toNat / 2 ^ f.lo) + w.toNat % 2 ^ f.lo := h1.symm
    _ = 2 ^ f.lo * (2 ^ f.width * (w.toNat / 2 ^ f.lo / 2 ^ f.width)
          + w.toNat / 2 ^ f.lo % 2 ^ f.width) + w.toNat % 2 ^ f.lo := by rw [h2]
    _ = _ := by ring

/-- The number that a write of a field spells, before it is held as a word. -/
theorem FRef.inWord_toNat (f : FRef) (hf : f.ok) (w : Word) (v : Nat) :
    (f.inWord w v).toNat = w.toNat / 2 ^ f.lo / 2 ^ f.width * 2 ^ f.width * 2 ^ f.lo
      + v % 2 ^ f.width * 2 ^ f.lo + w.toNat % 2 ^ f.lo := by
  have hs := f.split w
  have hv : v % 2 ^ f.width < 2 ^ f.width := Nat.mod_lt _ (Nat.two_pow_pos _)
  have hw := w.isLt
  have hlo : w.toNat % 2 ^ f.lo < 2 ^ f.lo := Nat.mod_lt _ (Nat.two_pow_pos _)
  have hsum : f.lo + f.width + (32 - (f.lo + f.width)) = 32 := by
    unfold FRef.width; have := hf.1; have := hf.2; omega
  have hq : w.toNat / 2 ^ f.lo / 2 ^ f.width < 2 ^ (32 - (f.lo + f.width)) := by
    rw [Nat.div_div_eq_div_mul, ← pow_add]
    apply Nat.div_lt_of_lt_mul
    rw [← pow_add, hsum]; exact hw
  have hb : w.toNat / 2 ^ f.lo / 2 ^ f.width * 2 ^ f.width * 2 ^ f.lo
      + v % 2 ^ f.width * 2 ^ f.lo + w.toNat % 2 ^ f.lo < 2 ^ 32 := by
    generalize w.toNat / 2 ^ f.lo / 2 ^ f.width = q at *
    generalize w.toNat % 2 ^ f.lo = r at *
    generalize v % 2 ^ f.width = x at *
    have e : (2:Nat) ^ 32 = 2 ^ (32 - (f.lo + f.width)) * 2 ^ f.width * 2 ^ f.lo := by
      rw [mul_assoc, ← pow_add, ← pow_add]; congr 1; omega
    rw [e]
    have a1 : q * 2 ^ f.width + x < 2 ^ (32 - (f.lo + f.width)) * 2 ^ f.width := by
      calc q * 2 ^ f.width + x < q * 2 ^ f.width + 2 ^ f.width := by omega
        _ = (q + 1) * 2 ^ f.width := by ring
        _ ≤ _ := Nat.mul_le_mul_right _ hq
    calc q * 2 ^ f.width * 2 ^ f.lo + x * 2 ^ f.lo + r
        < q * 2 ^ f.width * 2 ^ f.lo + x * 2 ^ f.lo + 2 ^ f.lo := by omega
      _ = (q * 2 ^ f.width + x + 1) * 2 ^ f.lo := by ring
      _ ≤ _ := Nat.mul_le_mul_right _ a1
  unfold FRef.inWord
  rw [BitVec.toNat_ofNat]
  have hsub : w.toNat - f.ofWord w * 2 ^ f.lo + v % 2 ^ f.width * 2 ^ f.lo
      = w.toNat / 2 ^ f.lo / 2 ^ f.width * 2 ^ f.width * 2 ^ f.lo
        + v % 2 ^ f.width * 2 ^ f.lo + w.toNat % 2 ^ f.lo := by
    omega
  rw [hsub]
  exact Nat.mod_eq_of_lt hb

/-- A field just written reads as the low bits of the value. -/
theorem FRef.ofWord_inWord (f : FRef) (hf : f.ok) (w : Word) (v : Nat) :
    f.ofWord (f.inWord w v) = v % 2 ^ f.width := by
  unfold FRef.ofWord
  rw [f.inWord_toNat hf]
  have hlo : w.toNat % 2 ^ f.lo < 2 ^ f.lo := Nat.mod_lt _ (Nat.two_pow_pos _)
  generalize w.toNat / 2 ^ f.lo / 2 ^ f.width = q
  generalize w.toNat % 2 ^ f.lo = r at *
  have e : q * 2 ^ f.width * 2 ^ f.lo + v % 2 ^ f.width * 2 ^ f.lo + r
      = r + (v % 2 ^ f.width + q * 2 ^ f.width) * 2 ^ f.lo := by ring
  rw [e, Nat.add_mul_div_right _ _ (Nat.two_pow_pos _), Nat.div_eq_of_lt hlo, Nat.zero_add,
    Nat.add_mul_mod_self_right, Nat.mod_mod]

/-- A write of a field leaves a field of disjoint bits of the word alone. -/
theorem FRef.ofWord_inWord_disj (f g : FRef) (hf : f.ok) (hg : g.ok)
    (h : f.hi < g.lo ∨ g.hi < f.lo) (w : Word) (v : Nat) :
    g.ofWord (f.inWord w v) = g.ofWord w := by
  have hw := f.split w
  have hi := f.inWord_toNat hf w v
  have hlo : w.toNat % 2 ^ f.lo < 2 ^ f.lo := Nat.mod_lt _ (Nat.two_pow_pos _)
  have hv : v % 2 ^ f.width < 2 ^ f.width := Nat.mod_lt _ (Nat.two_pow_pos _)
  have ho : f.ofWord w < 2 ^ f.width := f.ofWord_lt w
  have hwd : f.lo + f.width = f.hi + 1 := by unfold FRef.width; have := hf.1; omega
  generalize hq : w.toNat / 2 ^ f.lo / 2 ^ f.width = q at *
  generalize hr : w.toNat % 2 ^ f.lo = r at *
  generalize hx : v % 2 ^ f.width = x at *
  generalize hy : f.ofWord w = y at *
  unfold FRef.ofWord
  rw [hi, hw]
  rcases h with h | h
  · -- `g` above `f`
    have key : ∀ z, z < 2 ^ f.width →
        (q * 2 ^ f.width * 2 ^ f.lo + z * 2 ^ f.lo + r) / 2 ^ g.lo = q / 2 ^ (g.lo - (f.hi + 1)) := by
      intro z hz
      have hlt : z * 2 ^ f.lo + r < 2 ^ (f.hi + 1) := by
        rw [← hwd, pow_add, mul_comm (2 ^ f.lo)]
        calc z * 2 ^ f.lo + r < z * 2 ^ f.lo + 2 ^ f.lo := by omega
          _ = (z + 1) * 2 ^ f.lo := by ring
          _ ≤ _ := Nat.mul_le_mul_right _ hz
      have e : q * 2 ^ f.width * 2 ^ f.lo + z * 2 ^ f.lo + r
          = z * 2 ^ f.lo + r + q * 2 ^ (f.hi + 1) := by rw [← hwd, pow_add]; ring
      have e2 : (2:Nat) ^ g.lo = 2 ^ (f.hi + 1) * 2 ^ (g.lo - (f.hi + 1)) := by
        rw [← pow_add]; congr 1; omega
      rw [e, e2, ← Nat.div_div_eq_div_mul, Nat.add_mul_div_right _ _ (Nat.two_pow_pos _),
        Nat.div_eq_of_lt hlt, Nat.zero_add]
    rw [key x hv, key y ho]
  · -- `g` below `f`
    have hgw : g.lo + g.width = g.hi + 1 := by unfold FRef.width; have := hg.1; omega
    have key : ∀ z, (q * 2 ^ f.width * 2 ^ f.lo + z * 2 ^ f.lo + r) / 2 ^ g.lo % 2 ^ g.width
        = r / 2 ^ g.lo % 2 ^ g.width := by
      intro z
      have e : q * 2 ^ f.width * 2 ^ f.lo + z * 2 ^ f.lo + r
          = r + ((q * 2 ^ f.width + z) * 2 ^ (f.lo - (g.hi + 1)) * 2 ^ g.width) * 2 ^ g.lo := by
        have e2 : (2:Nat) ^ f.lo = 2 ^ (f.lo - (g.hi + 1)) * 2 ^ g.width * 2 ^ g.lo := by
          rw [mul_assoc, ← pow_add, ← pow_add]; congr 1; omega
        have : q * 2 ^ f.width * 2 ^ f.lo + z * 2 ^ f.lo + r
          = r + (q * 2 ^ f.width + z) * 2 ^ f.lo := by ring
        rw [this, e2]; ring
      rw [e, Nat.add_mul_div_right _ _ (Nat.two_pow_pos _), Nat.add_mul_mod_self_right]
    rw [key x, key y]

@[simp] theorem State.word_setWord_same (s : State) (a : Nat) (w : Word) :
    (s.setWord a w).word a = w := SMap.get_set_same _ _ _ _

theorem State.word_setWord_ne (s : State) {a b : Nat} (w : Word) (h : b ≠ a) :
    (s.setWord a w).word b = s.word b := SMap.get_set_ne _ _ _ h

/-- A field just put reads as the low bits of the value. -/
theorem State.get_put_same (s : State) (f : FRef) (hf : f.ok) (v : Nat) :
    (s.put f v).get f = v % 2 ^ f.width := by
  unfold State.get State.put
  rw [State.word_setWord_same, f.ofWord_inWord hf]

/-- A put leaves the fields of other words alone. -/
theorem State.get_put_ne (s : State) (f g : FRef) (h : g.addr ≠ f.addr) (v : Nat) :
    (s.put f v).get g = s.get g := by
  unfold State.get State.put
  rw [State.word_setWord_ne _ _ h]

/-- A put leaves disjoint bits of its word alone. -/
theorem State.get_put_disj (s : State) (f g : FRef) (hf : f.ok) (hg : g.ok)
    (h : f.hi < g.lo ∨ g.hi < f.lo) (v : Nat) : (s.put f v).get g = s.get g := by
  by_cases ha : g.addr = f.addr
  · unfold State.get State.put
    rw [ha, State.word_setWord_same, f.ofWord_inWord_disj g hf hg h]
  · exact s.get_put_ne f g ha v

end Sys2Proof.Machine
end

