-- ==== Sys2Proof/Laws/State.lean ====
section
/-! SUPPORT. Each named update of State, field by field: what it leaves, and what it writes. -/

namespace Sys2Proof.Machine

/-! ### Registers -/

@[simp] theorem State.setWord_obs (s : State) (a : Nat) (w : Word) : (s.setWord a w).obs = s.obs := rfl
@[simp] theorem State.setWord_time (s : State) (a : Nat) (w : Word) : (s.setWord a w).time = s.time := rfl
@[simp] theorem State.setWord_nvm (s : State) (a : Nat) (w : Word) : (s.setWord a w).nvm = s.nvm := rfl
@[simp] theorem State.setWord_glass (s : State) (a : Nat) (w : Word) : (s.setWord a w).glass = s.glass := rfl
@[simp] theorem State.setWord_mgmt (s : State) (a : Nat) (w : Word) : (s.setWord a w).mgmt = s.mgmt := rfl
@[simp] theorem State.setWord_cis (s : State) (a : Nat) (w : Word) : (s.setWord a w).cis = s.cis := rfl
@[simp] theorem State.setWord_fwd (s : State) (a : Nat) (w : Word) : (s.setWord a w).fwd = s.fwd := rfl
@[simp] theorem State.setWord_mem (s : State) (a : Nat) (w : Word) : (s.setWord a w).mem = s.mem := rfl
@[simp] theorem State.setWord_col (s : State) (a : Nat) (w : Word) : (s.setWord a w).col = s.col := rfl
@[simp] theorem State.setWord_bsn (s : State) (a : Nat) (w : Word) : (s.setWord a w).bsn = s.bsn := rfl
@[simp] theorem State.setWord_hlth (s : State) (a : Nat) (w : Word) : (s.setWord a w).hlth = s.hlth := rfl
@[simp] theorem State.setWord_ports (s : State) (a : Nat) (w : Word) : (s.setWord a w).ports = s.ports := rfl
@[simp] theorem State.setWord_lcQ (s : State) (a : Nat) (w : Word) : (s.setWord a w).lcQ = s.lcQ := rfl
@[simp] theorem State.setWord_cages (s : State) (a : Nat) (w : Word) : (s.setWord a w).cages = s.cages := rfl
@[simp] theorem State.setWord_pwr (s : State) (a : Nat) (w : Word) : (s.setWord a w).pwr = s.pwr := rfl
@[simp] theorem State.setWord_board (s : State) (a : Nat) (w : Word) : (s.setWord a w).board = s.board := rfl
@[simp] theorem State.setWord_freeCtr (s : State) (a : Nat) (w : Word) : (s.setWord a w).freeCtr = s.freeCtr := rfl
@[simp] theorem State.setWord_pending (s : State) (a : Nat) (w : Word) : (s.setWord a w).pending = s.pending := rfl
@[simp] theorem State.setWord_setNow (s : State) (a : Nat) (w : Word) : (s.setWord a w).setNow = s.setNow := rfl
@[simp] theorem State.put_obs (s : State) (f : FRef) (v : Nat) : (s.put f v).obs = s.obs := rfl
@[simp] theorem State.put_time (s : State) (f : FRef) (v : Nat) : (s.put f v).time = s.time := rfl
@[simp] theorem State.put_nvm (s : State) (f : FRef) (v : Nat) : (s.put f v).nvm = s.nvm := rfl
@[simp] theorem State.put_glass (s : State) (f : FRef) (v : Nat) : (s.put f v).glass = s.glass := rfl
@[simp] theorem State.put_mgmt (s : State) (f : FRef) (v : Nat) : (s.put f v).mgmt = s.mgmt := rfl
@[simp] theorem State.put_cis (s : State) (f : FRef) (v : Nat) : (s.put f v).cis = s.cis := rfl
@[simp] theorem State.put_fwd (s : State) (f : FRef) (v : Nat) : (s.put f v).fwd = s.fwd := rfl
@[simp] theorem State.put_mem (s : State) (f : FRef) (v : Nat) : (s.put f v).mem = s.mem := rfl
@[simp] theorem State.put_col (s : State) (f : FRef) (v : Nat) : (s.put f v).col = s.col := rfl
@[simp] theorem State.put_bsn (s : State) (f : FRef) (v : Nat) : (s.put f v).bsn = s.bsn := rfl
@[simp] theorem State.put_hlth (s : State) (f : FRef) (v : Nat) : (s.put f v).hlth = s.hlth := rfl
@[simp] theorem State.put_ports (s : State) (f : FRef) (v : Nat) : (s.put f v).ports = s.ports := rfl
@[simp] theorem State.put_lcQ (s : State) (f : FRef) (v : Nat) : (s.put f v).lcQ = s.lcQ := rfl
@[simp] theorem State.put_cages (s : State) (f : FRef) (v : Nat) : (s.put f v).cages = s.cages := rfl
@[simp] theorem State.put_pwr (s : State) (f : FRef) (v : Nat) : (s.put f v).pwr = s.pwr := rfl
@[simp] theorem State.put_board (s : State) (f : FRef) (v : Nat) : (s.put f v).board = s.board := rfl
@[simp] theorem State.put_freeCtr (s : State) (f : FRef) (v : Nat) : (s.put f v).freeCtr = s.freeCtr := rfl
@[simp] theorem State.put_pending (s : State) (f : FRef) (v : Nat) : (s.put f v).pending = s.pending := rfl
@[simp] theorem State.put_setNow (s : State) (f : FRef) (v : Nat) : (s.put f v).setNow = s.setNow := rfl
@[simp] theorem State.orBits_obs (s : State) (f : FRef) (v : Nat) : (s.orBits f v).obs = s.obs := rfl
@[simp] theorem State.orBits_time (s : State) (f : FRef) (v : Nat) : (s.orBits f v).time = s.time := rfl
@[simp] theorem State.orBits_nvm (s : State) (f : FRef) (v : Nat) : (s.orBits f v).nvm = s.nvm := rfl
@[simp] theorem State.orBits_glass (s : State) (f : FRef) (v : Nat) : (s.orBits f v).glass = s.glass := rfl
@[simp] theorem State.orBits_mgmt (s : State) (f : FRef) (v : Nat) : (s.orBits f v).mgmt = s.mgmt := rfl
@[simp] theorem State.orBits_cis (s : State) (f : FRef) (v : Nat) : (s.orBits f v).cis = s.cis := rfl
@[simp] theorem State.orBits_fwd (s : State) (f : FRef) (v : Nat) : (s.orBits f v).fwd = s.fwd := rfl
@[simp] theorem State.orBits_mem (s : State) (f : FRef) (v : Nat) : (s.orBits f v).mem = s.mem := rfl
@[simp] theorem State.orBits_col (s : State) (f : FRef) (v : Nat) : (s.orBits f v).col = s.col := rfl
@[simp] theorem State.orBits_bsn (s : State) (f : FRef) (v : Nat) : (s.orBits f v).bsn = s.bsn := rfl
@[simp] theorem State.orBits_hlth (s : State) (f : FRef) (v : Nat) : (s.orBits f v).hlth = s.hlth := rfl
@[simp] theorem State.orBits_ports (s : State) (f : FRef) (v : Nat) : (s.orBits f v).ports = s.ports := rfl
@[simp] theorem State.orBits_lcQ (s : State) (f : FRef) (v : Nat) : (s.orBits f v).lcQ = s.lcQ := rfl
@[simp] theorem State.orBits_cages (s : State) (f : FRef) (v : Nat) : (s.orBits f v).cages = s.cages := rfl
@[simp] theorem State.orBits_pwr (s : State) (f : FRef) (v : Nat) : (s.orBits f v).pwr = s.pwr := rfl
@[simp] theorem State.orBits_board (s : State) (f : FRef) (v : Nat) : (s.orBits f v).board = s.board := rfl
@[simp] theorem State.orBits_freeCtr (s : State) (f : FRef) (v : Nat) : (s.orBits f v).freeCtr = s.freeCtr := rfl
@[simp] theorem State.orBits_pending (s : State) (f : FRef) (v : Nat) : (s.orBits f v).pending = s.pending := rfl

/-! ### What leaves the part, counters and log requests -/

@[simp] theorem State.emit_bar (s : State) (e : Emit) : (s.emit e).bar = s.bar := rfl
@[simp] theorem State.emit_time (s : State) (e : Emit) : (s.emit e).time = s.time := rfl
@[simp] theorem State.emit_nvm (s : State) (e : Emit) : (s.emit e).nvm = s.nvm := rfl
@[simp] theorem State.emit_glass (s : State) (e : Emit) : (s.emit e).glass = s.glass := rfl
@[simp] theorem State.emit_mgmt (s : State) (e : Emit) : (s.emit e).mgmt = s.mgmt := rfl
@[simp] theorem State.emit_cis (s : State) (e : Emit) : (s.emit e).cis = s.cis := rfl
@[simp] theorem State.emit_fwd (s : State) (e : Emit) : (s.emit e).fwd = s.fwd := rfl
@[simp] theorem State.emit_mem (s : State) (e : Emit) : (s.emit e).mem = s.mem := rfl
@[simp] theorem State.emit_col (s : State) (e : Emit) : (s.emit e).col = s.col := rfl
@[simp] theorem State.emit_bsn (s : State) (e : Emit) : (s.emit e).bsn = s.bsn := rfl
@[simp] theorem State.emit_hlth (s : State) (e : Emit) : (s.emit e).hlth = s.hlth := rfl
@[simp] theorem State.emit_ports (s : State) (e : Emit) : (s.emit e).ports = s.ports := rfl
@[simp] theorem State.emit_lcQ (s : State) (e : Emit) : (s.emit e).lcQ = s.lcQ := rfl
@[simp] theorem State.emit_cages (s : State) (e : Emit) : (s.emit e).cages = s.cages := rfl
@[simp] theorem State.emit_pwr (s : State) (e : Emit) : (s.emit e).pwr = s.pwr := rfl
@[simp] theorem State.emit_board (s : State) (e : Emit) : (s.emit e).board = s.board := rfl
@[simp] theorem State.emit_freeCtr (s : State) (e : Emit) : (s.emit e).freeCtr = s.freeCtr := rfl
@[simp] theorem State.emit_pending (s : State) (e : Emit) : (s.emit e).pending = s.pending := rfl
@[simp] theorem State.emit_setNow (s : State) (e : Emit) : (s.emit e).setNow = s.setNow := rfl
@[simp] theorem State.countIn_bar (s : State) (p : Nat → Bool) (ev n : Nat) : (s.countIn p ev n).bar = s.bar := rfl
@[simp] theorem State.countIn_time (s : State) (p : Nat → Bool) (ev n : Nat) : (s.countIn p ev n).time = s.time := rfl
@[simp] theorem State.countIn_nvm (s : State) (p : Nat → Bool) (ev n : Nat) : (s.countIn p ev n).nvm = s.nvm := rfl
@[simp] theorem State.countIn_glass (s : State) (p : Nat → Bool) (ev n : Nat) : (s.countIn p ev n).glass = s.glass := rfl
@[simp] theorem State.countIn_mgmt (s : State) (p : Nat → Bool) (ev n : Nat) : (s.countIn p ev n).mgmt = s.mgmt := rfl
@[simp] theorem State.countIn_cis (s : State) (p : Nat → Bool) (ev n : Nat) : (s.countIn p ev n).cis = s.cis := rfl
@[simp] theorem State.countIn_fwd (s : State) (p : Nat → Bool) (ev n : Nat) : (s.countIn p ev n).fwd = s.fwd := rfl
@[simp] theorem State.countIn_mem (s : State) (p : Nat → Bool) (ev n : Nat) : (s.countIn p ev n).mem = s.mem := rfl
@[simp] theorem State.countIn_col (s : State) (p : Nat → Bool) (ev n : Nat) : (s.countIn p ev n).col = s.col := rfl
@[simp] theorem State.countIn_bsn (s : State) (p : Nat → Bool) (ev n : Nat) : (s.countIn p ev n).bsn = s.bsn := rfl
@[simp] theorem State.countIn_hlth (s : State) (p : Nat → Bool) (ev n : Nat) : (s.countIn p ev n).hlth = s.hlth := rfl
@[simp] theorem State.countIn_ports (s : State) (p : Nat → Bool) (ev n : Nat) : (s.countIn p ev n).ports = s.ports := rfl
@[simp] theorem State.countIn_lcQ (s : State) (p : Nat → Bool) (ev n : Nat) : (s.countIn p ev n).lcQ = s.lcQ := rfl
@[simp] theorem State.countIn_cages (s : State) (p : Nat → Bool) (ev n : Nat) : (s.countIn p ev n).cages = s.cages := rfl
@[simp] theorem State.countIn_pwr (s : State) (p : Nat → Bool) (ev n : Nat) : (s.countIn p ev n).pwr = s.pwr := rfl
@[simp] theorem State.countIn_board (s : State) (p : Nat → Bool) (ev n : Nat) : (s.countIn p ev n).board = s.board := rfl
@[simp] theorem State.countIn_freeCtr (s : State) (p : Nat → Bool) (ev n : Nat) : (s.countIn p ev n).freeCtr = s.freeCtr := rfl
@[simp] theorem State.countIn_pending (s : State) (p : Nat → Bool) (ev n : Nat) : (s.countIn p ev n).pending = s.pending := rfl
@[simp] theorem State.countIn_setNow (s : State) (p : Nat → Bool) (ev n : Nat) : (s.countIn p ev n).setNow = s.setNow := rfl
/-- A log report changes the observation state and nothing else. -/
theorem State.logReport_obs (s : State) (c p i x y : Nat) : ∃ o, s.logReport c p i x y = { s with obs := o } := by
  unfold State.logReport
  dsimp only
  split
  · exact ⟨_, rfl⟩
  · split <;> exact ⟨_, rfl⟩
@[simp] theorem State.logReport_bar (s : State) (c p i x y : Nat) : (s.logReport c p i x y).bar = s.bar := by obtain ⟨o, h⟩ := s.logReport_obs c p i x y; rw [h]
@[simp] theorem State.logReport_time (s : State) (c p i x y : Nat) : (s.logReport c p i x y).time = s.time := by obtain ⟨o, h⟩ := s.logReport_obs c p i x y; rw [h]
@[simp] theorem State.logReport_nvm (s : State) (c p i x y : Nat) : (s.logReport c p i x y).nvm = s.nvm := by obtain ⟨o, h⟩ := s.logReport_obs c p i x y; rw [h]
@[simp] theorem State.logReport_glass (s : State) (c p i x y : Nat) : (s.logReport c p i x y).glass = s.glass := by obtain ⟨o, h⟩ := s.logReport_obs c p i x y; rw [h]
@[simp] theorem State.logReport_mgmt (s : State) (c p i x y : Nat) : (s.logReport c p i x y).mgmt = s.mgmt := by obtain ⟨o, h⟩ := s.logReport_obs c p i x y; rw [h]
@[simp] theorem State.logReport_cis (s : State) (c p i x y : Nat) : (s.logReport c p i x y).cis = s.cis := by obtain ⟨o, h⟩ := s.logReport_obs c p i x y; rw [h]
@[simp] theorem State.logReport_fwd (s : State) (c p i x y : Nat) : (s.logReport c p i x y).fwd = s.fwd := by obtain ⟨o, h⟩ := s.logReport_obs c p i x y; rw [h]
@[simp] theorem State.logReport_mem (s : State) (c p i x y : Nat) : (s.logReport c p i x y).mem = s.mem := by obtain ⟨o, h⟩ := s.logReport_obs c p i x y; rw [h]
@[simp] theorem State.logReport_col (s : State) (c p i x y : Nat) : (s.logReport c p i x y).col = s.col := by obtain ⟨o, h⟩ := s.logReport_obs c p i x y; rw [h]
@[simp] theorem State.logReport_bsn (s : State) (c p i x y : Nat) : (s.logReport c p i x y).bsn = s.bsn := by obtain ⟨o, h⟩ := s.logReport_obs c p i x y; rw [h]
@[simp] theorem State.logReport_hlth (s : State) (c p i x y : Nat) : (s.logReport c p i x y).hlth = s.hlth := by obtain ⟨o, h⟩ := s.logReport_obs c p i x y; rw [h]
@[simp] theorem State.logReport_ports (s : State) (c p i x y : Nat) : (s.logReport c p i x y).ports = s.ports := by obtain ⟨o, h⟩ := s.logReport_obs c p i x y; rw [h]
@[simp] theorem State.logReport_lcQ (s : State) (c p i x y : Nat) : (s.logReport c p i x y).lcQ = s.lcQ := by obtain ⟨o, h⟩ := s.logReport_obs c p i x y; rw [h]
@[simp] theorem State.logReport_cages (s : State) (c p i x y : Nat) : (s.logReport c p i x y).cages = s.cages := by obtain ⟨o, h⟩ := s.logReport_obs c p i x y; rw [h]
@[simp] theorem State.logReport_pwr (s : State) (c p i x y : Nat) : (s.logReport c p i x y).pwr = s.pwr := by obtain ⟨o, h⟩ := s.logReport_obs c p i x y; rw [h]
@[simp] theorem State.logReport_board (s : State) (c p i x y : Nat) : (s.logReport c p i x y).board = s.board := by obtain ⟨o, h⟩ := s.logReport_obs c p i x y; rw [h]
@[simp] theorem State.logReport_freeCtr (s : State) (c p i x y : Nat) : (s.logReport c p i x y).freeCtr = s.freeCtr := by obtain ⟨o, h⟩ := s.logReport_obs c p i x y; rw [h]
@[simp] theorem State.logReport_pending (s : State) (c p i x y : Nat) : (s.logReport c p i x y).pending = s.pending := by obtain ⟨o, h⟩ := s.logReport_obs c p i x y; rw [h]
@[simp] theorem State.logReport_setNow (s : State) (c p i x y : Nat) : (s.logReport c p i x y).setNow = s.setNow := by obtain ⟨o, h⟩ := s.logReport_obs c p i x y; rw [h]
@[simp] theorem State.word_emit (s : State) (e : Emit) (a : Nat) : (s.emit e).word a = s.word a := rfl
@[simp] theorem State.get_emit (s : State) (e : Emit) (f : FRef) : (s.emit e).get f = s.get f := rfl
@[simp] theorem State.word_countIn (s : State) (p : Nat → Bool) (ev n a : Nat) : (s.countIn p ev n).word a = s.word a := rfl
@[simp] theorem State.get_countIn (s : State) (p : Nat → Bool) (ev n : Nat) (f : FRef) : (s.countIn p ev n).get f = s.get f := rfl
@[simp] theorem State.word_logReport (s : State) (c p i x y a : Nat) : (s.logReport c p i x y).word a = s.word a := by
  unfold State.word; simp
@[simp] theorem State.get_logReport (s : State) (c p i x y : Nat) (f : FRef) : (s.logReport c p i x y).get f = s.get f := by
  unfold State.get; simp
@[simp] theorem State.emit_out (s : State) (e : Emit) : (s.emit e).obs.out = e :: s.obs.out := rfl
@[simp] theorem State.emit_sel (s : State) (e : Emit) : (s.emit e).obs.sel = s.obs.sel := rfl
@[simp] theorem State.emit_cnt (s : State) (e : Emit) : (s.emit e).obs.cnt = s.obs.cnt := rfl
@[simp] theorem State.emit_wrap (s : State) (e : Emit) : (s.emit e).obs.wrap = s.obs.wrap := rfl
@[simp] theorem State.emit_latch (s : State) (e : Emit) : (s.emit e).obs.latch = s.obs.latch := rfl
@[simp] theorem State.emit_logQ (s : State) (e : Emit) : (s.emit e).obs.logQ = s.obs.logQ := rfl
@[simp] theorem State.emit_lostBefore (s : State) (e : Emit) : (s.emit e).obs.lostBefore = s.obs.lostBefore := rfl
@[simp] theorem State.emit_log (s : State) (e : Emit) : (s.emit e).obs.log = s.obs.log := rfl
@[simp] theorem State.emit_logHeld (s : State) (e : Emit) : (s.emit e).obs.logHeld = s.obs.logHeld := rfl
@[simp] theorem State.emit_sampleQ (s : State) (e : Emit) : (s.emit e).obs.sampleQ = s.obs.sampleQ := rfl
@[simp] theorem State.emit_samples (s : State) (e : Emit) : (s.emit e).obs.samples = s.obs.samples := rfl
@[simp] theorem State.emit_sampleSeq (s : State) (e : Emit) : (s.emit e).obs.sampleSeq = s.obs.sampleSeq := rfl
@[simp] theorem State.emit_snap (s : State) (e : Emit) : (s.emit e).obs.snap = s.obs.snap := rfl
@[simp] theorem State.emit_snapNext (s : State) (e : Emit) : (s.emit e).obs.snapNext = s.obs.snapNext := rfl
@[simp] theorem State.emit_snapLate (s : State) (e : Emit) : (s.emit e).obs.snapLate = s.obs.snapLate := rfl
@[simp] theorem State.emit_vpend (s : State) (e : Emit) : (s.emit e).obs.vpend = s.obs.vpend := rfl

/-! ### Tables of the blocks -/

@[simp] theorem State.setPort_bar (s : State) (p : Nat) (v : PortSt) : (s.setPort p v).bar = s.bar := rfl
@[simp] theorem State.setPort_obs (s : State) (p : Nat) (v : PortSt) : (s.setPort p v).obs = s.obs := rfl
@[simp] theorem State.setPort_time (s : State) (p : Nat) (v : PortSt) : (s.setPort p v).time = s.time := rfl
@[simp] theorem State.setPort_nvm (s : State) (p : Nat) (v : PortSt) : (s.setPort p v).nvm = s.nvm := rfl
@[simp] theorem State.setPort_glass (s : State) (p : Nat) (v : PortSt) : (s.setPort p v).glass = s.glass := rfl
@[simp] theorem State.setPort_mgmt (s : State) (p : Nat) (v : PortSt) : (s.setPort p v).mgmt = s.mgmt := rfl
@[simp] theorem State.setPort_cis (s : State) (p : Nat) (v : PortSt) : (s.setPort p v).cis = s.cis := rfl
@[simp] theorem State.setPort_fwd (s : State) (p : Nat) (v : PortSt) : (s.setPort p v).fwd = s.fwd := rfl
@[simp] theorem State.setPort_mem (s : State) (p : Nat) (v : PortSt) : (s.setPort p v).mem = s.mem := rfl
@[simp] theorem State.setPort_col (s : State) (p : Nat) (v : PortSt) : (s.setPort p v).col = s.col := rfl
@[simp] theorem State.setPort_bsn (s : State) (p : Nat) (v : PortSt) : (s.setPort p v).bsn = s.bsn := rfl
@[simp] theorem State.setPort_hlth (s : State) (p : Nat) (v : PortSt) : (s.setPort p v).hlth = s.hlth := rfl
@[simp] theorem State.setPort_lcQ (s : State) (p : Nat) (v : PortSt) : (s.setPort p v).lcQ = s.lcQ := rfl
@[simp] theorem State.setPort_cages (s : State) (p : Nat) (v : PortSt) : (s.setPort p v).cages = s.cages := rfl
@[simp] theorem State.setPort_pwr (s : State) (p : Nat) (v : PortSt) : (s.setPort p v).pwr = s.pwr := rfl
@[simp] theorem State.setPort_board (s : State) (p : Nat) (v : PortSt) : (s.setPort p v).board = s.board := rfl
@[simp] theorem State.setPort_freeCtr (s : State) (p : Nat) (v : PortSt) : (s.setPort p v).freeCtr = s.freeCtr := rfl
@[simp] theorem State.setPort_pending (s : State) (p : Nat) (v : PortSt) : (s.setPort p v).pending = s.pending := rfl
@[simp] theorem State.setPort_setNow (s : State) (p : Nat) (v : PortSt) : (s.setPort p v).setNow = s.setNow := rfl
@[simp] theorem State.setPkt_bar (s : State) (i : Nat) (v : Option Pkt) : (s.setPkt i v).bar = s.bar := rfl
@[simp] theorem State.setPkt_obs (s : State) (i : Nat) (v : Option Pkt) : (s.setPkt i v).obs = s.obs := rfl
@[simp] theorem State.setPkt_time (s : State) (i : Nat) (v : Option Pkt) : (s.setPkt i v).time = s.time := rfl
@[simp] theorem State.setPkt_nvm (s : State) (i : Nat) (v : Option Pkt) : (s.setPkt i v).nvm = s.nvm := rfl
@[simp] theorem State.setPkt_glass (s : State) (i : Nat) (v : Option Pkt) : (s.setPkt i v).glass = s.glass := rfl
@[simp] theorem State.setPkt_mgmt (s : State) (i : Nat) (v : Option Pkt) : (s.setPkt i v).mgmt = s.mgmt := rfl
@[simp] theorem State.setPkt_fwd (s : State) (i : Nat) (v : Option Pkt) : (s.setPkt i v).fwd = s.fwd := rfl
@[simp] theorem State.setPkt_mem (s : State) (i : Nat) (v : Option Pkt) : (s.setPkt i v).mem = s.mem := rfl
@[simp] theorem State.setPkt_col (s : State) (i : Nat) (v : Option Pkt) : (s.setPkt i v).col = s.col := rfl
@[simp] theorem State.setPkt_bsn (s : State) (i : Nat) (v : Option Pkt) : (s.setPkt i v).bsn = s.bsn := rfl
@[simp] theorem State.setPkt_hlth (s : State) (i : Nat) (v : Option Pkt) : (s.setPkt i v).hlth = s.hlth := rfl
@[simp] theorem State.setPkt_ports (s : State) (i : Nat) (v : Option Pkt) : (s.setPkt i v).ports = s.ports := rfl
@[simp] theorem State.setPkt_lcQ (s : State) (i : Nat) (v : Option Pkt) : (s.setPkt i v).lcQ = s.lcQ := rfl
@[simp] theorem State.setPkt_cages (s : State) (i : Nat) (v : Option Pkt) : (s.setPkt i v).cages = s.cages := rfl
@[simp] theorem State.setPkt_pwr (s : State) (i : Nat) (v : Option Pkt) : (s.setPkt i v).pwr = s.pwr := rfl
@[simp] theorem State.setPkt_board (s : State) (i : Nat) (v : Option Pkt) : (s.setPkt i v).board = s.board := rfl
@[simp] theorem State.setPkt_freeCtr (s : State) (i : Nat) (v : Option Pkt) : (s.setPkt i v).freeCtr = s.freeCtr := rfl
@[simp] theorem State.setPkt_pending (s : State) (i : Nat) (v : Option Pkt) : (s.setPkt i v).pending = s.pending := rfl
@[simp] theorem State.setPkt_setNow (s : State) (i : Nat) (v : Option Pkt) : (s.setPkt i v).setNow = s.setNow := rfl
@[simp] theorem State.setQueue_bar (s : State) (p q : Nat) (v : QueueSt) : (s.setQueue p q v).bar = s.bar := rfl
@[simp] theorem State.setQueue_obs (s : State) (p q : Nat) (v : QueueSt) : (s.setQueue p q v).obs = s.obs := rfl
@[simp] theorem State.setQueue_time (s : State) (p q : Nat) (v : QueueSt) : (s.setQueue p q v).time = s.time := rfl
@[simp] theorem State.setQueue_nvm (s : State) (p q : Nat) (v : QueueSt) : (s.setQueue p q v).nvm = s.nvm := rfl
@[simp] theorem State.setQueue_glass (s : State) (p q : Nat) (v : QueueSt) : (s.setQueue p q v).glass = s.glass := rfl
@[simp] theorem State.setQueue_mgmt (s : State) (p q : Nat) (v : QueueSt) : (s.setQueue p q v).mgmt = s.mgmt := rfl
@[simp] theorem State.setQueue_fwd (s : State) (p q : Nat) (v : QueueSt) : (s.setQueue p q v).fwd = s.fwd := rfl
@[simp] theorem State.setQueue_mem (s : State) (p q : Nat) (v : QueueSt) : (s.setQueue p q v).mem = s.mem := rfl
@[simp] theorem State.setQueue_col (s : State) (p q : Nat) (v : QueueSt) : (s.setQueue p q v).col = s.col := rfl
@[simp] theorem State.setQueue_bsn (s : State) (p q : Nat) (v : QueueSt) : (s.setQueue p q v).bsn = s.bsn := rfl
@[simp] theorem State.setQueue_hlth (s : State) (p q : Nat) (v : QueueSt) : (s.setQueue p q v).hlth = s.hlth := rfl
@[simp] theorem State.setQueue_ports (s : State) (p q : Nat) (v : QueueSt) : (s.setQueue p q v).ports = s.ports := rfl
@[simp] theorem State.setQueue_lcQ (s : State) (p q : Nat) (v : QueueSt) : (s.setQueue p q v).lcQ = s.lcQ := rfl
@[simp] theorem State.setQueue_cages (s : State) (p q : Nat) (v : QueueSt) : (s.setQueue p q v).cages = s.cages := rfl
@[simp] theorem State.setQueue_pwr (s : State) (p q : Nat) (v : QueueSt) : (s.setQueue p q v).pwr = s.pwr := rfl
@[simp] theorem State.setQueue_board (s : State) (p q : Nat) (v : QueueSt) : (s.setQueue p q v).board = s.board := rfl
@[simp] theorem State.setQueue_freeCtr (s : State) (p q : Nat) (v : QueueSt) : (s.setQueue p q v).freeCtr = s.freeCtr := rfl
@[simp] theorem State.setQueue_pending (s : State) (p q : Nat) (v : QueueSt) : (s.setQueue p q v).pending = s.pending := rfl
@[simp] theorem State.setQueue_setNow (s : State) (p q : Nat) (v : QueueSt) : (s.setQueue p q v).setNow = s.setNow := rfl
@[simp] theorem State.setCtx_bar (s : State) (c : Nat) (v : CtxSt) : (s.setCtx c v).bar = s.bar := rfl
@[simp] theorem State.setCtx_obs (s : State) (c : Nat) (v : CtxSt) : (s.setCtx c v).obs = s.obs := rfl
@[simp] theorem State.setCtx_time (s : State) (c : Nat) (v : CtxSt) : (s.setCtx c v).time = s.time := rfl
@[simp] theorem State.setCtx_nvm (s : State) (c : Nat) (v : CtxSt) : (s.setCtx c v).nvm = s.nvm := rfl
@[simp] theorem State.setCtx_glass (s : State) (c : Nat) (v : CtxSt) : (s.setCtx c v).glass = s.glass := rfl
@[simp] theorem State.setCtx_mgmt (s : State) (c : Nat) (v : CtxSt) : (s.setCtx c v).mgmt = s.mgmt := rfl
@[simp] theorem State.setCtx_cis (s : State) (c : Nat) (v : CtxSt) : (s.setCtx c v).cis = s.cis := rfl
@[simp] theorem State.setCtx_fwd (s : State) (c : Nat) (v : CtxSt) : (s.setCtx c v).fwd = s.fwd := rfl
@[simp] theorem State.setCtx_mem (s : State) (c : Nat) (v : CtxSt) : (s.setCtx c v).mem = s.mem := rfl
@[simp] theorem State.setCtx_bsn (s : State) (c : Nat) (v : CtxSt) : (s.setCtx c v).bsn = s.bsn := rfl
@[simp] theorem State.setCtx_hlth (s : State) (c : Nat) (v : CtxSt) : (s.setCtx c v).hlth = s.hlth := rfl
@[simp] theorem State.setCtx_ports (s : State) (c : Nat) (v : CtxSt) : (s.setCtx c v).ports = s.ports := rfl
@[simp] theorem State.setCtx_lcQ (s : State) (c : Nat) (v : CtxSt) : (s.setCtx c v).lcQ = s.lcQ := rfl
@[simp] theorem State.setCtx_cages (s : State) (c : Nat) (v : CtxSt) : (s.setCtx c v).cages = s.cages := rfl
@[simp] theorem State.setCtx_pwr (s : State) (c : Nat) (v : CtxSt) : (s.setCtx c v).pwr = s.pwr := rfl
@[simp] theorem State.setCtx_board (s : State) (c : Nat) (v : CtxSt) : (s.setCtx c v).board = s.board := rfl
@[simp] theorem State.setCtx_freeCtr (s : State) (c : Nat) (v : CtxSt) : (s.setCtx c v).freeCtr = s.freeCtr := rfl
@[simp] theorem State.setCtx_pending (s : State) (c : Nat) (v : CtxSt) : (s.setCtx c v).pending = s.pending := rfl
@[simp] theorem State.setCtx_setNow (s : State) (c : Nat) (v : CtxSt) : (s.setCtx c v).setNow = s.setNow := rfl
@[simp] theorem State.setComm_bar (s : State) (m : Nat) (v : CommSt) : (s.setComm m v).bar = s.bar := rfl
@[simp] theorem State.setComm_obs (s : State) (m : Nat) (v : CommSt) : (s.setComm m v).obs = s.obs := rfl
@[simp] theorem State.setComm_time (s : State) (m : Nat) (v : CommSt) : (s.setComm m v).time = s.time := rfl
@[simp] theorem State.setComm_nvm (s : State) (m : Nat) (v : CommSt) : (s.setComm m v).nvm = s.nvm := rfl
@[simp] theorem State.setComm_glass (s : State) (m : Nat) (v : CommSt) : (s.setComm m v).glass = s.glass := rfl
@[simp] theorem State.setComm_mgmt (s : State) (m : Nat) (v : CommSt) : (s.setComm m v).mgmt = s.mgmt := rfl
@[simp] theorem State.setComm_cis (s : State) (m : Nat) (v : CommSt) : (s.setComm m v).cis = s.cis := rfl
@[simp] theorem State.setComm_fwd (s : State) (m : Nat) (v : CommSt) : (s.setComm m v).fwd = s.fwd := rfl
@[simp] theorem State.setComm_mem (s : State) (m : Nat) (v : CommSt) : (s.setComm m v).mem = s.mem := rfl
@[simp] theorem State.setComm_bsn (s : State) (m : Nat) (v : CommSt) : (s.setComm m v).bsn = s.bsn := rfl
@[simp] theorem State.setComm_hlth (s : State) (m : Nat) (v : CommSt) : (s.setComm m v).hlth = s.hlth := rfl
@[simp] theorem State.setComm_ports (s : State) (m : Nat) (v : CommSt) : (s.setComm m v).ports = s.ports := rfl
@[simp] theorem State.setComm_lcQ (s : State) (m : Nat) (v : CommSt) : (s.setComm m v).lcQ = s.lcQ := rfl
@[simp] theorem State.setComm_cages (s : State) (m : Nat) (v : CommSt) : (s.setComm m v).cages = s.cages := rfl
@[simp] theorem State.setComm_pwr (s : State) (m : Nat) (v : CommSt) : (s.setComm m v).pwr = s.pwr := rfl
@[simp] theorem State.setComm_board (s : State) (m : Nat) (v : CommSt) : (s.setComm m v).board = s.board := rfl
@[simp] theorem State.setComm_freeCtr (s : State) (m : Nat) (v : CommSt) : (s.setComm m v).freeCtr = s.freeCtr := rfl
@[simp] theorem State.setComm_pending (s : State) (m : Nat) (v : CommSt) : (s.setComm m v).pending = s.pending := rfl
@[simp] theorem State.setComm_setNow (s : State) (m : Nat) (v : CommSt) : (s.setComm m v).setNow = s.setNow := rfl
@[simp] theorem State.setCore_bar (s : State) (b k : Nat) (v : CoreSt) : (s.setCore b k v).bar = s.bar := rfl
@[simp] theorem State.setCore_obs (s : State) (b k : Nat) (v : CoreSt) : (s.setCore b k v).obs = s.obs := rfl
@[simp] theorem State.setCore_time (s : State) (b k : Nat) (v : CoreSt) : (s.setCore b k v).time = s.time := rfl
@[simp] theorem State.setCore_nvm (s : State) (b k : Nat) (v : CoreSt) : (s.setCore b k v).nvm = s.nvm := rfl
@[simp] theorem State.setCore_glass (s : State) (b k : Nat) (v : CoreSt) : (s.setCore b k v).glass = s.glass := rfl
@[simp] theorem State.setCore_mgmt (s : State) (b k : Nat) (v : CoreSt) : (s.setCore b k v).mgmt = s.mgmt := rfl
@[simp] theorem State.setCore_cis (s : State) (b k : Nat) (v : CoreSt) : (s.setCore b k v).cis = s.cis := rfl
@[simp] theorem State.setCore_fwd (s : State) (b k : Nat) (v : CoreSt) : (s.setCore b k v).fwd = s.fwd := rfl
@[simp] theorem State.setCore_mem (s : State) (b k : Nat) (v : CoreSt) : (s.setCore b k v).mem = s.mem := rfl
@[simp] theorem State.setCore_col (s : State) (b k : Nat) (v : CoreSt) : (s.setCore b k v).col = s.col := rfl
@[simp] theorem State.setCore_hlth (s : State) (b k : Nat) (v : CoreSt) : (s.setCore b k v).hlth = s.hlth := rfl
@[simp] theorem State.setCore_ports (s : State) (b k : Nat) (v : CoreSt) : (s.setCore b k v).ports = s.ports := rfl
@[simp] theorem State.setCore_lcQ (s : State) (b k : Nat) (v : CoreSt) : (s.setCore b k v).lcQ = s.lcQ := rfl
@[simp] theorem State.setCore_cages (s : State) (b k : Nat) (v : CoreSt) : (s.setCore b k v).cages = s.cages := rfl
@[simp] theorem State.setCore_pwr (s : State) (b k : Nat) (v : CoreSt) : (s.setCore b k v).pwr = s.pwr := rfl
@[simp] theorem State.setCore_board (s : State) (b k : Nat) (v : CoreSt) : (s.setCore b k v).board = s.board := rfl
@[simp] theorem State.setCore_freeCtr (s : State) (b k : Nat) (v : CoreSt) : (s.setCore b k v).freeCtr = s.freeCtr := rfl
@[simp] theorem State.setCore_pending (s : State) (b k : Nat) (v : CoreSt) : (s.setCore b k v).pending = s.pending := rfl
@[simp] theorem State.setCore_setNow (s : State) (b k : Nat) (v : CoreSt) : (s.setCore b k v).setNow = s.setNow := rfl
@[simp] theorem State.setArray_bar (s : State) (b : Nat) (v : ArraySt) : (s.setArray b v).bar = s.bar := rfl
@[simp] theorem State.setArray_obs (s : State) (b : Nat) (v : ArraySt) : (s.setArray b v).obs = s.obs := rfl
@[simp] theorem State.setArray_time (s : State) (b : Nat) (v : ArraySt) : (s.setArray b v).time = s.time := rfl
@[simp] theorem State.setArray_nvm (s : State) (b : Nat) (v : ArraySt) : (s.setArray b v).nvm = s.nvm := rfl
@[simp] theorem State.setArray_glass (s : State) (b : Nat) (v : ArraySt) : (s.setArray b v).glass = s.glass := rfl
@[simp] theorem State.setArray_mgmt (s : State) (b : Nat) (v : ArraySt) : (s.setArray b v).mgmt = s.mgmt := rfl
@[simp] theorem State.setArray_cis (s : State) (b : Nat) (v : ArraySt) : (s.setArray b v).cis = s.cis := rfl
@[simp] theorem State.setArray_fwd (s : State) (b : Nat) (v : ArraySt) : (s.setArray b v).fwd = s.fwd := rfl
@[simp] theorem State.setArray_mem (s : State) (b : Nat) (v : ArraySt) : (s.setArray b v).mem = s.mem := rfl
@[simp] theorem State.setArray_col (s : State) (b : Nat) (v : ArraySt) : (s.setArray b v).col = s.col := rfl
@[simp] theorem State.setArray_hlth (s : State) (b : Nat) (v : ArraySt) : (s.setArray b v).hlth = s.hlth := rfl
@[simp] theorem State.setArray_ports (s : State) (b : Nat) (v : ArraySt) : (s.setArray b v).ports = s.ports := rfl
@[simp] theorem State.setArray_lcQ (s : State) (b : Nat) (v : ArraySt) : (s.setArray b v).lcQ = s.lcQ := rfl
@[simp] theorem State.setArray_cages (s : State) (b : Nat) (v : ArraySt) : (s.setArray b v).cages = s.cages := rfl
@[simp] theorem State.setArray_pwr (s : State) (b : Nat) (v : ArraySt) : (s.setArray b v).pwr = s.pwr := rfl
@[simp] theorem State.setArray_board (s : State) (b : Nat) (v : ArraySt) : (s.setArray b v).board = s.board := rfl
@[simp] theorem State.setArray_freeCtr (s : State) (b : Nat) (v : ArraySt) : (s.setArray b v).freeCtr = s.freeCtr := rfl
@[simp] theorem State.setArray_pending (s : State) (b : Nat) (v : ArraySt) : (s.setArray b v).pending = s.pending := rfl
@[simp] theorem State.setArray_setNow (s : State) (b : Nat) (v : ArraySt) : (s.setArray b v).setNow = s.setNow := rfl
@[simp] theorem State.setPlane_bar (s : State) (p : Nat) (v : PlaneSt) : (s.setPlane p v).bar = s.bar := rfl
@[simp] theorem State.setPlane_obs (s : State) (p : Nat) (v : PlaneSt) : (s.setPlane p v).obs = s.obs := rfl
@[simp] theorem State.setPlane_time (s : State) (p : Nat) (v : PlaneSt) : (s.setPlane p v).time = s.time := rfl
@[simp] theorem State.setPlane_nvm (s : State) (p : Nat) (v : PlaneSt) : (s.setPlane p v).nvm = s.nvm := rfl
@[simp] theorem State.setPlane_mgmt (s : State) (p : Nat) (v : PlaneSt) : (s.setPlane p v).mgmt = s.mgmt := rfl
@[simp] theorem State.setPlane_cis (s : State) (p : Nat) (v : PlaneSt) : (s.setPlane p v).cis = s.cis := rfl
@[simp] theorem State.setPlane_fwd (s : State) (p : Nat) (v : PlaneSt) : (s.setPlane p v).fwd = s.fwd := rfl
@[simp] theorem State.setPlane_mem (s : State) (p : Nat) (v : PlaneSt) : (s.setPlane p v).mem = s.mem := rfl
@[simp] theorem State.setPlane_col (s : State) (p : Nat) (v : PlaneSt) : (s.setPlane p v).col = s.col := rfl
@[simp] theorem State.setPlane_bsn (s : State) (p : Nat) (v : PlaneSt) : (s.setPlane p v).bsn = s.bsn := rfl
@[simp] theorem State.setPlane_hlth (s : State) (p : Nat) (v : PlaneSt) : (s.setPlane p v).hlth = s.hlth := rfl
@[simp] theorem State.setPlane_ports (s : State) (p : Nat) (v : PlaneSt) : (s.setPlane p v).ports = s.ports := rfl
@[simp] theorem State.setPlane_lcQ (s : State) (p : Nat) (v : PlaneSt) : (s.setPlane p v).lcQ = s.lcQ := rfl
@[simp] theorem State.setPlane_cages (s : State) (p : Nat) (v : PlaneSt) : (s.setPlane p v).cages = s.cages := rfl
@[simp] theorem State.setPlane_pwr (s : State) (p : Nat) (v : PlaneSt) : (s.setPlane p v).pwr = s.pwr := rfl
@[simp] theorem State.setPlane_board (s : State) (p : Nat) (v : PlaneSt) : (s.setPlane p v).board = s.board := rfl
@[simp] theorem State.setPlane_freeCtr (s : State) (p : Nat) (v : PlaneSt) : (s.setPlane p v).freeCtr = s.freeCtr := rfl
@[simp] theorem State.setPlane_pending (s : State) (p : Nat) (v : PlaneSt) : (s.setPlane p v).pending = s.pending := rfl
@[simp] theorem State.setPlane_setNow (s : State) (p : Nat) (v : PlaneSt) : (s.setPlane p v).setNow = s.setNow := rfl
@[simp] theorem State.setSlot_bar (s : State) (i : Nat) (v : SlotSt) : (s.setSlot i v).bar = s.bar := rfl
@[simp] theorem State.setSlot_obs (s : State) (i : Nat) (v : SlotSt) : (s.setSlot i v).obs = s.obs := rfl
@[simp] theorem State.setSlot_time (s : State) (i : Nat) (v : SlotSt) : (s.setSlot i v).time = s.time := rfl
@[simp] theorem State.setSlot_nvm (s : State) (i : Nat) (v : SlotSt) : (s.setSlot i v).nvm = s.nvm := rfl
@[simp] theorem State.setSlot_glass (s : State) (i : Nat) (v : SlotSt) : (s.setSlot i v).glass = s.glass := rfl
@[simp] theorem State.setSlot_cis (s : State) (i : Nat) (v : SlotSt) : (s.setSlot i v).cis = s.cis := rfl
@[simp] theorem State.setSlot_fwd (s : State) (i : Nat) (v : SlotSt) : (s.setSlot i v).fwd = s.fwd := rfl
@[simp] theorem State.setSlot_mem (s : State) (i : Nat) (v : SlotSt) : (s.setSlot i v).mem = s.mem := rfl
@[simp] theorem State.setSlot_col (s : State) (i : Nat) (v : SlotSt) : (s.setSlot i v).col = s.col := rfl
@[simp] theorem State.setSlot_bsn (s : State) (i : Nat) (v : SlotSt) : (s.setSlot i v).bsn = s.bsn := rfl
@[simp] theorem State.setSlot_hlth (s : State) (i : Nat) (v : SlotSt) : (s.setSlot i v).hlth = s.hlth := rfl
@[simp] theorem State.setSlot_ports (s : State) (i : Nat) (v : SlotSt) : (s.setSlot i v).ports = s.ports := rfl
@[simp] theorem State.setSlot_lcQ (s : State) (i : Nat) (v : SlotSt) : (s.setSlot i v).lcQ = s.lcQ := rfl
@[simp] theorem State.setSlot_cages (s : State) (i : Nat) (v : SlotSt) : (s.setSlot i v).cages = s.cages := rfl
@[simp] theorem State.setSlot_pwr (s : State) (i : Nat) (v : SlotSt) : (s.setSlot i v).pwr = s.pwr := rfl
@[simp] theorem State.setSlot_board (s : State) (i : Nat) (v : SlotSt) : (s.setSlot i v).board = s.board := rfl
@[simp] theorem State.setSlot_freeCtr (s : State) (i : Nat) (v : SlotSt) : (s.setSlot i v).freeCtr = s.freeCtr := rfl
@[simp] theorem State.setSlot_pending (s : State) (i : Nat) (v : SlotSt) : (s.setSlot i v).pending = s.pending := rfl
@[simp] theorem State.setSlot_setNow (s : State) (i : Nat) (v : SlotSt) : (s.setSlot i v).setNow = s.setNow := rfl
@[simp] theorem State.setCage_bar (s : State) (c : Nat) (v : CageSt) : (s.setCage c v).bar = s.bar := rfl
@[simp] theorem State.setCage_obs (s : State) (c : Nat) (v : CageSt) : (s.setCage c v).obs = s.obs := rfl
@[simp] theorem State.setCage_time (s : State) (c : Nat) (v : CageSt) : (s.setCage c v).time = s.time := rfl
@[simp] theorem State.setCage_nvm (s : State) (c : Nat) (v : CageSt) : (s.setCage c v).nvm = s.nvm := rfl
@[simp] theorem State.setCage_glass (s : State) (c : Nat) (v : CageSt) : (s.setCage c v).glass = s.glass := rfl
@[simp] theorem State.setCage_mgmt (s : State) (c : Nat) (v : CageSt) : (s.setCage c v).mgmt = s.mgmt := rfl
@[simp] theorem State.setCage_cis (s : State) (c : Nat) (v : CageSt) : (s.setCage c v).cis = s.cis := rfl
@[simp] theorem State.setCage_fwd (s : State) (c : Nat) (v : CageSt) : (s.setCage c v).fwd = s.fwd := rfl
@[simp] theorem State.setCage_mem (s : State) (c : Nat) (v : CageSt) : (s.setCage c v).mem = s.mem := rfl
@[simp] theorem State.setCage_col (s : State) (c : Nat) (v : CageSt) : (s.setCage c v).col = s.col := rfl
@[simp] theorem State.setCage_bsn (s : State) (c : Nat) (v : CageSt) : (s.setCage c v).bsn = s.bsn := rfl
@[simp] theorem State.setCage_hlth (s : State) (c : Nat) (v : CageSt) : (s.setCage c v).hlth = s.hlth := rfl
@[simp] theorem State.setCage_ports (s : State) (c : Nat) (v : CageSt) : (s.setCage c v).ports = s.ports := rfl
@[simp] theorem State.setCage_lcQ (s : State) (c : Nat) (v : CageSt) : (s.setCage c v).lcQ = s.lcQ := rfl
@[simp] theorem State.setCage_pwr (s : State) (c : Nat) (v : CageSt) : (s.setCage c v).pwr = s.pwr := rfl
@[simp] theorem State.setCage_board (s : State) (c : Nat) (v : CageSt) : (s.setCage c v).board = s.board := rfl
@[simp] theorem State.setCage_freeCtr (s : State) (c : Nat) (v : CageSt) : (s.setCage c v).freeCtr = s.freeCtr := rfl
@[simp] theorem State.setCage_pending (s : State) (c : Nat) (v : CageSt) : (s.setCage c v).pending = s.pending := rfl
@[simp] theorem State.setCage_setNow (s : State) (c : Nat) (v : CageSt) : (s.setCage c v).setNow = s.setNow := rfl
@[simp] theorem State.setLeaf_bar (s : State) (l : Nat) (v : LeafSt) : (s.setLeaf l v).bar = s.bar := rfl
@[simp] theorem State.setLeaf_obs (s : State) (l : Nat) (v : LeafSt) : (s.setLeaf l v).obs = s.obs := rfl
@[simp] theorem State.setLeaf_time (s : State) (l : Nat) (v : LeafSt) : (s.setLeaf l v).time = s.time := rfl
@[simp] theorem State.setLeaf_nvm (s : State) (l : Nat) (v : LeafSt) : (s.setLeaf l v).nvm = s.nvm := rfl
@[simp] theorem State.setLeaf_glass (s : State) (l : Nat) (v : LeafSt) : (s.setLeaf l v).glass = s.glass := rfl
@[simp] theorem State.setLeaf_mgmt (s : State) (l : Nat) (v : LeafSt) : (s.setLeaf l v).mgmt = s.mgmt := rfl
@[simp] theorem State.setLeaf_cis (s : State) (l : Nat) (v : LeafSt) : (s.setLeaf l v).cis = s.cis := rfl
@[simp] theorem State.setLeaf_fwd (s : State) (l : Nat) (v : LeafSt) : (s.setLeaf l v).fwd = s.fwd := rfl
@[simp] theorem State.setLeaf_mem (s : State) (l : Nat) (v : LeafSt) : (s.setLeaf l v).mem = s.mem := rfl
@[simp] theorem State.setLeaf_col (s : State) (l : Nat) (v : LeafSt) : (s.setLeaf l v).col = s.col := rfl
@[simp] theorem State.setLeaf_bsn (s : State) (l : Nat) (v : LeafSt) : (s.setLeaf l v).bsn = s.bsn := rfl
@[simp] theorem State.setLeaf_ports (s : State) (l : Nat) (v : LeafSt) : (s.setLeaf l v).ports = s.ports := rfl
@[simp] theorem State.setLeaf_lcQ (s : State) (l : Nat) (v : LeafSt) : (s.setLeaf l v).lcQ = s.lcQ := rfl
@[simp] theorem State.setLeaf_cages (s : State) (l : Nat) (v : LeafSt) : (s.setLeaf l v).cages = s.cages := rfl
@[simp] theorem State.setLeaf_pwr (s : State) (l : Nat) (v : LeafSt) : (s.setLeaf l v).pwr = s.pwr := rfl
@[simp] theorem State.setLeaf_board (s : State) (l : Nat) (v : LeafSt) : (s.setLeaf l v).board = s.board := rfl
@[simp] theorem State.setLeaf_freeCtr (s : State) (l : Nat) (v : LeafSt) : (s.setLeaf l v).freeCtr = s.freeCtr := rfl
@[simp] theorem State.setLeaf_pending (s : State) (l : Nat) (v : LeafSt) : (s.setLeaf l v).pending = s.pending := rfl
@[simp] theorem State.setLeaf_setNow (s : State) (l : Nat) (v : LeafSt) : (s.setLeaf l v).setNow = s.setNow := rfl
@[simp] theorem State.memPut_bar (s : State) (k : Nat) (bs : List Byte) : (s.memPut k bs).bar = s.bar := rfl
@[simp] theorem State.memPut_obs (s : State) (k : Nat) (bs : List Byte) : (s.memPut k bs).obs = s.obs := rfl
@[simp] theorem State.memPut_time (s : State) (k : Nat) (bs : List Byte) : (s.memPut k bs).time = s.time := rfl
@[simp] theorem State.memPut_nvm (s : State) (k : Nat) (bs : List Byte) : (s.memPut k bs).nvm = s.nvm := rfl
@[simp] theorem State.memPut_glass (s : State) (k : Nat) (bs : List Byte) : (s.memPut k bs).glass = s.glass := rfl
@[simp] theorem State.memPut_mgmt (s : State) (k : Nat) (bs : List Byte) : (s.memPut k bs).mgmt = s.mgmt := rfl
@[simp] theorem State.memPut_cis (s : State) (k : Nat) (bs : List Byte) : (s.memPut k bs).cis = s.cis := rfl
@[simp] theorem State.memPut_fwd (s : State) (k : Nat) (bs : List Byte) : (s.memPut k bs).fwd = s.fwd := rfl
@[simp] theorem State.memPut_col (s : State) (k : Nat) (bs : List Byte) : (s.memPut k bs).col = s.col := rfl
@[simp] theorem State.memPut_bsn (s : State) (k : Nat) (bs : List Byte) : (s.memPut k bs).bsn = s.bsn := rfl
@[simp] theorem State.memPut_hlth (s : State) (k : Nat) (bs : List Byte) : (s.memPut k bs).hlth = s.hlth := rfl
@[simp] theorem State.memPut_ports (s : State) (k : Nat) (bs : List Byte) : (s.memPut k bs).ports = s.ports := rfl
@[simp] theorem State.memPut_lcQ (s : State) (k : Nat) (bs : List Byte) : (s.memPut k bs).lcQ = s.lcQ := rfl
@[simp] theorem State.memPut_cages (s : State) (k : Nat) (bs : List Byte) : (s.memPut k bs).cages = s.cages := rfl
@[simp] theorem State.memPut_pwr (s : State) (k : Nat) (bs : List Byte) : (s.memPut k bs).pwr = s.pwr := rfl
@[simp] theorem State.memPut_board (s : State) (k : Nat) (bs : List Byte) : (s.memPut k bs).board = s.board := rfl
@[simp] theorem State.memPut_freeCtr (s : State) (k : Nat) (bs : List Byte) : (s.memPut k bs).freeCtr = s.freeCtr := rfl
@[simp] theorem State.memPut_pending (s : State) (k : Nat) (bs : List Byte) : (s.memPut k bs).pending = s.pending := rfl
@[simp] theorem State.memPut_setNow (s : State) (k : Nat) (bs : List Byte) : (s.memPut k bs).setNow = s.setNow := rfl
@[simp] theorem State.nvmPut_bar (s : State) (o : Nat) (bs : List Byte) : (s.nvmPut o bs).bar = s.bar := rfl
@[simp] theorem State.nvmPut_obs (s : State) (o : Nat) (bs : List Byte) : (s.nvmPut o bs).obs = s.obs := rfl
@[simp] theorem State.nvmPut_time (s : State) (o : Nat) (bs : List Byte) : (s.nvmPut o bs).time = s.time := rfl
@[simp] theorem State.nvmPut_glass (s : State) (o : Nat) (bs : List Byte) : (s.nvmPut o bs).glass = s.glass := rfl
@[simp] theorem State.nvmPut_mgmt (s : State) (o : Nat) (bs : List Byte) : (s.nvmPut o bs).mgmt = s.mgmt := rfl
@[simp] theorem State.nvmPut_cis (s : State) (o : Nat) (bs : List Byte) : (s.nvmPut o bs).cis = s.cis := rfl
@[simp] theorem State.nvmPut_fwd (s : State) (o : Nat) (bs : List Byte) : (s.nvmPut o bs).fwd = s.fwd := rfl
@[simp] theorem State.nvmPut_mem (s : State) (o : Nat) (bs : List Byte) : (s.nvmPut o bs).mem = s.mem := rfl
@[simp] theorem State.nvmPut_col (s : State) (o : Nat) (bs : List Byte) : (s.nvmPut o bs).col = s.col := rfl
@[simp] theorem State.nvmPut_bsn (s : State) (o : Nat) (bs : List Byte) : (s.nvmPut o bs).bsn = s.bsn := rfl
@[simp] theorem State.nvmPut_hlth (s : State) (o : Nat) (bs : List Byte) : (s.nvmPut o bs).hlth = s.hlth := rfl
@[simp] theorem State.nvmPut_ports (s : State) (o : Nat) (bs : List Byte) : (s.nvmPut o bs).ports = s.ports := rfl
@[simp] theorem State.nvmPut_lcQ (s : State) (o : Nat) (bs : List Byte) : (s.nvmPut o bs).lcQ = s.lcQ := rfl
@[simp] theorem State.nvmPut_cages (s : State) (o : Nat) (bs : List Byte) : (s.nvmPut o bs).cages = s.cages := rfl
@[simp] theorem State.nvmPut_pwr (s : State) (o : Nat) (bs : List Byte) : (s.nvmPut o bs).pwr = s.pwr := rfl
@[simp] theorem State.nvmPut_board (s : State) (o : Nat) (bs : List Byte) : (s.nvmPut o bs).board = s.board := rfl
@[simp] theorem State.nvmPut_freeCtr (s : State) (o : Nat) (bs : List Byte) : (s.nvmPut o bs).freeCtr = s.freeCtr := rfl
@[simp] theorem State.nvmPut_pending (s : State) (o : Nat) (bs : List Byte) : (s.nvmPut o bs).pending = s.pending := rfl
@[simp] theorem State.nvmPut_setNow (s : State) (o : Nat) (bs : List Byte) : (s.nvmPut o bs).setNow = s.setNow := rfl
@[simp] theorem State.flashPut_bar (s : State) (a : Nat) (bs : List Byte) : (s.flashPut a bs).bar = s.bar := rfl
@[simp] theorem State.flashPut_obs (s : State) (a : Nat) (bs : List Byte) : (s.flashPut a bs).obs = s.obs := rfl
@[simp] theorem State.flashPut_time (s : State) (a : Nat) (bs : List Byte) : (s.flashPut a bs).time = s.time := rfl
@[simp] theorem State.flashPut_glass (s : State) (a : Nat) (bs : List Byte) : (s.flashPut a bs).glass = s.glass := rfl
@[simp] theorem State.flashPut_mgmt (s : State) (a : Nat) (bs : List Byte) : (s.flashPut a bs).mgmt = s.mgmt := rfl
@[simp] theorem State.flashPut_cis (s : State) (a : Nat) (bs : List Byte) : (s.flashPut a bs).cis = s.cis := rfl
@[simp] theorem State.flashPut_fwd (s : State) (a : Nat) (bs : List Byte) : (s.flashPut a bs).fwd = s.fwd := rfl
@[simp] theorem State.flashPut_mem (s : State) (a : Nat) (bs : List Byte) : (s.flashPut a bs).mem = s.mem := rfl
@[simp] theorem State.flashPut_col (s : State) (a : Nat) (bs : List Byte) : (s.flashPut a bs).col = s.col := rfl
@[simp] theorem State.flashPut_bsn (s : State) (a : Nat) (bs : List Byte) : (s.flashPut a bs).bsn = s.bsn := rfl
@[simp] theorem State.flashPut_hlth (s : State) (a : Nat) (bs : List Byte) : (s.flashPut a bs).hlth = s.hlth := rfl
@[simp] theorem State.flashPut_ports (s : State) (a : Nat) (bs : List Byte) : (s.flashPut a bs).ports = s.ports := rfl
@[simp] theorem State.flashPut_lcQ (s : State) (a : Nat) (bs : List Byte) : (s.flashPut a bs).lcQ = s.lcQ := rfl
@[simp] theorem State.flashPut_cages (s : State) (a : Nat) (bs : List Byte) : (s.flashPut a bs).cages = s.cages := rfl
@[simp] theorem State.flashPut_pwr (s : State) (a : Nat) (bs : List Byte) : (s.flashPut a bs).pwr = s.pwr := rfl
@[simp] theorem State.flashPut_board (s : State) (a : Nat) (bs : List Byte) : (s.flashPut a bs).board = s.board := rfl
@[simp] theorem State.flashPut_freeCtr (s : State) (a : Nat) (bs : List Byte) : (s.flashPut a bs).freeCtr = s.freeCtr := rfl
@[simp] theorem State.flashPut_pending (s : State) (a : Nat) (bs : List Byte) : (s.flashPut a bs).pending = s.pending := rfl
@[simp] theorem State.flashPut_setNow (s : State) (a : Nat) (bs : List Byte) : (s.flashPut a bs).setNow = s.setNow := rfl
@[simp] theorem State.freshFree_bar (s : State) : (s.freshFree).bar = s.bar := rfl
@[simp] theorem State.freshFree_obs (s : State) : (s.freshFree).obs = s.obs := rfl
@[simp] theorem State.freshFree_time (s : State) : (s.freshFree).time = s.time := rfl
@[simp] theorem State.freshFree_nvm (s : State) : (s.freshFree).nvm = s.nvm := rfl
@[simp] theorem State.freshFree_glass (s : State) : (s.freshFree).glass = s.glass := rfl
@[simp] theorem State.freshFree_mgmt (s : State) : (s.freshFree).mgmt = s.mgmt := rfl
@[simp] theorem State.freshFree_cis (s : State) : (s.freshFree).cis = s.cis := rfl
@[simp] theorem State.freshFree_fwd (s : State) : (s.freshFree).fwd = s.fwd := rfl
@[simp] theorem State.freshFree_mem (s : State) : (s.freshFree).mem = s.mem := rfl
@[simp] theorem State.freshFree_col (s : State) : (s.freshFree).col = s.col := rfl
@[simp] theorem State.freshFree_bsn (s : State) : (s.freshFree).bsn = s.bsn := rfl
@[simp] theorem State.freshFree_hlth (s : State) : (s.freshFree).hlth = s.hlth := rfl
@[simp] theorem State.freshFree_ports (s : State) : (s.freshFree).ports = s.ports := rfl
@[simp] theorem State.freshFree_lcQ (s : State) : (s.freshFree).lcQ = s.lcQ := rfl
@[simp] theorem State.freshFree_cages (s : State) : (s.freshFree).cages = s.cages := rfl
@[simp] theorem State.freshFree_pwr (s : State) : (s.freshFree).pwr = s.pwr := rfl
@[simp] theorem State.freshFree_board (s : State) : (s.freshFree).board = s.board := rfl
@[simp] theorem State.freshFree_pending (s : State) : (s.freshFree).pending = s.pending := rfl
@[simp] theorem State.freshFree_setNow (s : State) : (s.freshFree).setNow = s.setNow := rfl

/-! ### Read after write -/

@[simp] theorem State.portSt_setPort (s : State) (p : Nat) (v : PortSt) : (s.setPort p v).portSt p = v := SMap.get_set_same _ _ _ _
theorem State.portSt_setPort_ne (s : State) {p j : Nat} (v : PortSt) (h : j ≠ p) : (s.setPort p v).portSt j = s.portSt j :=
  SMap.get_set_ne _ _ _ h
@[simp] theorem State.pkt_setPkt (s : State) (i : Nat) (v : Option Pkt) : (s.setPkt i v).pkt? i = v := SMap.get_set_same _ _ _ _
theorem State.pkt_setPkt_ne (s : State) {i j : Nat} (v : Option Pkt) (h : j ≠ i) : (s.setPkt i v).pkt? j = s.pkt? j :=
  SMap.get_set_ne _ _ _ h
@[simp] theorem State.queue_setQueue (s : State) (p q : Nat) (v : QueueSt) : (s.setQueue p q v).queue p q = v := SMap.get_set_same _ _ _ _
@[simp] theorem State.ctx_setCtx (s : State) (c : Nat) (v : CtxSt) : (s.setCtx c v).ctx c = v := SMap.get_set_same _ _ _ _
theorem State.ctx_setCtx_ne (s : State) {c j : Nat} (v : CtxSt) (h : j ≠ c) : (s.setCtx c v).ctx j = s.ctx j :=
  SMap.get_set_ne _ _ _ h
@[simp] theorem State.comm_setComm (s : State) (m : Nat) (v : CommSt) : (s.setComm m v).comm m = v := SMap.get_set_same _ _ _ _
theorem State.comm_setComm_ne (s : State) {m j : Nat} (v : CommSt) (h : j ≠ m) : (s.setComm m v).comm j = s.comm j :=
  SMap.get_set_ne _ _ _ h
@[simp] theorem State.core_setCore (s : State) (b k : Nat) (v : CoreSt) : (s.setCore b k v).core b k = v := SMap.get_set_same _ _ _ _
@[simp] theorem State.array_setArray (s : State) (b : Nat) (v : ArraySt) : (s.setArray b v).array b = v := SMap.get_set_same _ _ _ _
theorem State.array_setArray_ne (s : State) {b j : Nat} (v : ArraySt) (h : j ≠ b) : (s.setArray b v).array j = s.array j :=
  SMap.get_set_ne _ _ _ h
@[simp] theorem State.plane_setPlane (s : State) (p : Nat) (v : PlaneSt) : (s.setPlane p v).plane p = v := SMap.get_set_same _ _ _ _
theorem State.plane_setPlane_ne (s : State) {p j : Nat} (v : PlaneSt) (h : j ≠ p) : (s.setPlane p v).plane j = s.plane j :=
  SMap.get_set_ne _ _ _ h
@[simp] theorem State.slot_setSlot (s : State) (i : Nat) (v : SlotSt) : (s.setSlot i v).slot i = v := SMap.get_set_same _ _ _ _
theorem State.slot_setSlot_ne (s : State) {i j : Nat} (v : SlotSt) (h : j ≠ i) : (s.setSlot i v).slot j = s.slot j :=
  SMap.get_set_ne _ _ _ h
@[simp] theorem State.cage_setCage (s : State) (c : Nat) (v : CageSt) : (s.setCage c v).cage c = v := SMap.get_set_same _ _ _ _
theorem State.cage_setCage_ne (s : State) {c j : Nat} (v : CageSt) (h : j ≠ c) : (s.setCage c v).cage j = s.cage j :=
  SMap.get_set_ne _ _ _ h
@[simp] theorem State.leaf_setLeaf (s : State) (l : Nat) (v : LeafSt) : (s.setLeaf l v).leaf l = v := SMap.get_set_same _ _ _ _
theorem State.leaf_setLeaf_ne (s : State) {l j : Nat} (v : LeafSt) (h : j ≠ l) : (s.setLeaf l v).leaf j = s.leaf j :=
  SMap.get_set_ne _ _ _ h

end Sys2Proof.Machine
end

