-- ==== Sys2Proof/Laws/Obs.lean ====
section
/-! SUPPORT. What counting, signalling and the end of a command do, said once; and that the named writes of the
stores keep their canonical form. -/

namespace Sys2Proof.Machine

/-! ### Counters -/

/-- Only CNT and WRAP differ. -/
def ObsSt.sameBut (o u : ObsSt) : Prop := u = { o with cnt := u.cnt, wrap := u.wrap, wrapNow := u.wrapNow }

theorem ObsSt.sameBut_refl (o : ObsSt) : o.sameBut o := rfl

theorem ObsSt.sameBut_trans {o u w : ObsSt} (h : o.sameBut u) (k : u.sameBut w) : o.sameBut w := by
  unfold ObsSt.sameBut at *
  rw [k, h]

theorem bumpCounter_sameBut (n : Nat) (o : ObsSt) (k : Nat) : o.sameBut (bumpCounter n o k) := rfl

/-- The counters that an event in the scope can move in this core clock. -/
def State.counting (s : State) (scope : Nat → Bool) (k : Nat) : Bool := scope (k / 8) && s.obs.counts k

/-- The fold that counting is. -/
def countFold (on : Nat → Bool) (ev n : Nat) (l : SMap Nat) (o : ObsSt) : ObsSt :=
  l.foldl (fun o p => if p.2 = 0x80000000 + ev ∧ on p.1 = true then bumpCounter n o p.1 else o) o

theorem State.countIn_obs (s : State) (scope : Nat → Bool) (ev n : Nat) :
    (s.countIn scope ev n).obs =
      { countFold (s.counting scope) ev n s.obs.sel s.obs with fresh := (s.countIn scope ev n).obs.fresh } := rfl

theorem countFold_sameBut (on : Nat → Bool) (ev n : Nat) (l : SMap Nat) (o : ObsSt) :
    o.sameBut (countFold on ev n l o) := by
  unfold countFold
  induction l generalizing o with
  | nil => exact o.sameBut_refl
  | cons p l ih =>
    rw [List.foldl_cons]
    refine ObsSt.sameBut_trans ?_ (ih _)
    split
    · exact bumpCounter_sameBut _ _ _
    · exact o.sameBut_refl

/-- Counting changes nothing of the observation state but the counters, their WRAP bits and what the old selections of this
clock count. -/
theorem State.countIn_only (s : State) (scope : Nat → Bool) (ev n : Nat) :
    s.countIn scope ev n = { s with obs := { s.obs with
      cnt := (s.countIn scope ev n).obs.cnt, wrap := (s.countIn scope ev n).obs.wrap,
      wrapNow := (s.countIn scope ev n).obs.wrapNow, fresh := (s.countIn scope ev n).obs.fresh } } :=
  congrArg (fun (o : ObsSt) => { s with obs := { o with fresh := (s.countIn scope ev n).obs.fresh } })
    (countFold_sameBut (s.counting scope) ev n s.obs.sel s.obs)

theorem bumpCounter_cnt_same (n : Nat) (o : ObsSt) (k : Nat) :
    SMap.get (fun _ => 0) (bumpCounter n o k).cnt k = (SMap.get (fun _ => 0) o.cnt k + n) % 2 ^ 48 :=
  SMap.get_set_same _ _ _ _

theorem bumpCounter_cnt_ne (n : Nat) (o : ObsSt) {k j : Nat} (h : j ≠ k) :
    SMap.get (fun _ => 0) (bumpCounter n o k).cnt j = SMap.get (fun _ => 0) o.cnt j :=
  SMap.get_set_ne _ _ _ h

theorem get_of_wfFrom {d : Nat → Nat} {lo : Nat} {m : SMap Nat} (hw : SMap.wfFrom d lo m = true) {k : Nat} (hk : k < lo) :
    SMap.get d m k = d k := by
  induction m generalizing lo with
  | nil => rfl
  | cons p m ih =>
    simp only [SMap.wfFrom, Bool.and_eq_true, decide_eq_true_eq] at hw
    have : k ≠ p.1 := by omega
    simp only [SMap.get, this, if_false]
    exact ih hw.2 (by omega)

theorem countFold_below (on : Nat → Bool) (ev n : Nat) {lo : Nat} {l : SMap Nat} (o : ObsSt)
    (hw : SMap.wfFrom (fun _ => 0) lo l = true) {k : Nat} (hk : k < lo) :
    SMap.get (fun _ => 0) (countFold on ev n l o).cnt k = SMap.get (fun _ => 0) o.cnt k := by
  induction l generalizing lo o with
  | nil => rfl
  | cons p l ih =>
    simp only [SMap.wfFrom, Bool.and_eq_true, decide_eq_true_eq] at hw
    show SMap.get _ (countFold on ev n l _).cnt k = _
    rw [ih _ hw.2 (by omega)]
    dsimp only
    split
    · exact bumpCounter_cnt_ne _ _ (by omega)
    · rfl

/-- A counter after counting: one more time `n` where it selects the event on a page of the scope. -/
theorem countFold_cnt (on : Nat → Bool) (ev n : Nat) {lo : Nat} {l : SMap Nat} (o : ObsSt)
    (hw : SMap.wfFrom (fun _ => 0) lo l = true) (k : Nat) :
    SMap.get (fun _ => 0) (countFold on ev n l o).cnt k =
      if SMap.get (fun _ => 0) l k = 0x80000000 + ev ∧ on k = true
      then (SMap.get (fun _ => 0) o.cnt k + n) % 2 ^ 48 else SMap.get (fun _ => 0) o.cnt k := by
  induction l generalizing lo o with
  | nil =>
    have : ¬ (SMap.get (fun _ => 0) ([] : SMap Nat) k = 0x80000000 + ev ∧ on k = true) := by
      simp only [SMap.get]; omega
    rw [if_neg this]; rfl
  | cons p l ih =>
    have hw' := hw
    simp only [SMap.wfFrom, Bool.and_eq_true, decide_eq_true_eq] at hw'
    show SMap.get _ (countFold on ev n l _).cnt k = _
    by_cases hk : k = p.1
    · subst hk
      rw [countFold_below on ev n _ hw'.2 (Nat.lt_succ_self _)]
      simp only [SMap.get, if_true]
      split
      · exact bumpCounter_cnt_same _ _ _
      · rfl
    · rw [ih _ hw'.2]
      simp only [SMap.get, hk, if_false]
      have e : SMap.get (fun _ => 0) (if p.2 = 0x80000000 + ev ∧ on p.1 = true then bumpCounter n o p.1 else o).cnt k
          = SMap.get (fun _ => 0) o.cnt k := by
        split
        · exact bumpCounter_cnt_ne _ _ hk
        · rfl
      rw [e]

/-- The counter law: with the selections in canonical form, counting gives each counter that selects the event in
the scope its `n` modulo 2^48, unless its EVSEL was written in this core clock, and leaves every other counter. -/
theorem State.countIn_cnt (s : State) (scope : Nat → Bool) (ev n : Nat) (hw : SMap.wf (fun _ => 0) s.obs.sel = true) (k : Nat) :
    SMap.get (fun _ => 0) (s.countIn scope ev n).obs.cnt k =
      if SMap.get (fun _ => 0) s.obs.sel k = 0x80000000 + ev ∧ s.counting scope k = true
      then (SMap.get (fun _ => 0) s.obs.cnt k + n) % 2 ^ 48 else SMap.get (fun _ => 0) s.obs.cnt k :=
  countFold_cnt (s.counting scope) ev n s.obs hw k

theorem State.counted_countIn (s : State) (scope : Nat → Bool) (ev n : Nat) (hw : SMap.wf (fun _ => 0) s.obs.sel = true) :
    Counted s (s.countIn scope ev n) scope ev n := fun k hs hp hc => by
  rw [s.countIn_cnt scope ev n hw k, if_pos ⟨hs, by simp [State.counting, hp, hc]⟩]

/-! ### Signals and the end of a command -/

/-- A word of MSIX_PBA. -/
def pbaWord (a : Nat) : Bool := decide (0xe08800 ≤ a) && decide (a < 0xe08808)

/-- From `s` to `t` only vectors were signalled: of all components only the register words, which of their bits
were set in this clock and the observation state differ, of the words only MSIX_PBA, of the observation state only
counters, WRAP, what the old selections count and what left the part. -/
structure Signalled (s t : State) : Prop where
  only : t = { s with bar := t.bar, setNow := t.setNow, obs := { s.obs with
    cnt := t.obs.cnt, wrap := t.obs.wrap, wrapNow := t.obs.wrapNow, fresh := t.obs.fresh, out := t.obs.out } }
  word : ∀ a, pbaWord a = false → t.word a = s.word a
  sent : Sent s t []
  cnt : SMap.wf (fun _ => 0) s.obs.sel = true → ∀ k, SMap.get (fun _ => 0) s.obs.sel k ≠ 0x80000000 + Ev.RILL_INTR_TX →
    SMap.get (fun _ => 0) t.obs.cnt k = SMap.get (fun _ => 0) s.obs.cnt k

theorem Signalled.rfl' (s : State) : Signalled s s where
  only := rfl
  word _ _ := rfl
  sent := ⟨[], rfl, fun _ h => absurd h (List.not_mem_nil)⟩
  cnt _ _ _ := rfl

theorem Signalled.trans {s t u : State} (h : Signalled s t) (k : Signalled t u) : Signalled s u where
  only := by
    have e := k.only; have e' := h.only
    generalize u.bar = b at *; generalize u.obs.cnt = c at *; generalize u.obs.wrap = w at *; generalize u.obs.out = o at *
    generalize u.obs.wrapNow = n at *; generalize u.obs.fresh = f at *; generalize u.setNow = z at *
    rw [e, e']
  word a ha := (k.word a ha).trans (h.word a ha)
  sent := by
    obtain ⟨x, hx, hx'⟩ := h.sent
    obtain ⟨y, hy, hy'⟩ := k.sent
    refine ⟨y ++ x, ?_, fun e he => (List.mem_append.1 he).elim (hy' e) (hx' e)⟩
    rw [hy, hx]; simp
  cnt hw j hj := by
    have hs : t.obs.sel = s.obs.sel := by rw [h.only]
    rw [k.cnt (by rw [hs]; exact hw) j (by rw [hs]; exact hj), h.cnt hw j hj]

theorem State.signalMsix_signalled (s : State) (v : Fin 64) : Signalled s (s.signalMsix v) := by
  unfold State.signalMsix
  split
  · refine ⟨rfl, fun a ha => ?_, ⟨[], rfl, fun _ h => absurd h List.not_mem_nil⟩, fun _ _ _ => rfl⟩
    refine State.word_setWord_ne _ _ ?_
    have : (F.MSIX_PBA_PENDING (v.val / 32)).addr = 0xe08800 + v.val / 32 * 4 := rfl
    rw [this]
    intro e
    have hv := v.isLt
    have : pbaWord a = true := by unfold pbaWord; simp; omega
    simp [this] at ha
  · exact ⟨rfl, fun _ _ => rfl, ⟨[_], rfl, fun e he => .inl ⟨_, _, _, List.mem_singleton.1 he⟩⟩, fun _ _ _ => rfl⟩

theorem State.signalRill_signalled (s : State) (vp : Nat) : Signalled s (s.signalRill vp) := by
  unfold State.signalRill
  split
  · generalize hf : rillFrame _ _ _ _ _ _ = f
    have hc : ((s.emit (.rill f)).countMgmt Ev.RILL_INTR_TX 1)
        = (s.emit (.rill f)).countIn (fun p => decide (0xe00 ≤ p) && decide (p < 0xe00 + 16)) Ev.RILL_INTR_TX 1 := rfl
    rw [hc]
    refine ⟨?_, fun _ _ => rfl, ⟨[.rill f], ?_, fun e he => .inr ⟨_, List.mem_singleton.1 he⟩⟩, fun hw k hk => ?_⟩
    · rw [State.countIn_only]; rfl
    · rw [State.countIn_only]; rfl
    · rw [State.countIn_cnt (s.emit (.rill f)) _ _ _ hw, if_neg (fun h => hk h.1)]; rfl
  · exact Signalled.rfl' s

theorem State.signal_signalled (s : State) (vp : Nat) (v : Fin 64) : Signalled s (s.signal vp v) :=
  (s.signalMsix_signalled v).trans (State.signalRill_signalled _ vp)

/-- Before the pending vectors are noted, settling only signals. -/
theorem State.settle_signalled (s : State) : ∃ u, Signalled s u ∧ s.settle = { u with obs := { u.obs with vpend := s.vectors } } := by
  refine ⟨_, ?_, rfl⟩
  have key : ∀ (l : List Nat), (∀ v ∈ l, v < 64) → ∀ u, Signalled s u →
      Signalled s (l.foldl (fun t v => if nbit s.vectors v = 1 ∧ nbit s.obs.vpend v = 0 then t.signal s.vectors v else t) u) := by
    intro l hl
    induction l with
    | nil => exact fun u hu => hu
    | cons v l ih =>
      intro u hu
      refine ih (fun x hx => hl x (List.mem_cons_of_mem _ hx)) _ ?_
      dsimp only
      split
      · exact hu.trans (u.signal_signalled _ ⟨v, hl v List.mem_cons_self⟩)
      · exact hu
  exact key _ (fun v hv => List.mem_range.1 hv) s (Signalled.rfl' s)

theorem State.settle_word (s : State) {a : Nat} (h : pbaWord a = false) : s.settle.word a = s.word a := by
  obtain ⟨u, hu, e⟩ := s.settle_signalled
  rw [e]; exact hu.word a h

theorem State.settle_get (s : State) {f : FRef} (h : pbaWord f.addr = false) : s.settle.get f = s.get f := by
  unfold State.get; rw [s.settle_word h]

/-- Settling changes nothing but the register words, their bits set in this clock, counters, WRAP bits, what the old
selections count, the pending vectors and what left the part. -/
theorem State.settle_only (s : State) : s.settle = { s with bar := s.settle.bar, setNow := s.settle.setNow, obs := { s.obs with
    cnt := s.settle.obs.cnt, wrap := s.settle.obs.wrap, wrapNow := s.settle.obs.wrapNow,
    fresh := s.settle.obs.fresh, out := s.settle.obs.out, vpend := s.vectors } } := by
  obtain ⟨u, hu, e⟩ := s.settle_signalled
  rw [e]
  have := hu.only
  generalize u.bar = b at *; generalize u.obs.cnt = c at *; generalize u.obs.wrap = w at *; generalize u.obs.out = o at *
  generalize u.obs.wrapNow = n at *; generalize u.obs.fresh = f at *; generalize u.setNow = z at *
  rw [this]

/-- Every command ends in a next state. -/
theorem finish_next (s t : State) : ∃ u, finish s t = .next u := by
  unfold finish done; split <;> exact ⟨_, rfl⟩

/-- The end of a command on a part that runs: its effect, settled, with the queue and the core clock as they were. -/
theorem finish_running {s : State} (h : s.stopped = false) (t : State) :
    finish s t = .next { t.settle with pending := s.pending, time := { t.settle.time with core := s.time.core } } := by
  unfold finish done; simp [h]

/-! ### Canonical form -/

theorem foldl_set_wf {α β : Type} [DecidableEq α] (d : Nat → α) (key : β → Nat) (val : β → α) (l : List β) (m : SMap α)
    (h : SMap.wf d m = true) : SMap.wf d (l.foldl (fun m p => SMap.set d m (key p) (val p)) m) = true := by
  induction l generalizing m with
  | nil => exact h
  | cons p l ih => exact ih _ (SMap.wf_set d _ _ h)

theorem State.setWord_wf (s : State) (a : Nat) (w : Word) (h : SMap.wf resetWord s.bar = true) :
    SMap.wf resetWord (s.setWord a w).bar = true := SMap.wf_set _ _ _ h

theorem State.put_wf (s : State) (f : FRef) (v : Nat) (h : SMap.wf resetWord s.bar = true) :
    SMap.wf resetWord (s.put f v).bar = true := s.setWord_wf _ _ h

theorem State.puts_wf (s : State) (l : List (FRef × Nat)) (h : SMap.wf resetWord s.bar = true) :
    SMap.wf resetWord (s.puts l).bar = true := by
  unfold State.puts
  induction l generalizing s with
  | nil => exact h
  | cons p l ih => exact ih _ (s.put_wf _ _ h)

theorem State.nvmPut_wf (s : State) (o : Nat) (bs : List Byte) (h : SMap.wf nvmDefault s.nvm.bytes = true) :
    SMap.wf nvmDefault (s.nvmPut o bs).nvm.bytes = true := foldl_set_wf nvmDefault _ _ _ _ h

theorem State.flashPut_wf (s : State) (a : Nat) (bs : List Byte) (h : SMap.wf Config.flashByte s.nvm.flash = true) :
    SMap.wf Config.flashByte (s.flashPut a bs).nvm.flash = true := foldl_set_wf Config.flashByte _ _ _ _ h

theorem State.memPut_wf (s : State) (k : Nat) (bs : List Byte) (h : SMap.wf (memDefault s.mem.gen) s.mem.bytes = true) :
    SMap.wf (memDefault (s.memPut k bs).mem.gen) (s.memPut k bs).mem.bytes = true := foldl_set_wf (memDefault s.mem.gen) _ _ _ _ h

end Sys2Proof.Machine
end

