-- ==== Sys2Proof/Tests/Slice0.lean ====
section
/-! SUPPORT. Witnesses that meet the hypotheses of each clause of the statements, each with what one step then does,
and the smoke tests of WellFormed. -/

namespace Sys2Proof.Tests
open Sys2Proof Machine

set_option maxRecDepth 8000
set_option Elab.async false

/-- The part after reset with some fields given. -/
def st (l : List (FRef × Nat)) : State := State.reset.puts l

/-- The next state of an outcome. -/
def nextOf (o : Out) : Option State :=
  match o with
  | .next t => some t
  | _ => none

/-- The command answers a next state in which `q` holds. -/
def runs (s : State) (c : Instr) (q : State → Bool) : Bool := (nextOf (exec c s)).any q

theorem test_reset_pending_empty : State.reset.pending = [] := by decide

/-! ### Lanes -/

/-- Port 0, 400 Gb/s, in a state, with its cage READY. -/
def port0 (state : Nat) (l : List (FRef × Nat)) : State :=
  st ([(F.LANE_PORTCFG_SPEED 0, 2), (F.LANE_PORTCFG_SPEED 1, 0), (F.LANE_PORTSTAT_STATE 0, state), (F.LANE_CAGESTAT_CSTATE 0, 3),
    (F.BOOT_STAT_STAGE, 10)] ++ l)

/-- With a link control frame of port 0 waiting. -/
def withLc (s : State) (b : List Byte) : State := { s with lcQ := [⟨0, b⟩] }

/-- A codeword with eight symbols wrong: one more than fabric FEC corrects. -/
def eightWrong : List LaneFec := [⟨0, 0, [⟨(List.finRange 8).map fun i => (i.castLE (by decide), 1#10), true⟩]⟩]
/-- A codeword with seven symbols wrong. -/
def sevenWrong : List LaneFec := [⟨0, 0, [⟨(List.finRange 7).map fun i => (i.castLE (by decide), 1#10), true⟩]⟩]
theorem test_fabric_corrects_seven : fecBroken 1 sevenWrong = false ∧ uncorrOf 1 eightWrong = 1 := by decide +kernel
theorem test_broken_frame : runs (port0 5 [(F.LANE_PORTCFG_FEC 0, 1)]) (.linkFrameRx 0 [0#8] eightWrong) (fun t => t.lcQ == [] && t.fwd == {}) = true
    ∧ fecBroken ((port0 5 [(F.LANE_PORTCFG_FEC 0, 1)]).portFec 0) eightWrong = true ∧ (port0 5 []).stopped = false ∧ (port0 5 []).isPort 0 = true ∧ (port0 5 []).portState 0 = 5
    ∧ SMap.wf (fun _ => 0) (port0 5 []).obs.sel = true := by decide +kernel
theorem test_good_control_frame : pProto (lcBody 0x03 0 1) = 0
    ∧ runs (port0 5 []) (.linkFrameRx 0 (lcBody 0x03 0 1 ++ linkCheck (lcBody 0x03 0 1)) [])
      (fun t => t.lcQ == [⟨0, lcBody 0x03 0 1⟩]) = true := by decide +kernel
theorem test_good_data_frame : pProto [0x40#8, 0#8, 0#8] ≠ 0
    ∧ runs (port0 5 []) (.linkFrameRx 0 ([0x40#8, 0#8, 0#8] ++ linkCheck [0x40#8, 0#8, 0#8]) [])
      (fun t => (t.inBuf 0).map RxFrame.bytes == [[0x40#8, 0#8, 0#8]] && (t.vcSt 0 0).received == 1) = true := by decide +kernel
theorem test_bad_check : linkCheck ([1#8, 2#8, 3#8, 4#8, 5#8].take 1) ≠ [1#8, 2#8, 3#8, 4#8, 5#8].drop 1
    ∧ runs (port0 5 []) (.linkFrameRx 0 [1#8, 2#8, 3#8, 4#8, 5#8] []) (fun t => t.lcQ == [] && t.fwd == {}) = true := by
  decide +kernel
/-- C of VC0 is G0 + H = 20 + 64; 10 cells started, 4 of them returned: S = 84 − 6. -/
theorem test_credit_rx :
    let s := withLc ((port0 5 [(F.LANE_PEERADV0_ACCEPT 0, 0x80), (F.LANE_PEERADV0_H 0, 64), (F.LANE_PEERADV1_G0 0, 20)]).setVc 0 0
      { started := 10, credits := 70 }) (lcBody 0x01 0 4)
    s.portUp 0 = true ∧ lcType (lcBody 0x01 0 4) = 0x01
    ∧ runs s (.creditRx 0) (fun t => (t.vcSt 0 0).credits == 78 && t.lcQ == []) = true := by decide +kernel
/-- The example of R45: 17 cells lost are added to both counts. -/
theorem test_census_repair :
    let s := withLc ((port0 5 []).setVc 0 4 { received := 83, returned := 80 }) (lcBody 0x02 4 100)
    runs s (.censusRx 0) (fun t => (t.vcSt 0 4).received == 100 && (t.vcSt 0 4).returned == 97
      && nbit (t.word 0x140).toNat 0 == 1) = true := by decide +kernel
theorem test_census_fault :
    let s := withLc ((port0 5 []).setVc 0 4 { received := 101 }) (lcBody 0x02 4 100)
    runs s (.censusRx 0) (fun t => (t.vcSt 0 4).received == 101 && nbit (t.word 0x140).toNat 1 == 1) = true := by decide +kernel
theorem test_lc_reserved : lcType (lcBody 0x2a 0 0) ∉ [0x01, 0x02, 0x03, 0x10, 0x11]
    ∧ runs (withLc (port0 5 []) (lcBody 0x2a 0 0)) (.linkLcRsv 0) (fun t => t.lcQ == []) = true := by decide +kernel

/-- Port 0 has left UP for a reason. -/
def isDown (reason : Nat) (t : State) : Bool :=
  t.portState 0 == 1 && t.get (F.LANE_PORTSTAT_LASTDOWN 0) == reason && (t.vcSt 0 1).credits == 0
/-- Port 0 UP with credit on VC1. -/
def up0 : State := (port0 5 [(F.LANE_PORTCFG_EN 0, 1), (F.LANE_LANESTAT_SIGNAL 1, 1)]).setVc 0 1 { credits := 5 }

theorem test_down_rx : runs (withLc up0 (lcBody 0x03 0 4)) (.downRx 0) (fun t => isDown 7 t && t.obs.out == []) = true := by
  decide +kernel
theorem test_lane_los : up0.portOfLane 1 = some 0
    ∧ runs up0 (.laneLos 1) (fun t => isDown 2 t && t.get (F.LANE_LANESTAT_SIGNAL 1) == 0 && t.obs.out.length == 1) = true := by
  decide +kernel
theorem test_lock_loss : runs up0 (.lockLoss 1) (isDown 3) = true := by decide +kernel
theorem test_ucw_interval :
    let s : State := { up0.puts [(F.LANE_PORTLINK_UCW_LIMIT 0, 0), (F.LANE_PORTCFG_FEC 0, 1)] with time := { up0.time with core := msClocks 1 } }
    s.passed s.time.resetAt (msClocks ((s.portSt 0).ucwAt + 1)) = true
    ∧ s.get (F.LANE_PORTLINK_UCW_LIMIT 0) < (s.portSt 0).ucw + uncorrOf (s.portFec 0) eightWrong
    ∧ runs s (.ucwInterval 0 eightWrong) (isDown 4) = true := by decide +kernel
theorem test_port_retrain : up0.accepts 0 (laneReg 0 0x10c) (2 ^ 31) ∧ runs up0 (.portRetrain 0 0) (isDown 9) = true := by
  unfold State.accepts; decide +kernel
theorem test_port_disable : up0.accepts 0 (laneReg 0 0x100) (up0.wordWith (F.LANE_PORTCFG_EN 0) 0)
    ∧ runs up0 (.portDisable 0 0) (fun t => t.portState 0 == 0 && t.get (F.LANE_PORTCFG_EN 0) == 0
      && t.get (F.LANE_PORTSTAT_LASTDOWN 0) == 1 && t.obs.out.length == 1) = true := by
  unfold State.accepts; decide +kernel
theorem test_port_enable : (port0 0 []).accepts 0 (laneReg 0 0x100) ((port0 0 []).wordWith (F.LANE_PORTCFG_EN 0) 1)
    ∧ runs (port0 0 []) (.portEnable 0 0) (fun t => t.portState 0 == 1 && t.get (F.LANE_PORTCFG_EN 0) == 1) = true := by
  unfold State.accepts; decide +kernel
theorem test_bringup_attempt :
    let s := port0 1 [(F.LANE_PORTCFG_EN 0, 1)]
    s.cageReady 0 = true ∧ s.portFrozen 0 = false ∧ s.octetClock 0 = true ∧ s.passed (s.portSt 0).attemptAt 0 = true
    ∧ s.portHeld 0 = 0 ∧ runs s (.bringupAttempt 0) (fun t => t.portState 0 == 2 && (t.portSt 0).attempt == 1) = true := by
  decide +kernel
theorem test_bringup_attempt_waits :
    let s0 := port0 1 [(F.LANE_PORTCFG_EN 0, 1)]
    let s : State := { s0 with cis := { s0.cis with pkts := [(0, some { bytes := [], acct := .port 0 0, cells := [7] })] },
                               time := { s0.time with core := secClocks 10 } }
    s.portHeld 0 ≠ 0 ∧ s.passed (s.portSt 0).attemptAt (usClocks (s.get F.CISCFG_STALL_STALL_US)) = true
    ∧ runs s (.bringupAttempt 0) (fun t => t.portState 0 == 1 && t.get (F.LANE_PORTSTAT_LASTDOWN 0) == 11) = true := by
  decide +kernel
theorem test_signal_acquired : runs (port0 2 []) (.signalAcquired 0 []) (fun t => t.portState 0 == 3
    && t.get (F.LANE_LANESTAT_SIGNAL 1) == 1) = true := by decide +kernel
theorem test_align_achieved :
    let s0 := port0 3 [(F.LANE_LANESTAT_SIGNAL 0, 1), (F.LANE_LANESTAT_SIGNAL 1, 1)]
    let s : State := { s0 with time := { s0.time with core := msClocks 1 } }
    s.lanesLit 0 = true ∧ s.passed (s.portSt 0).heldFrom (msClocks 1) = true ∧ (s.portSt 0).ucw ≤ s.get (F.LANE_PORTLINK_UCW_LIMIT 0)
    ∧ runs s (.alignAchieved 0 []) (fun t => t.portState 0 == 4 && t.get (F.LANE_LANESTAT_ALIGNED 1) == 1) = true := by decide +kernel
/-- A port that entered its state 100 ms ago. -/
def late0 (state : Nat) : State := { port0 state [] with time := { State.reset.time with core := msClocks 100 } }
theorem test_bringup_timeout : runs (late0 2) (.bringupTimeout 0 false) (isDown 2) = true
    ∧ runs (late0 3) (.bringupTimeout 0 true) (isDown 4) = true ∧ runs (late0 3) (.bringupTimeout 0 false) (isDown 3) = true
    ∧ runs (late0 4) (.bringupTimeout 0 false) (isDown 5) = true := by decide +kernel
theorem test_retrain_expire :
    let s0 := (port0 1 []).setPort 0 { entries := [secClocks 8, 0] }
    let s : State := { s0 with time := { s0.time with core := secClocks 11 } }
    runs s (.retrainEntryExpire 0) (fun t => (t.portSt 0).entries == [secClocks 8] && t.get (F.LANE_PORTSTAT_RETRIES 0) == 1) = true := by
  decide +kernel
theorem test_clear_fail : (port0 7 []).accepts 0 (laneReg 0 0x10c) (2 ^ 30)
    ∧ runs (port0 7 [(F.LANE_PORTSTAT_RETRIES 0, 4)]) (.portClearFail 0 0) (fun t => t.portState 0 == 1
      && t.get (F.LANE_PORTSTAT_RETRIES 0) == 0) = true := by unfold State.accepts; decide +kernel
theorem test_lanecfg : (port0 0 []).accepts 0 (laneReg 0 0x180) 0x40000000
    ∧ runs (port0 0 []) (.lanecfgWrite 0 0 0x40000000#32) (fun t => t.get (F.LANE_LANECFG_LOOP 0) == 1 && t.portState 0 == 6) = true := by
  unfold State.accepts; decide +kernel

/-- An ADVERT of leaf 5 with 2 lanes that the part accepts. -/
def advert5 : List Byte := [0x10#8, 1#8, 0xff#8, 0#8, 0x01#8, 0x42#8, 0x01#8, 0#8, 0x20#8, 0x20#8, 0x20#8, 0x20#8, 0x20#8,
  0x20#8, 0x20#8, 0#8, 0x80#8, 0#8, 0#8, 0#8, 0#8, 0#8, 0#8, 1#8]
theorem test_advert_rx :
    let s := withLc (port0 4 []) advert5
    s.advertOk 0 advert5 = true ∧ lcType advert5 = 0x10
    ∧ runs s (.advertRx 0) (fun t => t.portState 0 == 4 && (t.portSt 0).acked && t.get (F.LANE_PORTPEER_NUMBER 0) == 5
      && t.get (F.LANE_PEERADV0_H 0) == 0x100 && t.obs.out.length == 1) = true := by decide +kernel
theorem test_advert_repeat :
    let s := withLc ((port0 5 []).setPort 0 { peerBody := advert5 }) advert5
    runs s (.advertRx 0) (fun t => t.portState 0 == 5 && t.obs.out.length == 1) = true := by decide +kernel
theorem test_advack_rx :
    let s := withLc ((port0 4 []).setPort 0 { ownBody := advert5 }) (lcBody 0x11 0 (crcStd advert5))
    lcCount (lcBody 0x11 0 (crcStd advert5)) = crcStd advert5 ∧ runs s (.advackRx 0) (fun t => (t.portSt 0).answered && t.portState 0 == 4) = true := by
  decide +kernel
theorem test_advert_tx : runs (port0 4 []) (.advertTx 0) (fun t => (t.portSt 0).ownBody.length == 24 && t.obs.out.length == 1) = true := by
  decide +kernel
theorem test_credit_tx :
    let s := up0.setVc 0 2 { returned := 9, force := true }
    s.creditDue 0 2 = true ∧ runs s (.creditTx 0 2) (fun t => (t.vcSt 0 2).sentCount == 9
      && t.obs.out == [.linkControl 0 (lcBody 0x01 2 9 ++ linkCheck (lcBody 0x01 2 9))]) = true := by decide +kernel
theorem test_census_tx :
    let s := (port0 5 [(F.LANE_PEERADV0_ACCEPT 0, 0x80)]).setVc 0 0 { consumed := 77 }
    nbit (s.get (F.LANE_PEERADV0_ACCEPT 0)) 7 = 1
    ∧ s.passed (s.portSt 0).since (nsClocks 0 + usClocks 10 * (s.vcSt 0 0).markers) = true
    ∧ runs s (.censusTx 0 0) (fun t => (t.vcSt 0 0).markers == 1
      && t.obs.out == [.linkControl 0 (lcBody 0x02 0 77 ++ linkCheck (lcBody 0x02 0 77))]) = true := by decide +kernel
theorem test_tx_frame_done :
    let s := (port0 5 []).setPort 0 { tx := some (⟨0, 0⟩, 3, 5) }
    runs s (.txFrameDone 0 []) (fun t => (t.portSt 0).tx == none && (t.vcSt 0 3).consumed == 5) = true := by decide +kernel

/-! ### Cages -/

/-- Cage 0 in a state, present and enabled, at a time in milliseconds. -/
def cage0 (state ms : Nat) (l : List (FRef × Nat)) : State :=
  let s := st ([(F.LANE_CAGESTAT_CSTATE 0, state), (F.LANE_CAGESTAT_PRESENT 0, 1), (F.LANE_CAGECFG_EN 0, 1),
    (F.BOOT_STAT_STAGE, 10)] ++ l)
  { s with time := { s.time with core := msClocks ms } }

theorem test_cage_insert : runs (st []) (.cageInsert 0) (fun t => t.get (F.LANE_CAGESTAT_PRESENT 0) == 1
    && (t.cage 0).insertedAt == some 0) = true := by decide +kernel
theorem test_cage_debounce :
    let s := (cage0 0 50 []).setCage 0 { insertedAt := some 0 }
    s.on (F.LANE_CAGESTAT_PRESENT (8 * 0)) = true ∧ s.on (F.LANE_CAGECFG_EN (8 * 0)) = true
    ∧ runs s (.cageDebounce 0) (fun t => t.cageState 0 == 1 && t.obs.out.length == 3) = true := by decide +kernel
theorem test_module_ready :
    let s := cage0 1 0 ([(F.LANE_CAGECFG_PMAX 0, 20), (F.LANE_PORTCFG_SPEED 0, 4)] ++ (List.range 7).map fun i => (F.LANE_PORTCFG_SPEED (i + 1), 0))
    let app : ModuleApp := ⟨3, true, 8, 1#8⟩
    s.cagePorts 0 = [0] ∧ s.appFor [app] 0 = some 3
    ∧ runs s (.moduleReady 0 ⟨5, 20#8, [app]⟩) (fun t => t.cageState 0 == 2 && (t.cage 0).staged == List.replicate 8 (some (3, 0))) = true
    ∧ runs s (.moduleReady 0 ⟨5, 21#8, [app]⟩) (fun t => t.cageState 0 == 5) = true
    ∧ runs s (.moduleReady 0 ⟨4, 20#8, [app]⟩) (fun t => t.cageState 0 == 5) = true
    ∧ runs s (.moduleReady 0 ⟨5, 20#8, []⟩) (fun t => t.cageState 0 == 5) = true := by decide +kernel
theorem test_datapath_ready : runs (cage0 2 7 [(F.LANE_PORTSTAT_STATE 0, 1)]) (.datapathReady 0)
    (fun t => t.cageState 0 == 3 && (t.portSt 0).since == msClocks 7) = true := by decide +kernel
theorem test_cage_remove : runs (cage0 3 7 [(F.LANE_PORTSTAT_STATE 1, 5)]) (.cageRemove 0)
    (fun t => t.cageState 0 == 0 && t.portState 1 == 1 && t.get (F.LANE_PORTSTAT_LASTDOWN 1) == 10
      && t.get (F.LANE_CAGESTAT_PRESENT 0) == 0) = true := by decide +kernel
theorem test_cmis_timeout :
    runs (cage0 2 7 []) (.cmisTimeout 0 0) (fun t => (t.cage 0).retries == 1 && t.cageState 0 == 2) = true
    ∧ runs ((cage0 2 7 []).setCage 0 { retries := 3 }) (.cmisTimeout 0 0) (fun t => t.cageState 0 == 1) = true
    ∧ runs ((cage0 2 7 []).setCage 0 { retries := 3 }) (.cmisTimeout 0 1) (fun t => (t.cage 0).retries == 1) = true
    ∧ runs ((cage0 2 7 []).setCage 0 { retries := 3, faultAt := some 0 }) (.cmisTimeout 0 0) (fun t => t.cageState 0 == 4) = true := by
  decide +kernel
theorem test_cmis_state_time : runs (cage0 1 7 []) (.cmisStateTimeExpire 0 7) (fun t => t.cageState 0 == 1
    && (t.cage 0).faultAt == some (msClocks 7)) = true := by decide +kernel
/-- Cage 0 READY with a data path staged on each lane. -/
def cageUp0 (ms : Nat) : State := (cage0 3 ms []).setCage 0 { staged := List.replicate 8 (some (3, 0)) }
theorem test_cmis_poll : (cageUp0 1000).mgmt.spcDown = false ∧ (cageUp0 1000).mgmt.tap.extest = false
    ∧ runs (cageUp0 1000) (.cmisMonitorPoll 0 ⟨3, List.replicate 8 4, [1#8]⟩) (fun t => (t.cage 0).polledAt == msClocks 1000
      && t.cageState 0 == 3 && (t.cage 0).flags == [1#8] && t.obs.out.length == 2) = true
    ∧ runs (cageUp0 1000) (.cmisMonitorPoll 0 ⟨5, List.replicate 8 4, []⟩) (fun t => t.cageState 0 == 1
      && (t.cage 0).faultAt == some (msClocks 1000)) = true
    ∧ runs (cageUp0 1000) (.cmisMonitorPoll 0 ⟨3, List.replicate 8 2, []⟩) (fun t => t.cageState 0 == 2) = true := by
  decide +kernel
theorem test_cage_intl : runs (cageUp0 0) (.cageIntl 0 false ⟨3, List.replicate 8 4, [1#8]⟩) (fun t => t.get (F.LANE_CAGESTAT_INT 0) == 1
    && (t.cage 0).flags == [1#8] && t.obs.out.length == 2) = true
    ∧ runs (cage0 2 0 []) (.cageIntl 0 true ⟨3, [], []⟩) (fun t => t.get (F.LANE_CAGESTAT_INT 0) == 0 && t.obs.out == []) = true := by
  decide +kernel
theorem test_cage_en : (cage0 3 0 []).accepts 0 (laneReg (8 * 0) 0x1c4) 0x14
    ∧ runs ((cage0 3 50 []).setCage 0 { insertedAt := some 0 }) (.cageEnWrite 0 0 0x14#32) (fun t => t.get (F.LANE_CAGECFG_EN 0) == 0 && t.cageState 0 == 1) = true := by
  unfold State.accepts; decide +kernel
theorem test_cageacc_go :
    (cage0 3 0 []).accepts 0 (laneReg (8 * 0) 0x1c8) (2 ^ 31 + 2 ^ 23 + 5)
    ∧ (cage0 3 0 []).cageAccCheck 0 false 5 2 = 0
    ∧ runs (cage0 3 0 []) (.cageaccGo 0 0 0x00800005#32) (fun t => t.get (F.LANE_CAGEACCST_BUSY 0) == 1
      && t.obs.out == [.cmis 0 false 0 0 5 [], .twoWire 0 0x70 1]) = true := by unfold State.accepts; decide +kernel
theorem test_cageacc_done :
    let s := (cage0 3 0 [(F.LANE_CAGEACCST_BUSY 0, 1)]).setCage 0 { req := some ⟨false, 5, 2⟩ }
    runs s (.cageaccDone 0 true [7#8, 9#8]) (fun t => t.byteAt 0x100201 == 9 && t.get (F.LANE_CAGEACCST_OK 0) == 1) = true
    ∧ runs s (.cageaccDone 0 false []) (fun t => t.get (F.LANE_CAGEACCST_CODE 0) == Rej.IO) = true := by decide +kernel

/-! ### Forwarding and the Cistern -/

/-- A state with a frame of port 0 at the head of pipeline 0. -/
def withFrame (s : State) (b : List Byte) : State := s.setInBuf 0 [{ port := 0, bytes := b }]
/-- A 16-byte DFP packet of a VC and TYPE for a destination of KIND 2. -/
def dfp (vc type : Nat) : List Byte := [BitVec.ofNat 8 (64 + vc * 8 + type), 0#8, 0x80#8, 0#8] ++ List.replicate 28 0#8

theorem test_ingress_header_drop : (st []).headerCheck [0x40#8] ≠ 0
    ∧ runs (withFrame (st []) [0x40#8]) (.ingressPacket 0 false) (fun t => t.inBuf 0 == [] && (t.vcSt 0 0).returned == 1) = true := by
  decide +kernel
theorem test_ingress_late : pVc (dfp 1 1) ≠ 7
    ∧ runs (withFrame (st []) (dfp 1 1)) (.ingressPacket 0 true) (fun t => (t.inBuf 0).length == 1) = true := by decide +kernel
theorem test_ingress_late_vc7 : pVc (dfp 7 1) = 7 ∧ (st []).policerBehind 0 7 = false
    ∧ runs (withFrame (st []) (dfp 7 1)) (.ingressPacket 0 true) (fun t => t.inBuf 0 == []
      && SMap.get (fun _ => 0) t.fwd.lateDrops 0 == 1 && (t.vcSt 0 7).returned == 1) = true := by decide +kernel
theorem test_ingress_empty : (st []).inBuf 0 = [] ∧ runs (st []) (.ingressPacket 0 false) (fun t => t.fwd == {}) = true := by
  decide +kernel

/-- An entry of the stash: a learned key 5 with result PORT[3]. -/
def learned (moves : Nat) (l : List (FRef × Nat)) : State :=
  ((st ([(F.FWDLRN_AGE_PERIOD_S, 60)] ++ l)).setEpWords stashBase (epNew 5 false false (resPort 3) (resPort 3))).put
    (F.EP_W2_MOVES stashBase) moves
/-- With a learn request waiting in pipeline 0. -/
def withReq (s : State) (r : LearnReq) : State := { s with fwd := { s.fwd with learnQ := [(0, [r])] } }
/-- With the sweeper due at the stash. -/
def sweepDue (s : State) : State :=
  { s with fwd := { s.fwd with sweepPos := stashBase }, time := { s.time with core := secClocks 60 } }

theorem test_learn_move :
    let s := withReq (learned 0 [(F.FWDCFG_LOOKUP_MOVE_LIMIT, 4)]) ⟨5, resPort 9, true⟩
    s.epFind 5 = some stashBase ∧ s.epResult 0 stashBase ≠ resPort 9 ∧ s.epResult 1 stashBase ≠ resPort 9
    ∧ s.on (F.EP_W2_STATIC stashBase) = false
    ∧ runs s (.learnMove 0) (fun t => t.epResult 0 stashBase == resPort 9 && t.epResult 1 stashBase == resPort 9
      && t.get (F.EP_W2_MOVES stashBase) == 1) = true := by decide +kernel
theorem test_learn_move_damped :
    let s := withReq (learned 4 [(F.FWDCFG_LOOKUP_MOVE_LIMIT, 4)]) ⟨5, resPort 9, true⟩
    s.get (F.EP_W2_MOVES stashBase) = s.get F.FWDCFG_LOOKUP_MOVE_LIMIT
    ∧ runs s (.learnMove 0) (fun t => t.epResult 0 stashBase == resPort 3 && t.fwd.damped == [5]
      && t.obs.logQ.length == 1) = true := by decide +kernel
theorem test_sweep_resets_moves :
    let s := sweepDue (learned 4 [(F.EP_W2_PENDING stashBase, 1)])
    s.get F.FWDLRN_AGE_PERIOD_S ≠ 0 ∧ s.passed s.fwd.sweepAt (secClocks (s.get F.FWDLRN_AGE_PERIOD_S) / epCount) = true
    ∧ s.epValid stashBase = true ∧ runs s .ageSweepVisit (fun t => t.get (F.EP_W2_MOVES stashBase) == 0) = true := by decide +kernel
theorem test_sweep_ages :
    runs (sweepDue (learned 0 [])) .ageSweepVisit (fun t => t.get (F.EP_W2_AGE1 stashBase) == 1 && t.fwd.sweepPos == stashBase + 1) = true
    ∧ runs (sweepDue ((learned 0 []).put (F.EP_W3_HIT stashBase) 1)) .ageSweepVisit
      (fun t => t.get (F.EP_W2_AGE1 stashBase) == 0 && t.epValid stashBase) = true
    ∧ runs (sweepDue ((learned 0 []).put (F.EP_W2_AGE1 stashBase) 1)) .ageSweepVisit (fun t => !t.epValid stashBase) = true := by
  decide +kernel
theorem test_learn_insert :
    let s := withReq (st []) ⟨7, resPort 2, false⟩
    s.epFind 7 = none ∧ (s.epFreeWay 0 7).isSome = true
    ∧ runs s (.learnInsert 0) (fun t => ((t.epFind 7).map (t.epResult 1)) == some (resPort 2)) = true := by decide +kernel
/-- The part in RUN. -/
def running (l : List (FRef × Nat)) : State := st ([(F.BOOT_STAT_STAGE, 10)] ++ l)
theorem test_flush : (running []).accepts 0 0x603104 (2 ^ 31) ∧ runs (running []) (.flush 0 0 0#16)
    (fun t => t.get F.FWDLRN_STATUS_FLUSH_BUSY == 1) = true
    ∧ runs (st [(F.FWDLRN_STATUS_FLUSH_BUSY, 1)]) .flushDone (fun t => t.get F.FWDLRN_STATUS_FLUSH_BUSY == 0) = true := by
  unfold State.accepts; decide +kernel
theorem test_skip_clear : (running [(F.SKIP_W1_NOLINK_SKIPS 2, 7)]).accepts 0 0x2400014 0
    ∧ runs (running [(F.SKIP_W1_NOLINK_SKIPS 2, 7)]) (.skipCounterClear 0 2#16 true 0#32)
      (fun t => t.get (F.SKIP_W1_NOLINK_SKIPS 2) == 0) = true := by unfold State.accepts; decide +kernel
theorem test_epoch_copy : (running []).accepts 0 0x602100 2
    ∧ runs (running []) (.epochCopy 0) (fun t => t.get F.FWDEPOCH_STATUS_STATE == 2) = true := by
  unfold State.accepts; decide +kernel
theorem test_epoch_copy_done :
    runs (st [(F.FWDEPOCH_STATUS_STATE, 2), (F.LROUTE_W0_RESULT 7, resPort 3)]) .epochCopyDone
      (fun t => t.leafRoute 1 7 == resPort 3 && t.leafRoute 0 7 == resPort 3 && t.get F.FWDEPOCH_STATUS_STATE == 0) = true := by
  decide +kernel
theorem test_epoch_drain :
    let s := st [(F.FWDEPOCH_STATUS_STATE, 1), (F.FWDEPOCH_DRAIN_DRAIN_US, 1000)]
    s.passed s.fwd.drainFrom (usClocks (s.get F.FWDEPOCH_DRAIN_DRAIN_US)) = false
    ∧ runs s .epochDrainExpire (fun t => t.get F.FWDEPOCH_STATUS_STATE == 1) = true
    ∧ runs ({ s with time := { s.time with core := secClocks 1 } }) .epochDrainExpire
      (fun t => t.get F.FWDEPOCH_STATUS_STATE == 0) = true := by decide +kernel
theorem test_epoch_free_now : (running [(F.FWDEPOCH_STATUS_STATE, 1)]).accepts 0 0x602100 4
    ∧ runs (running [(F.FWDEPOCH_STATUS_STATE, 1)]) (.epochFreeNow 0)
      (fun t => t.get F.FWDEPOCH_STATUS_STATE == 0 && t.obs.logQ.length == 1) = true := by unfold State.accepts; decide +kernel

/-- Packet 0 of one cell on VC1 at the head of QUEUE[0][5] of port 0, UP with credit. -/
def queued (launch : Option Nat) (l : List (FRef × Nat)) : State :=
  let s := (port0 5 ([(F.QUEUE_W0_EN 5, 1), (F.LANE_PEERADV0_ACCEPT 0, 0x40), (F.LANE_PEERADV1_G1 0, 9)] ++ l)).setVc
    0 1 { credits := 9 }
  { s with cis := { s.cis with
    pkts := [(0, some { bytes := [0x48#8], acct := .port 1 1, cells := [3], refs := 1, launch := launch })]
    cells := [(3, { st := .allocated })], queues := [(5, { ents := [⟨0, 0⟩], blockedSince := some 0 })] } }
theorem test_sched_select : (queued none []).portUp 0 = true ∧ ((queued none []).select 0).1 = some 5
    ∧ (queued none []).headPkt 0 5 ≠ none
    ∧ runs (queued none []) (.schedSelect 0) (fun t => (t.vcSt 0 1).credits == 8 && (t.vcSt 0 1).started == 1
      && (t.queue 0 5).ents == [] && t.obs.out.length == 1 && (t.portSt 0).tx == some (⟨0, 0⟩, 1, 1)) = true := by decide +kernel
theorem test_sched_ahead :
    let s0 := queued none []
    let s := s0.setPort 0 { s0.portSt 0 with tx := some (⟨9, 9⟩, 2, 1) }
    (s.select 0).1 = some 5 ∧ s.commitDue = false
    ∧ runs s (.schedSelect 0) (fun t => (t.portSt 0).next == some 5 && t.obs.out == []) = true
    ∧ runs (s.setPort 0 { s.portSt 0 with next := some 5 }) (.txFrameDone 0 [])
      (fun t => (t.portSt 0).tx == some (⟨0, 0⟩, 1, 1) && (t.vcSt 0 2).consumed == 1) = true := by decide +kernel
theorem test_sched_none : ((port0 5 []).select 0).1 = none
    ∧ runs (port0 5 []) (.schedSelect 0) (fun t => t.obs.out == []) = true := by decide +kernel
theorem test_launch_due : (queued (some 0) [(F.QUEUE_W0_LAUNCH 5, 1)]).on (F.QUEUE_W0_LAUNCH 5) = true
    ∧ ((queued (some 0) [(F.QUEUE_W0_LAUNCH 5, 1)]).select 0).1 = some 5
    ∧ runs (queued (some 0) [(F.QUEUE_W0_LAUNCH 5, 1)]) (.launchDue 0 5) (fun t => t.obs.out.length == 1) = true
    ∧ runs (queued (some 0) []) (.launchDue 0 5) (fun t => t.obs.out == []) = true := by decide +kernel
theorem test_queue_stall :
    let s := { queued none [] with time := { State.reset.time with core := secClocks 10 } }
    s.passed 0 (usClocks (s.get F.CISCFG_STALL_STALL_US)) = true
    ∧ runs s (.queueStall 0 5) (fun t => (t.queue 0 5).ents == [] && (t.queue 0 5).stalled && (t.queue 0 5).stallVc == 1
      && t.pkt? 0 == none) = true := by decide +kernel
theorem test_group_return : runs ((st []).setQueue 0 5 { wait := [7] }) (.groupReturnRelease 0 5) (fun t => (t.queue 0 5).wait == []) = true := by
  decide +kernel
/-- A green frame of 100 bytes against an idle policer with 100-byte bursts: both levels fall by 100 bytes. -/
theorem test_weir_debit :
    let s0 := st [(F.POLICER_W2_CBS 4, 65536), (F.POLICER_W3_PBS 4, 65536)]
    let s : State := { s0 with cis := { s0.cis with ethDebits := [(3, 4, 0, 100)] } }
    runs s (.weirEthDebit 3) (fun t => t.cis.ethDebits == [] && (t.policer 4).c.level == 838860800 - 1280000) = true := by decide +kernel
theorem test_sweep_orphan :
    let s : State := { st [] with cis := { State.reset.cis with cells := [(3, { st := .allocated, missed := true })], walk := 2 } }
    3 ∉ s.reached (s.references ++ s.heldPkts s.pathPkts)
    ∧ runs s .cisternSweep (fun t => t.cell 3 == {} && t.cis.walk == 3 && nbit (t.word 0x140).toNat 2 == 1) = true := by decide +kernel
theorem test_sweep_refs :
    let s : State := { st [] with cis := { State.reset.cis with
      cells := [(3, { st := .allocated })]
      pkts := [(0, some { bytes := [], acct := .vc5, cells := [3], refs := 0 })], queues := [(5, { ents := [⟨0, 0⟩] })] } }
    runs s .cisternSweep (fun t => (t.pkt? 0).map Pkt.refs == some 1 && nbit (t.word 0x140).toNat 4 == 1) = true := by decide +kernel
theorem test_mc_replicate :
    let s : State := { st [] with cis := { State.reset.cis with
      pkts := [(0, some { bytes := [0x48#8], acct := .lossy, cells := [3] })], mcQ := [⟨0, 9, none⟩] } }
    s.on (F.MDESC_W0_VALID 9) = false ∧ runs s .mcReplicate (fun t => t.pkt? 0 == none && t.cis.mcQ == []) = true := by decide +kernel

/-! ### The collective engine -/

/-- A BARRIER communicator with two members, window 1, and its context, in a phase. -/
def barrier (phase : Nat) (l : List (FRef × Nat)) : State :=
  (st ([(F.COLCFG_CTRL_EN, 1), (F.COMM_W0_PART 0, 1), (F.COMM_W0_COMM 0, 2), (F.COMM_W1_VALID 0, 1), (F.COMM_W1_NMEMB 0, 2),
    (F.COMM_W3_WIN 0, 1), (F.CTX_W10_STATE 0, phase), (wordRef 0x5000000, 0x40000000), (wordRef 0x5000004, 1),
    (wordRef 0x500000c, 1), (wordRef 0x5000014, 7)] ++ l)).setCtx 0 { phase := phase }
/-- A BARRIER chunk of member 0 waits for the matcher. -/
def chunk0 : Pkt := { bytes := [0x64#8] ++ List.replicate 15 0#8 ++ [0#8, 1#8, 0#8, 2#8] ++ List.replicate 10 0#8 ++ [1#8, 0#8]
                      acct := .port 0 4, cells := [3] }
def withChunk (s : State) : State := { s with cis := { s.cis with chunkQ := [0], pkts := [(0, some chunk0)] } }

theorem test_match_disabled : runs (withChunk (barrier 2 [(F.COLCFG_CTRL_EN, 0)])) .colMatch
    (fun t => t.pkt? 0 == none && t.cis.chunkQ == []) = true := by decide +kernel
theorem test_match_no_comm : (barrier 2 [(F.COMM_W0_COMM 0, 3)]).commFind (cPart chunk0.bytes) (cComm chunk0.bytes) = none
    ∧ runs (withChunk (barrier 2 [(F.COMM_W0_COMM 0, 3)])) .colMatch (fun t => t.pkt? 0 == none) = true := by decide +kernel
theorem test_match_accept :
    let s := withChunk (barrier 2 [])
    s.commFind (cPart chunk0.bytes) (cComm chunk0.bytes) = some 0 ∧ s.tearing 0 = false ∧ s.chunkFits 0 chunk0.bytes = true
    ∧ s.stagedOn 0 + (pPayload chunk0.bytes).length ≤ s.stagingBytes 0 ∧ (s.params 0).paired = false ∧ (cSeq chunk0.bytes + 2 ^ 32 - s.get (F.COMM_W5_BASE 0)) % 2 ^ 32 < s.get (F.COMM_W3_WIN 0)
    ∧ runs s .colMatch (fun t => t.path 0 == [.chunk 0 0 0 0] && t.ctxCounter 0 1 == 1 && (t.ctx 0).arrived 0) = true := by decide +kernel
theorem test_match_duplicate : runs ((withChunk (barrier 2 [])).modCtx 0 fun x => { x with arr := [(0, true)] }) .colMatch
    (fun t => t.pkt? 0 == none && t.ctxCounter 0 2 == 1) = true := by decide +kernel
theorem test_accumulate : (barrier 2 []).takesItems 0 = true
    ∧ runs ((withChunk (barrier 2 [])).setPath 0 [.chunk 0 0 0 0]) (.bsnAccumulate 0) (fun t =>
      t.path 0 == [] && (t.ctx 0).accd == 1 && ((t.ctx 0).index 0 0).arrived == [0]) = true := by decide +kernel
theorem test_fence_marker : runs ((barrier 2 []).setPath 0 [.fence 0 1]) (.markerAtBasin 0)
    (fun t => t.path 0 == [] && (t.ctx 0).skipOn 0 == [1]) = true := by decide +kernel
theorem test_close_marker : runs ((barrier 4 []).setPath 0 [.close 0]) (.markerAtBasin 0)
    (fun t => t.path 0 == [] && (t.ctx 0).closedAt == [0]) = true := by decide +kernel
/-- A finished FP32 sum of one element, 3: the RESULT is 3 in FP32, little-endian. -/
theorem test_finish :
    let s0 := (barrier 2 [(wordRef 0x5000000, 0), (wordRef 0x5000008, 0x40004)]).modCtx 0
      fun x => { x with idx := [(0, { arrived := [0, 1], images := [.fast 0x40400000], done := true })] }
    let s := s0.setFinItems 0 [(0, 0, 0)]
    (s.params 0).spill = false ∧ (s.params 0).type = 0 ∧ s.nextFin 0 = some (0, 0, 0) ∧ s.takesItems 0 = true ∧ s.chunkReady 0 = false
    ∧ s.stagedOn 0 + 4 ≤ s.stagingBytes 0
    ∧ runs s (.bsnFinish 0 false) (fun t => t.finItems 0 == []
      && t.col.outQ.map (fun o => o.body.bytes) == [[0#8, 0#8, 0x40#8, 0x40#8]]) = true := by decide +kernel
/-- A record of 12 bytes waits for the result writer. -/
def withOut (s : State) (waited : Bool) : State := s.stageOut ⟨0, 0x9, 0xffffffff, { bytes := [1#8, 0#8] }, waited⟩
theorem test_handoff : runs (withOut (barrier 5 [(F.CISCFG_POOL_VC5_CELLS, 100)]) false) .resultHandoff
    (fun t => t.col.outQ == [] && t.cis.mcQ.length == 1 && (t.pkt? 0).map (fun k => k.bytes.length) == some 34) = true := by
  decide +kernel
theorem test_handoff_waits :
    let s := withOut (barrier 5 [(F.CISCFG_POOL_VC5_CELLS, 0)]) false
    s.get F.CISCFG_POOL_VC5_CELLS < s.chargedSeen .vc5 + cellsOf (s.outBytes ⟨0, 0x9, 0xffffffff, { bytes := [1#8, 0#8] }, false⟩).length
    ∧ runs s .resultHandoff (fun t => t.col.outQ.map ColOut.waited == [true] && t.cis == {}) = true := by decide +kernel
/-- The same, long after. -/
def later (s : State) : State := { s with time := { s.time with core := secClocks 5000 } }
theorem test_deadline : runs (later (barrier 2 [])) (.ctxDeadline 0) (fun t => (t.ctx 0).phase == 4 && t.path 0 == [.close 0]) = true
    ∧ runs (later (barrier 3 [])) (.ctxDeadline 0) (fun t => (t.ctx 0).phase == 5 && t.get (F.CTX_W28_STATUS 0) == 7
      && t.col.outQ.length == 1) = true := by decide +kernel
theorem test_complete :
    let s := (barrier 4 []).modCtx 0 fun x => { x with closedAt := [0] }
    s.ctxQuiet 0 = true ∧ runs s (.ctxComplete 0) (fun t => (t.ctx 0).phase == 5) = true := by decide +kernel
theorem test_linger : runs (later (barrier 5 [])) (.ctxLingerExpire 0) (fun t => (t.ctx 0).phase == 1
    && t.get (F.CTX_W11_CSEQ 0) == 1) = true := by decide +kernel
/-- With the ledger showing 64 bytes of Basin 3 for a context that does not exist. -/
def owed (sus : Bool) : State := { st [] with col := { State.reset.col with
  ledger := [⟨3, 9, 64⟩], suspects := if sus then [⟨3, 9, 64⟩] else [], releaseQ := [(⟨3, 9, 64⟩, 2)], blocksUsed := 5 } }
theorem test_slot_release : runs (owed false) .slotReleaseMsg (fun t => t.col.ledger == [] && t.col.blocksUsed == 3) = true := by
  decide +kernel
theorem test_ledger_check : (owed true).ownerLives 9 = false
    ∧ runs (later (owed true)) .slotLedgerCheck (fun t => t.col.ledger == [] && nbit (t.word 0x140).toNat 7 == 1) = true := by
  decide +kernel
theorem test_teardown_release : (barrier 1 [(F.COMM_W1_STATE 0, 1)]).commQuiet 0 = true
    ∧ runs (barrier 1 [(F.COMM_W1_STATE 0, 1)]) (.teardownRelease 0) (fun t => (t.comm 0).releasing) = true := by decide +kernel
theorem test_teardown_done : (barrier 1 []).commCtxs 0 = [0]
    ∧ runs ((barrier 1 []).setComm 0 { releasing := true }) (.teardownDone 0) (fun t => !t.on (F.COMM_W1_VALID 0)
      && (t.ctx 0).phase == 0 && t.get F.COLCFG_ISTAT_TORN_DONE == 1) = true := by decide +kernel

/-- Queue 0 enabled for partition 1 with a command at its head for communicator 2 of it. -/
def command (s : State) (op arg : Nat) : State :=
  s.puts [(F.COLQ_CTL_EN 0 0, 1), (F.COLQ_CTL_PART 0 0, 1), (F.COLQ_TAIL_TAIL 0 0, 1), (wordRef 0x4200000, op * 2 ^ 24),
    (wordRef 0x4200004, 0x10002), (wordRef 0x4200008, arg)]
/-- The entry holds DONE and OK, and HEAD has moved on. -/
def applied (op : Nat) (t : State) : Bool :=
  t.word 0x4200000 == BitVec.ofNat 32 (op * 2 ^ 24 + 2 ^ 23 + 2 ^ 22) && t.get (F.COLQ_HEAD_HEAD 0 0) == 1
    && t.get (F.COLQ_DONE_DONE_COUNT 0 0) == 1
/-- A staged BARRIER block in queue 0. -/
def staged0 : List (FRef × Nat) :=
  [(wordRef 0x4201000, 0x40000000), (wordRef 0x4201004, 1), (wordRef 0x420100c, 1), (wordRef 0x4201014, 7)]
/-- What COMM_ADMIT of a one-member communicator with window 2 needs staged. -/
def admit0 : List (FRef × Nat) :=
  staged0 ++ [(wordRef 0x4201040, 1), (wordRef 0x4201048, 2), (wordRef 0x4202000, 1), (F.MDESC_W0_VALID 0, 1),
    (F.FWDID_GRID_PODS, 1), (F.FWDID_GRID_PERPOD, 1)]
theorem test_comm_admit : ((st admit0).commAdmit 0 1 2 9).code = 0
    ∧ runs (command (st admit0) 1 9) (.commAdmit 0) (fun t => applied 1 t && t.on (F.COMM_W1_VALID 0)
      && t.get (F.COMM_W5_BASE 0) == 9 && (t.ctx 1).phase == 1) = true := by decide +kernel
theorem test_comm_teardown : ((barrier 1 []).commTeardown 0 0).code = 0
    ∧ runs (command (barrier 1 []) 2 0) (.commTeardown 0) (fun t => applied 2 t && t.tearing 0) = true := by decide +kernel
theorem test_ctx_alloc : (barrier 1 staged0).seqPos 0 0 = some 0 ∧ ((barrier 1 staged0).ctxAlloc 0 0 1 0).code = 0
    ∧ (((barrier 1 staged0).ctxAlloc 0 0 1 0).st.ctx 0).phase = 2 := by decide +kernel
theorem test_ctx_abort : runs (command (barrier 2 []) 4 0) (.ctxAbort 0) (fun t => applied 4 t && (t.ctx 0).phase == 4
    && (t.ctx 0).close == some stAborted) = true := by decide +kernel
theorem test_member_fence : runs (command (barrier 2 []) 5 (2 ^ 31 + 1)) (.memberFence 0) (fun t => applied 5 t
    && (t.comm 0).fenced == [1]) = true := by decide +kernel
theorem test_template_set : ((barrier 1 staged0).templateSet 0 0 1).code = 0
    ∧ runs (command (barrier 1 staged0) 6 0) (.templateSet 0) (fun t => applied 6 t
      && (t.template 0).w 0 == 0x40000000 && (t.template 0).w 5 == 7) = true := by decide +kernel
theorem test_command_invalid : runs (command (barrier 1 []) 9 0) (.colCmdInvalid 0)
    (fun t => t.word 0x4200000 == BitVec.ofNat 32 (9 * 2 ^ 24 + 2 ^ 23 + Rej.RANGE)) = true := by decide +kernel
theorem test_tail_write : (running []).accepts 0 0x901104 3
    ∧ runs (running []) (.colqTailWrite 0 0 3#32) (fun t => t.get (F.COLQ_TAIL_TAIL 0 0) == 3) = true := by
  unfold State.accepts; decide +kernel

/-! ### Cores, arrays and kernels -/

/-- A user kernel's image with one instruction word, and the word of fields. -/
def image (w : Nat) : List Byte := List.replicate 8 0#8 ++ leBytes 4 8 ++ List.replicate 52 0#8 ++ leBytes 8 w
def insn (cls op d a b ext : Nat) : Nat := cls * 2 ^ 59 + op * 2 ^ 50 + d * 2 ^ 45 + a * 2 ^ 40 + b * 2 ^ 35 + ext
/-- An invocation of slot 0 on core 0 of Basin 0, at the word `w`. -/
def inv0 : Inv := { ctx := 0, cidx := 0, kernel := 0x100, vals := [7], partial_ := false, gen := 1 }
def onCore (w : Nat) (c : CoreSt) (l : List (FRef × Nat)) : State :=
  let s := st ([(F.BASIN_KBUDGET_BUDGET 0, 100)] ++ l)
  { s with bsn := { s.bsn with kernels := [(0, image w)], cores := [(0, { c with inv := some inv0 })] } }
def reg (t : State) (r : Nat) : Nat := (t.core 0 0).sreg r

theorem test_salu :
    let s := onCore (insn 0x0 0 3 1 2 0) { s := [(1, 5), (2, 9)] } []
    s.issues 0 0 0x0 (insn 0x0 0 3 1 2 0) inv0
    ∧ runs s (.insnSalu 0 0 (some (.bin .add false))) (fun t => reg t 3 == 14 && (t.core 0 0).pc == 8 && (t.core 0 0).issued == 1) = true
    ∧ runs s (.insnSalu 0 0 (some .not_)) (fun t => reg t 3 == 2 ^ 64 - 6) = true
    ∧ runs s (.insnSalu 0 0 (some .movi)) (fun t => reg t 3 == 0) = true := by unfold State.issues; decide +kernel
theorem test_vfp :
    let s := onCore (insn 0x3 0 3 1 2 0) { v := [(1, 0x3f800000), (2, 0x40000000)] } []
    s.issues 0 0 0x3 (insn 0x3 0 3 1 2 0) inv0
    ∧ runs s (.insnVfp 0 0 (some .add)) (fun t => (t.core 0 0).vreg 3 == 0x40400000) = true
    ∧ runs s (.insnVfp 0 0 (some .lt)) (fun t => (t.core 0 0).kreg 3 == 15) = true := by unfold State.issues; decide +kernel
theorem test_vint :
    let s := onCore (insn 0x4 0 3 1 2 0) { v := [(1, 0x1ff), (2, 0x101)] } []
    s.issues 0 0 0x4 (insn 0x4 0 3 1 2 0) inv0
    ∧ runs s (.insnVint 0 0 (some ⟨.add, 0⟩)) (fun t => (t.core 0 0).vreg 3 == 0x200) = true
    ∧ runs s (.insnVint 0 0 (some ⟨.add, 1⟩)) (fun t => (t.core 0 0).vreg 3 == 0x300) = true := by unfold State.issues; decide +kernel
theorem test_vcvt :
    let w := insn 0x6 0 3 1 2 0
    let x := insn 0x6 0 3 1 2 (2 * 2 ^ 24)
    (onCore w {} []).issues 0 0 0x6 w inv0 ∧ 0 < cvtPortions 0 2
    ∧ runs (onCore w { v := [(1, 77)] } []) (.insnVcvt 0 0) (fun t => (t.core 0 0).vreg 3 == 77) = true
    ∧ runs (onCore x { v := [(1, 0x3f800000)] } []) (.insnVcvt 0 0) (fun t => (t.core 0 0).vreg 3 == 0x3f80) = true := by
  unfold State.issues; decide +kernel
theorem test_vperm :
    let s := onCore (insn 0x7 0 3 1 2 1) { s := [(1, 5)], v := [(1, 9 * 2 ^ 32)] } []
    s.issues 0 0 0x7 (insn 0x7 0 3 1 2 1) inv0
    ∧ runs s (.insnVperm 0 0 (some .extract)) (fun t => reg t 3 == 9) = true
    ∧ runs s (.insnVperm 0 0 (some .insert)) (fun t => (t.core 0 0).vreg 3 == 5 * 2 ^ 32) = true := by unfold State.issues; decide +kernel
theorem test_sbr :
    let s := onCore (insn 0x1 0 3 1 2 0x40) {} []
    s.issues 0 0 0x1 (insn 0x1 0 3 1 2 0x40) inv0
    ∧ runs s (.insnSbr 0 0 (some .jump)) (fun t => (t.core 0 0).pc == 0x40) = true
    ∧ runs s (.insnSbr 0 0 (some .ifZero)) (fun t => (t.core 0 0).pc == 0x40) = true
    ∧ runs s (.insnSbr 0 0 (some .ifNonzero)) (fun t => (t.core 0 0).pc == 8) = true
    ∧ runs s (.insnSbr 0 0 (some .call)) (fun t => (t.core 0 0).pc == 0x40 && reg t 3 == 8) = true
    ∧ runs (s.modCore 0 0 fun c => c.setS 1 0x18) (.insnSbr 0 0 (some .back)) (fun t => (t.core 0 0).pc == 0x18) = true := by
  unfold State.issues; decide +kernel

/-- With a window of one page for partition 0. -/
def windowed (cls : Nat) (c : CoreSt) : State :=
  onCore (insn cls 0 3 1 2 0) c [(F.PWIN_W0_VALID 0, 1), (F.PWIN_W2_NPAGES 0, 1)]
theorem test_smem_local :
    let s := onCore (insn 0x2 0 3 1 2 0) { s := [(1, 0x01000000)] } []
    let u := onCore (insn 0x2 0 3 1 2 0) { s := [(1, 0x8000), (2, 0x1234)] } []
    s.issues 0 0 0x2 (insn 0x2 0 3 1 2 0) inv0 ∧ s.accessFault 0 inv0 0x01000000 4 false = none
    ∧ s.loadBad 0 inv0 0x01000000 4 false = false ∧ u.granted inv0 ∧ u.accessFault 0 inv0 0x8000 2 true = none
    ∧ runs s (.insnSmem 0 0 (some (.load 2 false)) false) (fun t => reg t 3 == 7) = true
    ∧ runs u (.insnSmem 0 0 (some (.store 1)) false) (fun t => t.localBytes 0 0 inv0 0x8000 3 == [0x34#8, 0x12#8, 0#8]) = true := by
  unfold State.issues State.granted; decide +kernel
theorem test_smem_window :
    let s := windowed 0x2 { s := [(1, windowBase), (2, 6)] }
    s.issues 0 0 0x2 (insn 0x2 0 3 1 2 0) inv0
    ∧ s.winAddr (s.ctxKey 0).1 0 = some 0 ∧ s.locate 0 = some ⟨0, 0, 0, 0⟩ ∧ s.accessFault 0 inv0 windowBase 8 true = none
    ∧ runs s (.insnSmem 0 0 (some (.load 3 false)) false)
      (fun t => (t.core 0 0).pend == [⟨0, .scalar 3 8 false, 0, windowBase⟩]) = true
    ∧ runs s (.insnSmem 0 0 (some (.store 3)) false) (fun t => (t.core 0 0).pend == [⟨0, .none, 0, windowBase⟩]) = true
    ∧ runs s (.insnSmem 0 0 (some (.atomic .fadd true)) false) (fun t => (t.stopPkts (stopInst 0 0 0) 0).map RingPkt.body
      == [.req 0 { src := .core 0 0 0, op := .fadd true, addr := 0, len := 8
                   data := [6#8, 0#8, 0#8, 0#8, 0#8, 0#8, 0#8, 0#8] }]) = true := by unfold State.issues; decide +kernel
theorem test_vmem_window :
    let s := windowed 0x5 { s := [(1, windowBase)] }
    s.issues 0 0 0x5 (insn 0x5 0 3 1 2 0) inv0 ∧ s.accessFault 0 inv0 windowBase 64 true = none
    ∧ runs s (.insnVmem 0 0 (some .load) false)
      (fun t => (t.core 0 0).pend == [⟨0, .vector 3 (2 ^ 64 - 1), 0, windowBase⟩]) = true
    ∧ runs s (.insnVmem 0 0 (some .store) false) (fun t => (t.core 0 0).pend == [⟨0, .none, 0, windowBase⟩]) = true
    ∧ runs s (.insnVmem 0 0 (some (.add 0)) false) (fun t => (t.core 0 0).pend == [⟨0, .none, 0, windowBase⟩]) = true := by
  unfold State.issues; decide +kernel
/-- An add of FP32 elements under the mask of K1, which enables elements 0 and 2. -/
theorem test_vmem_masked :
    let w := insn 0x5 0 3 1 0 0 + 2 ^ 32
    let s := windowed 0x5 { s := [(1, windowBase)], k := [(1, 0x101)] }
    let u : State := { s with bsn := { s.bsn with kernels := [(0, image w)] } }
    iMask w = 1 ∧ u.issues 0 0 0x5 w inv0
    ∧ runs u (.insnVmem 0 0 (some (.add 0)) false)
      (fun t => (t.core 0 0).pend == [⟨0, .none, 0, windowBase⟩, ⟨1, .none, 0, windowBase + 8⟩]
        && (t.stopPkts (stopInst 0 0 0) 0).length == 2) = true := by unfold State.issues; decide +kernel
theorem test_vmem_local :
    let s := onCore (insn 0x5 0 3 1 2 0) { s := [(1, 0x8000)] } []
    s.issues 0 0 0x5 (insn 0x5 0 3 1 2 0) inv0 ∧ s.granted inv0 ∧ s.accessFault 0 inv0 0x8000 64 true = none
    ∧ s.loadBad 0 inv0 0x8000 64 false = false
    ∧ runs s (.insnVmem 0 0 (some .load) false) (fun t => (t.core 0 0).vreg 3 == 0 && (t.core 0 0).pc == 8) = true
    ∧ runs s (.insnVmem 0 0 (some .store) false) (fun t => (t.core 0 0).pc == 8) = true
    ∧ s.laneFault 0 0 inv0 (insn 0x5 0 3 1 2 0) 8 (2 ^ 64 - 1) false = none
    ∧ s.laneBad 0 0 inv0 (insn 0x5 0 3 1 2 0) 8 (2 ^ 64 - 1) false = none
    ∧ s.laneFault 0 0 inv0 (insn 0x5 0 3 1 2 0) 8 (2 ^ 64 - 1) true = none
    ∧ runs s (.insnVmem 0 0 (some (.gather true)) false) (fun t => (t.core 0 0).pc == 8) = true
    ∧ runs s (.insnVmem 0 0 (some (.scatter true)) false) (fun t => (t.core 0 0).pc == 8) = true := by
  unfold State.issues State.granted; decide +kernel
theorem test_sync :
    let s := onCore (insn 0xa 0 0 0 0 0) {} []
    s.issues 0 0 0xa (insn 0xa 0 0 0 0 0) inv0 ∧ s.kernelCores 0 = [0]
    ∧ runs s (.insnSync 0 0 (some .fence)) (fun t => (t.core 0 0).pc == 8) = true
    ∧ runs (onCore (insn 0xa 0 0 0 0 0) { pend := [⟨4, .none, 0, 0⟩] } []) (.insnSync 0 0 (some .wait)) (fun t => (t.core 0 0).pc == 0) = true
    ∧ runs s (.insnSync 0 0 (some .barrier)) (fun t => (t.core 0 0).pc == 8 && !(t.core 0 0).atBarrier) = true := by
  unfold State.issues; decide +kernel
/-- With another kernel core of the Basin that has not arrived. -/
theorem test_barrier_holds :
    let s := onCore (insn 0xa 0 0 0 0 0) {} []
    let u := s.setCore 0 1 { inv := some inv0 }
    u.kernelCores 0 = [0, 1] ∧ runs u (.insnSync 0 0 (some .barrier)) (fun t => (t.core 0 0).atBarrier) = true := by decide +kernel

/-- A descriptor in private data at 0x8000: 2 bytes from 0x8000 to 0x8100. -/
def desc0 : SMap Byte := [(0x8001, 0x80#8), (0x8009, 0x81#8), (0x8010, 1#8), (0x8012, 2#8)]
def dmaCore (op : Nat) : State := onCore (insn 0x9 op 3 1 0 0) { s := [(1, 0x8000)], priv := desc0 } []
def item0 : DmaItem := { ticket := 1, core := 0, desc := ⟨0x8000, 0x8100, 1, 2, 0, 0, 0, 0⟩, phase := 1 }
/-- One that reads, or writes, stacked memory: 2 bytes at the start of the window. -/
def itemW : DmaItem := { item0 with desc := ⟨0x8000, windowBase, 1, 2, 0, 0, 0, 0⟩ }
theorem test_dma_start :
    let s := dmaCore 0
    let raw := s.localBytes 0 0 inv0 0x8000 32
    s.issues 0 0 0x9 (insn 0x9 0 3 1 0 0) inv0 ∧ s.accessFault 0 inv0 0x8000 32 false = none
    ∧ (s.descBytes 0 0 inv0 0x8000).toOption = some raw ∧ descOf raw = item0.desc ∧ s.descFault 0 inv0 (descOf raw) raw = none
    ∧ runs s (.dmaStart 0 0) (fun t => (t.dma 0).q == [item0] && reg t 3 == 1) = true
    ∧ runs (s.setDma 0 { q := [item0], next := 2 }) (.dmaStart 0 0)
      (fun t => (t.dma 0).q == [item0, { item0 with ticket := 2, phase := 0 }] && reg t 3 == 2) = true
    ∧ runs (s.setDma 0 { q := List.replicate 16 item0 }) (.dmaStart 0 0) (fun t => (t.core 0 0).pc == 0) = true := by
  unfold State.issues; decide +kernel
theorem test_dma_poll_wait :
    let done (op : Nat) : State := (dmaCore op).setDma 0 { status := [(0x8000, 1)] }
    runs (done 1) (.dmaPoll 0 0) (fun t => reg t 3 == 1) = true ∧ runs (done 2) (.dmaWait 0 0) (fun t => (t.core 0 0).pc == 8) = true
    ∧ runs (dmaCore 2) (.dmaWait 0 0) (fun t => (t.core 0 0).pc == 0) = true := by decide +kernel
theorem test_dma_done :
    let s := (dmaCore 0).setDma 0 { q := [item0] }
    let with_ (i : DmaItem) : State := (dmaCore 0).setDma 0 { q := [i] }
    s.dmaWrites inv0 (s.dmaData 0 inv0 item0) = 0 ∧ s.granted inv0 ∧ s.accessFault 0 inv0 0x8100 2 true = none
    ∧ runs s (.dmaDone 0 false) (fun t => t.localBytes 0 0 inv0 0x8100 2 == [0#8, 0x80#8] && t.ticket 0 1 == 1) = true
    ∧ runs s (.dmaDone 0 true) (fun t => t.ticket 0 1 == 2) = true
    ∧ runs (with_ { item0 with out := 1 }) (.dmaDone 0 false) (fun t => (t.dma 0).q.length == 1) = true
    ∧ runs (with_ { item0 with phase := 2 }) (.dmaDone 0 false) (fun t => t.ticket 0 1 == 1) = true
    ∧ runs ((with_ item0).setCore 0 0 {}) (.dmaDone 0 false) (fun t => t.ticket 0 1 == 2) = true := by
  unfold State.granted; decide +kernel
theorem test_dma_writes :
    let s := (windowed 0x9 {}).setDma 0 { q := [itemW] }
    s.dmaWrites inv0 (s.dmaData 0 inv0 itemW) = 1
    ∧ runs s (.dmaDone 0 false) (fun t => (t.dma 0).q.map (fun i => (i.phase, i.out)) == [(2, 1)]
      && (t.stopPkts (stopInst 0 0 0) 24).length == 1) = true := by decide +kernel

/-- An array of Basin 0 in a state, with an owner. -/
def withArray (w state : Nat) (a : ArraySt) : State := (onCore w {} [(F.BASIN_STATE_ARRAY 0, state)]).setArray 0 a
def regs0 : MtxRegs := ⟨1, 0, 1, 0, 1, 0, 1, 0, 2⟩
def mtx : Nat := insn 0x8 0 3 0 0 0
/-- Registers that name scratch of one page. -/
def job0 (kind choice : Nat) : MtxJob := ⟨kind, 1, choice, 0, 0, 0, 0, 0, 0, 0, 0, 0, false⟩
/-- An invocation whose 16 values fill 64 bytes of its read grant, where a row of the tile or the stream lies; its output buffer follows. -/
def invV : Inv := { inv0 with vals := List.replicate 16 0 }
def mtxCore (state : Nat) (a : ArraySt) : State :=
  let s := st [(F.BASIN_KBUDGET_BUDGET 0, 100), (F.BASIN_STATE_ARRAY 0, state)]
  { s with bsn := { s.bsn with
      kernels := [(0, image mtx)]
      arrays := [(0, a)]
      cores := [(0, { inv := some invV, s := [(1, 0x01000000), (2, 1), (4, 0x01000040)] })] } }
/-- Tile and streamed rows at S1, the destination at S4; every stride 0, so that the rows are one. -/
def regsV : MtxRegs := ⟨1, 0, 1, 0, 1, 0, 4, 0, 2⟩
theorem test_mload :
    let s := mtxCore 3 {}
    s.issues 0 0 0x8 mtx invV ∧ (mtxSpans (mtxJob (s.core 0 0) 0 1 0 false regsV) 1 0).findSome? (s.spanFault 0 invV) = none
    ∧ runs s (.mload 0 0 true 1 0 regsV) (fun t => (t.array 0).owner == some 0 && (t.core 0 0).pc == 8) = true := by
  unfold State.issues; decide +kernel
theorem test_mfill :
    let s := mtxCore 2 {}
    (mtxSpans (mtxJob (s.core 0 0) 3 1 0 false regsV) 1 0).findSome? (s.spanFault 0 invV) = none
    ∧ runs s (.mfill 0 0 true 1 0 false regsV) (fun t => (t.array 0).owner == some 0 && (t.core 0 0).pc == 8) = true := by decide +kernel
theorem test_mstream :
    let s := mtxCore 3 { owner := some 0, fmt := 1 }
    (mtxSpans (mtxJob (s.core 0 0) 1 0 0 false regsV) 1 0).findSome? (s.spanFault 0 invV) = none
    ∧ runs s (.mstream 0 0 true false regsV) (fun t => ((t.array 0).job.map MtxJob.count) == some 1) = true := by decide +kernel
theorem test_mdrain :
    let s := mtxCore 3 { owner := some 0, fmt := 1, choice := 2 }
    (mtxSpans (mtxJob (s.core 0 0) 2 0 0 false regsV) 1 2).findSome? (s.spanFault 0 invV) = none
    ∧ runs s (.mdrain 0 0 true false regsV) (fun t => ((t.array 0).job.map MtxJob.kind) == some 2) = true := by decide +kernel
theorem test_mwait_mrel :
    let s := mtxCore 3 { owner := some 0, faulted := true }
    let u := mtxCore 3 { owner := some 0, job := some (job0 0 0) }
    runs s (.mwait 0 0 true) (fun t => reg t 3 == 1 && (t.core 0 0).pc == 8) = true
    ∧ runs s (.mrel 0 0 true) (fun t => (t.array 0).owner == none && (t.core 0 0).pc == 8) = true
    ∧ runs u (.mwait 0 0 true) (fun t => (t.core 0 0).pc == 0 && (t.array 0).waiter == some 0) = true
    ∧ runs (mtxCore 3 { waiter := some 0 }) (.mwait 0 0 true) (fun t => (t.core 0 0).pc == 8 && (t.array 0).waiter == none) = true
    ∧ runs u (.mrel 0 0 true) (fun t => (t.core 0 0).pc == 0) = true := by
  decide +kernel
theorem test_matrix_done :
    let s := mtxCore 3 { owner := some 0, job := some (job0 0 2) }
    runs s (.matrixDone 0 false) (fun t => (t.array 0).job == none && (t.array 0).choice == 2 && (t.array 0).tile == []) = true
    ∧ runs s (.matrixDone 0 true) (fun t => (t.array 0).faulted && (t.array 0).owner == some 0) = true := by decide +kernel
/-- The word that holds ARRAYS_LIVE rests on the grade, which is open: the arrays' states are judged apart from it. -/
theorem test_selftest :
    let s := running [(F.BASIN_STATE_ARRAY 0, 3)]
    s.accepts 0 0xa00114 1 ∧ s.accepts 0 0xa00114 2 ∧ (s.put (F.BASIN_STATE_ARRAY 0) 2).arrayState 0 = 2 := by
  unfold State.accepts; decide +kernel
theorem test_array_retire :
    let s := running [(F.BASIN_STATE_ARRAY 0, 3)]
    let u := { s with bsn := { s.bsn with cores := [(0, { inv := some inv0 })], arrays := [(0, { owner := some 0 })] } }
    u.accepts 0 0xa00114 2 ∧ ((u.kernelFault 0 0 KF.ARRAY 0).core 0 0).inv = none
    ∧ ((u.kernelFault 0 0 KF.ARRAY 0).array 0).owner = none := by unfold State.accepts; decide +kernel

theorem test_fault_priv :
    let w := insn 0x10 0 0 0 0 0
    let s := onCore w { s := [(5, 5)], nextTag := 3 } [(F.CTX_W10_STATE 0, 2)]
    s.issues 0 0 0x10 w inv0 ∧ runs s (.insnVxa 0 0) (fun t => (t.core 0 0).inv == none && (t.core 0 0).s == [] && (t.core 0 0).nextTag == 3 && t.get (F.BASIN_FAULT_CODE 0) == 2
      && t.get (F.BASIN_FAULT_PC_KERNEL 0) == 0x100) = true
    ∧ runs ((onCore (insn 0x11 0 0 0 0 0) {} []).setCtx 0 { phase := 2 }) (.insnSys 0 0) (fun t => (t.ctx 0).phase == 4
      && (t.ctx 0).close == some stAborted && t.obs.logQ.length == 1) = true := by unfold State.issues; decide +kernel
theorem test_fault_illegal : classKnown 0xb = false ∧ runs (onCore (insn 0xb 0 0 0 0 0) {} []) (.insnVxa 0 0)
      (fun t => t.get (F.BASIN_FAULT_CODE 0) == 1) = true
    ∧ runs (onCore 0 {} []) (.insnSalu 0 0 none) (fun t => t.get (F.BASIN_FAULT_CODE 0) == 1) = true := by decide +kernel
theorem test_fault_align :
    let s := onCore (insn 0x2 0 3 1 2 0) { s := [(1, 0x8001)] } []
    let u := onCore (insn 0x2 0 3 1 2 0) { s := [(1, 0x20000)] } []
    runs s (.insnSmem 0 0 (some (.load 1 false)) false) (fun t => t.get (F.BASIN_FAULT_CODE 0) == 3) = true
    ∧ runs s (.insnSmem 0 0 (some (.store 1)) false) (fun t => t.get (F.BASIN_FAULT_CODE 0) == 3) = true
    ∧ u.place 0 inv0 0x20000 1 = .nothing ∧ runs u (.insnSmem 0 0 (some (.load 0 false)) false)
      (fun t => t.get (F.BASIN_FAULT_CODE 0) == 5) = true
    ∧ (onCore (insn 0x2 0 3 1 2 0) { s := [(1, 0x8000)] } []).loadBad 0 inv0 0x8000 1 true = true
    ∧ runs (onCore (insn 0x2 0 3 1 2 0) { s := [(1, 0x8000)] } []) (.insnSmem 0 0 (some (.load 0 false)) true)
      (fun t => t.get (F.BASIN_FAULT_CODE 0) == 0xb && t.get (F.BASIN_FAULT_ADDR_LO_ADDR 0) == 0x8000) = true := by decide +kernel
theorem test_fault_local_atomic :
    let s := onCore (insn 0x2 0 3 1 2 0) { s := [(1, 0x8000)] } []
    let u := onCore (insn 0x5 0 3 1 2 0) { s := [(1, 0x8000)] } []
    s.accessFault 0 inv0 0x8000 8 true = none
    ∧ runs s (.insnSmem 0 0 (some (.atomic .fadd true)) false) (fun t => t.get (F.BASIN_FAULT_CODE 0) == 5) = true
    ∧ u.accessFault 0 inv0 0x8000 64 true = none
    ∧ runs u (.insnVmem 0 0 (some (.add 0)) false) (fun t => t.get (F.BASIN_FAULT_CODE 0) == 5) = true := by decide +kernel
theorem test_fault_array :
    let s := mtxCore 3 { owner := some 1 }
    runs s (.mstream 0 0 true false regsV) (fun t => t.get (F.BASIN_FAULT_CODE 0) == 7) = true
    ∧ runs s (.mstream 0 0 false false regsV) (fun t => t.get (F.BASIN_FAULT_CODE 0) == 1) = true
    ∧ runs s (.mwait 0 0 true) (fun t => t.get (F.BASIN_FAULT_CODE 0) == 7) = true
    ∧ runs (s.put (F.BASIN_FAULT_VALID 0) 1) (.mrel 0 0 true) (fun t => t.get (F.BASIN_FAULT_CODE 0) == 0 && (t.core 0 0).inv == none) = true := by
  decide +kernel
theorem test_firmware_insn : runs (st []) (.insnVxa 0 0) (fun t => (t.core 0 0).inv == none && t.mem == {}) = true
    ∧ runs (st []) (.insnSys 0 0) (fun t => (t.core 0 0).inv == none && t.mem == {}) = true := by decide +kernel

theorem test_kl_load_refused : (running []).accepts 0 0x6018000 (2 ^ 31) ∧ (running []).loadCheck 0 = Rej.ABSENT
    ∧ runs (running []) (.klLoad 0 0) (fun t => t.get F.KL_STATUS_CODE == Rej.ABSENT && t.on F.KL_STATUS_DONE
      && !t.on F.KL_STATUS_OK) = true := by unfold State.accepts; decide +kernel
/-- Slot 0 loading with nothing staged but 8 bytes of code. -/
def loading0 : State :=
  let s := running [(F.KL_LEN_BYTES, 72), (F.KL_STATUS_BUSY, 1), (F.KL_FREE_BYTES, 100), (wordRef 0x06010008, 8)]
  { s with bsn := { s.bsn with loading := some 0 } }
theorem test_kl_load_done : runs loading0 .klLoadDone (fun t => t.slotLoaded 0 && t.get F.KL_FREE_BYTES == 92 && t.on F.KL_STATUS_OK
    && !t.on F.KL_STATUS_BUSY && t.bsn.loading == none) = true := by decide +kernel
theorem test_kl_unload :
    let s := running [(F.KL_LOADED_LOADED 0, 1)]
    let u := { s with bsn := { s.bsn with kernels := [(0, image 0)] } }
    u.accepts 0 0x6018000 (2 ^ 31 + 2 ^ 29) ∧ u.slotNamed 0 = false
    ∧ runs u (.klUnload 0 0) (fun t => !t.slotLoaded 0 && t.bsn.kernels == [] && t.on F.KL_STATUS_OK) = true := by
  unfold State.accepts; decide +kernel
/-- A context of an SGDM update of one element with an item that waits for a core. -/
def update0 (l : List (FRef × Nat)) : State :=
  barrier 2 ([(wordRef 0x5000000, 4 * 2 ^ 29), (wordRef 0x5000008, 0x40004), (wordRef 0x5000020, 2 ^ 16)] ++ l)
theorem test_kernel_invoke :
    let s := update0 []
    let i : KernelItem := { ctx := 0, cidx := 0, vals := [5], partial_ := false }
    let u := { s with col := { s.col with kernQ := [(0, [i])] } }
    (s.params 0).kernel = 1 ∧ u.idleCore 0 = some 0 ∧ u.takesItems 0 = true ∧ u.chunkReady 0 = false ∧ u.nextFin 0 = none
    ∧ u.mayInvoke 0 i = true
    ∧ runs u (.kernelInvoke 0) (fun t => ((t.core 0 0).inv.map Inv.vals) == some [5] && t.col.kernQ == []) = true
    ∧ (u.entryRegs 0 { ctx := 0, cidx := 0, kernel := 1, vals := [5], partial_ := false, gen := 1 }).getD 3 0
      = 0x01000040 := by decide +kernel
theorem test_user_return :
    let s := (onCore (insn 0x1 0 0 0 0 0) { s := [(1, 4)] } [])
    returnFault (s.params 0).ofmt ((s.core 0 0).sreg 1) ((s.core 0 0).sreg 2) = none ∧ s.stagedOn 0 + 4 ≤ s.stagingBytes 0
    ∧ ((nextOf (exec (.kernelReturn 0 0 false false) s)).map fun t => (t.col.outQ.length, (t.core 0 0).inv)) = some (1, none) := by
  decide +kernel
/-- SGDM with LR 1 and GSCALE 1 on w = 0: the gradient 1.0 leaves −1.0. -/
theorem test_sgdm :
    let hyper := leBytes 4 0x3f800000 ++ List.replicate 8 0#8 ++ leBytes 4 0x3f800000 ++ List.replicate 48 0#8
    let s := (update0 [(F.PWIN_W0_VALID 0, 1), (F.PWIN_W0_PART 0, 1), (F.PWIN_W2_NPAGES 0, 1)]).modCtx 0 fun x => { x with hyper := hyper }
    let v : Inv := { ctx := 0, cidx := 0, kernel := 1, vals := [0x3f800000], partial_ := false, gen := 1
                     got := [(0, leBytes 4 0), (1, leBytes 4 0)] }
    let u := s.setCore 0 0 { inv := some v }
    s.readFields v = [[0], [0]] ∧ kparamOk v.kernel (u.params 0).ofmt hyper = true
    ∧ (((u.builtinStep 0 0).core 0 0).inv.bind Inv.made).map Prod.fst = some (leBytes 4 0xbf800000)
    ∧ ((u.builtinStep 0 0).core 0 0).pend.length = 2 := by decide +kernel
/-- The same invocation once its writes are acknowledged. -/
theorem test_builtin_return :
    let s := update0 [(F.PWIN_W0_VALID 0, 1), (F.PWIN_W0_PART 0, 1), (F.PWIN_W2_NPAGES 0, 1)]
    let v : Inv := { ctx := 0, cidx := 0, kernel := 1, vals := [0x3f800000], partial_ := false, gen := 1
                     made := some (leBytes 4 0xbf800000, []) }
    let u := s.setCore 0 0 { inv := some v }
    u.issuing 0 = true ∧ (u.ctx 0).hyperBad = false ∧ (u.winAddr (u.ctxKey 0).1 (u.stateOffset 0 0)).isSome = true
    ∧ u.stagedOn 0 + 4 ≤ u.stagingBytes 0
    ∧ runs u (.kernelReturn 0 0 false false) (fun t => t.col.outQ.map (fun o => o.body.bytes) == [[0#8, 0#8, 0x80#8, 0xbf#8]]
      && (t.core 0 0).inv == none) = true := by decide +kernel

/-! ### Stacked memory -/

/-- Channel 0 with one granted request of a core for address 0. -/
def asked (op : MemOp) (len : Nat) (data : List Byte) (src : MemSrc) : State :=
  let q : MemReq := { src := src, op := op, addr := 0, len := len, data := data }
  ((st []).setChanReqs 0 [q]).setArb 0 { busy := true, owner := reqClass q }
def place0 : Loc := ⟨0, 0, 0, 0⟩
/-- Stacked memory starting with the byte 5. -/
def holding (s : State) : State := { s with mem := { s.mem with bytes := [(0, 5#8)] } }
def fromCore : MemSrc := .core 0 0 7
/-- The answer's data at the memory stop of stack 0 toward Basin 0. -/
def answer (t : State) : List RingBody := (t.stopPkts (stopInst 3 1 1) 0).map RingPkt.body

theorem test_ready : (holding (asked (.fadd false) 4 [3#8, 0#8, 0#8, 0#8] fromCore)).ready 0 0
      { src := fromCore, op := .fadd false, addr := 0, len := 4, data := [3#8, 0#8, 0#8, 0#8] } place0
    ∧ (holding (asked (.fadd false) 4 [3#8, 0#8, 0#8, 0#8] fromCore)).unpoisoned place0 4 := by
  unfold State.ready State.unpoisoned; decide +kernel
theorem test_fadd : runs (holding (asked (.fadd false) 4 [3#8, 0#8, 0#8, 0#8] fromCore)) (.memFadd 0 0 []) (fun t =>
    t.memBytes 0 4 == [8#8, 0#8, 0#8, 0#8] && answer t == [.rsp ⟨fromCore, [5#8, 0#8, 0#8, 0#8], false⟩]
      && t.chanReqs 0 == []) = true := by decide +kernel
theorem test_faddf : runs (asked .faddf 4 [0#8, 0#8, 0x80#8, 0x3f#8] fromCore) (.memFaddf 0 0 []) (fun t =>
    t.memBytes 0 4 == [0#8, 0#8, 0x80#8, 0x3f#8]) = true := by decide +kernel
theorem test_swap : runs (holding (asked (.swap false) 4 [9#8, 0#8, 0#8, 0#8] fromCore)) (.memSwap 0 0 []) (fun t =>
    t.memBytes 0 4 == [9#8, 0#8, 0#8, 0#8] && answer t == [.rsp ⟨fromCore, [5#8, 0#8, 0#8, 0#8], false⟩]) = true := by decide +kernel
theorem test_cas : runs (holding (asked (.cas false) 4 [5#8, 0#8, 0#8, 0#8, 6#8, 0#8, 0#8, 0#8] fromCore)) (.memCas 0 0 [])
      (fun t => t.memAt 0 == 6#8) = true
    ∧ runs (holding (asked (.cas false) 4 [4#8, 0#8, 0#8, 0#8, 6#8, 0#8, 0#8, 0#8] fromCore)) (.memCas 0 0 [])
      (fun t => t.memAt 0 == 5#8) = true := by decide +kernel
theorem test_fmin_fmax : runs (holding (asked .fmin 8 (List.replicate 8 0xff#8) fromCore)) (.memFmin 0 0 []) (fun t => t.memAt 0 == 0xff#8) = true
    ∧ runs (holding (asked .fmax 8 (List.replicate 8 0xff#8) fromCore)) (.memFmax 0 0 []) (fun t => t.memAt 0 == 5#8) = true := by
  decide +kernel
theorem test_atomic_align : runs (onCore (insn 0x2 0 3 1 2 0) { s := [(1, 2)] } []) (.insnSmem 0 0 (some (.atomic .swap false)) false)
    (fun t => t.get (F.BASIN_FAULT_CODE 0) == 3) = true := by decide +kernel
theorem test_mem_read : runs (holding (asked .read 2 [] (.host 0))) (.memRead 0 0 []) (fun t => t.obs.out == [.readData 0 0 5]) = true
    ∧ runs ((holding (asked .read 2 [] (.host 0))).setPoison 0 true) (.memRead 0 0 []) (fun t => t.obs.out == [.readPoison 0 0]) = true := by
  decide +kernel
/-- Two lines under a grant of one. -/
theorem test_mem_read_part : let s := asked .read 600 [] (.host 0)
    (s.chanReqs 0).map lineCount = [2] ∧ (s.chanReqs 0).map (s.mayPerform 0 0) = [true]
    ∧ runs s (.memRead 0 0 []) (fun t => (t.chanReqs 0).map (fun q => (q.addr, q.len, q.got.length)) == [(512, 88, 512)]) = true := by
  decide +kernel
theorem test_mem_write : runs (asked .write 2 [1#8, 2#8] fromCore) (.memWrite 0 0 []) (fun t => t.mem.bytes == [(0, 1#8), (1, 2#8)]
    && answer t == [.rsp ⟨fromCore, [], false⟩]) = true := by decide +kernel
theorem test_mem_add : runs (holding (asked (.add 0x5) 4 [0xfb#8, 0#8, 0#8, 0#8] fromCore)) (.memAdd 0 0 []) (fun t =>
    t.mem.bytes == [(1, 1#8)]) = true := by decide +kernel
theorem test_scrub : let s := (later (st [])).setArb 0 { busy := true, owner := 3 }
    s.scrubDue 0 = true ∧ s.arbOwns 0 3 = true ∧ runs s (.scrubLine 0 []) (fun t => t.mem.scrubPos == [(0, 1)]) = true := by decide +kernel
theorem test_aperture : (running []).answers 0x8000000 = true ∧ (running []).apRefused 0 4 = false ∧ (running []).locate ((running []).apAddr 0) = some place0
    ∧ runs (running []) (.apertureRead 1 0 4) (fun t => (t.chanReqs 0).length == 1) = true
    ∧ runs (running []) (.apertureWrite 1 0 [1#8]) (fun t => (t.chanReqs 0).map MemReq.data == [[1#8]]) = true
    ∧ (st []).answers 0x8000000 = false ∧ runs (st []) (.apertureRead 1 0 4) (fun t => t.obs.out == [.readData 1 0x08000000 0]) = true
    ∧ runs (st []) (.apertureWrite 1 0 [1#8]) (fun t => t.get F.MGMT_REJECT_CODE == Rej.BUSY && t.mem == {}) = true := by decide +kernel
theorem test_aperture_refused : let s := running [(F.MEMCFG_APBASE_BASE, 0x7fff), (F.MEMCFG_CAP_CAP_16M, 16)]
    s.answers 0x8000000 = true ∧ s.apRefused 0 1 = true ∧ runs s (.apertureRead 1 0 1) (fun t => t.obs.out == [.readData 1 0x08000000 0xff]) = true
    ∧ runs s (.apertureWrite 1 0 [1#8]) (fun t => t.get F.MGMT_REJECT_CODE == Rej.RANGE && t.mem == {}) = true := by decide +kernel
/-- A core's read of one byte at a channel. -/
def oneRead : MemReq := { src := fromCore, op := .read, addr := 0, len := 1 }
theorem test_grant : let s := later ((st []).setChanReqs 0 [oneRead])
    s.arbSeen 0 0 = true ∧ s.arbFrozen 0 = false ∧ s.arbHolds 0 = false
    ∧ runs s (.arbGrant 0) (fun t => (t.arb 0).busy && (t.arb 0).owner == 0) = true
    ∧ runs (s.put (F.ARB_CTRL_FREEZE 0) 1) (.arbGrant 0) (fun t => !(t.arb 0).busy) = true := by decide +kernel
theorem test_starve :
    let s := later (((st []).setChanReqs 0 [oneRead]).setArb 0 { waits := [(0, 1)] })
    s.arbReq 0 0 = true ∧ 2 * s.get (F.ARB_CTRL_STARVE_CLK 0) * 1600 ≤ s.ranHalves (instIsland 0) (s.arbSince 0 0 - 1) * s.arbMhz 0
    ∧ runs s (.arbStarve 0 0) (fun t => nbit (t.get (F.ARB_STARVE_STARVE 0)) 0 == 1 && nbit (t.get F.MEMCFG_ISTAT_ISTAT) 7 == 1) = true := by
  decide +kernel
/-- A request of Basin 0 for stack 0: from stop 0 to stop 3. -/
def ringPkt (at_ : Nat) : RingPkt := ⟨0, 0, at_, 3, 0, .req 0 oneRead⟩
theorem test_ring_inject :
    let s := ((st []).setStopPkts (stopInst 0 0 0) 0 [ringPkt 0]).setArb (stopInst 0 0 0) { busy := true }
    s.arbOwns (stopInst 0 0 0) 0 = true ∧ s.stopHeld 0 = false ∧ s.transitWaits 0 0 = false
    ∧ runs s (.ringInject 0 0 0) (fun t => t.mem.ring == [ringPkt 0] && t.stopPkts (stopInst 0 0 0) 0 == []) = true
    ∧ runs { s with mem := { s.mem with ring := List.replicate 3 (ringPkt 0) } } (.ringInject 0 0 0)
      (fun t => t.mem.ring.length == 3) = true
    ∧ (let u : State := { s with mem := { s.mem with ring := [⟨0, 0, 0, 3, 65, .req 0 oneRead⟩] } }
      u.transitWaits 0 0 = true ∧ runs u (.ringInject 0 0 0) (fun t => t.mem.ring.length == 1) = true) := by decide +kernel
theorem test_ring_deliver :
    let s := { st [] with mem := { (st []).mem with ring := [ringPkt 3] } }
    let r : RingPkt := ⟨1, 1, 0, 0, 3, .rsp ⟨fromCore, [9#8], false⟩⟩
    let u := onCore 0 { pend := [⟨7, .scalar 4 1 false, 0, 0⟩] } []
    runs s (.ringDeliver 3 0 0) (fun t => t.mem.ring == [] && (t.chanReqs 0).length == 1) = true
    ∧ runs { u with mem := { u.mem with ring := [r] } } (.ringDeliver 0 1 1) (fun t => reg t 4 == 9 && (t.core 0 0).pend == []) = true := by
  decide +kernel
theorem test_repair : (running []).accepts 0 0xb0011c (2 ^ 31 + 5) ∧ (running []).freeSpare 0 0 = some 0
    ∧ runs (running []) (.repairRequest 0 0 0 5) (fun t => t.mem.repairs == [{ chan := 0, bank := 0, row := 5, spare := 0 }]) = true := by
  unfold State.accepts; decide +kernel
theorem test_mapreq : (running []).accepts 0 0xb00118 (2 ^ 31 + 3 * 2 ^ 14)
    ∧ runs (running []) (.mapreqGo 0 false 0 3) (fun t => t.on F.MEMCFG_MAPOUT_PENDING && t.get F.MEMCFG_MAPOUT_BANK == 3) = true := by
  unfold State.accepts; decide +kernel
theorem test_mapout_start :
    let s := st [(F.MEMCFG_MAPOUT_PENDING, 1), (F.MEMCFG_MAPOUT_BANK, 3)]
    s.mapBlockers = [] ∧ s.slotOf 0 3 = some 3 ∧ runs s .mapoutStart (fun t => t.on F.MEMCFG_MAPOUT_MOVING && t.mem.mapSlot == 3
      && t.get (F.BANK_W0_STATE (bankIx 0 3)) == 1) = true := by decide +kernel
/-- What BANK_MAPOUT_DONE, a channel's map-out and ROW_REMAP_DONE need. -/
theorem test_mapout_states :
    let s0 := st [(F.MEMCFG_MAPOUT_MOVING, 1), (F.MEMCFG_MAPOUT_BANK, 3)]
    let s : State := { s0 with mem := { s0.mem with copied := 4096 } }
    let u := st [(F.MEMCFG_MAPOUT_PENDING, 1), (F.MEMCFG_MAPOUT_KIND, 1)]
    s0.copying 0 3 = true ∧ s.copying 0 3 = false ∧
    s.mem.mapSlot ≤ s.get (F.CHAN_W0_NC 0) - 1 ∧ s.get (F.CHAN_W0_NC 0) - 1 < 64 ∧ 1 ≤ s.get (F.CHAN_W0_NC 0)
    ∧ u.mapBlockers = [] ∧ u.on F.MEMCFG_MAPOUT_KIND = true := by decide +kernel
def repair0 : State :=
  let s := (st []).setArb 0 { busy := true, owner := 4, limit := 8 }
  { s with mem := { s.mem with repairs := [{ chan := 0, bank := 0, row := 5, spare := 0 }] } }
theorem test_remap_failed : runs repair0 (.rowRemapDone 0 0 5 true []) (fun t => nbit (t.get (F.BANK_W1_RETIRED 0)) 0 == 1
    && t.mem.repairs == [{ chan := 0, bank := 0, row := 5, spare := 1 }]) = true := by decide +kernel
/-- Under a grant of 3 lines the copy stops after them. -/
theorem test_remap_part : let s := repair0.setArb 0 { busy := true, owner := 4, limit := 3 }
    s.copyLeft 0 0 = 3 ∧ runs s (.rowRemapDone 0 0 5 false []) (fun t => t.mem.repairs.map Repair.lines == [3]) = true := by decide +kernel
theorem test_remap_row : repair0.arbOwns 0 4 = true ∧ repair0.copyLeft 0 0 = 8 ∧ runs repair0 (.rowRemapDone 0 0 5 false []) (fun t =>
    t.on (F.BANK_W32_VALID 0 0) && t.get (F.BANK_W32_ROW 0 0) == 5 && t.mem.repairs == []) = true := by decide +kernel
/-- A map-out of bank 3 of channel 0 that is to copy row 0. -/
theorem test_remap_copy :
    let s := (st [(F.MEMCFG_MAPOUT_MOVING, 1), (F.MEMCFG_MAPOUT_BANK, 3)]).setArb 0 { busy := true, owner := 4, limit := 8 }
    let u : State := { s with mem := { s.mem with mapSlot := 3 } }
    u.copying 0 3 = true ∧ u.mem.copied = 0 ∧ u.copyLeft 0 0 = 8
    ∧ runs u (.rowRemapDone 0 3 0 false []) (fun t => t.mem.copied == 1 && t.get (F.BANK_W0_COPY 3) == 1) = true := by decide +kernel
theorem test_margin : (running []).accepts 0 0xb00120 (2 ^ 31) ∧ (running []).accepts 0 0xb00120 (2 ^ 31 + 2 ^ 30)
    ∧ runs (running []) (.marginFull 0 0) (fun t => t.margining 0 == 1 && t.chanState 0 == 1) = true
    ∧ runs (running []) (.marginScan 0 0) (fun t => t.margining 0 == 2 && t.chanState 0 == 0) = true := by
  unfold State.accepts; decide +kernel
theorem test_margin_done :
    let s := { st [] with mem := { (st []).mem with margining := [(0, 1)] } }
    s.arbHolds 0 = false
    ∧ runs s (.marginDone 0 20#8 8#8 30#8 9#8 3 false [{}]) (fun t => t.get (F.MARGIN_W1_RESULT 0) == 0 && t.chanState 0 == 0
      && (t.pinSets 0).length == 64) = true
    ∧ runs s (.marginDone 0 19#8 8#8 30#8 9#8 3 false []) (fun t => t.get (F.MARGIN_W1_RESULT 0) == 1
      && nbit (t.get F.ANN_ISTAT_ISTAT) 4 == 1) = true
    ∧ runs s (.marginDone 0 20#8 8#8 9#8 9#8 3 false []) (fun t => t.get (F.MARGIN_W1_RESULT 0) == 2 && t.chanState 0 == 2
      && t.on F.MEMCFG_MAPOUT_PENDING) = true := by decide +kernel

/-! ### The Glass -/

/-- With the Glass bus granted to a requester. -/
def busOf (s : State) (r : Nat) : State := s.setArb 776 { busy := true, owner := r }

/-- Plane 0 runs a cycle of one slot of 128 ns with pattern 0, whose output 1 takes input 0; bank 0 is active. -/
def glass0 (l : List (FRef × Nat)) (p : PlaneSt) : State :=
  (st ([(F.GLASS_GLSTAT_CTRL_STATE, 3), (F.GLASS_GLCFG_BANKEN_PLANE_EN 0, 1), (F.GSCHED_W0_LAST 0, 1), (F.GSCHED_W1_DUR 0, 64),
    (wordRef 0x9080000, 0x8000)] ++ l)).setPlane 0 p
def lightPath : List (FRef × Nat) :=
  [(F.RING_W0_STATE 0, 2), (F.RING_W0_STATE 48, 2), (F.GLASS_GLCFG_POWER_P_IN_LOS, 0x8000)]

theorem test_boundary :
    let s := glass0 lightPath { entry := some 0 }
    s.planeEn s.glActive 0 = true ∧ s.entryOuts 0 0 0 = [(1, 0)] ∧ s.pathLit 0 0 1 0 = true
    ∧ runs s (.glassBoundary 0) (fun t => (t.plane 0).entry == some 0 && (t.plane 0).next == 128
      && (t.plane 0).lit == 2 && (t.plane 0).bias == [(1, s.slotBias 0 0 1 0 1)] && (t.plane 0).states.length == mziCount) = true := by
  decide +kernel
theorem test_boundary_early : runs (glass0 [] { entry := some 0, next := 5 }) (.glassBoundary 0)
    (fun t => t.plane 0 == { entry := some 0, next := 5 }) = true := by decide +kernel
theorem test_boundary_realign :
    let s := glass0 [] { entry := some 0, lit := 2 }
    runs { s with glass := { s.glass with realign := some 0 } } (.glassBoundary 0) (fun t => t.plane 0 == {}) = true
    ∧ runs { s.setPlane 0 { entry := some 0, ends := some 5 } with glass := { (s.setPlane 0 { entry := some 0, ends := some 5 }).glass with
      realign := some 0 } } (.glassBoundary 0) (fun t => (t.plane 0).entry == some 0) = true := by
  decide +kernel
theorem test_drive_loaded : runs (busOf { st [] with glass := { (st []).glass with loading := true } } 4) .glassDriveLoaded
    (fun t => t.on F.GLASS_GLSTAT_CTRL_IDLE_READY && t.glass.loaded1) = true := by decide +kernel
/-- A switch to bank 1, which enables plane 0, armed for device time 0. -/
def armed0 (core : Nat) : State :=
  let s := glass0 [(F.GLASS_GLCFG_BANKEN_PLANE_EN 1, 1), (F.GSCHED_W0_LAST 0x8000, 1), (F.GSCHED_W1_DUR 0x8000, 70),
    (F.GLASS_GLSTAT_CTRL_IDLE_READY, 1), (F.GLASS_GLSTAT_CTRL_ARMED, 1)] { entry := some 0 }
  { s with time := { s.time with ns := core }, glass := { s.glass with armed := some ⟨1, 0, 0, none⟩ } }
theorem test_switch_time : (armed0 0).switchTime ⟨1, 0, 0, none⟩ = 20096 := by decide +kernel
theorem test_switch : runs (armed0 30000) .glassSwitch (fun t => t.glActive == 1 && t.on F.GLASS_GLSTAT_CTRL_LATE
    && t.get F.GLASS_GLSTAT_TSTART_NS_NS == 20096 && (t.plane 0).entry == some 0 && t.glass.armed == none) = true := by decide +kernel
theorem test_switch_early : runs (armed0 10) .glassSwitch (fun t => t.glActive == 0) = true := by decide +kernel
theorem test_realign_resume :
    let s := glass0 [] {}
    runs { s with glass := { s.glass with realign := some 0 } } .glassRealignResume
      (fun t => (t.plane 0).entry == some 0 && t.glass.realign == none) = true
    ∧ runs { s with glass := { s.glass with realign := some 9 } } .glassRealignResume
      (fun t => (t.plane 0).entry == none && t.glass.realign == some 9) = true := by decide +kernel
theorem test_search : (running []).accepts 0 0xc00170 (2 ^ 31 + 3)
    ∧ runs (running []) (.glassSearch 0 false 3) (fun t => t.ringSt 96 == 1 && t.ringSt 0 == 0 && t.glass.searching == 8) = true := by
  unfold State.accepts; decide +kernel
/-- A search of fibre 0 under way for ring 0, working, and ring 8, spare. -/
def searching0 : State :=
  let s := st [(F.RING_W0_STATE 0, 1), (F.RING_W0_STATE 8, 1), (F.GLASS_GLSTAT_CTRL_STATE, 1)]
  { s with glass := { s.glass with searching := 1 } }
/-- Eight peaks above −25 dBm, one to a lane. -/
def eight (r : Fin 2048) : RingFind := ⟨r, (List.range 8).map fun i => (BitVec.ofNat 12 (100 + i), 7#16)⟩
/-- One ring's find ends its search; the sweep of all rings that follows is judged ring by ring. On an add ring one lane is
present, so that one peak is labelled whatever the slope. -/
theorem test_ring_found :
    (busOf searching0 6).arbOwns 776 6 = true
    ∧ (searching0.setRing 24 1).labelled ⟨24, [(9#12, 7#16)]⟩ = some (9, 7)
    ∧ ((searching0.setRing 24 1).ringFound ⟨24, [(9#12, 7#16)]⟩).ringSt 24 = 3
    ∧ ((searching0.setRing 16 1).ringFound ⟨16, [(9#12, 7#16)]⟩).ringSt 16 = 4
    ∧ searching0.labelled ⟨0, [(9#12, 7#16)]⟩ = none ∧ (peaksAbove ⟨0, [(9#12, 7#16), (10#12, 0xf000#16)]⟩).length = 1
    ∧ (searching0.ringFound ⟨0, [(9#12, 7#16)]⟩).ringSt 0 = 6
    ∧ (searching0.put F.GLASS_GLMIG_STATUS_SPARE 2).ringServed 0 = true ∧ (searching0.ringUnfound 0).ringSt 0 = 6 := by decide +kernel
/-- All eight lanes present label eight peaks in one way. -/
theorem test_labels : searching0.busLanes 8 = [0, 1, 2, 3, 4, 5, 6, 7] ∧ searching0.labelled (eight 8) = some (100, 7)
    ∧ (searching0.ringFound (eight 8)).ringSt 8 = 3 := by decide +kernel
theorem test_nolight : (later (st [(F.RING_W0_STATE 5, 6)])).passed 0 (secClocks 1) = true := by decide +kernel
/-- Ring 0, locked at −10 dBm, low for long, its input lit. -/
def unlocking : State := (busOf (later (st lightPath)) 1).setRingLock 0 { stepped := 1, level := some (-1000), low := 1 }
theorem test_unlock : unlocking.ringSt 0 = 2 ∧ unlocking.passed 0 unlockClocks = true ∧ (unlocking.ringLock 0).lowAt 0xf800 = true
    ∧ unlocking.ringLight 0 = true
    ∧ runs unlocking (.ringUnlock 0 0xf800#16) (fun t => t.ringSt 0 == 5 && t.get (F.RING_W1_MON 0) == 0xf800) = true := by
  decide +kernel
theorem test_relock : runs (busOf (st [(F.RING_W0_STATE 0, 5)]) 1) (.ringRelock 0 (some 77#12) 9#16) (fun t => t.ringSt 0 == 2
      && t.get (F.RING_W0_HEATER 0) == 77 && t.get (F.RING_W1_RELOCKS 0) == 1) = true
    ∧ runs (busOf (st [(F.RING_W0_STATE 0, 5)]) 1) (.ringRelock 0 none 9#16) (fun t => t.ringSt 0 == 1 && t.glass.searching == 1) = true
    ∧ runs (busOf (st [(F.RING_W0_STATE 0, 5)]) 1) (.ringRelock 0 (some 257#12) 9#16) (fun t => t.ringSt 0 == 1) = true := by
  decide +kernel
theorem test_lock_step :
    let s := busOf (later (st [(F.RING_W0_STATE 0, 2), (F.RING_W0_STATE 8, 3), (F.RING_W0_STATE 16, 2)])) 1
    s.arbOwns 776 1 = true ∧ s.ringSt 8 = 3 ∧ s.passed ((s.ringLock 0).stepped - 1) lockClocks = true ∧ s.addLit 16 = false
    ∧ runs s (.ringLockStep 16 9#16) (fun t => t.ringSt 16 == 4) = true
    ∧ (s.put (F.RING_W0_STATE 17) 4).ringSt 17 = 4 := by decide +kernel
theorem test_in_los : runs (busOf (st [(F.RING_W0_STATE 0, 2)]) 1) (.glassInLos 0 0 0xe000#16) (fun t => t.ringSt 0 == 4) = true
    ∧ runs (busOf (st [(F.RING_W0_STATE 0, 4)]) 1) (.glassInRestore 0 0 0#16) (fun t => t.ringSt 0 == 2) = true := by decide +kernel
theorem test_power_update : let s := busOf (later (glass0 [] { litPower := 2 })) 3
    s.arbOwns 776 3 = true ∧ s.passed s.glass.lastPower (msClocks 1) = true
    ∧ (s.inputReading 0 (readingOf [((0 : Fin 512), 5#16)] 0 0)).get (F.GIN_W0_PIN 0) = 5
    ∧ (s.outputReading 1 (readingOf [((1 : Fin 576), 6#16)] 1 0)).get (F.SOA_W1_POUT 1) = 6 := by decide +kernel
theorem test_bias_due : (busOf (later (st [])) 2).passed (later (st [])).glass.lastBias (msClocks 10) = true
    ∧ (busOf (later (st [])) 2).arbOwns 776 2 = true := by decide +kernel
/-- Plane 2 has been low since the start. -/
def low2 (l : List (FRef × Nat)) : State := (later (st l)).setPlane 2 { lowSince := some 0 }
theorem test_headroom : runs (low2 [(F.GLASS_GLCFG_CTRL_AUTO_MIG, 1), (F.GLASS_GLSTAT_CTRL_STATE, 3)]) (.glassHeadroomLow 2) (fun t =>
      t.get F.GLASS_GLMIG_STATUS_SPARE == 1 && t.get F.GLASS_GLMIG_STATUS_PLANE == 2 && t.get (F.PLANE_PSTATE_STATE 2) == 2) = true
    ∧ runs (low2 [(F.GLASS_GLCFG_CTRL_AUTO_MIG, 0)]) (.glassHeadroomLow 2) (fun t => (t.plane 2).lowLogged) = true := by decide +kernel
theorem test_out_low :
    let s := later (st [])
    runs { s with glass := { s.glass with outLow := [(3, 1)] } } (.glassOutLow 3) (fun t => t.glass.outLowSeen == [(3, true)]) = true := by
  decide +kernel
theorem test_mig_go : (running []).accepts 0 0xc00160 (2 ^ 31 + 2) ∧ runs (running []) (.glassMigGo 0 2) (fun t =>
      t.get F.GLASS_GLMIG_STATUS_SPARE == 1 && t.get F.GLASS_GLMIG_STATUS_PLANE == 2) = true
    ∧ (running [(F.GLASS_GLMIG_STATUS_SPARE, 2)]).accepts 0 0xc00160 (2 ^ 30)
    ∧ runs (running [(F.GLASS_GLMIG_STATUS_SPARE, 2)]) (.glassReturn 0) (fun t => t.glass.returnAsk == some 0) = true
    ∧ (let s := busOf (st []) 0
      State.glassReturn { s with glass := { s.glass with returnAsk := some 0 } }).glass.returnNs = some 0 := by
  unfold State.accepts; decide +kernel
theorem test_mig_armed : runs (busOf (later (glass0 [(F.GLASS_GLMIG_STATUS_SPARE, 1)] { entry := some 0 })) 0) .glassMigArmed
    (fun t => t.glass.takeover == some 10112) = true := by decide +kernel
theorem test_mig_done :
    let s := later (st [])
    runs { s with glass := { s.glass with servingAt := some 0 } } .glassMigDone (fun t => t.glass.servingAt == none) = true := by
  decide +kernel
/-- Plane 0 at a boundary that a migration or a return takes. -/
def atBoundary (spare : Nat) (takeover ret : Option Nat) : State :=
  let s := glass0 [(F.GLASS_GLMIG_STATUS_SPARE, spare), (F.GLASS_GLCFG_POWER_P_IN_LOS, 0x8000), (F.RING_W0_STATE 0, if spare = 1 then 5 else 4)] { entry := some 0 }
  { s with glass := { s.glass with takeover := takeover, returnNs := ret } }
theorem test_take_over : runs (atBoundary 1 (some 0) none) (.glassBoundary 0) (fun t => t.spareServes == some 0 && t.ringSt 0 == 4
    && t.get (F.PLANE_PSTATE_STATE 0) == 3 && (t.plane 8).entry == some 0) = true := by decide +kernel
theorem test_hand_back : runs (atBoundary 2 none (some 0)) (.glassBoundary 0) (fun t => t.get F.GLASS_GLMIG_STATUS_SPARE == 0
    && t.ringSt 0 == 2 && t.get (F.PLANE_PSTATE_STATE 8) == 4) = true := by decide +kernel

/-! ### Device time -/

theorem test_latch : (running []).accepts 0 0xd00108 1
    ∧ runs { running [] with time := { (running []).time with sec := 2 ^ 32 + 5, ns := 7, frac := 9 } } (.timeLatch 0) (fun t =>
      t.get F.TIME_NOW_SEC_HI_SEC_HI == 1 && t.get F.TIME_NOW_SEC_LO_SEC_LO == 5 && t.get F.TIME_NOW_NS_NS == 7
        && t.get F.TIME_NOW_FRAC_FRAC == 9) = true := by unfold State.accepts; decide +kernel
theorem test_latch_before_step :
    let s := { running [] with time := { (running []).time with ns := 7, preStep := some (0, 3 * 2 ^ 56) } }
    s.accepts 0 0xd00108 1 ∧ s.now = 0 ∧ runs s (.timeLatch 0) (fun t => t.get F.TIME_NOW_NS_NS == 3) = true := by
  unfold State.accepts; decide +kernel
theorem test_set_time :
    let s := running [(F.TIME_SET_SEC_LO_SEC_LO, 6), (F.TIME_SET_NS_NS, 7)]
    s.accepts 0 0xd0012c (2 ^ 31) ∧ SMap.wf (fun _ => 0) s.obs.sel = true
    ∧ runs s (.timeSet 0) (fun t => t.time.sec == 6 && t.time.ns == 7 && t.get F.TIME_STAT_STEPS == 1) = true := by
  unfold State.accepts; decide +kernel
theorem test_adj_time :
    let s := running [(F.TIME_ADJ_NS_ADJ_NS, 12), (F.TIME_STAT_SERVO, 2)]
    s.accepts 0 0xd0012c (2 ^ 30) ∧ runs s (.timeAdj 0) (fun t =>
      t.devNs == s.devNs + 12 && t.get F.TIME_STAT_SERVO == 1) = true := by unfold State.accepts; decide +kernel
theorem test_freq_write : (running []).accepts 0 0xd00134 0xfffffff0
    ∧ runs (running []) (.timeFreqWrite 0 0xfffffff0#32) (fun t => t.freqAdj == -16) = true := by
  unfold State.accepts; decide +kernel
theorem test_src_write : (running []).accepts 0 0xd00100 0x80000000
    ∧ runs (running []) (.timeSrcWrite 0 0x80000000#32) (fun t => t.get F.TIME_STAT_SERVO == 1) = true := by
  unfold State.accepts; decide +kernel
/-- Source HOST in ACQUIRE, with a sample of `ns`. -/
def sampling (ns : Nat) (l : List (FRef × Nat)) : State :=
  running ([(F.TIME_CTL_SRC, 3), (F.TIME_STAT_SERVO, 1), (F.TIME_OFFS_NS_NS, ns)] ++ l)
/-- A sample of `x` in 2^-16 ns that the end of the clock is to take. -/
def closing (s : State) (x : Int) : State := { s with time := { s.time with samples := [(x, s.time.steps)] } }
theorem test_sample_waits : (sampling 1 []).accepts 0 0xd0013c 0
    ∧ runs (sampling 1 []) (.hostSample 0 0#16) (fun t => t.time.samples == [(65536, 0)] && t.freqAdj == 0) = true := by
  unfold State.accepts; decide +kernel
theorem test_sample_dropped :
    let s := sampling 1 []
    let s1 := { s with time := { s.time with hostStepAt := some s.now } }
    SMap.wf (fun _ => 0) s.obs.sel = true ∧ (closing s1 65536).samplesClose.time = s1.time
    ∧ (closing (sampling 1 [(F.TIME_STAT_SERVO, 0)]) 65536).samplesClose.freqAdj = 0
    ∧ (closing (sampling 1 [(F.TIME_CTL_STEP_EN, 1)]) (2 ^ 40)).samplesClose.time.steps = 0 := by decide +kernel
theorem test_sample_steps :
    let s := { sampling 2000 [(F.TIME_CTL_STEP_EN, 1)] with time := { (sampling 2000 []).time with sec := 1 } }
    let t := (closing s (2000 * 65536)).samplesClose
    s.time.hostStepAt ≠ some s.now ∧ t.time.sec = 0 ∧ t.time.ns = 999998000 ∧ t.time.steps = s.time.steps + 1 := by decide +kernel
/-- x = 8 ns: KI 6 gives 0.125 ppb and KP 3 gives 1 ppb, so that y = 1.125 ppb and FREQ_ADJ = −round(1236.95). -/
theorem test_sample_loop :
    let s := { sampling 8 [] with time := { (sampling 8 []).time with lockRun := 7 } }
    let t := (closing s (8 * 65536)).samplesClose
    t.freqAdj = -1237 ∧ t.get F.TIME_STAT_SERVO = 2 ∧ t.gets F.TIME_LASTOFS_NS = 8 := by decide +kernel
theorem test_holdover :
    let s := later (st [(F.TIME_STAT_SERVO, 2)])
    s.passed s.time.lastSample (msClocks (s.get F.TIME_LOCK_HOLD_MS)) = true
    ∧ runs s .servoHoldover (fun t => t.get F.TIME_STAT_SERVO == 3 && t.freqAdj == 0) = true := by decide +kernel
theorem test_pps_out :
    let s := st [(F.TIME_CTL_PPSOUT_EN, 1), (F.TIME_CTL_PPS_GATE, 0)]
    s.time.ppsLastSec < s.ppsEdgesBy s.devNs ∧ runs s .ppsOutEdge (fun t => t.obs.out == [.pin "PPS_OUT" true]) = true
    ∧ runs { s with time := { s.time with ppsLastSec := 1 } } .ppsOutEdge (fun t => t.obs.out == []) = true
    ∧ runs { s with time := { s.time with ppsSent := [(1, 1)] } } .ppsOutEdge (fun t => t.obs.out == [] && t.time.ppsLastSec == 1) = true := by decide +kernel
theorem test_pps_fall :
    let s := later (st [])
    runs { s with time := { s.time with ppsHighSince := some 0 } } .ppsOutFall (fun t => t.obs.out == [.pin "PPS_OUT" false]) = true := by
  decide +kernel
theorem test_pps_in :
    let s := st [(F.TIME_CTL_SRC, 2), (F.TIME_STAT_SERVO, 1), (F.TIME_NEXTSEC_VALID, 1), (F.TIME_NEXTSEC_SEC, 4)]
    let s1 := { s with time := { s.time with sec := 4, ns := 30 } }
    runs { s1 with time := { s1.time with ppsInLast := some 0 } } .ppsInEdge (fun t => t.get F.TIME_PPSIN_COUNT == 0) = true
    ∧ runs s1 .ppsInEdge (fun t => t.get F.TIME_PPSIN_COUNT == 1 && t.get F.TIME_NEXTSEC_SEC == 5
      && t.time.samples == [(30 * 65536, 0)]) = true := by decide +kernel

/-! ### Time messages -/

/-- A TIME packet of a message type with a two-step flag, sequenceId 3 and `len` bytes of message. -/
def timeMsg (type flags len : Nat) (src : List Byte) : List Byte :=
  dfpHeader 1 1 0 0 0 0 0 len 0 0 ++ beBytes 1 type ++ [0x12#8] ++ beBytes 2 len ++ beBytes 2 0 ++ beBytes 1 flags
    ++ List.replicate 23 0#8 ++ beBytes 2 3 ++ List.replicate 12 0#8 ++ src
/-- Port 0 is the slave port, or a MASTER port, and `b` waits at the time block. -/
def timed (master : Bool) (b : List Byte) : State :=
  let s := st [(F.LANE_PORTCFG_SPEED 0, 1), (F.TIME_CTL_SRC, if master then 0 else 1), (F.LANE_PORTTIME_MASTER 0, if master then 1 else 0),
    (F.LANE_PORTSTAT_STATE 0, 5), (F.FWDID_SELF_VALID, 1)]
  { s with time := { s.time with rxQ := [⟨0, b, 0, 0, 0, 0, none⟩], dreqSeq := some 3, syncWait := true, syncSeq := 3 } }

theorem test_sync_rx : (timed false (timeMsg 0 0 44 [])).timeKind ⟨0, timeMsg 0 0 44 [], 0, 0, 0, 0, none⟩ = some 0
    ∧ runs (timed false (timeMsg 0 0 44 [])) .ptpSyncRx (fun t => t.time.rxQ == [] && t.time.syncValid) = true
    ∧ runs (timed false (timeMsg 0 2 44 [])) .ptpSyncRx (fun t => t.time.syncWait) = true := by decide +kernel
theorem test_follow_up : runs (timed false (timeMsg 8 0 44 [])) .ptpFollowUpRx (fun t => t.time.syncValid) = true := by decide +kernel
theorem test_announce_rx : (timed false (timeMsg 0xb 0 64 (List.replicate 20 0#8))).timeKind
    ⟨0, timeMsg 0xb 0 64 (List.replicate 20 0#8), 0, 0, 0, 0, none⟩ = some 0xb := by decide +kernel
theorem test_unsup : runs (timed true (timeMsg 0 0 44 [])) .timeMsgUnsup (fun t => t.time.rxQ == []) = true
    ∧ runs (timed true (timeMsg 0 0 44 [])) .ptpSyncRx (fun t => t.time.rxQ.length == 1) = true := by decide +kernel
theorem test_delay_resp : (timed false (timeMsg 9 0 54 (List.replicate 10 0#8))).timeKind
    ⟨0, timeMsg 9 0 54 (List.replicate 10 0#8), 0, 0, 0, 0, none⟩ = some 9
    ∧ ptpSeq (timeMsg 9 0 54 (List.replicate 10 0#8)) = 3
    ∧ ptpRequester (timeMsg 9 0 54 (portIdentity 0)) = portIdentity 0 := by
  refine ⟨by decide +kernel, by decide +kernel, ?_⟩
  rfl
theorem test_delay_req : (timed true (timeMsg 1 0 44 [])).timeKind ⟨0, timeMsg 1 0 44 [], 0, 0, 0, 0, none⟩ = some 1
    ∧ runs (timed true (timeMsg 1 0 44 [])) .ptpDelayReqRx (fun t => t.cis.origQ.length == 1) = true := by decide +kernel
theorem test_time_tx : (timed true []).servesTime 0 = true ∧ (timed true []).portUp 0 = true
    ∧ runs (timed true []) (.ptpSyncTx 0) (fun t => t.cis.origQ.map OrigReq.ptp == [.sync]) = true
    ∧ (timed false []).slavePort = some 0
    ∧ runs (timed false []) .ptpDelayReqTx (fun t => t.cis.origQ.map OrigReq.port == [some 0]) = true := by decide +kernel
/-- One packet waits for origin cells, of which `n` are to be had. -/
def originating (n : Nat) : State :=
  let s := st [(F.CISCFG_ORIG_ORIG_CELLS, n), (F.LANE_PORTCFG_SPEED 0, 1)]
  { s with cis := { s.cis with origQ := [⟨timeMsg 0 0 44 [], some 0, .sync, false⟩] } }
theorem test_origin : runs (originating 0) (.originPoolGrant none) (fun t => t.cis.origQ.map OrigReq.waited == [true]) = true
    ∧ runs (originating 8) (.originPoolGrant none) (fun t => t.cis.origQ == [] && t.cis.nextPkt == 1) = true
    ∧ runs (originating 8) (.originPoolGrant (some 999999999#64)) (fun t => t.cis.nextPkt == 1) = true
    ∧ runs (originating 8) (.originPoolGrant (some 1000000000#64)) (fun t => t.cis.origQ == [] && t.cis.nextPkt == 0) = true := by
  decide +kernel

/-! ### Writes, slots and the Rill chain -/

theorem test_write_rejected :
    let s := running []
    s.busCode 1 0xe00114 1 15 = 0 ∧ s.busCode 1 0x900 0 15 = 0x0e ∧ s.busCode 1 0x141 0 15 = 0x0f ∧ s.busCode 1 0xd00120 0x10000 15 = 2
    ∧ runs s (.registerWrite 1 0xd00120#28 0x10000#32 15#4) (fun t => t.get F.MGMT_REJECT_CODE == 2 && t.get F.MGMT_REJECT_AGENT == 1
      && t.get F.MGMT_REJ_ADDR_OFFSET == 0xd00120 && t.get (F.COMMON_REJECT_CODE 0xd00) == 2) = true := by decide +kernel
theorem test_write_accepted : (running []).accepts 0 0xd00034 5
    ∧ runs (running []) (.registerWrite 0 0xd00034#28 5#32 15#4) (fun t => t.word 0xd00034 == 5#32) = true := by
  unfold State.accepts; decide +kernel
/-- Slot 3 of agent 0 in a state, its one record writing 7 to SET_SEC_HI. -/
def slot3 (st mode : Nat) : State :=
  running [(F.TXN_TXSTAT_STATE 3, st), (F.TXN_TXSTAT_MODE 3, mode), (F.TXN_TXCOUNT_COUNT 3, 1), (wordRef 0xc600000, 0xd00120),
    (wordRef 0xc600004, 0x1000f), (wordRef 0xc600010, 7)]
theorem test_claim : (running []).accepts 0 0xe01160 (2 ^ 31 + 9)
    ∧ runs (running []) (.txnClaim 0 3 9#16) (fun t => t.slotState 3 == 1 && t.get (F.TXN_TXPART_PART 3) == 9) = true := by
  unfold State.accepts; decide +kernel
theorem test_validate : (slot3 1 0).accepts 0 0xe01160 (2 ^ 31 + 2 ^ 28) ∧ runs (slot3 1 0) (.txnValidate 0 3) (fun t => t.slotState 3 == 2) = true := by
  unfold State.accepts; decide +kernel
theorem test_validate_done : runs (slot3 2 0) (.txnValidateDone 3) (fun t => t.slotState 3 == 3 && (t.slot 3).units == [0xd00120]) = true
    ∧ runs ((slot3 2 0).put (wordRef 0xc600010) 0x10000) (.txnValidateDone 3) (fun t => t.slotState 3 == 6 && t.get (F.TXN_TXSTAT_CODE 3) == 2
      && t.get F.TXN_TXISTAT_DONE == 8) = true := by decide +kernel
theorem test_commit_now : (slot3 3 0).accepts 0 0xe01160 (2 ^ 31 + 2 ^ 29)
    ∧ runs (slot3 3 0) (.txnCommitNow 0 3) (fun t => (t.slot 3).nowPending) = true := by unfold State.accepts; decide +kernel
theorem test_commit_flip : (slot3 3 0).accepts 0 0xe01160 (2 ^ 31 + 2 ^ 29 + 2 ^ 26)
    ∧ runs (slot3 3 0) (.txnCommitFlip 0 3) (fun t => t.slotState 3 == 4) = true := by unfold State.accepts; decide +kernel
theorem test_commit_time : (slot3 3 0).accepts 0 0xe01160 (2 ^ 31 + 2 ^ 29 + 2 ^ 27)
    ∧ runs (slot3 3 0) (.txnCommitTime 0 3) (fun t => t.slotState 3 == 4 && t.get (F.TXN_TXSTAT_MODE 3) == 2) = true := by
  unfold State.accepts; decide +kernel
theorem test_release : (slot3 3 0).accepts 0 0xe01160 (2 ^ 31 + 3 * 2 ^ 28)
    ∧ runs (slot3 3 0) (.txnRelease 0 3) (fun t => t.slotState 3 == 0) = true := by unfold State.accepts; decide +kernel
theorem test_release_armed : (slot3 4 2).accepts 0 0xe01160 (2 ^ 31 + 3 * 2 ^ 28)
    ∧ runs (slot3 4 2) (.txnRelease 0 3) (fun t => t.slotState 3 == 4 && (t.slot 3).releaseAfter) = true
    ∧ (let s := ((slot3 4 2).put (F.TXN_TXT_NS_NS 3) 5).setSlot 3 { releaseAfter := true }
      s.fireDue 3 = false ∧ s.releasesClose.slotState 3 = 0)
    ∧ (((slot3 4 2).setSlot 3 { releaseAfter := true }).releasesClose.get F.TIME_SET_SEC_HI_SEC_HI) = 7 := by
  unfold State.accepts; decide +kernel
theorem test_apply :
    let s := (slot3 3 0).setSlot 3 { nowPending := true }
    s.commitCheck 3 = (0, 0) ∧ s.slotFlips 3 = false ∧ runs s (.txnApply 3) (fun t => t.slotState 3 == 5 && t.get F.TIME_SET_SEC_HI_SEC_HI == 7) = true := by
  decide +kernel
/-- Two records of slot 3, the second an EP_SET while the banks are being copied. -/
def slotEpoch : State := (slot3 4 2).puts [(F.TXN_TXCOUNT_COUNT 3, 2), (wordRef 0xc600020, 0x40000000), (F.FWDEPOCH_STATUS_STATE, 2)]
theorem test_time_fire : runs (slot3 4 2) .txnTimeFire (fun t => t.slotState 3 == 5 && t.get F.TIME_SET_SEC_HI_SEC_HI == 7) = true
    ∧ runs ((slot3 4 2).put (F.TXN_TXT_NS_NS 3) 5) .txnTimeFire (fun t => t.slotState 3 == 4) = true
    ∧ slotEpoch.commitCheck 3 = (6, 1)
    ∧ runs slotEpoch .txnTimeFire (fun t => t.slotState 3 == 6 && t.get (F.TXN_TXFAIL_INDEX 3) == 1) = true := by decide +kernel

/-- A Rill request of an OP to an address. -/
def rillReq (addr op len : Nat) (arg data : List Byte) : List Byte := rillFrame addr op 0x21 len arg data
def onRill (addr : Nat) : State := running [(F.RILL_STAT_ADDR, addr), (F.RILL_CFG_INTR_EN, 0)]
theorem test_rill_bad : rillCheckOk ((rillReq 5 6 0 (leBytes 4 0) []).drop 1) = false
    ∧ runs (onRill 5) (.rillCheckErr (some []) true) (fun t => t.obs.out == []) = true := by decide +kernel
theorem test_rill_repeat :
    let b := rillReq 6 6 0 (leBytes 4 0) []
    rillCheckOk b = true ∧ rAddr b = 6 ∧ rOp b = 6 ∧ runs (onRill 5) (.rillRepeat (some b)) (fun t => t.obs.out == [.rill b]) = true := by
  decide +kernel
theorem test_rill_ping :
    let b := rillReq 5 6 0 (leBytes 4 0) []
    runs (onRill 5) (.rillPing (some b)) (fun t => t.obs.out == [.rill (rillFrame 133 6 0x21 0 [0#8, 0#8, 0#8, 0#8] [])]) = true := by
  decide +kernel
theorem test_rill_clear :
    let b := rillReq 5 4 0 (leBytes 4 0) []
    runs (onRill 5) (.rillClear (some b)) (fun t => t.get F.RILL_STAT_ADDR == 0 && t.obs.out.length == 2) = true := by decide +kernel
theorem test_rill_read :
    let b := rillReq 5 1 1 (beBytes 4 0xd00128) []
    rLen b = 1 ∧ rArg b = 0xd00128
    ∧ runs ((onRill 5).put F.TIME_SET_NS_NS 9) (.rillRead (some b)) (fun t =>
      t.obs.out == [.rill (rillFrame 133 1 0x21 1 [0#8, 0#8, 0#8, 0#8] (leBytes 4 9))]) = true
    ∧ (let c := rillReq 5 1 1 (beBytes 4 0xd00080) []
      ((onRill 5).portRead 1 (rArg c)).1 = none ∧ runs (onRill 5) (.rillRead (some c)) (fun t => t.obs.out == [] && t.rillBusy) = true) := by
  decide +kernel
theorem test_rill_write :
    let b := rillReq 5 2 1 (beBytes 4 0xd00128) (leBytes 4 9)
    b.length = 16 ∧ leaves (rArg b) 1 = false ∧ runs (onRill 5) (.rillWrite (some b)) (fun t => t.get F.TIME_SET_NS_NS == 9
      && t.obs.out == [.rill (rillFrame 133 2 0x21 0 [0#8, 0#8, 0#8, 0#8] [])]) = true := by decide +kernel
theorem test_rill_enum :
    let b := rillReq 0 3 0 (beBytes 4 0x07000000) []
    hbits b 32 39 = 7 ∧ (nextOf (exec (.rillEnum (some b) true true) (onRill 0))).map (fun t => t.get F.RILL_STAT_ADDR) = some 7 := by decide +kernel
theorem test_rill_waits :
    let s := { onRill 5 with mgmt := { (onRill 5).mgmt with rillUntil := 1 } }
    let f := { onRill 5 with mgmt := { (onRill 5).mgmt with rillBuf := [[], [], [], []] } }
    s.rillBusy = true ∧ runs s (.rillRead (some [])) (fun t => t.mgmt.rillBuf == [[]]) = true ∧ runs f (.rillOverrun []) (fun t => t.mgmt == f.mgmt) = true := by
  decide +kernel

/-! ### Services, fences and the Sluice -/

/-- A request stands in mailbox 2. -/
def mailed (svc : Nat) (body : List Byte) (l : List (FRef × Nat)) : State :=
  let s := (running ([(F.MB_MBSTAT_BUSY 2, 1)] ++ l)).setBarBytes 0xa004000 (leBytes 2 svc ++ leBytes 2 7 ++ leBytes 2 body.length ++ leBytes 2 0 ++ body)
  { s with mgmt := { s.mgmt with mbLen := [(2, 8 + body.length)] } }
/-- The same request as the packet at the front of the fabric queue, from endpoint 0x12 to FUNC 0. -/
def fabric (func svc : Nat) (body : List Byte) : State :=
  let p := leBytes 2 svc ++ leBytes 2 7 ++ leBytes 2 body.length ++ leBytes 2 0 ++ body
  let s := running [(F.FWDID_SELF_VALID, 1)]
  { s with mgmt := { s.mgmt with fabQ := [⟨0, dfpHeader 0 0 0 0 2 (epId 2 0 func) 0x12 p.length 0 9 ++ p, none⟩] } }
def mbCode (t : State) : Nat × Nat := (t.get (F.MB_MBSTAT_DONE 2), t.get (F.MB_MBSTAT_CODE 2))
def takes (s : State) (src : SvcSrc) (svc : Nat) : Bool := (s.svcTake src).any fun r => r.svc == svc && s.svcRefusal src r == 0

theorem test_unknown : runs (mailed 0x999 [] []) (.svcUnknown (.mailbox 2)) (fun t => mbCode t == (1, 0x0a)) = true
    ∧ runs (fabric 0 0x200 []) (.svcUnknown .fabric) (fun t => t.mgmt.fabQ == [] && t.cis.origQ.length == 1) = true := by decide +kernel
theorem test_info : takes (mailed 1 [] []) (.mailbox 2) 1 = true ∧ takes (fabric 0 1 []) .fabric 1 = true := by decide +kernel
theorem test_echo : runs (mailed 2 [5#8] []) (.echo (.mailbox 2)) (fun t => mbCode t == (1, 0) && t.byteAt 0xa005008 == 5) = true ∧ runs (fabric 0 2 [5#8]) (.echo .fabric) (fun t => t.cis.origQ.length == 1) = true := by decide +kernel
theorem test_launch_read : takes (mailed 0x100 (leBytes 8 0) []) (.mailbox 2) 0x100 = true
    ∧ runs (mailed 0x100 [] []) (.launch (.mailbox 2)) (fun t => mbCode t == (1, 1)) = true := by decide +kernel
theorem test_health_read : runs (mailed 0x200 ([0#8, 0#8] ++ leBytes 2 3 ++ leBytes 2 1) []) (.healthRead (.mailbox 2))
      (fun t => mbCode t == (1, 0) && t.byteAt 0xa005008 == 3 && t.byteAt 0xa00500c == 255) = true
    ∧ runs (mailed 0x200 (leBytes 6 0) []) (.healthRead (.mailbox 2)) (fun t => mbCode t == (1, 1)) = true := by decide +kernel
theorem test_defaultds : runs (mailed 0x300 (leBytes 16 6) []) (.ptpDefaultds 2)
      (fun t => mbCode t == (1, 0) && t.time.ddsStaged == some (leBytes 16 6)) = true
    ∧ runs (mailed 0x300 (List.replicate 16 1#8) []) (.ptpDefaultds 2) (fun t => mbCode t == (1, 1)) = true := by decide +kernel
theorem test_fabric_queue :
    let s := { running [] with mgmt := { (running []).mgmt with fabIn := [⟨0, [], none⟩] } }
    let f := { s with mgmt := { s.mgmt with fabQ := List.replicate 64 ⟨0, [], none⟩ } }
    runs s .fabricRequest (fun t => t.mgmt.fabQ.length == 1) = true
    ∧ runs f .fabricRequest (fun t => t.mgmt.fabQ.length == 64 && t.mgmt.fabIn == []) = true := by decide +kernel
/-- The REJECT cause of page 0xD00 is enabled, pending and already signalled, as vector 5. -/
def pending5 (mask : Nat) (l : List (FRef × Nat)) : State :=
  let s := running ([(F.COMMON_REJECT_VALID 0xd00, 1), (F.COMMON_IEN_IEN 0xd00, 2), (F.COMMON_IVEC_VECTOR 0xd00, 5),
    (F.MSIX_VCTRL_MASK 5, mask), (wordRef 0xe08458, 77), (F.RILL_CFG_INTR_EN, 0)] ++ l)
  { s with obs := { s.obs with vpend := 32 }, mgmt := { s.mgmt with pcie := { s.mgmt.pcie with busMaster := true } } }
theorem test_irearm : (pending5 0 []).accepts 0 0xe00118 5 ∧ nbit (pending5 0 []).vectors 5 = 1
    ∧ runs (pending5 0 []) (.irearm 0 5) (fun t => t.obs.out == [.msix 5 0 77]) = true
    ∧ runs (pending5 1 []) (.irearm 0 5) (fun t => t.obs.out == [] && t.get (F.MSIX_PBA_PENDING 0) == 32) = true := by
  unfold State.accepts; decide +kernel
theorem test_unmask : (pending5 1 []).accepts 0 0xe0845c 0
    ∧ runs (pending5 1 [(F.MSIX_PBA_PENDING 0, 32)]) (.msixUnmask 0 5) (fun t =>
      t.obs.out == [.msix 5 0 77] && t.get (F.MSIX_PBA_PENDING 0) == 0) = true := by unfold State.accepts; decide +kernel
theorem test_flr : runs (pending5 0 []) .flr (fun t => t.on (F.MSIX_VCTRL_MASK 5) && !t.mgmt.pcie.busMaster) = true := by decide +kernel

/-- A grid of 32 by 32 leaves. -/
def grid0 : List (FRef × Nat) := [(F.FWDID_GRID_PODS, 32), (F.FWDID_GRID_PERPOD, 32)]
def leafReq (svc l arg : Nat) (v : LeafSt) : State := (mailed svc (leBytes 2 l ++ leBytes 1 arg ++ [0#8]) grid0).setLeaf l v
theorem test_fence : takes (leafReq 0x201 40 0 {}) (.mailbox 2) 0x201 = true
    ∧ runs (leafReq 0x201 40 0 {}) (.fence 2) (fun t => mbCode t == (1, 0) && (t.leaf 40).state == 3 && t.hlth.window.length == 1
      && t.get (F.FWDFENCE_LEAF_FENCED 1) == 256) = true
    ∧ runs (leafReq 0x201 40 1 {}) (.fence 2) (fun t => t.hlth.window.length == 0) = true
    ∧ runs (leafReq 0x201 40 0 { state := 3 }) (.fence 2) (fun t => mbCode t == (1, 9)) = true
    ∧ runs (leafReq 0x201 40 2 {}) (.fence 2) (fun t => mbCode t == (1, 1)) = true := by decide +kernel
theorem test_unfence : runs (leafReq 0x202 40 1 { state := 3, score := 9, seen := some 0 }) (.unfence 2)
      (fun t => mbCode t == (1, 0) && (t.leaf 40).state == 1 && (t.leaf 40).score == 255) = true
    ∧ runs (leafReq 0x202 40 0 {}) (.unfence 2) (fun t => mbCode t == (1, 0x0a)) = true
    ∧ takes (leafReq 0x202 40 0 {}) (.mailbox 2) 0x202 = true := by decide +kernel
theorem test_confirm : runs (leafReq 0x203 40 0 { state := 2, rec_ := some 3 }) (.fenceConfirm 2)
      (fun t => mbCode t == (1, 0) && (t.leaf 40).state == 3 && (t.leaf 40).cause == 3 && (t.leaf 40).confirmed) = true
    ∧ runs (leafReq 0x203 40 0 {}) (.fenceConfirm 2) (fun t => mbCode t == (1, 0x0a)) = true
    ∧ takes (leafReq 0x203 40 0 {}) (.mailbox 2) 0x203 = true := by decide +kernel
theorem test_suspect : runs ((later (st [])).setLeaf 4 { state := 1, seen := some 0 }) (.leafSuspect 4) (fun t => (t.leaf 4).state == 2) = true := by
  decide +kernel
/-- Port 0 of leaf 4 is FAILED; automatic decisions are enabled with a budget. -/
def hard4 (budget : Nat) : State :=
  (st [(F.LANE_PORTSTAT_STATE 0, 7), (F.HLTH_AUTO_HARD_EN, 1), (F.HLTH_BUDGET_BUDGET, budget)]).associate 0 (some 4)
theorem test_hard_down : (hard4 1).hardDown 4 1 = true
    ∧ runs (hard4 1) (.hardLinkDown 4) (fun t => (t.leaf 4).hard && t.hlth.due == [(4, 2)] && (t.fencesClose.leaf 4).state == 3) = true
    ∧ runs (hard4 0) (.hardLinkDown 4) (fun t => (t.fencesClose.leaf 4).state == 0 && (t.fencesClose.leaf 4).rec_ == some 2) = true := by
  decide +kernel
theorem test_fences_close :
    let s := hard4 1
    let s1 := { s with hlth := { s.hlth with due := [(9, 3), (4, 2)] } }
    s.get F.HLTH_BUDGET_WINDOW_S ≠ 0 ∧ (s1.fencesClose.leaf 4).state = 3 ∧ (s1.fencesClose.leaf 9).rec_ = some 3 := by decide +kernel
theorem test_recover : runs ((later (st [])).setLeaf 4 { score := 7 }) (.scoreRecover 4) (fun t => (t.leaf 4).score == 8) = true := by decide +kernel
theorem test_window :
    let s := later (st [(F.HLTH_BUDGET_BUDGET, 1)])
    runs { s with hlth := { s.hlth with window := [s.now, 0] } } .fenceWindowExpire
      (fun t => t.hlth.window == [s.now] && t.on F.HLTH_STAT_EXHAUSTED) = true := by decide +kernel

theorem test_freeze : (running []).accepts 0 0xa00010 1
    ∧ runs (running []) (.sluiceFreeze 0 0xa00) (fun t => t.on (F.COMMON_STATUS_DRAINING 0xa00)) = true
    ∧ runs (running []) (.sluiceFreeze 0 0xb11) (fun t => t.on (F.ARB_CTRL_FREEZE 17) && !t.on (F.ARB_CTRL_FREEZE 18)) = true := by
  unfold State.accepts; decide +kernel
def draining (page : Nat) : State := running [(F.COMMON_CTRL_FREEZE page, 1), (F.COMMON_STATUS_DRAINING page, 1), (F.LANE_PORTCFG_SPEED 0, 1),
  (F.LANE_PORTSTAT_STATE 0, 5)]
theorem test_drained : runs (draining 0xa00) (.sluiceDrained 0xa00) (fun t => t.on (F.COMMON_STATUS_FROZEN 0xa00)) = true
    ∧ runs (draining 0x100) (.sluiceDrained 0x100) (fun t => t.portState 0 == 1 && t.on (F.COMMON_STATUS_FROZEN 0x100)) = true := by decide +kernel
theorem test_not_drained :
    let s := (draining 0xa00).setCore 0 3 { inv := some inv0 }
    let s1 := { later s with hlth := { s.hlth with freezeAt := [(0xa00, 1)] } }
    s.drained (.basin 0) = false ∧ runs s (.sluiceDrained 0xa00) (fun t => t.on (F.COMMON_STATUS_DRAINING 0xa00)) = true
    ∧ runs s1 (.sluiceTimeout 0xa00) (fun t => t.on (F.COMMON_STATUS_FROZEN 0xa00) && (t.core 0 3).inv == none) = true := by decide +kernel
theorem test_unfreeze :
    let s := running [(F.COMMON_CTRL_FREEZE 0xa00, 1), (F.COMMON_STATUS_FROZEN 0xa00, 1)]
    s.accepts 0 0xa00010 0 ∧ runs s (.sluiceUnfreeze 0 0xa00) (fun t => !t.on (F.COMMON_STATUS_FROZEN 0xa00)) = true := by
  unfold State.accepts; decide +kernel

/-! ### Clocks, temperature and the Annealer -/

theorem test_clk_target : (running []).accepts 0 0xa00100 20 ∧ runs (running [(F.THERM_BLIM_FMAX 0, 48)]) (.bsnClkTarget 0 0 20#32)
    (fun t => t.get (F.THERM_BLIM_CODE 0) == 20 && t.get (F.THERM_BLIM_BIND 0) == 0) = true := by unfold State.accepts; decide +kernel
theorem test_clk_change :
    let s := st [(F.THERM_BLIM_CODE 3, 9), (F.BASIN_CLK_EFF 3, 20)]
    let up (v : Nat) : State := let s := st [(F.THERM_BLIM_CODE 3, 20), (F.BASIN_CLK_EFF 3, 9)]
      { s with bsn := { s.bsn with clkBusy := [(3, true)] }, pwr := { s.pwr with ramps := [(3, some ⟨v, 0, v⟩)] } }
    runs { s with bsn := { s.bsn with clkBusy := [(3, true)] } } (.bsnClkChange 3) (fun t => t.get (F.BASIN_CLK_EFF 3) == 9) = true
    ∧ runs s (.bsnClkChange 3) (fun t => t.bsn == s.bsn) = true
    ∧ (∀ v, (up v).volt 3 = v) := by
  refine ⟨by decide +kernel, by decide +kernel, fun v => ?_⟩
  show (if v ≤ v then min v (v + (0 - 0)) else max v (v - (0 - 0))) = v
  simp
/-- Basin 2 reads `temp` °C; its terms are 28, 48, 48 and 48. -/
def heated (temp : Nat) : State := later (st [(F.THERM_SENS_T 50, temp * 8), (F.THERM_BLIM_FMAX 2, 48), (F.THERM_BLIM_TL 2, 40), (F.THERM_BLIM_CODE 2, 28)])
theorem test_therm_eval : (heated 95).passed (heated 95).pwr.evalAt (usClocks 10) = true
    ∧ runs (heated 95) .thermEval (fun t => t.get (F.THERM_BLIM_TL 2) == 20 && t.get (F.THERM_BLIM_CODE 2) == 20
      && t.get (F.THERM_BLIM_BIND 2) == 2) = true
    ∧ runs (heated 100) .thermEval (fun t => t.get (F.THERM_BLIM_TL 2) == 0 && t.get F.THERM_ISTAT_ISTAT == 2) = true
    ∧ runs (heated 90) .thermEval (fun t => t.get (F.THERM_BLIM_TL 2) == 40) = true := by decide +kernel
theorem test_therm_rise :
    let s := { heated 89 with pwr := { (heated 89).pwr with coolSince := [(2, 1)] } }
    runs s .thermEval (fun t => t.get (F.THERM_BLIM_TL 2) == 41) = true
    ∧ runs { s with pwr := { s.pwr with evalAt := s.now } } .thermEval (fun t => t.get (F.THERM_BLIM_TL 2) == 40) = true := by decide +kernel
/-- Domain 0 draws `w` W under a cap of 1,600 W. -/
def drawing (w pl : Nat) (low high : Option Nat) : State :=
  let s := later (st [(F.THERM_PWR_DOM_P 0, 8 * w), (F.THERM_BLIM_PL 0, pl)])
  { s with pwr := { s.pwr with lowSince := low, overSince := high } }
theorem test_cap_eval : runs (drawing 1601 48 none none) .pwrCapEval (fun t => t.get (F.THERM_BLIM_PL 49) == 47) = true
    ∧ runs (drawing 1601 0 none none) .pwrCapEval (fun t => t.get (F.THERM_BLIM_PL 0) == 0) = true
    ∧ runs (drawing 1579 20 (some 0) none) .pwrCapEval (fun t => t.get (F.THERM_BLIM_PL 49) == 21) = true
    ∧ runs (drawing 1580 20 (some 0) none) .pwrCapEval (fun t => t.get (F.THERM_BLIM_PL 0) == 20 && t.pwr.lowSince == none) = true := by
  decide +kernel
theorem test_cap_fail : runs (drawing 1601 0 none (some 0)) .capFail (fun t => t.pwr.capFailed && t.get F.THERM_ISTAT_ISTAT == 32) = true := by
  decide +kernel
theorem test_sample_sensor : (later (st [])).passed (later (st [])).pwr.sampledAt (usClocks 5) = true
    ∧ runs (later (st [])) (.thermSensorSample [(50, 840#16)]) (fun t => t.get (F.THERM_SENS_T 50) == 840 && t.get (F.THERM_SENS_TMAX 50) == 840
      && SMap.get (fun _ => false) t.bsn.paused 2) = true
    ∧ runs (later (st [])) (.thermSensorSample [(3, 800#16)]) (fun t => t.get F.THERM_ISTAT_ISTAT == 4) = true
    ∧ runs (later (st [])) (.thermSensorSample [(99, 800#16)]) (fun t => t.get F.THERM_ISTAT_ISTAT == 8) = true
    ∧ runs (later (st [])) (.thermSensorSample [(121, 720#16)]) (fun t => t.get F.THERM_ISTAT_ISTAT == 16) = true := by decide +kernel
theorem test_sample_early : (st []).passed (st []).pwr.sampledAt (usClocks 5) = false := by decide +kernel
theorem test_trip : runs (st []) (.thermalTrip 7 920#16 false) (fun t => t.pwr.trip && t.obs.out == [.lanesIdle, .pin "THERM_TRIP_L" false]
      && t.nvm.appends.map (fun w => slice w.bytes 204 3) == [[7#8, 0x98#8, 3#8]]) = true
    ∧ runs (st []) (.thermalTrip 7 919#16 true) (fun t => !t.pwr.trip) = true
    ∧ runs (st []) (.thermalTrip 98 0#16 true) (fun t => t.pwr.trip) = true := by decide +kernel
theorem test_sens_read : runs (running [(F.THERM_SENS_T 5, 3), (F.THERM_SENS_TMAX 5, 9)]) (.thermSensRead 1 5) (fun t =>
      t.obs.out == [.readData 1 0xf04214 0x90003] && t.get (F.THERM_SENS_TMAX 5) == 0) = true
    ∧ runs (running [(F.THERM_PWR_DOM_P 2, 3), (F.THERM_PWR_DOM_PMAX 2, 9)]) (.pwrDomRead 1 2) (fun t =>
      t.obs.out == [.readData 1 0xf04188 0x90003] && t.get (F.THERM_PWR_DOM_PMAX 2) == 0) = true := by decide +kernel
theorem test_power_reading : runs (drawing 10 48 none none) (.pwrReadingUpdate [(0, 24#16)]) (fun t => t.get F.THERM_PWR_TOTAL_P == 24) = true := by
  decide +kernel
theorem test_stretch :
    let s := later (st [])
    runs s (.droopTrip 4) (fun t => SMap.get (fun _ => 0) t.pwr.stretch 4 == s.now + 1 && !t.tripPassed 4) = true ∧ s.tripPassed 4 = true
    ∧ runs { s with pwr := { s.pwr with stretch := [(4, 1)] } } (.stretchEnd 4) (fun t => t.pwr.stretch == [] && t.get F.THERM_ISTAT_ISTAT == 64) = true := by
  decide +kernel
theorem test_pm_alert : runs (st []) .pmAlert (fun t => t.obs.logQ.length == 1) = true := by decide +kernel

theorem test_anneal_run : takes (mailed 0x400 (leBytes 4 1) []) (.mailbox 2) 0x400 = true
    ∧ runs (mailed 0x400 (leBytes 4 1) []) (.annealRun 2) (fun t => t.pwr.run.any fun x => x.apply && x.kind == 1) = true
    ∧ runs (mailed 0x400 [] []) (.annealRun 2) (fun t => mbCode t == (1, 1)) = true := by decide +kernel
def annealing (apply : Bool) (l : List (FRef × Nat)) : State :=
  let s := st l
  { s with pwr := { s.pwr with run := some { kind := 0, apply := apply, mailbox := none, temps := [0, 0, 0, 0, 0] } } }
theorem test_anneal_busy :
    let s := mailed 0x400 (leBytes 4 1) []
    runs { s with pwr := (annealing true []).pwr } (.annealRun 2) (fun t => mbCode t == (1, 4)) = true := by decide +kernel
theorem test_anneal_read : takes (mailed 0x401 [0#8, 0#8, 1#8, 0#8] []) (.mailbox 2) 0x401 = true := by decide +kernel
theorem test_anneal_scheduled :
    let s := later (st [(F.ANN_CFG_PERIOD_H, 1)])
    s.passed s.pwr.runEnd (1 * 3600 * secClocks 1) = true ∧ runs s .annealScheduled (fun t => t.pwr.run.any fun x => x.kind == 0) = true
    ∧ runs { s with pwr := { s.pwr with runEnd := s.now } } .annealScheduled (fun t => t.pwr.run == none) = true
    ∧ runs { s with pwr := { s.pwr with runEnd := s.now, runDue := true } } .annealScheduled (fun t => t.pwr.run.isSome) = true := by decide +kernel
theorem test_anneal_done :
    let s := (annealing true [(F.THERM_SENS_T 50, 320), (F.THERM_SENS_T 0, 800)]).setArb 776 { busy := true, owner := 7 }
    s.pwr.run.isSome = true ∧ s.mgmt.spcDown = false ∧ s.annealKeeps 2 = false ∧ s.arbOwns 776 7 = true
    ∧ inRange (s.islandDie 131) = true ∧ inRange (s.islandDie 0) = true ∧ inRange (s.islandDie 1) = false
    ∧ (annealing true []).arbOwns 776 7 = false := by decide +kernel
/-- The plan of Basin 2 for a slack. -/
def planned (l : List (FRef × Nat)) (slack : Nat) : State := ((⟨annealing true l, 0⟩ : Plan).basin true 2 slack).st
theorem test_anneal_basin :
    let s := planned [(F.ANN_BASIN_GUARD 2, 45), (F.ANN_BASIN_FMAX 2, 48)] 5
    let t := planned [(F.ANN_BASIN_GUARD 2, 46), (F.ANN_BASIN_FMAX 2, 48)] 5
    s.get (F.ANN_BASIN_GUARD 2) = 50 ∧ s.get (F.ANN_BASIN_FMAX 2) = 48 ∧ t.get (F.ANN_BASIN_GUARD 2) = 46 ∧ t.get (F.ANN_BASIN_FMAX 2) = 47
    ∧ t.get (F.THERM_BLIM_FMAX 2) = 47 ∧ (planned [(F.ANN_BASIN_GUARD 2, 45)] 6).get (F.ANN_BASIN_GUARD 2) = 45 := by decide +kernel
/-- The plan of domain 0 where island 195 has a slack of 25 ps. -/
def planned0 (l : List (FRef × Nat)) : State := ((⟨annealing true l, 0⟩ : Plan).domain true 0 [(195, 5)] []).st
theorem test_anneal_domain : islandDomain 195 = some 0 ∧ (planned0 [(F.ANN_DOM_GUARD 0, 45)]).get (F.ANN_DOM_GUARD 0) = 50
    ∧ (planned0 [(F.ANN_DOM_GUARD 0, 50)]).get F.ANN_ISTAT_ISTAT = 4 := by decide +kernel

/-! ### Resets, NVM and flash -/

theorem test_reset_empty : State.reset.bsn = {} ∧ State.reset.cis = {} ∧ State.reset.fwd = {} ∧ State.reset.col = {} := by decide +kernel
theorem test_spc_frees :
    let s := (running []).newPkt { bytes := [], acct := .origin, cells := [], bank := 0 }
    s.any (fun p => (p.2.pkt? p.1).isSome && runs { p.2 with mgmt := { p.2.mgmt with fabQ := [⟨0, [], some p.1⟩] } } (.spcReset 1)
      (fun t => (t.pkt? p.1).isNone && t.mgmt.fabQ == [])) = true := by decide +kernel
/-- A part at work: a port UP, a fence, a log entry, an append waiting, device time 7 s. -/
def working : State :=
  let s := running [(F.LANE_PORTSTAT_STATE 3, 5), (F.LOG_WPTR_WPTR, 1), (F.MB_MBSTAT_BUSY 2, 1), (F.TXN_TXSTAT_STATE 3, 3)]
  { (s.setSlot 3 { units := [0x3000000] }).nvmAppend ⟨.history, 0x3e0000, [1#8, 2#8], 7, none⟩ with
    time := { s.time with sec := 7 }
    obs := { s.obs with log := [(0, { d1 := 5 })] }, board := { s.board with starting := none } }
theorem test_warm_pin : runs working (.warmReset none) (fun t => t.time.sec == 0 && t.portState 3 == 0 && t.get F.LOG_WPTR_WPTR == 1
    && t.nvm.appends.length == 1 && t.obs.log.length == 1 && t.board.starting == some 1) = true := by decide +kernel
theorem test_warm_cold : runs { working with board := { working.board with starting := some 0 } } (.warmReset none) (fun t => t.time.sec == 7) = true := by
  decide +kernel
theorem test_warm_trip :
    let s := { working with pwr := { working.pwr with trip := true } }
    runs s (.warmReset none) (fun t => t.time.sec == 7 && t.obs.logQ.length == 1) = true := by decide +kernel
theorem test_global_reset : working.accepts 1 0x160 0xa5000002 ∧ working.accepts 1 0x160 0xa5000001 ∧ working.accepts 1 0x160 0xa5000000
    ∧ runs working (.warmReset (some 1)) (fun t => t.time.sec == 0) = true
    ∧ runs working (.dataReset 1) (fun t => t.time.sec == 7 && t.portState 3 == 0 && t.slotState 3 == 6 && t.board.starting == some 2
      && t.get F.BOOT_STAT_STAGE == 7) = true
    ∧ runs working (.spcReset 1) (fun t => t.portState 3 == 5 && mbCode t == (1, 4) && t.mgmt.spcDown) = true := by
  unfold State.accepts; decide +kernel
theorem test_restart : runs { working with mgmt := { working.mgmt with spcDown := true } } .spcRestartDone (fun t => !t.mgmt.spcDown) = true := by
  decide +kernel
theorem test_brownout : runs working .brownout (fun t => t.board.held && t.time.sec == 0) = true
    ∧ runs { working with board := { working.board with held := true } } .brownoutRecovery
      (fun t => !t.board.held && t.on F.GLOBAL_BOARDSTAT_BROWNOUT) = true := by decide +kernel
def noFacts : StartFacts := ⟨⟨0#8, 0#8, 0#8, 0#8, 0, false, []⟩, [], 0#50, ⟨[], [], [], []⟩, []⟩
def awaiting (k : Option Nat) (t0 : Bool) : State :=
  { st [(F.BOOT_STAT_WHY, 3)] with board := { (st []).board with starting := k, t0 := t0 } }
theorem test_startup : runs (awaiting (some 2) false) (.startupRun noFacts) (fun t => t.board.starting == none) = true
    ∧ runs (awaiting (some 1) false) (.startupRun noFacts) (fun t => t.board.starting == some 1) = true
    ∧ runs (awaiting none true) (.startupRun noFacts) (fun t => t.board == (awaiting none true).board) = true := by decide +kernel
theorem test_link : runs working (.pcieLinkChange 4 5 (some { busMaster := true })) (fun t => t.mgmt.pcie.busMaster && t.get F.MGMT_PCIESTAT_WIDTH == 4 && t.get F.MGMT_PCIESTAT_GEN == 5) = true
    ∧ runs working (.pcieLinkChange 3 5 none) (fun t => t.get F.MGMT_PCIESTAT_WIDTH == 0) = true
    ∧ runs (pending5 0 []) .perst (fun t => t.on (F.MSIX_VCTRL_MASK 5)) = true := by decide +kernel
theorem test_refs :
    let s := { st [] with board := { (st []).board with refA := false } }
    (st []).board.refA = true ∧ runs s (.refclkReturn false) (fun t => t.board.refA && t.get F.GLOBAL_BOARDSTAT_REFS_OK == 1) = true
    ∧ runs s (.refclkLoss false) (fun t => !t.board.refA) = true
    ∧ runs { s with pending := [.refclkReturn false] } (.refclkLoss true) (fun t => t.board.refA && !t.board.refB) = true
    ∧ runs { s with board := { s.board with held := true } } (.refclkReturn false) (fun t => t.board.refA) = true := by decide +kernel

theorem test_store : takes (mailed 0x500 (leBytes 4 0) []) (.mailbox 2) 0x500 = true
    ∧ runs (mailed 0x500 (leBytes 4 3) []) (.store 2) (fun t => mbCode t == (1, 1)) = true
    ∧ ((mailed 0x500 (leBytes 4 0) []).svcTake (.mailbox 2)).any (fun r => (mailed 0x500 (leBytes 4 0) []).storeCheck 2 r == 0) = true := by
  decide +kernel
theorem test_override : takes (mailed 0x501 (leBytes 8 0 ++ leBytes 8 1) []) (.mailbox 2) 0x501 = true
    ∧ runs (mailed 0x501 (leBytes 8 0 ++ leBytes 8 1) []) (.fwOverride 2) (fun t => t.nvm.streams.length == 1) = true
    ∧ runs (mailed 0x501 (leBytes 16 0) []) (.fwOverride 2) (fun t => mbCode t == (1, 9)) = true
    ∧ runs (mailed 0x501 (leBytes 8 0 ++ leBytes 8 2) []) (.fwOverride 2) (fun t => mbCode t == (1, 1)) = true := by decide +kernel
theorem test_log_copy : takes (mailed 0x600 (leBytes 4 0) []) (.mailbox 2) 0x600 = true
    ∧ runs (mailed 0x600 (leBytes 4 1) []) (.logCopy 2) (fun t => mbCode t == (1, 1)) = true
    ∧ runs (mailed 0x600 (leBytes 4 0) []) (.logCopy 2) (fun t => t.mgmt.copyFor == some 2 && t.nvm.streams == []) = true := by decide +kernel
theorem test_log_copy_starts :
    let s := { running [] with mgmt := { (running []).mgmt with copyFor := some 2 } }
    s.pending = [] ∧ s.stopped = false ∧ s.copyClose.mgmt.copyFor = none ∧ s.copyClose.nvm.streams.map NvmWrite.mailbox = [some 2] := by
  decide +kernel
theorem test_nvm_retire : (running []).accepts 0 0xf01110 (2 ^ 31 + 9)
    ∧ runs (running []) (.nvmRetire 0 9) (fun t => t.nvm.appends.map (fun w => w.off) == [0x160000]) = true := by unfold State.accepts; decide +kernel
theorem test_nvm_done : runs working .nvmWriteDone (fun t => t.nvm.appends == [] && t.nvmBytes 0x3e0000 2 == [1#8, 2#8]) = true
    ∧ runs { running [] with nvm := { (running []).nvm with streams := [⟨.store, 0x60040, [3#8], 0, none⟩] } } .nvmWriteDone
      (fun t => t.nvm.streams == [] && t.nvmBytes 0x60040 1 == [3#8]) = true
    ∧ runs ((running []).nvmAppend ⟨.remap, 0, [3#8], 0, none⟩) .nvmWriteDone (fun t => t.get F.NVM_COUNTS_REMAP == 1) = true := by decide +kernel
def flashing (op n : Nat) : State :=
  let s := running [(F.BOOT_FLSTAT_BUSY, 1), (wordRef 0xbc00000, 0x0605)]
  { s with nvm := { s.nvm with flOp := some (op, 0x1900000, n) } }
theorem test_flash : runs (flashing 1 2) (.flashOpDone false) (fun t => t.get F.BOOT_FLSTAT_CODE == 12 && t.nvm.flash == []) = true
    ∧ (flashing 1 2).nvm.flOp = some (1, 0x1900000, 2) ∧ (flashing 1 2).byteAt 0xbc00000 = 5 := by decide +kernel
theorem test_flash_start : (running []).accepts 0 0xf02120 (2 ^ 31 + 4) ∧ (running []).accepts 0 0xf02120 (2 ^ 31 + 2 ^ 29 + 4)
    ∧ (running []).accepts 0 0xf02120 (2 ^ 31 + 2 ^ 30) := by unfold State.accepts; decide +kernel

/-! ### Counters, snapshots, samples, the log and the test port -/

/-- The part in Run with counter 3 of page 0xF03 selecting SNAP_TAKEN. -/
def watching (l : List (FRef × Nat)) : State :=
  let s := running l
  { s with obs := { s.obs with sel := [(0x781b, 0x80000d13)], cnt := [(0x781b, 2 ^ 48 - 1)] } }
theorem test_evsel : (watching []).accepts 0 0xf030cc 0x80000d14 ∧ SMap.wf (fun _ => 0) (watching []).obs.sel = true
    ∧ runs (watching []) (.evselWrite 0 0xf03 3 0x80000d14#32) (fun t => t.counter 0xf03 3 == 0 && t.obs.sel == [(0x781b, 0x80000d14)]) = true := by
  unfold State.accepts; decide +kernel
theorem test_evsel_refused : (watching []).busCode 0 0xf030cc 0x80000101 15 = Rej.RANGE := by decide +kernel
theorem test_counter_read : (watching []).answers 0xf03098 = true ∧ placeAt 0xf03098 = .page ∧ (watching []).answers 0xf0309c = true
    ∧ placeAt 0xf0309c = .page
    ∧ runs (watching []) (.counterLoRead 2 0xf03 3 none) (fun t => t.readsClose.latch 2 0xf03 == some (3, 65535)
      && t.readsClose.obs.out == [.readData 2 0xf03098 0xffffffff]) = true
    ∧ runs (watching []) (.counterLoRead 2 0xf03 3 (some 0x27)) (fun t => t.readsClose.latch 2 0xf03 == none
      && t.readsClose.obs.out == [.readData 2 0xf0309c 65535, .readData 2 0xf03098 0xffffffff]) = true
    ∧ runs ((watching []).setLatch 3 0xf03 (some (3, 7))) (.tapRegacc false 0x3c0c27#26 0) (fun t => t.mgmt.tap.status == 1
      && t.readsClose.mgmt.tap.data == 7 && t.readsClose.mgmt.tap.status == 0) = true := by
  decide +kernel
theorem test_wrap_bit : SMap.get (fun _ => 0) (bumpCounter 1 (watching []).obs 0x781b).wrap 0xf03 = 8 := by decide +kernel
theorem test_snap_go : (watching []).accepts 1 0xf03118 (2 ^ 31) ∧ (watching [(F.SNAP_STAT_BUSY, 1)]).accepts 1 0xf03118 (2 ^ 31)
    ∧ (watching [(F.SNAP_CFG_TRIG, 1), (F.SNAP_T_NS_NS, 50)]).accepts 1 0xf03118 (2 ^ 31)
    ∧ runs (watching [(F.SNAP_CFG_CLEAR, 1), (F.SNAP_CFG_SECT, 1)]) (.snapGo 1) (fun t => t.obs.snapEnd == some false
      && t.on F.SNAP_STAT_BUSY && (t.snapClose.obs.snap.map fun g => g.slot 0xf03 3) == some (2 ^ 63 + 0xd13 * 2 ^ 48 + (2 ^ 48 - 1))
      && t.snapClose.obs.cnt == []) = true
    ∧ runs (watching [(F.SNAP_STAT_BUSY, 1)]) (.snapGo 1) (fun t => t.get F.SNAP_ISTAT_ISTAT == 2) = true
    ∧ runs (watching [(F.SNAP_CFG_TRIG, 1), (F.SNAP_T_NS_NS, 50)]) (.snapGo 1) (fun t => t.on F.SNAP_STAT_ARMED && t.obs.snapNext == 50) = true := by
  unfold State.accepts; decide +kernel
theorem test_snap_stop : (watching []).accepts 1 0xf03118 (2 ^ 30)
    ∧ runs (watching [(F.SNAP_STAT_ARMED, 1)]) (.snapStop 1) (fun t => !t.on F.SNAP_STAT_ARMED) = true := by unfold State.accepts; decide +kernel
def armed (trig ns : Nat) (busy : Bool) : State :=
  let s := watching [(F.SNAP_STAT_ARMED, 1), (F.SNAP_CFG_TRIG, trig), (F.SNAP_PERIOD_PERIOD_US, 1), (F.SNAP_STAT_BUSY, busy.toNat)]
  { s with time := { s.time with ns := ns }, obs := { s.obs with snapNext := 1000 } }
theorem test_snap_trigger : runs (armed 1 999 false) .snapTrigger (fun t => t.obs.snap == none) = true
    ∧ runs (armed 1 1000 false) .snapTrigger (fun t => t.obs.snapEnd.isSome && !t.on F.SNAP_STAT_ARMED) = true
    ∧ runs (armed 2 3500 true) .snapTrigger (fun t => t.obs.snap == none && t.obs.snapNext == 4000 && t.get F.SNAP_ISTAT_ISTAT == 2) = true := by
  decide +kernel
def copying : State :=
  let s := watching [(F.SNAP_STAT_BUSY, 1), (F.SNAP_SEQ_SEQ, 0xffffffff), (F.MGMT_PCIESTAT_WIDTH, 4)]
  { s with obs := { s.obs with snap := some ((watching []).snapImage true), snapCount := 0xffffffff },
           mgmt := { s.mgmt with pcie := { busMaster := true } } }
theorem test_snap_copy : copying.obs.snap = some ((watching []).snapImage true)
    ∧ runs copying (.snapCopyDone true) (fun t => t.get F.SNAP_SEQ_SEQ == 0 && t.obs.snapCount == 2 ^ 32 && t.counter 0xf03 3 == 0 && t.get F.SNAP_ISTAT_ISTAT == 1) = true
    ∧ runs copying (.snapCopyDone false) (fun t => t.get F.SNAP_STAT_CODE == 12 && t.obs.out == []) = true := by decide +kernel
theorem test_snapshot_end :
    let s := { running [] with obs := { (running []).obs with snapEnd := some true, fresh := [(3, some ⟨7, 8, false⟩)] } }
    let u := s.samplesClose.releasesClose.fencesClose
    s.pending = [] ∧ s.stopped = false ∧ u.obs.snapEnd = some true ∧ SMap.wf (fun _ => 0) u.obs.sel = true
    ∧ SMap.wf (fun _ => none) u.obs.fresh = true
    ∧ SMap.get (fun _ => 0) s.counted.obs.cnt 3 = 8 := by decide +kernel
theorem test_sample :
    let s := running [(F.SNAP_SAMP_WPTR_WPTR, 4095)]
    let u := { s with obs := { s.obs with sampleQ := [(2, { port := 64 }), (1, { port := 32 })], sampleSeq := 9 } }
    u.obs.sampleQ.find? (fun x => x.1 == 1) = some (1, { port := 32 })
    ∧ runs u (.sampleRingWrite 1) (fun t => (SMap.get (fun _ => {}) t.obs.samples 4095).seq == 10 && t.get F.SNAP_SAMP_WPTR_WPTR == 0
      && t.obs.sampleQ.map Prod.fst == [2]) = true
    ∧ runs { u with obs := { u.obs with sampleAt := 1 } } (.sampleRingWrite 1) (fun t => t.obs.sampleQ.length == 2) = true := by decide +kernel
def logging (l : List (FRef × Nat)) : State :=
  let s := running ((F.LOG_WPTR_WPTR, 16383) :: l)
  { s with obs := { s.obs with logQ := [⟨3, 0xf00, 0x100, 1, 2, 0⟩, ⟨3, 0xe06, 0x108, 1, 2, 0⟩], logHeld := 16384, lostBefore := true } }
theorem test_log_write : runs (logging []) .logWrite (fun t => t.obs.logQ.map LogReq.page == [0xf00] && (SMap.get (fun _ => {}) t.obs.log 16383).flags == 1
      && t.get F.LOG_WPTR_WPTR == 0 && t.get F.LOG_SEQ_SEQ == 1) = true
    ∧ runs (logging [(F.LOG_CFG_MODE, 1)]) .logWrite (fun t => t.on F.LOG_STAT_FULL) = true
    ∧ runs (logging [(F.LOG_CFG_MODE, 1), (F.LOG_STAT_FULL, 1)]) .logWrite (fun t => t.obs.log == [] && t.obs.logQ.length == 1) = true
    ∧ runs { logging [] with obs := { (logging []).obs with logAt := 1 } } .logWrite (fun t => t.obs.log == []) = true
    ∧ (logging []).logNext = some ⟨3, 0xe06, 0x108, 1, 2, 0⟩ := by decide +kernel
theorem test_log_registers : (logging []).accepts 0 0xf00104 (2 ^ 31) ∧ (logging []).accepts 0 0xf00100 1 ∧ (logging []).accepts 0 0xf0010c 5
    ∧ (logging [(F.LOG_CFG_MODE, 1)]).accepts 0 0xf0010c 16383
    ∧ runs (logging []) (.logClear 0) (fun t => t.get F.LOG_RPTR_RPTR == 16383) = true
    ∧ runs (logging []) (.logModeWrite 0 true) (fun t => t.get F.LOG_RPTR_RPTR == 16383 && t.on F.LOG_STAT_FULL) = true
    ∧ runs (logging [(F.LOG_CFG_MODE, 1), (F.LOG_STAT_FULL, 1)]) (.logRptrWrite 0 4) (fun t => t.get F.LOG_RPTR_RPTR == 4 && !t.on F.LOG_STAT_FULL) = true
    ∧ (logging [(F.LOG_CFG_MODE, 1), (F.LOG_WPTR_WPTR, 7)]).busCode 0 0xf0010c 8 15 = Rej.RANGE := by unfold State.accepts; decide +kernel
theorem test_tap : runs { running [] with pwr := { (running []).pwr with trip := true } } (.tapExtest none) (fun t => t.mgmt.tap.extest && t.mgmt.tap.ir == 3) = true
    ∧ runs (running []) (.tapBypass 0xff#8) (fun t => t.mgmt.tap.ir == 255) = true
    ∧ runs (running []) (.tapRegacc true 0x3c0040#26 1) (fun t => t.mgmt.tap.status == 0 && t.on F.LOG_CFG_MODE) = true
    ∧ runs (running []) (.tapRegacc true 0x3c0040#26 2) (fun t => t.mgmt.tap.status == 2 && !t.on F.LOG_CFG_MODE) = true := by decide +kernel

/-! ### Smoke tests of WellFormed: each check refuses an ill-formed term -/

def fact (l : List (BitVec 8)) : Instr := .scrubLine 0 [(0, .miscorrected l)]
def frameOf (n : Nat) : List (BitVec 8) := List.replicate n 0#8
def cw (l : List (Fin 544 × BitVec 10)) : CwRx := ⟨l, true⟩
def lane0 : LaneFec := ⟨0, 1, [cw [(5, 1)]]⟩
def read0 : MarginRead := ⟨0#8, 0#8, 0#8, 0#8, 0, false, []⟩
def pins65 : List PinSet := List.replicate 65 {}
theorem test_wf_link : (Instr.linkFrameRx 0 (frameOf 5) [lane0]).wf = true ∧ (Instr.linkFrameRx 0 (frameOf 4) []).wf = false
    ∧ (Instr.linkFrameRx 0 (frameOf 5) [lane0, lane0]).wf = false ∧ linkFrameWf (frameOf 16384) [] = false
    ∧ (Instr.linkFrameRx 0 (frameOf 5) [⟨0, 1, [cw []]⟩]).wf = false ∧ (Instr.linkFrameRx 0 (frameOf 5) [⟨0, 1, [cw [(5, 0)]]⟩]).wf = false
    ∧ (Instr.ucwInterval 0 [⟨0, 1, [cw [(5, 1), (5, 2)]]⟩]).wf = false ∧ (Instr.txFrameDone 0 [3, 3]).wf = false := by decide +kernel
theorem test_wf_training : (Instr.signalAcquired 0 (List.replicate 9 (0#8, 0#8))).wf = false
    ∧ (Instr.alignAchieved 0 (List.replicate 9 0)).wf = false ∧ (Instr.cageaccDone 0 true (frameOf 129)).wf = false := by decide +kernel
theorem test_wf_module : (Instr.moduleReady 0 ⟨5, 8, List.replicate 16 ⟨0, true, 4, 1⟩⟩).wf = false
    ∧ (Instr.cmisMonitorPoll 0 ⟨0, List.replicate 7 0, []⟩).wf = false ∧ (Instr.cageIntl 0 true ⟨0, List.replicate 8 0, frameOf 33⟩).wf = false
    ∧ (Instr.cageIntl 0 true ⟨0, List.replicate 8 0, frameOf 32⟩).wf = true := by decide +kernel
theorem test_wf_memory : (fact (frameOf 64)).wf = true ∧ (fact (frameOf 63)).wf = false
    ∧ (Instr.memRead 0 0 [(1, .corrected), (1, .failed)]).wf = false ∧ (Instr.rowRemapDone 0 0 0 false [(1, .corrected), (1, .failed)]).wf = false
    ∧ (Instr.marginDone 0 0 0 0 0 0 false pins65).wf = false
    ∧ (Instr.apertureRead 0 0 0).wf = false ∧ (Instr.apertureWrite 0 0 []).wf = false := by decide +kernel
theorem test_wf_glass : (Instr.glassSearchDone [⟨1, []⟩, ⟨1, []⟩]).wf = false ∧ (Instr.glassSearchDone [⟨1, [(5, 9), (5, 9)]⟩]).wf = false
    ∧ (Instr.glassSearchDone [⟨1, [(5, 9), (6, 9)]⟩]).wf = true ∧ (Instr.glassPowerUpdate [] [(1, 0), (1, 2)]).wf = false := by decide +kernel
theorem test_wf_power : (Instr.thermSensorSample [(3, 0#16), (3, 1#16)]).wf = false ∧ (Instr.pwrReadingUpdate [(3, 0#16), (3, 1#16)]).wf = false
    ∧ (Instr.annealRunDone ⟨[(1, 0#16), (1, 0#16)], [], [], []⟩).wf = false ∧ (Instr.annealRunDone ⟨[], [(1, 0#16), (1, 0#16)], [], []⟩).wf = false
    ∧ (Instr.annealRunDone ⟨[], [], [(1, read0), (1, read0)], []⟩).wf = false
    ∧ (Instr.annealRunDone ⟨[], [], [(1, { read0 with pins := pins65 })], []⟩).wf = false
    ∧ (Instr.annealRunDone ⟨[], [], [], [4, 4]⟩).wf = false ∧ (Instr.startupRun noFacts).wf = true
    ∧ (Instr.startupRun ⟨read0, [(1, read0), (1, read0)], 0#50, ⟨[], [], [], []⟩, []⟩).wf = false
    ∧ (Instr.startupRun ⟨{ read0 with pins := pins65 }, [], 0#50, ⟨[], [], [], []⟩, []⟩).wf = false
    ∧ (Instr.startupRun ⟨read0, [], 0#50, ⟨[], [], [], []⟩, [4, 4]⟩).wf = false := by decide +kernel
theorem test_wf_board : (Instr.rillPing (some (frameOf 11))).wf = false ∧ (Instr.rillWrite (some (frameOf 77))).wf = false
    ∧ (Instr.rillRead (some (frameOf 12))).wf = true ∧ (Instr.rillOverrun (frameOf 77)).wf = false
    ∧ (Instr.pcieLinkChange 3 5 none).wf = false ∧ (Instr.pcieLinkChange 8 5 none).wf = true := by decide +kernel

end Sys2Proof.Tests
end

namespace Sys2Proof.SMap

variable {α : Type} [DecidableEq α]

theorem wfFrom_filter (d : Nat → α) (p : Nat × α → Bool) {lo : Nat} {m : SMap α} (h : wfFrom d lo m = true) :
    wfFrom d lo (m.filter p) = true := by
  induction m generalizing lo with
  | nil => rfl
  | cons x m ih =>
    simp only [wfFrom, Bool.and_eq_true, decide_eq_true_eq] at h
    obtain ⟨⟨hlo, hne⟩, hm⟩ := h
    cases hp : p x with
    | true => simp [List.filter_cons_of_pos hp, wfFrom, hlo, hne, ih hm]
    | false => simpa [List.filter, hp] using wfFrom_mono d (by omega) (ih hm)

theorem wf_nil (d : Nat → α) : wf d [] = true := rfl

/-- What is left of a map in canonical form is in canonical form. -/
theorem wf_filter (d : Nat → α) (p : Nat × α → Bool) {m : SMap α} (h : wf d m = true) : wf d (m.filter p) = true :=
  wfFrom_filter d p h

/-- Canonical form looks at the default of the listed keys only. -/
theorem wfFrom_congr {d e : Nat → α} {lo : Nat} {m : SMap α} (he : ∀ x ∈ m, d x.1 = e x.1) :
    wfFrom d lo m = wfFrom e lo m := by
  induction m generalizing lo with
  | nil => rfl
  | cons x m ih =>
    rw [wfFrom, wfFrom, he x List.mem_cons_self, ih fun y hy => he y (List.mem_cons_of_mem _ hy)]

end Sys2Proof.SMap

namespace Sys2Proof.Machine

/-! ### The stores and their canonical form -/

/-- The registers and windows, stacked memory, NVM and flash of `s` are in canonical form. -/
structure State.Canon (s : State) : Prop where
  bar : SMap.wf resetWord s.bar = true
  mem : SMap.wf (memDefault s.mem.gen) s.mem.bytes = true
  nvm : SMap.wf nvmDefault s.nvm.bytes = true
  flash : SMap.wf Config.flashByte s.nvm.flash = true

theorem State.canonical_iff (s : State) : s.canonical = true ↔ s.Canon := by
  simp only [State.canonical, MemSt.wf, Bool.and_eq_true]
  exact ⟨fun ⟨⟨⟨hb, hm⟩, hn⟩, hf⟩ => ⟨hb, hm, hn, hf⟩, fun ⟨hb, hm, hn, hf⟩ => ⟨⟨⟨hb, hm⟩, hn⟩, hf⟩⟩

theorem State.reset_canon : State.reset.Canon := ⟨rfl, rfl, rfl, rfl⟩

/-- An instruction's body leaves the stores in canonical form, whatever it answers. -/
inductive InsnRes.Canon : InsnRes → Prop
  | wait {s} (h : s.Canon) : Canon (.wait s)
  | done_ {s a} (h : s.Canon) : Canon (.done_ s a)
  | goto {s pc} (h : s.Canon) : Canon (.goto s pc)
  | fault {c a} : Canon (.fault c a)

theorem InsnRes.Canon.ite {c : Prop} [Decidable c] {r q : InsnRes} (hr : r.Canon) (hq : q.Canon) :
    (if c then r else q).Canon := by split <;> assumption

/-- A command of a command queue leaves the stores in canonical form, whatever it answers. -/
def CmdOut.Canon (r : CmdOut) : Prop := r.st.Canon

theorem CmdOut.Canon.ite {c : Prop} [Decidable c] {r q : CmdOut} (hr : r.Canon) (hq : q.Canon) :
    (if c then r else q).Canon := by split <;> assumption

/-- A walk of a multicast chain has left the stores in canonical form. -/
def Walk.Canon (w : Walk) : Prop := w.st.Canon

theorem Walk.Canon.foldl {α : Type} {f : Walk → α → Walk} {l : List α} {w : Walk} (h : w.Canon)
    (hf : ∀ v x, v.Canon → (f v x).Canon) : (l.foldl f w).Canon := List.foldlRecOn l f h fun v hv x _ => hf v x hv

/-- The outcome of a command is no next state but one whose stores are in canonical form. -/
def EndsCanon (o : Out) : Prop := ∀ t, o = .next t → t.Canon

namespace State.Canon

/-! ### What keeps the canonical form

A state keeps it through an update of its other components, a choice and a fold over operations that keep it. Then each
operation of the model has one lemma, under the operation's name and in the model's order. The few that write a store
(`setWord`, `memPut`, `nvmPut`, `flashPut`, and the resets and bank losses that filter or empty one) use the laws of
`SMap`; the lemma of every other operation follows the operation's own definition. -/

variable {s : State}

/-- An update of the components that hold no store. -/
theorem update {set obs time glass mgmt cis fwd col bsn hlth ports lcQ cages pwr board free pend} (h : s.Canon) :
    ({ s with setNow := set, obs := obs, time := time, glass := glass, mgmt := mgmt, cis := cis, fwd := fwd, col := col,
              bsn := bsn, hlth := hlth, ports := ports, lcQ := lcQ, cages := cages, pwr := pwr, board := board,
              freeCtr := free, pending := pend } : State).Canon := ⟨h.bar, h.mem, h.nvm, h.flash⟩

/-- An update that leaves the bytes of stacked memory, and what its unlisted places read as, alone. -/
theorem updateMem {mem : MemSt} {set obs time glass mgmt cis fwd col bsn hlth ports lcQ cages pwr board free pend}
    (h : s.Canon) (hb : mem.bytes = s.mem.bytes) (hg : mem.gen = s.mem.gen) :
    ({ s with setNow := set, obs := obs, time := time, glass := glass, mgmt := mgmt, cis := cis, fwd := fwd, mem := mem,
              col := col, bsn := bsn, hlth := hlth, ports := ports, lcQ := lcQ, cages := cages, pwr := pwr,
              board := board, freeCtr := free, pending := pend } : State).Canon :=
  ⟨h.bar, hb ▸ hg ▸ h.mem, h.nvm, h.flash⟩

/-- An update after which stacked memory lists no byte. -/
theorem loseMem {mem : MemSt} (h : s.Canon) (hb : mem.bytes = []) : ({ s with mem := mem } : State).Canon :=
  ⟨h.bar, hb ▸ SMap.wf_nil _, h.nvm, h.flash⟩

/-- An update that leaves the bytes of NVM and of the flash alone. -/
theorem updateNvm {nvm : NvmSt} {set obs time glass mgmt cis fwd col bsn hlth ports lcQ cages pwr board free pend}
    (h : s.Canon) (hn : nvm.bytes = s.nvm.bytes) (hf : nvm.flash = s.nvm.flash) :
    ({ s with setNow := set, obs := obs, time := time, nvm := nvm, glass := glass, mgmt := mgmt, cis := cis, fwd := fwd,
              col := col, bsn := bsn, hlth := hlth, ports := ports, lcQ := lcQ, cages := cages, pwr := pwr,
              board := board, freeCtr := free, pending := pend } : State).Canon :=
  ⟨h.bar, h.mem, hn ▸ h.nvm, hf ▸ h.flash⟩

theorem ite {c : Prop} [Decidable c] {t : State} (h : s.Canon) (ht : t.Canon) : (if c then s else t).Canon := by
  split <;> assumption

theorem foldl {α : Type} {f : State → α → State} {l : List α} (h : s.Canon)
    (hf : ∀ t x, t.Canon → (f t x).Canon) : (l.foldl f s).Canon := List.foldlRecOn l f h fun t ht x _ => hf t x ht

theorem foldlSnd {α β : Type} {f : β × State → α → β × State} {l : List α} {p : β × State} (h : p.2.Canon)
    (hf : ∀ q x, q.2.Canon → (f q x).2.Canon) : (l.foldl f p).2.Canon :=
  List.foldlRecOn (motive := fun q : β × State => q.2.Canon) l f h fun q hq x _ => hf q x hq

theorem getD {o : Option State} (h : s.Canon) (ho : ∀ t, o = some t → t.Canon) : (o.getD s).Canon := by
  cases o with
  | none => exact h
  | some t => exact ho t rfl

theorem snd {α : Type} {p : α × State} {x t} (h : p.2.Canon) (e : p = (x, t)) : t.Canon := by
  subst e; exact h

theorem snd2 {α β : Type} {p : α × β × State} {x y t} (h : p.2.2.Canon) (e : p = (x, y, t)) : t.Canon := by
  subst e; exact h

theorem setWord {a w} (h : s.Canon) : (s.setWord a w).Canon := ⟨s.setWord_wf a w h.bar, h.mem, h.nvm, h.flash⟩

/-! ### Ops -/

theorem put {f v} (h : s.Canon) : (s.put f v).Canon := h.setWord

theorem puts {l} (h : s.Canon) : (s.puts l).Canon := h.foldl fun _ _ h1 => h1.put

theorem noteSet {a bits} (h : s.Canon) : (s.noteSet a bits).Canon := h.update

theorem orBits {f v} (h : s.Canon) : (s.orBits f v).Canon := h.put.noteSet

theorem raise {f} (h : s.Canon) : (s.raise f).Canon := h.orBits

theorem clearBits {f v} (h : s.Canon) : (s.clearBits f v).Canon := h.put

theorem putSat {f v} (h : s.Canon) : (s.putSat f v).Canon := h.put

theorem puti {f v} (h : s.Canon) : (s.puti f v).Canon := h.put

theorem addSat {f v} (h : s.Canon) : (s.addSat f v).Canon := h.putSat

theorem setByte {a v} (h : s.Canon) : (s.setByte a v).Canon := h.put

theorem setBarBytes {a bs} (h : s.Canon) : (s.setBarBytes a bs).Canon := h.foldl fun _ _ h1 => h1.setWord

theorem emit {e} (h : s.Canon) : (s.emit e).Canon := h.update

theorem answerRead {agent v} (h : s.Canon) : (s.answerRead agent v).Canon := .ite h.update (.ite h.update h)

theorem countIn {scope ev n} (h : s.Canon) : (s.countIn scope ev n).Canon := h.update

theorem countPages {first num ev n} (h : s.Canon) : (s.countPages first num ev n).Canon := h.countIn

theorem countAt {page ev n} (h : s.Canon) : (s.countAt page ev n).Canon := h.countIn

theorem countPort {port ev n} (h : s.Canon) : (s.countPort port ev n).Canon := h.countAt

theorem countBoth {first num port ev n} (h : s.Canon) : (s.countBoth first num port ev n).Canon := h.countIn

theorem countFwd {ev n} (h : s.Canon) : (s.countFwd ev n).Canon := h.countPages

theorem countCis {ev n} (h : s.Canon) : (s.countCis ev n).Canon := h.countPages

theorem countCol {ev n} (h : s.Canon) : (s.countCol ev n).Canon := h.countPages

theorem countMgmt {ev n} (h : s.Canon) : (s.countMgmt ev n).Canon := h.countPages

theorem countLog {ev n} (h : s.Canon) : (s.countLog ev n).Canon := h.countPages

theorem countBasin {b ev n} (h : s.Canon) : (s.countBasin b ev n).Canon := h.countAt

theorem countMem {gch ev n} (h : s.Canon) : (s.countMem gch ev n).Canon := h.countIn

theorem countPlane {p ev n} (h : s.Canon) : (s.countPlane p ev n).Canon := h.countIn

theorem countGlass {ev n} (h : s.Canon) : (s.countGlass ev n).Canon := h.countIn

theorem logLost (h : s.Canon) : s.logLost.Canon := h.update.countLog

theorem logReport {code page inst d1 d2} (h : s.Canon) : (s.logReport code page inst d1 d2).Canon := by
  unfold State.logReport
  refine .ite h.update ?_
  dsimp only
  split
  · exact h.update.logLost
  · exact h.logLost

theorem logState {addr old new} (h : s.Canon) : (s.logState addr old new).Canon := h.logReport

theorem freshFree (h : s.Canon) : s.freshFree.Canon := h.update

/-! ### Flags -/

theorem reject {agent addr val code} (h : s.Canon) : (s.reject agent addr val code).Canon :=
  .countMgmt (.logReport (.ite (.raise (.ite (.ite h.raise h.raise.puts) h))
    (.puts (.raise (.ite (.ite h.raise h.raise.puts) h)))))

theorem signalMsix {v} (h : s.Canon) : (s.signalMsix v).Canon := .ite h.orBits h.emit

theorem unmask {v} (h : s.Canon) : (s.unmask v).Canon := .ite h h.clearBits.signalMsix

theorem signalRill {vp} (h : s.Canon) : (s.signalRill vp).Canon := .ite h.emit.countMgmt h

theorem signal {vp v} (h : s.Canon) : (s.signal vp v).Canon := h.signalMsix.signalRill

theorem settle (h : s.Canon) : s.settle.Canon := .update (h.foldl fun _ _ h1 => .ite h1.signal h1)

theorem onPins {f} (h : s.Canon) (hf : ∀ t, t.Canon → (f t).Canon) : (s.onPins f).Canon := .ite h (hf _ h)

theorem bookWith {bit inst port d1} (h : s.Canon) : (s.bookWith bit inst port d1).Canon := by
  unfold State.bookWith
  refine .logReport ?_
  split
  · exact h.orBits.countIn
  · exact h.orBits.countAt

theorem book {bit inst port} (h : s.Canon) : (s.book bit inst port).Canon := h.bookWith

theorem istat {f bit} (h : s.Canon) : (s.istat f bit).Canon := h.orBits

/-! ### Nvm -/

theorem nvmPut {off bs} (h : s.Canon) : (s.nvmPut off bs).Canon := ⟨h.bar, h.mem, s.nvmPut_wf off bs h.nvm, h.flash⟩

theorem nvmAppend {w} (h : s.Canon) : (s.nvmAppend w).Canon := h.updateNvm rfl rfl

theorem nvmStream {w} (h : s.Canon) : (s.nvmStream w).Canon := h.updateNvm rfl rfl

theorem culletAppend {kind reason id} (h : s.Canon) : (s.culletAppend kind reason id).Canon :=
  .ite h (.ite h.logReport.nvmAppend (.put (.updateNvm h.logReport rfl rfl)))

theorem clearHalf {half} (h : s.Canon) : (s.clearHalf half).Canon :=
  ⟨h.bar, h.mem, SMap.wf_filter _ _ h.nvm, h.flash⟩

theorem remapCompact {new} (h : s.Canon) : (s.remapCompact new).Canon :=
  .ite h.put.logState (.updateNvm h.clearHalf.nvmPut.nvmPut.put rfl rfl)

theorem remapAppend {kind place} (h : s.Canon) : (s.remapAppend kind place).Canon := .ite h h.nvmAppend

theorem logNvm {region what} (h : s.Canon) : (s.logNvm region what).Canon := h.logReport

theorem remapWritten {b} (h : s.Canon) : (s.remapWritten b).Canon := .logNvm (.ite h.nvmPut.put h.remapCompact)

theorem appendDone {w} (h : s.Canon) : (s.appendDone w).Canon := by
  unfold State.appendDone
  dsimp only
  split
  · exact h.remapWritten
  · exact h.nvmPut.put
  · exact h.nvmPut.logNvm
  · exact h.nvmPut

theorem flushAppends (h : s.Canon) : s.flushAppends.Canon :=
  .foldl (h.updateNvm rfl rfl) fun _ _ h1 => h1.appendDone

/-! ### Glass -/

theorem setPlane {p v} (h : s.Canon) : (s.setPlane p v).Canon := h.update

theorem setRingLock {r v} (h : s.Canon) : (s.setRingLock r v).Canon := h.update

theorem setRing {r v} (h : s.Canon) : (s.setRing r v).Canon := h.setRingLock.put

theorem setMon {r v} (h : s.Canon) : (s.setMon r v).Canon := .ite (.update h.put) h.put

theorem beginSlot {p k e b} (h : s.Canon) : (s.beginSlot p k e b).Canon :=
  .countPlane (.countPlane (h.setPlane.foldl fun _ _ h1 => .ite h1.setRing h1))

theorem planeDark {p} (h : s.Canon) : (s.planeDark p).Canon := h.setPlane

theorem beginLane {k e b} (h : s.Canon) : (s.beginLane k e b).Canon := .ite h.beginSlot.setPlane h.beginSlot

theorem highPlane {p} (h : s.Canon) : (s.highPlane p).Canon := h.setPlane

theorem laneRings {ring from_ to_} (h : s.Canon) : (s.laneRings ring from_ to_).Canon :=
  h.foldl fun _ _ h1 => .ite (.setRing (.ite h1.setRing h1)) (.ite h1.setRing h1)

theorem dropResume {k} (h : s.Canon) : (s.dropResume k).Canon := h.foldl fun _ _ h1 => .ite h1.setRing h1

theorem dropHold {k} (h : s.Canon) : (s.dropHold k).Canon := h.foldl fun _ _ h1 => .ite h1.setRing h1

theorem takeOver {k} (h : s.Canon) : (s.takeOver k).Canon :=
  .countPlane (.setPlane (.update (.puts (.dropHold (.laneRings (h.foldl fun _ _ h1 => h1.laneRings))))))

theorem handBack {k} (h : s.Canon) : (s.handBack k).Canon :=
  .countPlane (.highPlane (.planeDark (.update (.puts (.dropResume (h.foldl fun _ _ h1 => h1.laneRings))))))

theorem migrateAt {k b} (h : s.Canon) : (s.migrateAt k b).Canon := .ite h.handBack (.ite h.takeOver h)

theorem glassBoundary {k} (h : s.Canon) : (s.glassBoundary k).Canon := by
  unfold State.glassBoundary
  dsimp only
  split
  · exact h
  · exact .ite h (.ite (.ite h (.ite h.planeDark.planeDark h.planeDark)) (.ite h h.migrateAt.beginLane))

theorem startPlanes {b} (h : s.Canon) : (s.startPlanes b).Canon :=
  h.foldl fun _ _ h1 => .ite h1.migrateAt.beginLane (.ite h1.planeDark.planeDark h1.planeDark)

theorem holdUnlit (h : s.Canon) : s.holdUnlit.Canon :=
  h.foldl fun _ _ h1 => h1.foldl fun _ _ h2 => .ite h2.setRing h2

theorem planeStates (h : s.Canon) : s.planeStates.Canon := h.foldl fun _ _ h1 => .ite h1.put h1

theorem switchActs {a t} (h : s.Canon) : (s.switchActs a t).Canon := by
  refine .ite (.logReport (.countGlass (.istat ?a))) ?a
  exact .countGlass (.istat (.holdUnlit (.startPlanes (.planeStates (.put (.update h.puts))))))

theorem glassSwitch (h : s.Canon) : s.glassSwitch.Canon := by
  unfold State.glassSwitch
  split
  · exact h
  · exact .ite h h.switchActs

theorem armSwitch {bank} (h : s.Canon) : (s.armSwitch bank).Canon := .update h.put

theorem glassTouched {bank} (h : s.Canon) : (s.glassTouched bank).Canon := .update h.put

theorem driveLoaded (h : s.Canon) : s.driveLoaded.Canon := .ite h (.update h.put)

theorem stepSwitch {old new} (h : s.Canon) : (s.stepSwitch old new).Canon := h.update

theorem slotsOwn {old} (h : s.Canon) : (s.slotsOwn old).Canon := h.foldl fun _ _ h1 => .ite h1.setPlane h1

theorem glassStep {old new} (h : s.Canon) : (s.glassStep old new).Canon :=
  .ite h.stepSwitch (.logReport (.countGlass (.istat (.slotsOwn (.update h.stepSwitch)))))

theorem realignResume (h : s.Canon) : s.realignResume.Canon := by
  unfold State.realignResume
  dsimp only
  split
  · exact h
  · refine .ite h (.ite ?_ ?_)
    · refine .update ?_
      split
      · exact .ite h.update.switchActs h.update.startPlanes
      · exact h.update.startPlanes
    · split
      · exact .ite h.update.switchActs h.update.startPlanes
      · exact h.update.startPlanes

theorem beginSearch {mask startup} (h : s.Canon) : (s.beginSearch mask startup).Canon := by
  unfold State.beginSearch
  refine .ite (.update ?a) (.put (.update ?a))
  exact h.foldl fun _ _ h1 => .ite (h1.foldl fun _ _ h2 => h2.setRing) h1

theorem ringFound {f} (h : s.Canon) : (s.ringFound f).Canon := by
  unfold State.ringFound
  refine .ite h (.ite ?_ ?_)
  · refine .culletAppend (.istat ?_)
    split
    · exact h.setRing.put.setMon
    · exact h.setRing
  · split
    · exact h.setRing.put.setMon
    · exact h.setRing

theorem calibrate (h : s.Canon) : s.calibrate.Canon :=
  .ite h (.freshFree (h.foldl fun _ _ h1 => .update h1.setPlane))

theorem noteOffsets {fs} (h : s.Canon) : (s.noteOffsets fs).Canon := h.foldl fun _ _ h1 => .ite h1 h1.update

theorem ringUnfound {r} (h : s.Canon) : (s.ringUnfound r).Canon := .ite h.setRing h

theorem ringsUnfound (h : s.Canon) : s.ringsUnfound.Canon := h.foldl fun _ _ h1 => h1.ringUnfound

theorem searchEnds (h : s.Canon) : s.searchEnds.Canon := by
  refine .ite (.put ?a) ?a
  exact .ite h.update.put h.update

theorem searchDone {fs} (h : s.Canon) : (s.searchDone fs).Canon := by
  refine .ite h (.searchEnds (.ringsUnfound (.noteOffsets ?_)))
  refine .foldl ?_ fun _ _ h1 => h1.ringFound
  refine .foldl ?_ fun _ _ h1 => h1.ringFound
  exact .calibrate (.foldl (h.foldl fun _ _ h1 => h1.ringFound) fun _ _ h1 => h1.ringFound)

theorem nolightRetry (h : s.Canon) : s.nolightRetry.Canon := .ite h (.update (h.foldl fun _ _ h1 => h1.setRing))

theorem feedForward {r mon} (h : s.Canon) : (s.feedForward r mon).Canon := h.freshFree.put.setMon.setRingLock

theorem lockStep {r mon} (h : s.Canon) : (s.lockStep r mon).Canon :=
  .ite h (.ite h.feedForward (.ite h (.ite h.setRing.setMon (.ite h.freshFree.put.setMon.setRingLock.put
    h.freshFree.put.setMon.setRingLock))))

theorem ringUnlock {r mon} (h : s.Canon) : (s.ringUnlock r mon).Canon := .ite h h.setRing.setMon.istat.countGlass

theorem ringRelock {r heater mon} (h : s.Canon) : (s.ringRelock r heater mon).Canon := by
  unfold State.ringRelock
  refine .ite h ?_
  dsimp only
  split
  · exact h.setRing.put.setMon.addSat.countGlass
  · exact .update h.setRing

theorem inLos {fibre lane power} (h : s.Canon) : (s.inLos fibre lane power).Canon :=
  .ite h h.setRing.put.istat.countGlass

theorem inRestore {fibre lane power} (h : s.Canon) : (s.inRestore fibre lane power).Canon := .ite h h.setRing.put

theorem inputReading {i v} (h : s.Canon) : (s.inputReading i v).Canon :=
  .ite (.countGlass (.istat (.update h.put))) (.update h.put)

theorem outputReading {i v} (h : s.Canon) : (s.outputReading i v).Canon := .ite h (.update h.put)

theorem powerUpdate {ins outs} (h : s.Canon) : (s.powerUpdate ins outs).Canon := by
  refine .ite h (.update ?_)
  refine .foldl ?_ fun _ _ h1 => h1.setPlane
  exact .foldl (h.foldl fun _ _ h1 => h1.inputReading) fun _ _ h1 => h1.outputReading

theorem icStep {i} (h : s.Canon) : (s.icStep i).Canon := h.put

theorem targetStep {i} (h : s.Canon) : (s.targetStep i).Canon := h.update

theorem ibStep {i} (h : s.Canon) : (s.ibStep i).Canon := .ite h (.ite h (.update h.put))

theorem headroomStep {p k} (h : s.Canon) : (s.headroomStep p k).Canon := by
  unfold State.headroomStep
  dsimp only
  split
  · exact .highPlane (h.foldl fun _ _ h1 => h1.put.put)
  · refine .ite (.setPlane ?a) (.highPlane ?a)
    exact .puts (h.foldl fun _ _ h1 => h1.put.put)

theorem biasStep (h : s.Canon) : s.biasStep.Canon := by
  refine .ite h (.update (.freshFree ?_))
  refine .foldl ?_ fun _ _ h1 => h1.setPlane
  refine .foldl ?_ fun _ _ h1 => .ite h1.highPlane (.ite h1.highPlane.headroomStep h1.headroomStep)
  exact .foldl (.foldl (h.foldl fun _ _ h1 => h1.targetStep) fun _ _ h1 => h1.icStep) fun _ _ h1 => h1.ibStep

theorem startMigration {k auto} (h : s.Canon) : (s.startMigration k auto).Canon :=
  .logReport (.update (.ite h.puts.put h.puts))

theorem headroomLow {p} (h : s.Canon) : (s.headroomLow p).Canon := by
  unfold State.headroomLow
  dsimp only
  split
  · exact h
  · exact .ite (.ite h.setPlane.istat.countPlane.logReport h) (.ite h (.ite h.startMigration
      (.ite h (.ite h (.ite h.setPlane.istat.countPlane.logReport h.setPlane.istat.countPlane.logReport)))))

theorem outLowReport {i} (h : s.Canon) : (s.outLowReport i).Canon := .ite h h.update.istat.countPlane

theorem migWrite {go ret plane} (h : s.Canon) : (s.migWrite go ret plane).Canon :=
  .ite h.startMigration (.ite h.update h)

theorem returnArmed (h : s.Canon) : s.returnArmed.Canon := h.update

theorem migArmed (h : s.Canon) : s.migArmed.Canon :=
  .ite h (.update (h.foldl fun _ _ h1 => h1.foldl fun _ _ h2 => h2.put))

theorem migDone (h : s.Canon) : s.migDone.Canon := by
  unfold State.migDone
  dsimp only
  split
  · exact h
  · exact .ite h h.update.istat

/-! ### Time -/

theorem tick (h : s.Canon) : s.tick.Canon := h.update

theorem setSlot {i v} (h : s.Canon) : (s.setSlot i v).Canon := h.update

theorem markLate {old new} (h : s.Canon) : (s.markLate old new).Canon :=
  h.update.foldl fun _ _ h1 => .ite h1.setSlot h1

theorem stepTime {u} (h : s.Canon) : (s.stepTime u).Canon :=
  .glassStep (.markLate (.update (.ite h.update.addSat.countAt.logReport.put h.update.addSat.countAt.logReport)))

theorem latchTime (h : s.Canon) : s.latchTime.Canon := h.puts

theorem hostStep {u} (h : s.Canon) : (s.hostStep u).Canon := .update h.stepTime

theorem timeSet (h : s.Canon) : s.timeSet.Canon := h.hostStep

theorem timeAdj (h : s.Canon) : s.timeAdj.Canon := h.hostStep

theorem servoLocked (h : s.Canon) : s.servoLocked.Canon := h.put.logState

theorem sampleServo {x16} (h : s.Canon) : (s.sampleServo x16).Canon :=
  .ite (.ite h.update.put (.ite h.update.servoLocked h.update)) h.update.put

theorem servoSample {x16 epoch} (h : s.Canon) : (s.servoSample x16 epoch).Canon :=
  .ite h.countAt (.ite h.update.countAt.puti.stepTime (.sampleServo (.puti (.update h.update.countAt.puti))))

theorem sampleArrives {x16 epoch} (h : s.Canon) : (s.sampleArrives x16 epoch).Canon := h.update

theorem samplesClose (h : s.Canon) : s.samplesClose.Canon := h.update.foldl fun _ _ h1 => h1.servoSample

theorem servoHoldover (h : s.Canon) : s.servoHoldover.Canon := .ite h.update.puti.put.countAt.logReport h

theorem srcChanged (h : s.Canon) : s.srcChanged.Canon := h.update.put

theorem timeAct {o w old} (h : s.Canon) : (s.timeAct o w old).Canon := by
  unfold State.timeAct
  split
  · exact .ite h.srcChanged h
  · exact .ite h.latchTime h
  · exact .ite h.timeSet (.ite h.timeAdj h)
  · exact h.sampleArrives
  · exact h

theorem ppsOutEdge (h : s.Canon) : s.ppsOutEdge.Canon := .ite h (.ite h.update.emit h.update)

theorem ppsOutFall (h : s.Canon) : s.ppsOutFall.Canon := by
  unfold State.ppsOutFall
  dsimp only
  split
  · exact h
  · exact .ite h.update.emit h

theorem ppsInEdge (h : s.Canon) : s.ppsInEdge.Canon :=
  .ite h.countAt (.ite h.update.countAt.puts (.sampleArrives
    (.ite h.update.countAt.puts.put h.update.countAt.puts)))

/-! ### Cistern -/

theorem setPort {p v} (h : s.Canon) : (s.setPort p v).Canon := h.update

theorem setVc {p v x} (h : s.Canon) : (s.setVc p v x).Canon := h.setPort

theorem weirDiscard {d} (h : s.Canon) : (s.weirDiscard d).Canon := .ite h.countPages h

theorem weirClamp {c inst} (h : s.Canon) : (s.weirClamp c inst).Canon := .ite h.book h

theorem setCell {c v} (h : s.Canon) : (s.setCell c v).Canon := h.update

theorem setLossy {n} (h : s.Canon) : (s.setLossy n).Canon := h.puts

theorem recomputeLossy (h : s.Canon) : s.recomputeLossy.Canon := .ite h.put.setLossy h.put.setLossy

theorem retireCell {c} (h : s.Canon) : (s.retireCell c).Canon := by
  unfold State.retireCell
  refine .ite (.setLossy ?a) (.ite (.put ?a) (.logState (.put ?a)))
  exact h.setCell.culletAppend

theorem setFreed {x} (h : s.Canon) : (s.setFreed x).Canon := h.update

theorem noteAccount {a n} (h : s.Canon) : (s.noteAccount a n).Canon := by
  unfold State.noteAccount
  dsimp only
  split
  · exact h
  · exact h.setFreed
  · exact h.setFreed
  · exact h.setFreed

theorem freeCell {c} (h : s.Canon) : (s.freeCell c).Canon := .ite h.retireCell h.setCell.setFreed

theorem noteQueue {p q n vc7} (h : s.Canon) : (s.noteQueue p q n vc7).Canon := h.setFreed

theorem setPkt {i v} (h : s.Canon) : (s.setPkt i v).Canon := h.update

theorem modPkt {i f} (h : s.Canon) : (s.modPkt i f).Canon := by
  unfold State.modPkt
  split
  · exact h.setPkt
  · exact h

theorem newPkt {k r} (h : s.Canon) (e : s.newPkt k = some r) : r.2.Canon := by
  unfold State.newPkt at e
  dsimp only at e
  split at e
  · cases e
  · cases e
    exact .setPkt (.update (h.foldl fun _ _ h1 => h1.setCell))

theorem returnCredit {p v n} (h : s.Canon) : (s.returnCredit p v n).Canon := .ite h h.setVc

theorem releasePkt {i} (h : s.Canon) : (s.releasePkt i).Canon := by
  unfold State.releasePkt
  dsimp only
  split
  · exact h
  · split
    · exact .returnCredit (h.setPkt.foldl fun _ _ h1 => h1.freeCell)
    · exact .noteAccount (h.setPkt.foldl fun _ _ h1 => h1.freeCell)

theorem consume {i} (h : s.Canon) : (s.consume i).Canon := by
  cases i with
  | none => exact h
  | some i => exact h.releasePkt

theorem unref {i} (h : s.Canon) : (s.unref i).Canon := by
  unfold State.unref
  dsimp only
  split
  · exact h
  · exact .ite h.setPkt.releasePkt h.setPkt

theorem addRef {i} (h : s.Canon) : (s.addRef i).Canon := h.modPkt

theorem returnFrame {p v len} (h : s.Canon) : (s.returnFrame p v len).Canon := h.returnCredit

theorem setQueue {p q v} (h : s.Canon) : (s.setQueue p q v).Canon := h.update

theorem leftQueue {p q e} (h : s.Canon) : (s.leftQueue p q e).Canon := by
  unfold State.leftQueue
  split
  · exact h.noteQueue
  · exact h

theorem markQueue {p q} (h : s.Canon) : (s.markQueue p q).Canon := by
  unfold State.markQueue
  dsimp only
  split
  · exact .ite h h.setQueue
  · exact .ite (.ite h h.setQueue) (.ite h h.setQueue)

theorem markPort {p} (h : s.Canon) : (s.markPort p).Canon := h.foldl fun _ _ h1 => h1.markQueue

theorem lateHead {p q} (h : s.Canon) : (s.lateHead p q).Canon := by
  unfold State.lateHead
  split
  · exact .ite h.countAt h
  · exact h

theorem writeEntry {p q i} (h : s.Canon) : (s.writeEntry p q i).Canon :=
  .ite h.update.setQueue.addRef.markQueue.lateHead h.update.setQueue.addRef.markQueue

theorem countCisPort {p ev n} (h : s.Canon) : (s.countCisPort p ev n).Canon := h.countBoth

theorem admitLossy {i} (h : s.Canon) : (s.admitLossy i).Canon := by
  unfold State.admitLossy
  split
  · split
    · exact h.setPkt.returnCredit
    · exact h
  · exact h

theorem offer {p i} (h : s.Canon) : (s.offer p i).Canon := by
  unfold State.offer
  dsimp only
  split
  · exact h
  · refine .ite h.countCisPort (.ite ?_ h.writeEntry)
    split
    · exact h.admitLossy.writeEntry
    · exact h.countCisPort

theorem offerOne {p i} (h : s.Canon) : (s.offerOne p i).Canon := h.addRef.offer.unref

theorem setSched {p v} (h : s.Canon) : (s.setSched p v).Canon := h.update

theorem creditPort {p} (h : s.Canon) : (s.creditPort p).Canon := .ite h h.setSched.weirDiscard.weirClamp

theorem creditQueue {p q} (h : s.Canon) : (s.creditQueue p q).Canon := .ite h h.setQueue.weirDiscard.weirClamp

theorem select {p} (h : s.Canon) : (s.select p).2.Canon := by
  unfold State.select
  dsimp only
  split
  · exact h.creditPort.foldl fun _ _ h1 => h1.creditQueue
  · split
    · exact h.creditPort.foldl fun _ _ h1 => h1.creditQueue
    · split
      · exact h.creditPort.foldl fun _ _ h1 => h1.creditQueue
      · refine .setSched (.ite (.setQueue ?a) ?a)
        exact h.creditPort.foldl fun _ _ h1 => h1.creditQueue

theorem debitShapers {p q bytes} (h : s.Canon) : (s.debitShapers p q bytes).Canon := by
  unfold State.debitShapers
  refine .ite ?a (.weirClamp (.setSched ?a))
  exact .ite h h.setQueue.weirClamp

theorem afterSend {p q bytes strict} (h : s.Canon) : (s.afterSend p q bytes strict).Canon :=
  .ite h (.ite h.setQueue.setSched h.setQueue)

theorem setPolicer {i v} (h : s.Canon) : (s.setPolicer i v).Canon := h.update

theorem creditPolicer {i} (h : s.Canon) : (s.creditPolicer i).Canon :=
  h.setPolicer.weirDiscard.weirDiscard.weirClamp.weirClamp

theorem debitPolicer {i colour bytes} (h : s.Canon) : (s.debitPolicer i colour bytes).Canon :=
  h.setPolicer.weirClamp.weirClamp

theorem colour {p bytes} (h : s.Canon) : (s.colour p bytes).2.Canon := by
  unfold State.colour
  dsimp only
  split
  · exact h
  · exact .countBoth (.ite (.update h.creditPolicer.setPolicer) h.creditPolicer.setPolicer.debitPolicer)

theorem weirEthDebit {p} (h : s.Canon) : (s.weirEthDebit p).Canon := by
  unfold State.weirEthDebit
  dsimp only
  split
  · exact h
  · exact h.update.creditPolicer.debitPolicer

theorem sweepCell {hit c x} (h : s.Canon) : (s.sweepCell hit c x).Canon := by
  unfold State.sweepCell
  split
  · exact .ite h.setCell (.ite h (.ite h.freeCell.book h.setCell))
  · exact .ite h.book h.freeCell
  · exact h

theorem sweepFree {c} (h : s.Canon) : (s.sweepFree c).Canon := .ite h.setCell.book h

theorem sweepRefs {refs i} (h : s.Canon) : (s.sweepRefs refs i).Canon := by
  unfold State.sweepRefs
  split
  · exact .ite (h.setPkt.foldl fun _ _ h1 => h1.book) h
  · exact h

theorem dropOrphan {refs i} (h : s.Canon) : (s.dropOrphan refs i).Canon := by
  unfold State.dropOrphan
  split
  · exact .ite h.setPkt h
  · exact h

theorem sweep {extra} (h : s.Canon) : (s.sweep extra).Canon := by
  refine .update ?_
  refine .foldl ?_ fun _ _ h1 => h1.dropOrphan
  refine .foldl ?_ fun _ _ h1 => h1.sweepRefs
  exact .foldl (h.foldl fun _ _ h1 => h1.sweepCell) fun _ _ h1 => h1.sweepFree

/-! ### Forwarding -/

theorem setEpResult {bank e r} (h : s.Canon) : (s.setEpResult bank e r).Canon := .ite h.put h.put

theorem setEpWords {e ws} (h : s.Canon) : (s.setEpWords e ws).Canon := h.foldl fun _ _ h1 => h1.setWord

theorem epApply {path free new} (h : s.Canon) : (s.epApply path free new).Canon := by
  unfold State.epApply
  dsimp only
  split <;> exact .setEpWords (h.foldl fun _ _ h1 => h1.setEpWords)

theorem epInsert {key new stash t} (h : s.Canon) (e : s.epInsert key new stash = some t) : t.Canon := by
  unfold State.epInsert at e
  split at e
  · cases e; exact h.setEpWords
  · split at e
    · cases e; exact h.setEpWords
    · split at e
      · cases e; exact h.epApply
      · cases e

theorem epInsertInto {n key new t} (h : s.Canon) (e : s.epInsertInto n key new = some t) : t.Canon := by
  unfold State.epInsertInto at e
  split at e
  · cases e; exact h.setEpWords
  · split at e
    · cases e; exact h.epApply
    · cases e

theorem stashReinsert {t} (h : s.Canon) : (s.stashReinsert t).Canon := by
  unfold State.stashReinsert
  split
  · exact h
  · split
    · rename_i e
      exact (h.epInsertInto e).setEpWords
    · exact h

theorem undamp {key} (h : s.Canon) : (s.undamp key).Canon := h.update

theorem epRemove {e} (h : s.Canon) : (s.epRemove e).Canon := by
  unfold State.epRemove
  refine .ite (.stashReinsert ?a) ?a
  exact h.undamp.setEpWords

theorem setSpray {g v c i} (h : s.Canon) : (s.setSpray g v c i).Canon := h.update

theorem spray {g v c} (h : s.Canon) : (s.spray g v c).2.Canon := by
  unfold State.spray
  dsimp only
  split
  · exact h
  · exact h.setSpray.countAt

theorem chooseMember {g bank b} (h : s.Canon) : (s.chooseMember g bank b).2.Canon := by
  unfold State.chooseMember
  dsimp only
  split
  · split
    · exact h
    · exact .ite h.countAt.countAt h.countAt
  · exact h.spray

theorem spliceQueues {p to_} (h : s.Canon) : (s.spliceQueues p to_).Canon :=
  h.foldl fun _ _ h1 => h1.setQueue.setQueue.markQueue

theorem leaveQueues {g i} (h : s.Canon) : (s.leaveQueues g i).Canon := by
  unfold State.leaveQueues
  dsimp only
  split
  · exact h.update
  · exact h.spliceQueues.countAt

theorem memberDown {g i} (h : s.Canon) : (s.memberDown g i).Canon := h.clearBits.leaveQueues

theorem waitFor {p sub} (h : s.Canon) : (s.waitFor p sub).Canon := h.foldl fun _ _ h1 => h1.setQueue

theorem takeOrphans {g p} (h : s.Canon) : (s.takeOrphans g p).Canon :=
  h.update.foldl fun _ _ h1 => .ite h1.spliceQueues.countAt h1

theorem memberUp {g i} (h : s.Canon) : (s.memberUp g i).Canon := by
  unfold State.memberUp
  dsimp only
  split
  · exact h.orBits.waitFor
  · exact h.orBits.takeOrphans

theorem refreshMember {g i} (h : s.Canon) : (s.refreshMember g i).Canon :=
  .ite (.ite h h.memberUp) (.ite h.memberDown h)

theorem refreshPort {p} (h : s.Canon) : (s.refreshPort p).Canon := by
  unfold State.refreshPort
  split
  · exact h.refreshMember
  · exact h

theorem groupReturn {p q} (h : s.Canon) : (s.groupReturn p q).Canon := .ite h.setQueue h

theorem fwdDrop {p ev} (h : s.Canon) : (s.fwdDrop p ev).Canon := h.countBoth

theorem sampleEpoch {e} (h : s.Canon) : (s.sampleEpoch e).2.Canon := by
  unfold State.sampleEpoch
  dsimp only
  split
  · exact h
  · split
    · exact h.update
    · exact h

theorem copyRange {src dst len} (h : s.Canon) : (s.copyRange src dst len).Canon :=
  .foldl (h.foldl fun _ _ h1 => h1.setWord) fun _ _ h1 => h1.setWord

theorem copyBank (h : s.Canon) : s.copyBank.Canon :=
  .copyRange (.copyRange (.copyRange (.copyRange (h.foldl fun _ _ h1 => h1.setEpResult))))

theorem epochCopy (h : s.Canon) : s.epochCopy.Canon := h.put

theorem epochCopyDone (h : s.Canon) : s.epochCopyDone.Canon := .ite h.copyBank.put h

theorem epochFlip (h : s.Canon) : s.epochFlip.Canon := .countFwd (.update h.puts)

theorem epochFree (h : s.Canon) : s.epochFree.Canon := h.put.countFwd

theorem epochDrain (h : s.Canon) : s.epochDrain.Canon := .ite h.epochFree h

theorem epochFreeNow (h : s.Canon) : s.epochFreeNow.Canon := h.epochFree.logReport

theorem learnRequest {pipe r} (h : s.Canon) : (s.learnRequest pipe r).Canon := .ite h (.ite h.countFwd h.update)

theorem learn {p key} (h : s.Canon) : (s.learn p key).Canon := by
  unfold State.learn
  dsimp only
  split
  · exact h.learnRequest
  · exact .ite h.raise (.ite h.raise.countFwd h.raise.learnRequest)

theorem learnFrom {p b} (h : s.Canon) : (s.learnFrom p b).Canon := by
  unfold State.learnFrom
  split
  · exact h.learn
  · exact h

theorem moveEntry {e res} (h : s.Canon) : (s.moveEntry e res).Canon :=
  .ite h.countFwd (.ite (.ite h.countFwd (.logReport (.update h.countFwd))) h.puts.countFwd)

theorem writerTakes {r} (h : s.Canon) : (s.writerTakes r).Canon := by
  unfold State.writerTakes
  dsimp only
  split
  · exact .ite h.raise h.moveEntry
  · split
    · rename_i e
      exact (h.epInsert e).countFwd
    · exact .ite h.countFwd (.logReport (.update h.countFwd))

theorem writerNext {pipe move} (h : s.Canon) : (s.writerNext pipe move).Canon := by
  unfold State.writerNext
  dsimp only
  split
  · exact h
  · exact .ite h.update.writerTakes h

theorem ageEntry {e hit} (h : s.Canon) : (s.ageEntry e hit).Canon := .ite h.put (.ite h.epRemove.countFwd h.put)

theorem visitEntry {e} (h : s.Canon) : (s.visitEntry e).Canon :=
  .ite (.ite h.puts.undamp.epRemove.countFwd h.puts.undamp) (.ite h.puts.undamp h.puts.undamp.ageEntry)

theorem sweepVisit (h : s.Canon) : s.sweepVisit.Canon := .ite h (.ite h.update.visitEntry h.update)

theorem flush {scope arg} (h : s.Canon) : (s.flush scope arg).Canon := by
  unfold State.flush
  refine .put (.foldl h fun _ _ h1 => ?_)
  split
  · exact h1.epRemove
  · exact h1

theorem flushDone (h : s.Canon) : s.flushDone.Canon := h.put

theorem lookup {key} (h : s.Canon) : (s.lookup key).2.Canon := by
  unfold State.lookup
  split
  · exact h.countFwd
  · exact h.raise.countFwd

theorem resolve {bank b} (h : s.Canon) : (s.resolve bank b).2.Canon := by
  unfold State.resolve
  dsimp only
  split
  · split
    · exact h
    · split <;> split <;> exact h.lookup
  · exact h
  · split <;> split <;> exact h.lookup

theorem route {p bank b} (h : s.Canon) : (s.route p bank b).2.Canon := by
  unfold State.route
  dsimp only
  split <;> exact h.resolve

theorem dispatch {i r} (h : s.Canon) : (s.dispatch i r).Canon := by
  unfold State.dispatch
  dsimp only
  split
  · exact h
  · split
    · exact h.releasePkt
    · exact h.offerOne
    · split
      · exact h.chooseMember.offerOne
      · exact h.chooseMember.releasePkt
    · exact h.update

theorem replicaPort {k leaf} (h : s.Canon) : (s.replicaPort k leaf).2.Canon := by
  unfold State.replicaPort
  split
  · exact h
  · split
    · exact h.chooseMember
    · exact h
  · exact h

theorem walkSkip {w : Walk} {leaf f ev} (hw : w.st.Canon) : (w.skip leaf f ev).st.Canon := hw.addSat.countFwd

theorem walkReach {w : Walk} {i d inLeaf leaf} (hw : w.st.Canon) : (w.reach i d inLeaf leaf).st.Canon := by
  unfold Walk.reach
  dsimp only
  split
  · exact hw
  · split
    · exact hw
    · split
      · exact hw
      · split
        · exact walkSkip hw
        · split
          · exact walkSkip hw
          · split
            · exact hw.replicaPort.offer.countFwd
            · exact walkSkip hw

theorem replicate {m} (h : s.Canon) : (s.replicate m).1.Canon := by
  unfold State.replicate
  split
  · exact h
  · extract_lets w
    have hw : Walk.Canon w := .foldl h.modPkt fun _ _ h1 => .foldl h1 fun _ _ h2 => walkReach h2
    exact .unref hw

/-! ### Ingress -/

theorem setInBuf {pipe l} (h : s.Canon) : (s.setInBuf pipe l).Canon := h.update

theorem takeSample {f outcome} (h : s.Canon) : (s.takeSample f outcome).Canon := .ite h (.ite h.countPort h.update)

theorem noCell {f} (h : s.Canon) : (s.noCell f).Canon :=
  .ite h.returnFrame.countCisPort h.returnFrame.countCisPort.logReport

theorem takeIn {f bank colour r} (h : s.Canon) : (s.takeIn f bank colour r).Canon := by
  unfold State.takeIn
  split
  · exact h.noCell
  · rename_i e
    exact (h.newPkt e).dispatch

theorem toEngine {f} (h : s.Canon) : (s.toEngine f).Canon := by
  unfold State.toEngine
  dsimp only
  split
  · exact h.noCell
  · rename_i e
    exact .update (h.newPkt e)

theorem holdFrame {f r} (h : s.Canon) (e : s.holdFrame f = some r) : r.2.Canon := h.newPkt e

theorem toTime {f} (h : s.Canon) : (s.toTime f).Canon := by
  unfold State.toTime
  dsimp only
  split
  · exact h.noCell
  · rename_i e
    exact .update (h.holdFrame e)

theorem toSpc {f} (h : s.Canon) : (s.toSpc f).Canon := by
  unfold State.toSpc
  dsimp only
  split
  · exact h.noCell
  · rename_i e
    exact .update (h.holdFrame e)

theorem learnKept {s0 f} (h : s.Canon) : (State.learnKept s0 s f).Canon := .ite h.learnFrom h

theorem forward {f used} (h : s.Canon) : (s.forward f used).Canon := by
  unfold State.forward
  refine .ite h.fwdDrop.returnFrame ?_
  dsimp only
  split
  · exact h.route.fwdDrop.returnFrame
  · exact h.route.colour.takeIn.learnKept

theorem classify {f used} (h : s.Canon) : (s.classify f used).Canon :=
  .ite h.colour.toTime.learnKept (.ite h.colour.toEngine.learnKept (.ite h.colour.toSpc.learnKept h.forward))

theorem ingress {f} (h : s.Canon) : (s.ingress f).Canon :=
  .ite h.sampleEpoch.takeSample.noCell (.ite h.sampleEpoch.takeSample.countPort.returnFrame
    h.sampleEpoch.takeSample.classify)

theorem countLate {pipe} (h : s.Canon) : (s.countLate pipe).Canon := h.update

theorem ingressNext {pipe late} (h : s.Canon) : (s.ingressNext pipe late).Canon := by
  unfold State.ingressNext
  dsimp only
  split
  · exact h
  · exact .ite (.ite h.setInBuf.countLate.takeSample.returnFrame h) (.ite h h.setInBuf.ingress)

theorem departs {p k} (h : s.Canon) : (s.departs p k).2.Canon := by
  unfold State.departs
  dsimp only
  split
  · exact h
  · exact h.update.countBoth
  · exact .countBoth (.ite h.update h.update)
  · exact h.update
  · exact h.update

theorem startFrame {p q strict} (h : s.Canon) : (s.startFrame p q strict).Canon := by
  unfold State.startFrame
  dsimp only
  split
  · exact h
  · exact h.setQueue.leftQueue.setVc.setPort.departs.emit.countCisPort.afterSend.lateHead.markPort

theorem schedule {p} (h : s.Canon) : (s.schedule p).Canon := by
  unfold State.schedule
  refine .ite ?_ h
  dsimp only
  split
  · exact h.select
  · split
    · exact h.select.debitShapers.startFrame
    · exact h.select.debitShapers.setPort

theorem startNext {p} (h : s.Canon) : (s.startNext p).Canon := by
  unfold State.startNext
  dsimp only
  split
  · exact .ite h.setPort.startFrame h
  · exact h

theorem launch {p q} (h : s.Canon) : (s.launch p q).Canon := by
  unfold State.launch
  split
  · exact .ite h.schedule h
  · exact h

theorem markBad {k bad} (h : s.Canon) : (s.markBad k bad).Canon := by
  unfold State.markBad
  refine .foldl h fun _ _ h1 => ?_
  dsimp only
  split
  · exact h1.setCell
  · exact h1

theorem txDone {p bad} (h : s.Canon) : (s.txDone p bad).Canon := by
  unfold State.txDone
  dsimp only
  split
  · exact h
  · split
    · exact h.setPort.setVc.startNext
    · exact h.setPort.setVc.markBad.countPort.countPort.unref.startNext

/-! ### Regulators -/

theorem rampFrom {b v} (h : s.Canon) : (s.rampFrom b v).Canon := h.update

/-! ### Memory -/

theorem memPut {k bs} (h : s.Canon) : (s.memPut k bs).Canon := ⟨h.bar, s.memPut_wf k bs h.mem, h.nvm, h.flash⟩

theorem setPoison {cw b} (h : s.Canon) : (s.setPoison cw b).Canon := h.updateMem rfl rfl

theorem requestMapout {kind c bank reason condemn} (h : s.Canon) :
    (s.requestMapout kind c bank reason condemn).Canon := by
  refine .ite h.logState (.ite (.put ?a) ?a)
  exact .updateMem h.puts.istat rfl rfl

theorem setChanReqs {c l} (h : s.Canon) : (s.setChanReqs c l).Canon := h.updateMem rfl rfl

theorem markHeld {c} (h : s.Canon) : (s.markHeld c).Canon := .ite h h.setChanReqs.countMem

theorem triggerRemap {c bank row} (h : s.Canon) : (s.triggerRemap c bank row).Canon := by
  unfold State.triggerRemap
  refine .ite h ?_
  dsimp only
  split
  · exact .markHeld (h.updateMem rfl rfl)
  · exact h.requestMapout

theorem noteCe {c bank row cw} (h : s.Canon) : (s.noteCe c bank row cw).Canon :=
  .ite (.triggerRemap (h.updateMem rfl rfl)) (h.updateMem rfl rfl)

theorem noteAddr {c} (h : s.Canon) : (s.noteAddr c).Canon := by
  refine .ite (.requestMapout ?a) ?a
  exact .istat (.countMem (h.updateMem rfl rfl))

theorem noteUe {c} (h : s.Canon) : (s.noteUe c).Canon := h.update.istat

theorem readCw {c bank row cw fact} (h : s.Canon) : (s.readCw c bank row cw fact).2.Canon := by
  unfold State.readCw
  dsimp only
  split
  · exact h.noteUe
  · split
    · exact h.countMem.noteUe
    · split
      · exact h
      · exact h.countMem.noteCe
      · exact h.noteAddr.noteUe
      · exact h.countMem.istat.noteUe.triggerRemap
      · exact h.memPut.countMem.noteCe

theorem readCws {c bank row cws facts} (h : s.Canon) : (s.readCws c bank row cws facts).2.Canon :=
  .foldlSnd h fun _ _ h1 => h1.readCw

/-! ### Channels -/

theorem setArb {i v} (h : s.Canon) : (s.setArb i v).Canon := h.updateMem rfl rfl

theorem setStopPkts {i r l} (h : s.Canon) : (s.setStopPkts i r l).Canon := h.updateMem rfl rfl

theorem arbRaise {i r} (h : s.Canon) : (s.arbRaise i r).Canon := .ite h.setArb h

theorem keepCfg {a old} (h : s.Canon) : (s.keepCfg a old).Canon := by
  unfold State.keepCfg
  dsimp only
  split
  · exact h
  · exact h.updateMem rfl rfl

theorem countArb {i ev} (h : s.Canon) : (s.countArb i ev).Canon := by
  unfold State.countArb
  refine .ite h.countMem (.ite h.countAt ?_)
  split <;> exact h.countIn

theorem arbGrant {i} (h : s.Canon) : (s.arbGrant i).Canon := by
  unfold State.arbGrant
  refine .ite h ?_
  split
  · exact h
  · exact h.setArb.countArb

theorem arbUse {i n} (h : s.Canon) : (s.arbUse i n).Canon := .ite h.setArb h.setArb

theorem arbEnd {i} (h : s.Canon) : (s.arbEnd i).Canon := .ite h.setArb h

theorem arbStarve {i r} (h : s.Canon) : (s.arbStarve i r).Canon := by
  unfold State.arbStarve
  refine .ite h (.ite (.logReport ?a) (.istat (.logReport ?a)))
  exact h.orBits.countArb

theorem arbFreeze {i on} (h : s.Canon) : (s.arbFreeze i on).Canon := by
  unfold State.arbFreeze
  refine .ite (.ite h.setArb h) ?_
  split
  · exact h
  · exact h.setArb

theorem onGlassBus {r f} (h : s.Canon) (hf : ∀ t, t.Canon → (f t).Canon) : (s.onGlassBus r f).Canon :=
  .ite (.arbUse (hf _ h)) h

theorem glassAsk {agent a} (h : s.Canon) : (s.glassAsk agent a).Canon := h.update

theorem glassReturn (h : s.Canon) : s.glassReturn.Canon := .ite (h.onGlassBus (fun _ h1 => h1.returnArmed)) h

theorem glassAnswer (h : s.Canon) : s.glassAnswer.Canon := by
  unfold State.glassAnswer
  refine h.onGlassBus ?_
  intro _ h1
  dsimp only
  split
  · exact h1
  · exact h1.update.answerRead

theorem queuePkt {stop r p} (h : s.Canon) : (s.queuePkt stop r p).Canon := h.setStopPkts.arbRaise

/-- The definition is unfolded as a function and then applied: `unfold` would have the kernel evaluate
  `State.locate`,
which the match looks at. So below wherever a `delta` stands. -/
theorem memIssue {b r q t} (h : s.Canon) : s.memIssue b r q = some t → t.Canon := by
  generalize hf : @State.memIssue = f
  delta State.memIssue at hf
  subst hf
  beta_reduce
  generalize s.locate q.addr = o
  intro e
  cases o with
  | none => cases e
  | some l =>
    cases e
    exact h.queuePkt

theorem setTransit {stop ring n} (h : s.Canon) : (s.setTransit stop ring n).Canon := h.updateMem rfl rfl

theorem ringInject {stop ring cls} (h : s.Canon) : (s.ringInject stop ring cls).Canon := by
  unfold State.ringInject
  refine .ite h ?_
  dsimp only
  split
  · exact h.arbUse
  · refine .ite ?_ ?_
    · refine .arbUse (.setTransit ?_)
      split
      · exact .countBasin (.updateMem h.setStopPkts rfl rfl)
      · exact .updateMem h.setStopPkts rfl rfl
    · split
      · exact h.countBasin
      · exact h

theorem moveRings (h : s.Canon) : s.moveRings.Canon := .updateMem (h.foldl fun _ _ h1 => h1.setTransit) rfl rfl

theorem ringArrived {ring cls stop r} (h : s.Canon) (e : s.ringArrived ring cls stop = some r) : r.2.Canon := by
  unfold State.ringArrived at e
  dsimp only at e
  split at e
  · cases e
  · cases e; exact h.updateMem rfl rfl

theorem reachChannel {c q} (h : s.Canon) : (s.reachChannel c q).Canon := h.setChanReqs.markHeld.arbRaise

theorem poisonCws {k cws} (h : s.Canon) : (s.poisonCws k cws).Canon := h.foldl fun _ _ h1 => h1.setPoison

theorem cleanCws {k cws} (h : s.Canon) : (s.cleanCws k cws).Canon := h.foldl fun _ _ h1 => h1.setPoison

theorem chanWrite {l d facts} (h : s.Canon) : (s.chanWrite l d facts).Canon := h.readCws.memPut.cleanCws.poisonCws

theorem chanAdd {l fmt d facts} (h : s.Canon) : (s.chanAdd l fmt d facts).Canon :=
  .poisonCws (h.readCws.foldl fun _ _ h1 => .ite h1 h1.memPut)

theorem chanAtomic {l q facts} (h : s.Canon) : (s.chanAtomic l q facts).2.2.Canon :=
  .ite h.readCws.memPut h.readCws.poisonCws

theorem perform {l q facts} (h : s.Canon) : (s.perform l q facts).2.2.Canon := by
  unfold State.perform
  dsimp only
  split
  · exact h.readCws
  · split
    · exact h
    · exact h.chanWrite
  · split
    · exact h
    · exact h.chanAdd
  · split
    · exact h
    · exact h.chanAtomic

theorem countOp {c op} (h : s.Canon) : (s.countOp c op).Canon := by
  unfold State.countOp
  dsimp only
  split
  · exact h
  · exact .ite h.countMem h
  · exact h.countMem
  · exact h.countMem

theorem hyperCame {c inst d bad} (h : s.Canon) : (s.hyperCame c inst d bad).Canon := .ite h.update h

theorem respond {c q d bad} (h : s.Canon) : (s.respond c q d bad).Canon := by
  unfold State.respond
  dsimp only
  split
  · exact .ite h (.ite h.emit h.emit)
  · exact .ite h.freshFree.answerRead h.answerRead
  · exact h.hyperCame
  · exact h.queuePkt

theorem noteStart {c} (h : s.Canon) : (s.noteStart c).Canon := h.updateMem rfl rfl

theorem finishReq {c ix q} (h : s.Canon) : (s.finishReq c ix q).Canon := h.setChanReqs.countOp.respond

theorem memPerform {c ix kind facts} (h : s.Canon) : (s.memPerform c ix kind facts).Canon := by
  generalize hf : @State.memPerform = f
  delta State.memPerform at hf
  subst hf
  beta_reduce
  generalize (s.chanReqs c)[ix]? = o
  cases o with
  | none => exact h
  | some q =>
    refine .ite h ?_
    generalize s.locate q.addr = o
    cases o with
    | none => exact h
    | some l =>
      have hr {q : MemReq} : ((if q.begun then s else s.noteStart c).perform l q facts).2.2.Canon :=
        .perform (.ite h h.noteStart)
      exact .arbUse (.ite (.finishReq hr) (.setChanReqs hr))

theorem scrubLine {c facts} (h : s.Canon) : (s.scrubLine c facts).Canon :=
  .ite h (.arbUse (.poisonCws (.readCws (.countMem (h.updateMem rfl rfl)))))

theorem retireSpare {c bank k} (h : s.Canon) : (s.retireSpare c bank k).Canon := h.orBits.countMem.culletAppend

theorem copyRow {src dst bad} (h : s.Canon) : (s.copyRow src dst bad).Canon :=
  h.memPut.foldl fun _ _ h1 => h1.setPoison

theorem switchRow {r bad} (h : s.Canon) : (s.switchRow r bad).Canon :=
  .remapAppend (.logReport (.istat (.countMem (.puts (.ite h.copyRow h.copyRow.puts.retireSpare)))))

theorem nextSpare {r} (h : s.Canon) : (s.nextSpare r).Canon := by
  unfold State.nextSpare
  dsimp only
  split
  · exact .updateMem h.retireSpare rfl rfl
  · exact h.retireSpare.requestMapout

theorem release {c} (h : s.Canon) : (s.release c).Canon := h.markHeld.foldl fun _ _ h1 => .ite h1.arbRaise h1

theorem setCopied {n i} (h : s.Canon) : ({ s with mem := { s.mem with copied := n, copyAt := i } } : State).Canon :=
  h.updateMem rfl rfl

theorem copyNext {c bank row fail bad} (h : s.Canon) : (s.copyNext c bank row fail bad).Canon := by
  unfold State.copyNext
  refine .ite ?_ (.put (.setCopied h.copyRow))
  split
  · exact h.switchRow
  · exact h.requestMapout

theorem repairEnd {r fail} (h : s.Canon) : (s.repairEnd r fail).Canon := .ite h.nextSpare h.switchRow

theorem repairLines {r fail facts} (h : s.Canon) : (s.repairLines r fail facts).Canon :=
  .arbUse (.ite (.updateMem h.readCws rfl rfl) (.release (.repairEnd (.updateMem h.readCws rfl rfl))))

theorem mapLines {c bank row fail facts} (h : s.Canon) : (s.mapLines c bank row fail facts).Canon :=
  .arbUse (.ite (.updateMem h.readCws rfl rfl) (.release (.copyNext (.updateMem h.readCws rfl rfl))))

theorem remapDone {c bank row fail facts} (h : s.Canon) : (s.remapDone c bank row fail facts).Canon := by
  unfold State.remapDone
  refine .ite h ?_
  split
  · exact h.repairLines
  · exact .ite h.mapLines h

theorem recomputeMap (h : s.Canon) : s.recomputeMap.Canon :=
  .foldl (.puts (h.foldl fun _ _ h1 => h1.put)) fun _ _ h1 => h1.put

/-- The bytes of a bank go back to what an unlisted place reads as, and that changes for this bank alone. -/
theorem wf_dropBank (h : s.Canon) (b g : Nat) :
    SMap.wf (memDefault (SMap.set (fun _ => 0) s.mem.gen b g)) (s.mem.bytes.filter fun x =>
      !(decide (b * 4128 * 4096 ≤ x.1) && decide (x.1 < (b + 1) * 4128 * 4096))) = true := by
  rw [SMap.wf, SMap.wfFrom_congr (e := memDefault s.mem.gen)]
  · exact SMap.wf_filter _ _ h.mem
  · intro x hx
    have hk : x.1 / 4096 / 4128 ≠ b := by
      have := (List.mem_filter.1 hx).2
      simp only [Bool.not_eq_true', Bool.and_eq_false_iff, decide_eq_false_iff_not] at this
      omega
    unfold memDefault
    rw [SMap.get_set_ne _ _ _ hk]

theorem scrambleBank {b} (h : s.Canon) : (s.scrambleBank b).Canon := ⟨h.bar, h.wf_dropBank b _, h.nvm, h.flash⟩

theorem clearMapout (h : s.Canon) : s.clearMapout.Canon := h.put

theorem channelMapout (h : s.Canon) : s.channelMapout.Canon := by
  refine .remapAppend (.logReport (.istat (.countMem (.culletAppend (.recomputeMap (.clearMapout ?_))))))
  exact h.put.loseMem rfl

theorem emptyBank {b} (h : s.Canon) : (s.emptyBank b).Canon := ⟨h.bar, h.wf_dropBank b 0, h.nvm, h.flash⟩

theorem mapoutStartNow (h : s.Canon) : s.mapoutStartNow.Canon := by
  unfold State.mapoutStartNow
  refine .ite h (.ite h.channelMapout ?_)
  dsimp only
  split
  · exact h.clearMapout
  · refine .release (.ite ?a (.emptyBank ?a))
    exact .updateMem h.put.put rfl rfl

theorem bankMapoutDone (h : s.Canon) : s.bankMapoutDone.Canon := by
  refine .ite h (.ite (.requestMapout ?a) ?a)
  refine .release (.remapAppend (.logReport (.istat (.countMem (.culletAppend (.recomputeMap (.clearMapout
    (.puts (.put (.setByte (.setByte ?_)))))))))))
  exact .foldl (h.updateMem rfl rfl) fun _ _ h1 => h1.scrambleBank

theorem mapreq {kind c bank} (h : s.Canon) : (s.mapreq kind c bank).Canon := h.requestMapout

theorem marginStart {c kind} (h : s.Canon) : (s.marginStart c kind).Canon := by
  unfold State.marginStart
  refine .ite (.put ?a) ?a
  exact h.updateMem rfl rfl

theorem marginAct {c r} (h : s.Canon) : (s.marginAct c r).Canon := by
  unfold State.marginAct
  dsimp only
  split
  · exact h.istat.logState.istat
  · exact h.istat.requestMapout
  · exact h

theorem marginDone {c m} (h : s.Canon) : (s.marginDone c m).Canon := by
  refine .ite h (.marginAct (.ite (.put ?a) ?a))
  exact .puts (h.updateMem rfl rfl)

theorem apIssue {agent o op d n} (h : s.Canon) : (s.apIssue agent o op d n).Canon := by
  unfold State.apIssue
  refine .foldl h fun _ _ h1 => ?_
  split
  · exact h1.reachChannel
  · exact h1

theorem apRead {agent o n} (h : s.Canon) : (s.apRead agent o n).Canon :=
  .ite h (.ite h.emit (.ite h.emit h.apIssue))

theorem apWord {agent a} (h : s.Canon) : (s.apWord agent a).Canon := by
  generalize hf : @State.apWord = f
  delta State.apWord at hf
  subst hf
  beta_reduce
  extract_lets a
  generalize s.locate a = o
  cases o with
  | none => exact h
  | some l => exact h.reachChannel

theorem apWrite {agent o d} (h : s.Canon) : (s.apWrite agent o d).Canon :=
  .ite h (.ite h.reject (.ite h.reject h.apIssue))

/-! ### Collective -/

theorem reserveSlots {owner need blocks t} (h : s.Canon) (e : s.reserveSlots owner need blocks = some t) :
    t.Canon := by
  unfold State.reserveSlots at e
  split at e
  · cases e
    exact .foldl h.update fun _ _ h1 => h1.put
  · cases e

theorem setComm {m v} (h : s.Canon) : (s.setComm m v).Canon := h.update

theorem freeBlocks {owner n} (h : s.Canon) : (s.freeBlocks owner n).Canon := .ite h.setComm h.update

theorem releaseOwner {owner blocks} (h : s.Canon) : (s.releaseOwner owner blocks).Canon :=
  .ite h.freeBlocks (h.update.foldl fun _ _ h1 => h1.put)

theorem freeRec {r} (h : s.Canon) : (s.freeRec r).Canon := .ite h.setComm h.update

theorem slotRelease (h : s.Canon) : s.slotRelease.Canon := by
  unfold State.slotRelease
  dsimp only
  split
  · exact h
  · exact h.update.freeRec.freeBlocks

theorem setCtx {c v} (h : s.Canon) : (s.setCtx c v).Canon := h.update

theorem modCtx {c f} (h : s.Canon) : (s.modCtx c f).Canon := h.setCtx

theorem setPhase {c ph} (h : s.Canon) : (s.setPhase c ph).Canon := h.modCtx.put

theorem ctxCount {c i n} (h : s.Canon) : (s.ctxCount c i n).Canon := h.addSat

theorem rebase {m} (h : s.Canon) : (s.rebase m).Canon := by
  unfold State.rebase
  dsimp only
  split
  · exact h
  · exact h.put

theorem setPath {b l} (h : s.Canon) : (s.setPath b l).Canon := h.update

theorem pushPath {b i} (h : s.Canon) : (s.pushPath b i).Canon := h.setPath

theorem markAll {c i} (h : s.Canon) : (s.markAll c i).Canon := h.foldl fun _ _ h1 => h1.pushPath

theorem fenceMember {c i} (h : s.Canon) : (s.fenceMember c i).Canon := .ite h (.ite h.modCtx.markAll h.modCtx)

theorem fenceLeaf {leaf} (h : s.Canon) : (s.fenceLeaf leaf).Canon :=
  h.foldl fun _ _ h1 => h1.foldl fun _ _ h2 => h2.fenceMember

theorem closeCtx {c status} (h : s.Canon) : (s.closeCtx c status).Canon := .ite h h.setPhase.modCtx.markAll

theorem clearEntry {c p} (h : s.Canon) : (s.clearEntry c p).Canon :=
  .foldl (h.foldl fun _ _ h1 => h1.setWord) fun _ _ h1 => h1.setWord

theorem stampOpen {c} (h : s.Canon) : (s.stampOpen c).Canon := h.puts

theorem askHyper {c inst at_} (h : s.Canon) : (s.askHyper c inst at_).Canon := by
  unfold State.askHyper
  split
  · exact h.reachChannel
  · exact h

theorem openCtx {m c p slots blocks} (h : s.Canon) : (s.openCtx m c p slots blocks).Canon :=
  h.askHyper.clearEntry.setCtx.setPhase.stampOpen.puts.countCol.foldl fun _ _ h1 => h1.fenceMember

theorem openNores {c p} (h : s.Canon) : (s.openNores c p).Canon := h.clearEntry.setCtx.setPhase.stampOpen.countCol

theorem tryOpen {m c p t} (h : s.Canon) (e : s.tryOpen m c p = some t) : t.Canon := by
  obtain ⟨u, hu, rfl⟩ := Option.map_eq_some_iff.1 e
  exact (h.reserveSlots hu).openCtx

theorem instantiate {m c} (h : s.Canon) : (s.instantiate m c).Canon := by
  unfold State.instantiate
  refine .ite h.openNores ?_
  split
  · rename_i e
    exact (h.tryOpen e)
  · exact h.openNores

theorem ctxBit {c base i} (h : s.Canon) : (s.ctxBit c base i).Canon := h.orBits

theorem statusEvents {c status flags} (h : s.Canon) : (s.statusEvents c status flags).Canon := by
  unfold State.statusEvents
  refine .ite (.countCol ?a) (.ite (.raise (.countCol ?a)) (.ite (.bookWith ?a) ?a))
  exact .ite h.countCol h

theorem stageOut {o} (h : s.Canon) : (s.stageOut o).Canon := h.update

theorem finishCtx {c} (h : s.Canon) : (s.finishCtx c).Canon := h.puts.modCtx.setPhase.stageOut.statusEvents

theorem colDrop {i ev} (h : s.Canon) : (s.colDrop i ev).Canon := h.countBoth.releasePkt

theorem fallback {m i win} (h : s.Canon) : (s.fallback m i win).Canon := by
  unfold State.fallback
  dsimp only
  split
  · exact h
  · refine .ite h.releasePkt ?_
    split
    · exact h.setPkt.route.countFwd.releasePkt
    · exact h.setPkt.route.dispatch

theorem accept {c i b} (h : s.Canon) : (s.accept c i b).Canon :=
  .pushPath (.addRef (.ite h.modCtx.ctxCount.countCol.addRef.pushPath h.modCtx.ctxCount.countCol))

theorem matchCtx {c i b} (h : s.Canon) : (s.matchCtx c i b).Canon :=
  .ite h.ctxCount.colDrop (.ite h.colDrop (.ite h.ctxCount.colDrop (.ite h.ctxCount.colDrop h.accept)))

theorem matchComm {m i b} (h : s.Canon) : (s.matchComm m i b).Canon := by
  unfold State.matchComm
  refine .ite h.colDrop (.ite h.colDrop (.ite h.ctxCount.colDrop (.ite h.fallback.countCol
    (.ite (.countCol (.fallback (.ctxCount ?a))) (.matchCtx ?a)))))
  exact .ite h.instantiate h

theorem matchChunk (h : s.Canon) : s.matchChunk.Canon := by
  unfold State.matchChunk
  dsimp only
  split
  · exact h
  · split
    · exact h.update
    · refine .ite h.update.colDrop ?_
      split
      · exact h.update.colDrop
      · exact .ite h.update.colDrop h.update.matchComm

theorem colMatch (h : s.Canon) : s.colMatch.Canon := .ite h h.matchChunk

/-! ### Reduction -/

theorem setBasinHealth {b v} (h : s.Canon) : (s.setBasinHealth b v).Canon := h.update

theorem reportPair {b partner} (h : s.Canon) : (s.reportPair b partner).Canon :=
  .ite h.setBasinHealth.istat.logState h.setBasinHealth

theorem reportEcc {b} (h : s.Canon) : (s.reportEcc b).Canon := h.setBasinHealth.istat

theorem setIndex {c idx half y} (h : s.Canon) : (s.setIndex c idx half y).Canon := h.modCtx

theorem closeIfComplete {c} (h : s.Canon) : (s.closeIfComplete c).Canon := .ite h.closeCtx h

theorem noteSkips {c half n skips} (h : s.Canon) : (s.noteSkips c half n skips).Canon := by
  unfold State.noteSkips
  refine .ite h (.ite (.ctxCount ?a) ?a)
  exact h.foldl fun _ _ h1 => h1.ctxBit

theorem setFinItems {b l} (h : s.Canon) : (s.setFinItems b l).Canon := h.update

theorem emptyIndices {c n half} (h : s.Canon) : (s.emptyIndices c n half).Canon := h.modCtx

theorem readImage {c b idx} (h : s.Canon) : (s.readImage c b idx).Canon := by
  unfold State.readImage
  split
  · exact h.setIndex
  · exact .foldl h.setIndex fun _ _ h1 => h1.getD fun _ e => h1.memIssue e

theorem pushFinish {c b idx half} (h : s.Canon) : (s.pushFinish c b idx half).Canon :=
  .ite h.setFinItems.readImage h.setFinItems

theorem checkIndex {c b idx half} (h : s.Canon) : (s.checkIndex c b idx half).Canon := by
  unfold State.checkIndex
  refine .ite h (.ite (.emptyIndices ?a) (.ite (.pushFinish (.modCtx ?a)) (.modCtx ?a)))
  exact h.setIndex.noteSkips

theorem spillContrib {c b idx bytes} (h : s.Canon) : (s.spillContrib c b idx bytes).Canon := by
  unfold State.spillContrib
  split
  · exact h
  · exact .foldl h.setIndex fun _ _ h1 => h1.getD fun _ e => h1.memIssue e

theorem foldContrib {c b idx half k} (h : s.Canon) : (s.foldContrib c b idx half k).Canon :=
  .ite h.spillContrib h.setIndex.countBasin

theorem countNanIn {c b idx k} (h : s.Canon) : (s.countNanIn c b idx k).Canon := .ite h.countBasin h

theorem accumulateChunk {b i c idx half} (h : s.Canon) : (s.accumulateChunk b i c idx half).Canon := by
  unfold State.accumulateChunk
  dsimp only
  split
  · exact h
  · refine .closeIfComplete (.countBasin (.unref (.ite (.ite (.modCtx ?a) ?a) (.checkIndex (.setIndex
      (.ite (.countNanIn (.foldContrib (.ite h.modCtx h))) (.ite h.modCtx h)))))))
    exact .stageOut (.ite h.modCtx h)

theorem bsnAccumulate {b} (h : s.Canon) : (s.bsnAccumulate b).Canon := by
  unfold State.bsnAccumulate
  split
  · exact .ite h.setPath.accumulateChunk h
  · exact h

theorem fenceAt {b c i} (h : s.Canon) : (s.fenceAt b c i).Canon :=
  .closeIfComplete (h.modCtx.foldl fun _ _ h1 => .ite (.emptyIndices (.noteSkips (h1.foldl
    fun _ _ h2 => h2.checkIndex))) (h1.foldl fun _ _ h2 => h2.checkIndex))

theorem discardIndex {c b half idx y} (h : s.Canon) : (s.discardIndex c b half idx y).Canon :=
  .ite h (h.setIndex.noteSkips.foldl fun _ _ h1 => h1.ctxBit)

theorem closeAt {b c} (h : s.Canon) : (s.closeAt b c).Canon := by
  unfold State.closeAt
  exact .modCtx (h.foldl fun _ _ h1 => .ite (h1.foldl fun _ _ h2 => h2.discardIndex) (.foldl (.noteSkips (h1.foldl
    fun _ _ h2 => h2.discardIndex)) fun _ _ h2 => h2.ctxBit))

theorem markerAt {b} (h : s.Canon) : (s.markerAt b).Canon := by
  unfold State.markerAt
  refine .ite h ?_
  split
  · exact h.setPath.fenceAt
  · exact h.setPath.closeAt
  · exact h

theorem countSr {b l} (h : s.Canon) : (s.countSr b l).Canon := h.countBasin.countBasin

theorem comparePair {c idx a z first} (h : s.Canon) : (s.comparePair c idx a z first).Canon :=
  .ite h.stageOut h.ctxCount.countCol.logReport.raise.reportPair.reportPair

theorem handFinished {c idx r} (h : s.Canon) : (s.handFinished c idx r).Canon := by
  unfold State.handFinished
  refine .ite ?_ h.stageOut
  split
  · exact h.modCtx
  · exact h.modCtx.comparePair

theorem pushKernel {b k} (h : s.Canon) : (s.pushKernel b k).Canon := h.update

theorem finishValues {b c idx vals imgs skip} (h : s.Canon) : (s.finishValues b c idx vals imgs skip).Canon :=
  .ite (.ite h.modCtx h.countSr.pushKernel) h.countSr.handFinished

theorem finishItem {b c idx half bad} (h : s.Canon) : (s.finishItem b c idx half bad).Canon :=
  .ite h.setFinItems.countBasin.reportEcc.modCtx.closeCtx h.setFinItems.countBasin.setIndex.finishValues

theorem bsnFinish {b bad} (h : s.Canon) : (s.bsnFinish b bad).Canon := by
  unfold State.bsnFinish
  dsimp only
  split
  · exact h
  · exact .ite h (.ite h h.finishItem)

theorem countHist {c ofmt y l} (h : s.Canon) : (s.countHist c ofmt y l).Canon :=
  .addSat (h.foldl fun _ _ h1 => h1.addSat)

theorem accountElems {c r} (h : s.Canon) : (s.accountElems c r).Canon :=
  h.ctxCount.modCtx.orBits.countBasin.countBasin.countBasin.countHist

theorem handed {o} (h : s.Canon) : (s.handed o).Canon := by
  unfold State.handed
  refine .ite h.countCol (.ite (.accountElems ?a) (.closeIfComplete (.modCtx ?a)))
  exact h.ctxCount.countCol

theorem handoff (h : s.Canon) : s.handoff.Canon := by
  unfold State.handoff
  dsimp only
  split
  · exact h
  · refine .ite h (.ite (.ite h h.update.countCis) ?_)
    split
    · exact .ite h h.update.countCis
    · rename_i e
      exact .handed (.update (h.newPkt e))

theorem ctxDeadline {c} (h : s.Canon) : (s.ctxDeadline c).Canon :=
  .ite h (.ite h.closeCtx.raise (.ite h.finishCtx.raise h))

theorem ctxComplete {c} (h : s.Canon) : (s.ctxComplete c).Canon := .ite h.finishCtx h

theorem lingerExpire {c} (h : s.Canon) : (s.lingerExpire c).Canon :=
  .ite h h.setCtx.setPhase.put.releaseOwner.rebase

theorem checkLedger {r} (h : s.Canon) : (s.checkLedger r).Canon := .ite h (.ite h.update.book h)

theorem checkHeld {r} (h : s.Canon) : (s.checkHeld r).Canon := .ite h h.update.put.book

theorem ledgerCheck (h : s.Canon) : s.ledgerCheck.Canon :=
  .ite h (.update (.foldl (h.foldl fun _ _ h1 => h1.checkLedger) fun _ _ h1 => h1.checkHeld))

theorem mcReplicate (h : s.Canon) : s.mcReplicate.Canon := by
  unfold State.mcReplicate
  dsimp only
  split
  · exact h
  · split
    · exact h.update.replicate
    · refine .ite h.update.replicate ?_
      split
      · exact h.update.replicate.countCol.ctxCount
      · exact h.update.replicate.countCol

/-! ### ColCommands -/

theorem no {code} (h : s.Canon) : (CmdOut.no s code).st.Canon := h

theorem writeComm {q m key base cb mb} (h : s.Canon) : (s.writeComm q m key base cb mb).Canon :=
  h.foldl fun _ _ h1 => h1.setWord

theorem writeMap {q mb nm} (h : s.Canon) : (s.writeMap q mb nm).Canon := h.foldl fun _ _ h1 => h1.setWord

theorem initPos {m win base c k} (h : s.Canon) : (s.initPos m win base c k).Canon := h.setCtx.puts

theorem commAdmit {q part comm arg} (h : s.Canon) : (s.commAdmit q part comm arg).st.Canon := by
  unfold State.commAdmit
  dsimp only
  split
  · exact h.no
  · split
    · exact h.no
    · split
      · exact h.no
      · split
        · split
          · exact h.no
          · rename_i e
            exact (h.reserveSlots e).writeComm.writeMap.setComm.foldl fun _ _ h2 => h2.initPos
        · exact h.no

theorem ctxAlloc {q m part cseq} (h : s.Canon) : (s.ctxAlloc q m part cseq).st.Canon := by
  show CmdOut.Canon _
  obtain ⟨f, hf⟩ : ∃ f, @State.ctxAlloc = f := ⟨_, rfl⟩
  rw [hf]
  delta State.ctxAlloc at hf
  subst hf
  beta_reduce
  split
  · exact h.no
  · refine .ite h.no (.ite h.no ?_)
    split
    · rename_i e
      exact h.tryOpen e
    · exact h.no

theorem ctxAbort {m cseq} (h : s.Canon) : (s.ctxAbort m cseq).st.Canon := by
  unfold State.ctxAbort
  dsimp only
  split
  · exact h.no
  · split
    · exact h.closeCtx
    · split
      · exact h.finishCtx
      · exact h.no

theorem memberFence {m arg} (h : s.Canon) : (s.memberFence m arg).st.Canon := by
  unfold State.memberFence
  dsimp only
  split
  · exact h.no
  · split
    · exact h.setComm.foldl fun _ _ h1 => h1.fenceMember
    · exact h.setComm

theorem templateSet {q m part} (h : s.Canon) : (s.templateSet q m part).st.Canon := by
  generalize hf : @State.templateSet = f
  delta State.templateSet at hf
  subst hf
  beta_reduce
  extract_lets p x win place need blocks grown
  have hplace {t : State} (ht : t.Canon) : (place t).Canon := ht.foldl fun _ _ h1 => h1.setWord
  split
  · exact h.no
  · split
    · exact hplace h
    · generalize hr : s.reserveSlots _ _ _ = r
      cases r with
      | none => exact h.no
      | some t => exact hplace (.ite (h.reserveSlots hr).setComm.releaseOwner (h.reserveSlots hr).setComm)

theorem commTeardown {m arg} (h : s.Canon) : (s.commTeardown m arg).st.Canon := by
  unfold State.commTeardown
  dsimp only
  split
  · exact h.no
  · refine .ite (.foldl ?a fun _ _ h1 => .ite h1.closeCtx (.ite h1.finishCtx h1)) ?a
    exact h.put.foldl fun _ _ h1 => h1.put

theorem colCommand {q op part comm arg} (h : s.Canon) : (s.colCommand q op part comm arg).st.Canon := by
  unfold State.colCommand
  split
  · exact h.no
  · split
    · exact h.no
    · split
      · exact h.commAdmit
      · split
        · exact h.no
        · split
          · exact h.commTeardown
          · exact h.ctxAlloc
          · exact h.ctxAbort
          · exact h.memberFence
          · exact h.templateSet

theorem writeOutcome {o a op} {r : CmdOut} (h : r.st.Canon) : (State.writeOutcome o a op r).Canon :=
  h.setWord.setWord.countCol

theorem runEntry {q a} (h : s.Canon) : (s.runEntry q a).Canon := h.colCommand.writeOutcome

theorem visit {q} (h : s.Canon) : (s.visit q).Canon := .puts (.update h.runEntry)

theorem visitQueue {q ok} (h : s.Canon) : (s.visitQueue q ok).Canon := .ite h.visit h

theorem teardownRelease {m} (h : s.Canon) : (s.teardownRelease m).Canon :=
  .ite h (.releaseOwner (h.setComm.foldl fun _ _ h1 => h1.releaseOwner.modCtx))

theorem freeEntry {c} (h : s.Canon) : (s.freeEntry c).Canon := .setCtx (h.foldl fun _ _ h1 => h1.setWord)

theorem teardownDone {m} (h : s.Canon) : (s.teardownDone m).Canon := by
  refine .ite h (.raise (.setComm ?_))
  refine .foldl ?_ fun _ _ h1 => h1.setWord
  exact .foldl (h.update.foldl fun _ _ h1 => h1.freeEntry) fun _ _ h1 => h1.setWord

/-! ### Cores -/

theorem setCore {b k v} (h : s.Canon) : (s.setCore b k v).Canon := h.update

theorem modCore {b k f} (h : s.Canon) : (s.modCore b k f).Canon := h.setCore

theorem setArray {b v} (h : s.Canon) : (s.setArray b v).Canon := h.update

theorem freeArray {b k} (h : s.Canon) : (s.freeArray b k).Canon := .ite h.setArray h

theorem setDma {b v} (h : s.Canon) : (s.setDma b v).Canon := h.update

theorem openBarrier {b} (h : s.Canon) : (s.openBarrier b).Canon := .ite (h.foldl fun _ _ h1 => h1.modCore) h

theorem localPutM {b k a x m} (h : s.Canon) : (s.localPutM b k a x m).Canon := by
  unfold State.localPutM
  dsimp only
  split
  · exact h
  · split
    · exact h.modCore
    · exact h.modCore
    · exact h.modCore
    · exact h

theorem localPutsM {b k a bs m} (h : s.Canon) : (s.localPutsM b k a bs m).Canon :=
  h.foldl fun _ _ h1 => h1.localPutM

theorem localPuts {b k a bs} (h : s.Canon) : (s.localPuts b k a bs).Canon := h.localPutsM

theorem coreIssue {b k v op w n data p} (h : s.Canon) : (s.coreIssue b k v op w n data p).Canon := by
  obtain ⟨g, hg⟩ : ∃ g, s.memIssue b k = g := ⟨_, rfl⟩
  obtain ⟨f, hf⟩ : ∃ f, @State.coreIssue = f := ⟨_, rfl⟩
  rw [hf]
  delta State.coreIssue at hf
  subst hf
  beta_reduce
  rw [hg]
  split
  · exact h
  · extract_lets tag
    split
    · exact h
    · rename_i e
      exact (h.memIssue (by rw [hg, e])).modCore

theorem dmaIssue {b q} (h : s.Canon) : (s.dmaIssue b q).Canon := h.getD fun _ e => h.memIssue e

theorem dmaBegin {b} (h : s.Canon) : (s.dmaBegin b).Canon := by
  unfold State.dmaBegin
  dsimp only
  split
  · exact h
  · split
    · exact h
    · exact .ite h (h.setDma.foldl fun _ _ h1 => h1.dmaIssue)

theorem dmaAnswer {b ticket piece d bad} (h : s.Canon) : (s.dmaAnswer b ticket piece d bad).Canon := by
  unfold State.dmaAnswer
  dsimp only
  split
  · exact h
  · exact .ite h h.setDma

theorem dmaPut {b v i m ms} (h : s.Canon) : (s.dmaPut b v i m ms).Canon := by
  unfold State.dmaPut
  dsimp only
  split
  · exact h.localPutsM
  · exact h.foldl fun _ _ h1 => h1.dmaIssue

theorem dmaClose {b ticket st} (h : s.Canon) : (s.dmaClose b ticket st).Canon := h.setDma.dmaBegin

theorem dmaDone {b ecc} (h : s.Canon) : (s.dmaDone b ecc).Canon := by
  unfold State.dmaDone
  dsimp only
  split
  · exact h
  · split
    · exact h.dmaClose
    · refine .ite h (.ite h.dmaClose (.ite h.dmaClose (.ite (.dmaClose ?a) ?a)))
      exact h.setDma.foldl fun _ _ h1 => h1.dmaPut

theorem dropDescs {b k} (h : s.Canon) : (s.dropDescs b k).Canon := h.setDma.dmaBegin

theorem tagRecord {b k f kernel ctx mem} (h : s.Canon) : (s.tagRecord b k f kernel ctx mem).Canon :=
  .countBasin (.put (h.freshFree.foldl fun _ _ h1 => h1.setWord))

theorem tagStep {b k} (h : s.Canon) : (s.tagStep b k).2.Canon := h.setCore

theorem tagTake {b k f kernel ctx awaits mem} (h : s.Canon) : (s.tagTake b k f kernel ctx awaits mem).Canon :=
  .ite h.addSat.countBasin (.ite h.modCore h.tagRecord)

theorem tagIssue {b k f kernel ctx awaits mem} (h : s.Canon) : (s.tagIssue b k f kernel ctx awaits mem).Canon :=
  .ite h.tagStep.tagTake h.tagStep

theorem followEnd {b k} (h : s.Canon) : (s.followEnd b k).Canon := by
  unfold State.followEnd
  split
  · exact h.modCore.tagRecord
  · exact h

theorem faultRecord {b k code ctx kernel pc addr} (h : s.Canon) :
    (s.faultRecord b k code ctx kernel pc addr).Canon :=
  .ite h h.raise.puts

theorem abortCtx {c} (h : s.Canon) : (s.abortCtx c).Canon := h.modCtx.closeCtx

theorem kernelFaultAt {b k code addr pc} (h : s.Canon) : (s.kernelFaultAt b k code addr pc).Canon := by
  unfold State.kernelFaultAt
  dsimp only
  split
  · exact h
  · exact .openBarrier (.setCore
      (.ite h.freshFree.followEnd.abortCtx.faultRecord.logReport.countBasin.freeArray.dropDescs.reportEcc
      h.freshFree.followEnd.abortCtx.faultRecord.logReport.countBasin.freeArray.dropDescs))

theorem kernelFault {b k code addr} (h : s.Canon) : (s.kernelFault b k code addr).Canon := h.kernelFaultAt

theorem spend {b k} (h : s.Canon) : (s.spend b k).Canon := .ite h.modCore.kernelFault h.modCore

theorem retire {s0 b k w v access pc} (h : s.Canon) : (State.retire s0 s b k w v access pc).Canon :=
  h.tagIssue.spend.modCore

theorem faultInsn {b k w v code addr} (h : s.Canon) : (s.faultInsn b k w v code addr).Canon :=
  h.tagIssue.kernelFault

theorem firmwareInsn {b k cls} (h : s.Canon) : (s.firmwareInsn b k cls).Canon := h.tagIssue

theorem builtinInsn {b k cls v} (h : s.Canon) : (s.builtinInsn b k cls v).Canon := h.tagIssue.spend

theorem userInsn {b k cls legal v} {body : Inv → Nat → InsnRes} (h : s.Canon) (hbody : ∀ v w, (body v w).Canon) :
    (s.userInsn b k cls legal body v).Canon := by
  unfold State.userInsn
  split
  · exact h.kernelFault
  · rename_i w _
    refine .ite h.faultInsn (.ite h (.ite h.faultInsn ?_))
    have hr := hbody v w
    split <;> rename_i e <;> rw [e] at hr
    · cases hr; assumption
    · exact h.faultInsn
    · cases hr with | goto ht => exact ht.retire
    · cases hr with | done_ ht => exact ht.retire

theorem execInsn {b k cls legal body} (h : s.Canon) (hbody : ∀ x y, (body x y).Canon) :
    (s.execInsn b k cls legal body).Canon := by
  unfold State.execInsn
  refine .ite h ?_
  split
  · exact h.firmwareInsn
  · exact .ite h.builtinInsn (h.userInsn hbody)

theorem firmwareOnly {b k cls} (h : s.Canon) : (s.firmwareOnly b k cls).Canon := h.execInsn (fun _ _ => .fault)

theorem coreAnswer {b k tag d bad} (h : s.Canon) : (s.coreAnswer b k tag d bad).Canon := by
  unfold State.coreAnswer
  dsimp only
  split
  · exact h
  · refine .ite ?_ ?_
    · refine .kernelFaultAt ?_
      split
      · exact .ite h.setCore.followEnd h.setCore
      · exact h.setCore
    · split
      · exact .ite h.setCore.followEnd h.setCore
      · exact h.setCore

/-! ### Insns -/

theorem saluBody {b k op w} (h : s.Canon) : (s.saluBody b k op w).Canon := .done_ h.freshFree.setCore

theorem sbrBody {b k op w} (h : s.Canon) : (s.sbrBody b k op w).Canon := by
  unfold State.sbrBody
  dsimp only
  split
  · exact .goto h
  · exact .ite (.goto h) (.done_ h)
  · exact .ite (.goto h) (.done_ h)
  · exact .goto h.setCore
  · exact .goto h

theorem smemBody {b k op ecc v w} (h : s.Canon) : (s.smemBody b k op ecc v w).Canon := by
  unfold State.smemBody
  dsimp only
  split
  · split
    · exact .fault
    · exact .done_ h.coreIssue
    · exact .ite .fault (.done_ h.setCore)
  · split
    · exact .fault
    · exact .done_ h.coreIssue
    · exact .done_ h.localPutsM
  · split
    · exact .fault
    · exact .done_ h.coreIssue
    · exact .fault

theorem gatherLane {b k v d n a i} (h : s.Canon) : (s.gatherLane b k v d n a i).Canon := by
  unfold State.gatherLane
  dsimp only
  split
  · exact h.coreIssue
  · exact h.modCore

theorem scatterLane {b k v a d m} (h : s.Canon) : (s.scatterLane b k v a d m).Canon := by
  unfold State.scatterLane
  split
  · exact h.coreIssue
  · exact h.localPutsM

theorem lanes {b k v w n mask write} (h : s.Canon) : (s.lanes b k v w n mask write).Canon :=
  h.foldl fun _ _ h1 => .ite h1.scatterLane h1.gatherLane

theorem storeBytes {b k v a mask r o} (h : s.Canon) : (s.storeBytes b k v a mask r o).Canon := by
  unfold State.storeBytes
  refine .foldl h fun _ _ h1 => ?_
  split
  · exact h1.coreIssue
  · exact h1.localPutM

theorem storeVec {b k v a mask r o} (h : s.Canon) : (s.storeVec b k v a mask r o).Canon := by
  unfold State.storeVec
  split
  · exact .ite h.coreIssue h.storeBytes
  · exact h.storeBytes

theorem addVec {b k v a mask r f} (h : s.Canon) : (s.addVec b k v a mask r f).Canon :=
  .ite h.coreIssue (h.foldl fun _ _ h1 => h1.coreIssue)

theorem vmemBody {b k op ecc v w} (h : s.Canon) : (s.vmemBody b k op ecc v w).Canon := by
  unfold State.vmemBody
  dsimp only
  split
  · split
    · exact .fault
    · exact .done_ h.coreIssue
    · exact .ite .fault (.done_ h.setCore)
  · split
    · exact .fault
    · exact .done_ h.storeVec
  · split
    · exact .fault
    · split
      · exact .fault
      · exact .done_ h.lanes
  · split
    · exact .fault
    · exact .done_ h.lanes
  · refine .ite .fault ?_
    split
    · exact .fault
    · exact .done_ h.addVec
    · exact .fault

theorem vfpBody {b k op w} (h : s.Canon) : (s.vfpBody b k op w).Canon := .done_ h.setCore

theorem vintBody {b k op w} (h : s.Canon) : (s.vintBody b k op w).Canon := .done_ h.freshFree.setCore

theorem vpermBody {b k op w} (h : s.Canon) : (s.vpermBody b k op w).Canon := .done_ h.setCore

theorem vcvtBody {b k w} (h : s.Canon) : (s.vcvtBody b k w).Canon :=
  .ite .fault (.ite (.done_ h.setCore) (.ite .fault (.done_ h.setCore.countSr)))

theorem syncBody {b k op} (h : s.Canon) : (s.syncBody b k op).Canon := by
  unfold State.syncBody
  split
  · exact .done_ h.modCore.openBarrier
  · exact .ite (.done_ h) (.wait h)

theorem descBytes {b k v a t} (h : s.Canon) (e : s.descBytes b k v a = .error t) : t.Canon := by
  unfold State.descBytes at e
  split at e
  · cases e
  · dsimp only at e
    split at e
    · cases e; exact h
    · split at e
      · cases e; exact h.foldl fun _ _ h1 => h1.coreIssue
      · cases e

theorem dmaStart {b k v w} (h : s.Canon) : (s.dmaStart b k v w).Canon := by
  unfold State.dmaStart
  dsimp only
  split
  · exact .fault
  · split
    · rename_i e
      exact .wait (h.descBytes e)
    · split
      · exact .fault
      · exact .ite (.wait h) (.done_ h.setDma.setCore.dmaBegin)

theorem dmaPoll {b k w} (h : s.Canon) : (s.dmaPoll b k w).Canon := .done_ h.setCore

theorem dmaWait {b k w} (h : s.Canon) : (s.dmaWait b k w).Canon := by
  unfold State.dmaWait
  split
  · exact .wait h
  · exact .done_ h
  · exact .fault

theorem dmaInsn {b k op body} (h : s.Canon) (hbody : ∀ x y, (body x y).Canon) : (s.dmaInsn b k op body).Canon := by
  unfold State.dmaInsn
  split
  · exact h.execInsn hbody
  · exact .ite (h.execInsn hbody) (.ite h (h.execInsn hbody))

/-! ### Arrays -/

theorem putRow {b k v fmt a acc row} (h : s.Canon) : (s.putRow b k v fmt a acc row).Canon := h.localPuts

theorem mtxLoad {b k v j} (h : s.Canon) : (s.mtxLoad b k v j).Canon := h.setArray

theorem mtxStreamOne {b k v j i} (h : s.Canon) : (s.mtxStreamOne b k v j i).Canon := .ite h.setArray h.putRow

theorem mtxStream {b k v j n} (h : s.Canon) : (s.mtxStream b k v j n).Canon :=
  .countBasin (h.foldl fun _ _ h1 => h1.mtxStreamOne)

theorem mtxDrain {b k v j} (h : s.Canon) : (s.mtxDrain b k v j).Canon := h.foldl fun _ _ h1 => h1.putRow

theorem mtxRun {b k v j} (h : s.Canon) : (s.mtxRun b k v j).Canon := by
  unfold State.mtxRun
  dsimp only
  split
  · exact h.mtxLoad
  · exact h.mtxStream
  · exact h.mtxDrain
  · refine .ite (.mtxDrain ?a) ?a
    exact h.mtxLoad.mtxStream

theorem matrixDone {b fault} (h : s.Canon) : (s.matrixDone b fault).Canon := by
  unfold State.matrixDone
  refine .ite h ?_
  dsimp only
  split
  · split
    · exact h.setArray
    · exact .setArray (.ite h h.mtxRun)
  · exact h

theorem mtxIssue {b k v j take testing} (h : s.Canon) : (s.mtxIssue b k v j take testing).Canon := by
  unfold State.mtxIssue
  refine .ite .fault (.ite (.wait h) (.ite .fault ?_))
  split
  · exact .fault
  · exact .done_ h.setArray

theorem mtxWait {b k w} (h : s.Canon) : (s.mtxWait b k w).Canon :=
  .ite .fault (.ite (.wait h.setArray) (.done_ h.setArray.modCore))

theorem mtxRelease {b k} (h : s.Canon) : (s.mtxRelease b k).Canon :=
  .ite .fault (.ite (.wait h) (.done_ h.freeArray))

theorem countArrays (h : s.Canon) : s.countArrays.Canon := h.put

theorem arrayTest {b} (h : s.Canon) : (s.arrayTest b).Canon := h.put.countArrays

theorem startupTest {b} (h : s.Canon) : (s.startupTest b).Canon := .ite h.arrayTest h

theorem disableArray {b reason} (h : s.Canon) : (s.disableArray b reason).Canon := h.put.countArrays.culletAppend

theorem testEnds {b equal} (h : s.Canon) : (s.testEnds b equal).Canon :=
  .ite h (.ite h.countBasin.put.countArrays h.countBasin.disableArray.countBasin.logReport)

theorem testDone {b equal} (h : s.Canon) : (s.testDone b equal).Canon := .ite h.testEnds h

theorem retireArray {b} (h : s.Canon) : (s.retireArray b).Canon := by
  unfold State.retireArray
  refine .disableArray (.foldl ?_ fun _ _ h1 => ?_)
  · split
    · exact h.kernelFault
    · exact h
  · exact h1.abortCtx

/-! ### Kernels -/

theorem askFields {b k v} (h : s.Canon) : (s.askFields b k v).Canon := .ite h (h.foldl fun _ _ h1 => h1.coreIssue)

theorem startInv {b k i} (h : s.Canon) : (s.startInv b k i).Canon := by
  refine .ite (.askFields ?a) ?a
  refine .ite (.setArray ?b) ?b
  exact .update h.freshFree.setCore

theorem kernelInvoke {b} (h : s.Canon) : (s.kernelInvoke b).Canon := by
  unfold State.kernelInvoke
  refine .ite h ?_
  dsimp only
  split
  · exact h.update.startInv
  · exact h

theorem endInv {b k} (h : s.Canon) : (s.endInv b k).Canon := h.followEnd.freeArray.modCore.openBarrier

theorem kernelResult {b v r} (h : s.Canon) : (s.kernelResult b v r).Canon := h.stageOut.countBasin

theorem writeFields {b k v f} (h : s.Canon) : (s.writeFields b k v f).Canon :=
  h.foldl fun _ _ h1 => h1.foldl fun _ _ h2 => h2.coreIssue

theorem builtinStep {b k} (h : s.Canon) : (s.builtinStep b k).Canon := by
  unfold State.builtinStep
  dsimp only
  split
  · exact h
  · exact .ite h (.ite h.kernelFault (.countSr (.writeFields (.ite h.modCore.countBasin h.modCore))))

theorem builtinReturn {b k v ecc budget} (h : s.Canon) : (s.builtinReturn b k v ecc budget).Canon := by
  unfold State.builtinReturn
  refine .ite h.kernelFault (.ite h.kernelFault (.ite h.kernelFault (.ite h.kernelFault (.ite h.kernelFault ?_))))
  split
  · exact h
  · exact .ite h.endInv.kernelResult h

theorem userReturn {b k v ecc} (h : s.Canon) : (s.userReturn b k v ecc).Canon := by
  unfold State.userReturn
  refine .ite h ?_
  dsimp only
  split
  · exact h.kernelFault
  · refine .ite h ?_
    split
    · exact h.tagIssue.kernelFault
    · exact .ite h.tagIssue.kernelFault h.tagIssue.endInv.kernelResult

theorem kernelReturn {b k ecc budget} (h : s.Canon) : (s.kernelReturn b k ecc budget).Canon := by
  unfold State.kernelReturn
  dsimp only
  split
  · exact h
  · exact .ite h (.ite h (.ite h.builtinReturn h.userReturn))

theorem spillAnswer {b c idx} (h : s.Canon) : (s.spillAnswer b c idx).Canon := .ite h.setIndex.readImage h.setIndex

theorem imageAnswer {c idx piece d bad} (h : s.Canon) : (s.imageAnswer c idx piece d bad).Canon := h.setIndex

theorem answered {r} (h : s.Canon) : (s.answered r).Canon := by
  unfold State.answered
  split
  · exact h.coreAnswer.builtinStep
  · exact h.dmaAnswer
  · exact h.spillAnswer
  · exact h.imageAnswer
  · exact h
  · exact h
  · exact h

theorem ringDeliver {stop ring cls} (h : s.Canon) : (s.ringDeliver stop ring cls).Canon := by
  unfold State.ringDeliver
  refine .ite h ?_
  split
  · exact h
  · rename_i e
    split
    · exact (h.ringArrived e).reachChannel
    · exact (h.ringArrived e).answered

theorem loaderEnd {agent val code} (h : s.Canon) : (s.loaderEnd agent val code).Canon :=
  .ite h.raise.puts h.raise.puts.reject

theorem klLoad {agent slot} (h : s.Canon) : (s.klLoad agent slot).Canon := by
  unfold State.klLoad
  dsimp only
  split
  · exact h.update.put
  · exact h.loaderEnd

theorem klLoadDone (h : s.Canon) : s.klLoadDone.Canon := by
  unfold State.klLoadDone
  dsimp only
  split
  · exact h
  · exact h.update.orBits.put.put.loaderEnd

theorem klUnload {agent slot} (h : s.Canon) : (s.klUnload agent slot).Canon :=
  .ite h.loaderEnd (.ite h.loaderEnd h.update.clearBits.put.loaderEnd)

/-! ### Health -/

theorem setLeaf {l v} (h : s.Canon) : (s.setLeaf l v).Canon := h.update

theorem associate {p l} (h : s.Canon) : (s.associate p l).Canon := h.update

theorem judgeBudget (h : s.Canon) : s.judgeBudget.Canon := .ite h.putSat.put.istat.logState h.putSat.put

theorem expireFences (h : s.Canon) : s.expireFences.Canon := h.update.judgeBudget

theorem countRecs (h : s.Canon) : s.countRecs.Canon := h.put

theorem lastDecision {l cause r} (h : s.Canon) : (s.lastDecision l cause r).Canon := h.puts

theorem fenceBit {l on} (h : s.Canon) : (s.fenceBit l on).Canon := .ite h.orBits h.clearBits

theorem applyFence {l cause shown restore confirmed} (h : s.Canon) :
    (s.applyFence l cause shown restore confirmed).Canon :=
  .fenceLeaf (.countRecs (.judgeBudget (.countMgmt (.logReport (.istat (.lastDecision
    (.ite h.expireFences.setLeaf.fenceBit (.update h.expireFences.setLeaf.fenceBit))))))))

theorem suspected (h : s.Canon) : s.suspected.Canon := h.istat.countMgmt

theorem applyUnfence {l reset} (h : s.Canon) : (s.applyUnfence l reset).Canon :=
  .countRecs (.countMgmt (.logReport (.istat (.fenceBit (.ite h.setLeaf h.setLeaf.suspected)))))

theorem recommend {l cause} (h : s.Canon) : (s.recommend l cause).Canon :=
  .ite h h.setLeaf.lastDecision.istat.logReport.countMgmt.countRecs

theorem autoCause {l cause} (h : s.Canon) : (s.autoCause l cause).Canon := h.update

theorem dropCause {l cause} (h : s.Canon) : (s.dropCause l cause).Canon := h.update

theorem decide_ {l cause} (h : s.Canon) : (s.decide_ l cause).Canon :=
  .ite h (.ite h.expireFences.applyFence h.expireFences.recommend)

theorem fencesClose (h : s.Canon) : s.fencesClose.Canon := h.update.foldl fun _ _ h1 => h1.decide_

theorem withdraw {l cause} (h : s.Canon) : (s.withdraw l cause).Canon :=
  .ite h.dropCause.setLeaf.logReport.countMgmt.countRecs h.dropCause

theorem judgeScore {l} (h : s.Canon) : (s.judgeScore l).Canon :=
  .ite h (.ite (.ite h.setLeaf.autoCause h.setLeaf) (.ite h.setLeaf.withdraw h.setLeaf))

theorem judgeWarn {l} (h : s.Canon) : (s.judgeWarn l).Canon := .ite h.setLeaf.istat.logReport h.setLeaf

theorem penalty {l n} (h : s.Canon) : (s.penalty l n).Canon := h.setLeaf.judgeWarn.judgeScore

theorem portPenalty {p n} (h : s.Canon) : (s.portPenalty p n).Canon := by
  unfold State.portPenalty
  split
  · exact h.penalty
  · exact h

theorem scoreRecover {l} (h : s.Canon) : (s.scoreRecover l).Canon := .ite h h.setLeaf.judgeWarn.judgeScore

theorem liveness {p} (h : s.Canon) : (s.liveness p).Canon := by
  unfold State.liveness
  dsimp only
  split
  · exact h
  · split
    · exact h.setLeaf.judgeWarn.judgeScore
    · refine .ite ?a (.istat ?a)
      exact h.setLeaf.countBoth
    · exact h.setLeaf

theorem leafSuspect {l} (h : s.Canon) : (s.leafSuspect l).Canon := .ite h.setLeaf.suspected h

theorem hardLinkDown {l} (h : s.Canon) : (s.hardLinkDown l).Canon := .ite h (.ite h.setLeaf.autoCause h.setLeaf)

theorem leafPortDown {p} (h : s.Canon) : (s.leafPortDown p).Canon := by
  unfold State.leafPortDown
  dsimp only
  split
  · exact h
  · exact .ite h h.setLeaf

theorem leafPortUp {p} (h : s.Canon) : (s.leafPortUp p).Canon := by
  unfold State.leafPortUp
  dsimp only
  split
  · exact h
  · exact h.setLeaf.withdraw

/-! ### Ports -/

theorem modPort {p f} (h : s.Canon) : (s.modPort p f).Canon := h.setPort

theorem setPortState {p st} (h : s.Canon) : (s.setPortState p st).Canon := h.put.modPort

theorem sendLc {p b} (h : s.Canon) : (s.sendLc p b).Canon := h.emit

theorem countRetries {p l} (h : s.Canon) : (s.countRetries p l).Canon := h.modPort.putSat

theorem portFailed {p} (h : s.Canon) : (s.portFailed p).Canon := h.setPortState.logReport.countPort.portPenalty

theorem enterDown {p reason} (h : s.Canon) : (s.enterDown p reason).Canon :=
  .ite h.setPortState.put.modPort.put.countRetries.portFailed h.setPortState.put.modPort.put.countRetries

theorem setMiswire {p on} (h : s.Canon) : (s.setMiswire p on).Canon := by
  unfold State.setMiswire
  split
  · exact h
  · exact .ite h.orBits h.clearBits

theorem loseTx {p} (h : s.Canon) : (s.loseTx p).Canon := by
  unfold State.loseTx
  split
  · exact h.modPort
  · exact h.modPort.countPort.unref

theorem zeroCredit {p} (h : s.Canon) : (s.zeroCredit p).Canon := h.foldl fun _ _ h1 => h1.setVc

theorem dropLink {p reason} (h : s.Canon) : (s.dropLink p reason).Canon := by
  unfold State.dropLink
  exact .setMiswire (.loseTx (.zeroCredit (.ite h h.sendLc)))

theorem linkDowned {p reason} (h : s.Canon) : (s.linkDowned p reason).Canon :=
  .ite h.countPort.refreshPort.markPort.leafPortDown.portPenalty h.countPort.refreshPort.markPort.leafPortDown

theorem leaveUp {p reason} (h : s.Canon) : (s.leaveUp p reason).Canon := .ite h h.dropLink.enterDown.linkDowned

theorem failAttempt {p reason} (h : s.Canon) : (s.failAttempt p reason).Canon := .ite h.enterDown h

theorem cageLost {p} (h : s.Canon) : (s.cageLost p).Canon := by
  unfold State.cageLost
  refine .ite (.put ?a) ?a
  exact h.leaveUp.failAttempt

theorem sampleStep {p vc} (h : s.Canon) : (s.sampleStep p vc).2.Canon := by
  unfold State.sampleStep
  split
  · dsimp only
    exact h.modPort
  · exact h

theorem rxData {f} (h : s.Canon) : (s.rxData f).Canon := h.setVc.sampleStep.setInBuf

theorem rxLive {p} (h : s.Canon) : (s.rxLive p).Canon := .ite h.liveness h

theorem countLane {p mode f} (h : s.Canon) : (s.countLane p mode f).Canon :=
  h.countPort.countPort.countPort.countPort

theorem countFec {p fec} (h : s.Canon) : (s.countFec p fec).Canon := by
  unfold State.countFec
  exact .modPort (h.foldl fun _ _ h1 => h1.countLane)

theorem checkMiswire {p} (h : s.Canon) : (s.checkMiswire p).Canon := by
  unfold State.checkMiswire
  split
  · exact h
  · exact .ite h (.ite h.setMiswire h.modPort.setMiswire.countIn.logReport.portPenalty)

theorem startVcs {p} (h : s.Canon) : (s.startVcs p).Canon := h.foldl fun _ _ h1 => h1.setVc

theorem enterUp {p} (h : s.Canon) : (s.enterUp p).Canon :=
  h.setPortState.modPort.startVcs.recomputeLossy.countPort.leafPortUp.checkMiswire.refreshPort.markPort.foldl
    fun _ _ h1 => h1.rxData

theorem tryUp {p} (h : s.Canon) : (s.tryUp p).Canon := .ite h.enterUp h

theorem rxProto {p b} (h : s.Canon) : (s.rxProto p b).Canon := by
  unfold State.rxProto
  refine .ite (.rxData ?a) (.tryUp (.modPort ?a))
  exact h.countPort.countPort

theorem linkFrameRx {p bytes fec} (h : s.Canon) : (s.linkFrameRx p bytes fec).Canon := by
  unfold State.linkFrameRx
  refine .ite h.emit (.ite h (.ite h.countFec.countPort (.ite h.countFec.countPort (.ite h.countFec
    (.ite (.update ?a) (.rxProto ?a))))))
  exact h.countFec.rxLive

theorem takeLc {p ok r} (h : s.Canon) (e : s.takeLc p ok = some r) : r.2.Canon := by
  unfold State.takeLc at e
  split at e
  · cases e
  · split at e
    · cases e; exact h.update
    · cases e

theorem creditFault {p v} (h : s.Canon) : (s.creditFault p v).Canon := h.book.addSat.put.countPort.portPenalty

theorem endStalls {p v} (h : s.Canon) : (s.endStalls p v).Canon := h.foldl fun _ _ h1 => .ite h1.setQueue h1

theorem applyCredit {p v count} (h : s.Canon) : (s.applyCredit p v count).Canon := by
  refine .markPort (.ite (.endStalls ?a) ?a)
  exact .ite h.setVc.countPort.creditFault h.setVc.countPort

theorem creditRx {p} (h : s.Canon) : (s.creditRx p).Canon := by
  unfold State.creditRx
  split
  · exact h
  · rename_i e
    exact .ite (h.takeLc e).applyCredit (h.takeLc e).modPort.tryUp

theorem census {p v count} (h : s.Canon) : (s.census p v count).Canon :=
  .ite h (.ite h.creditFault h.setVc.book.addSat.countPort)

theorem censusRx {p} (h : s.Canon) : (s.censusRx p).Canon := by
  unfold State.censusRx
  split
  · exact h
  · rename_i e
    exact .ite (h.takeLc e).census (h.takeLc e)

theorem downRx {p} (h : s.Canon) : (s.downRx p).Canon := by
  unfold State.downRx
  split
  · exact h
  · rename_i e
    exact (h.takeLc e).leaveUp

theorem acceptAdvert {p b} (h : s.Canon) : (s.acceptAdvert p b).Canon := h.modPort.puts.associate.sendLc.tryUp

theorem refuseAdvert {p} (h : s.Canon) : (s.refuseAdvert p).Canon := by
  unfold State.refuseAdvert
  refine .ite (.failAttempt (.sendLc ?a)) (.leaveUp ?a)
  exact h.countPort.portPenalty

theorem advertRx {p} (h : s.Canon) : (s.advertRx p).Canon := by
  unfold State.advertRx
  split
  · exact h
  · rename_i e
    split
    · exact .ite (h.takeLc e).acceptAdvert (h.takeLc e).refuseAdvert
    · exact .ite (h.takeLc e).sendLc (.ite (h.takeLc e).leaveUp (h.takeLc e).refuseAdvert)
    · exact (h.takeLc e)

theorem advackRx {p} (h : s.Canon) : (s.advackRx p).Canon := by
  unfold State.advackRx
  dsimp only
  split
  · exact h
  · rename_i e
    exact .ite (h.takeLc e).modPort.tryUp (h.takeLc e)

theorem lcReserved {p} (h : s.Canon) : (s.lcReserved p).Canon := by
  unfold State.lcReserved
  split
  · exact h
  · rename_i e
    exact (h.takeLc e).countPort

theorem creditTx {p v} (h : s.Canon) : (s.creditTx p v).Canon := .ite h h.setVc.sendLc.countPort

theorem censusTx {p v} (h : s.Canon) : (s.censusTx p v).Canon := .ite h h.setVc.sendLc

theorem advertTx {p} (h : s.Canon) : (s.advertTx p).Canon := .ite h h.modPort.sendLc

theorem portEnable {p} (h : s.Canon) : (s.portEnable p).Canon := by
  unfold State.portEnable
  refine .ite (.ite ?a (.put ?a)) h.put
  exact h.put.setPortState.modPort

theorem portDisable {p} (h : s.Canon) : (s.portDisable p).Canon :=
  .ite h.put.dropLink.setPortState.put.countRetries.modPort.put.linkDowned
    (.ite h.put.setPortState.put.countRetries.modPort.put (.ite h.put h.put.setPortState.put.countRetries.modPort))

theorem bringupAttempt {p} (h : s.Canon) : (s.bringupAttempt p).Canon :=
  .ite h (.ite h.setPortState.modPort (.ite h.put.modPort h))

theorem signalAcquired {p eyes} (h : s.Canon) : (s.signalAcquired p eyes).Canon :=
  .ite h (.foldl (.ite h.setPortState h) fun _ _ h1 => h1.puts)

theorem alignAchieved {p skew} (h : s.Canon) : (s.alignAchieved p skew).Canon :=
  .ite h (h.setPortState.foldl fun _ _ h1 => h1.puts)

theorem unlock {l} (h : s.Canon) : (s.unlock l).Canon := h.puts

theorem darken {l} (h : s.Canon) : (s.darken l).Canon := h.puts.unlock

theorem bringupTimeout {p locked} (h : s.Canon) : (s.bringupTimeout p locked).Canon := by
  unfold State.bringupTimeout
  dsimp only
  split
  · exact .ite h.failAttempt h
  · exact .ite h.failAttempt h
  · exact .ite h.failAttempt h
  · exact h

theorem breakHold {p} (h : s.Canon) : (s.breakHold p).Canon := .ite h.modPort h

theorem laneLos {l} (h : s.Canon) : (s.laneLos l).Canon := by
  unfold State.laneLos
  split
  · exact h.darken
  · exact h.darken.breakHold.leaveUp

theorem lockLoss {l} (h : s.Canon) : (s.lockLoss l).Canon := by
  unfold State.lockLoss
  split
  · exact h.unlock
  · exact h.unlock.breakHold.leaveUp

theorem ucwInterval {p idle} (h : s.Canon) : (s.ucwInterval p idle).Canon := by
  refine .ite h (.ite (.leaveUp ?a) ?a)
  exact .ite h.countFec.modPort h.countFec.modPort.portPenalty

theorem retrainExpire {p} (h : s.Canon) : (s.retrainExpire p).Canon := h.countRetries

theorem clearFail {p} (h : s.Canon) : (s.clearFail p).Canon := h.setPortState.countRetries.modPort

theorem judgeTest {p} (h : s.Canon) : (s.judgeTest p).Canon := .ite (.ite h h.setPortState) (.ite h.setPortState h)

theorem setPrbs {l on} (h : s.Canon) : (s.setPrbs l on).Canon := h.update

theorem prbsTick (h : s.Canon) : s.prbsTick.Canon := .ite h (h.freshFree.foldl fun _ _ h1 => h1.addSat)

theorem laneCfg {l w} (h : s.Canon) : (s.laneCfg l w).Canon := by
  unfold State.laneCfg
  dsimp only
  split
  · exact h.setWord.put.setPrbs
  · exact h.setWord.put.setPrbs.judgeTest

theorem queueStall {p q} (h : s.Canon) : (s.queueStall p q).Canon := by
  unfold State.queueStall
  dsimp only
  split
  · exact .ite h (.portPenalty (.logReport (.countCisPort (h.setQueue.foldl
      fun _ _ h1 => h1.countCisPort.leftQueue.unref))))
  · exact h

/-! ### Cages -/

theorem setCage {c v} (h : s.Canon) : (s.setCage c v).Canon := h.update

theorem resetL {c level} (h : s.Canon) : (s.resetL c level).Canon := h.emit

theorem cmisOut {c x} (h : s.Canon) : (s.cmisOut c x).Canon := h.emit.emit

theorem cmis {c write bank page off bytes} (h : s.Canon) : (s.cmis c write bank page off bytes).Canon :=
  h.onPins (fun _ h1 => h1.cmisOut.setCage)

theorem setCageState {c st} (h : s.Canon) : (s.setCageState c st).Canon :=
  .ite (h.put.setCage.foldl fun _ _ h1 => h1.cageLost) h.put.setCage

theorem lpMode {c level} (h : s.Canon) : (s.lpMode c level).Canon := h.emit

theorem cageStart {c} (h : s.Canon) : (s.cageStart c).Canon := h.setCageState.lpMode.resetL.resetL

theorem cageInsert {c} (h : s.Canon) : (s.cageInsert c).Canon := h.put.setCage.countPort

theorem cageDebounce {c} (h : s.Canon) : (s.cageDebounce c).Canon := .ite (.ite h.cageStart h.setCageState.resetL) h

theorem cageRemove {c} (h : s.Canon) : (s.cageRemove c).Canon := h.setCageState.puts.setCage.countPort

theorem stageApps {c l} (h : s.Canon) : (s.stageApps c l).Canon := h.setCage.lpMode.cmis.cmis.cmis.cmis.cmis.cmis

theorem restage {c} (h : s.Canon) : (s.restage c).Canon :=
  .ite h (.ite (.ite h h.setCageState) (.ite h (.ite h.stageApps h.setCageState.stageApps)))

theorem cageFault {c} (h : s.Canon) : (s.cageFault c).Canon :=
  .ite h.setCageState.countPort.logReport.setCage h.setCageState.countPort.logReport.setCage.cageStart

theorem moduleReady {c f} (h : s.Canon) : (s.moduleReady c f).Canon :=
  .ite h (.ite h.cageFault (.ite h.put.setCage.setCageState h.put.setCage.setCageState.stageApps))

theorem cageUp {c} (h : s.Canon) : (s.cageUp c).Canon := h.setCageState.foldl fun _ _ h1 => .ite h1.modPort h1

theorem datapathReady {c} (h : s.Canon) : (s.datapathReady c).Canon := .ite h (.ite h.cageFault h.setCage.cageUp)

theorem cmisTimeout {c acked} (h : s.Canon) : (s.cmisTimeout c acked).Canon :=
  .ite h (.ite (h.setCage.countPort.onPins (fun _ h1 => h1.cmisOut)) h.cageFault)

theorem stageExpire {c ms} (h : s.Canon) : (s.stageExpire c ms).Canon := .ite h.cageFault h

theorem followModule {c r} (h : s.Canon) : (s.followModule c r).Canon :=
  .ite h.setCage.cageFault (.ite h.setCage.setCageState h.setCage)

theorem monitorPoll {c r} (h : s.Canon) : (s.monitorPoll c r).Canon := .ite h h.setCage.cmis.followModule

theorem cageIntl {c cleared r} (h : s.Canon) : (s.cageIntl c cleared r).Canon := .ite h.put.cmis.followModule h.put

theorem cageEn {c en} (h : s.Canon) : (s.cageEn c en).Canon :=
  .ite (.resetL (.ite h.put.setCageState h.put)) (.ite (.ite h.put.setCage.cageStart h.put.setCage.resetL) h.put)

theorem cageAccEnd {c code} (h : s.Canon) : (s.cageAccEnd c code).Canon := h.raise.puts

theorem cageAcc {agent c w} (h : s.Canon) : (s.cageAcc agent c w).Canon := by
  unfold State.cageAcc
  dsimp only
  split
  · exact h.setCage.put.cmis
  · exact h.reject.cageAccEnd

theorem cageAccDone {c ack data} (h : s.Canon) : (s.cageAccDone c ack data).Canon := by
  unfold State.cageAccDone
  dsimp only
  split
  · exact h
  · refine .ite (.ite (.cageFault ?a) ?a) (.cageAccEnd (.setCage (.ite h.setCage.put (h.setCage.put.foldl
      fun _ _ h1 => h1.setByte))))
    exact h.setCage.put.cageAccEnd

/-! ### Ptp -/

theorem takeTime {k f} (h : s.Canon) (hf : ∀ x t, t.Canon → (f x t).Canon) : (s.takeTime k f).Canon := by
  unfold State.takeTime
  dsimp only
  split
  · exact h
  · exact .ite (hf _ _ h.update.consume) h

theorem originate {r} (h : s.Canon) : (s.originate r).Canon := .ite h.update h

theorem sendTime {p msg k} (h : s.Canon) : (s.sendTime p msg k).Canon := h.originate

theorem originGrant {launch} (h : s.Canon) : (s.originGrant launch).Canon := by
  unfold State.originGrant
  dsimp only
  split
  · exact h
  · refine .ite h.update (.ite (.ite h h.update.countCis) ?_)
    split
    · exact .ite h h.update.countCis
    · rename_i e
      split
      · exact (h.update.newPkt e).offerOne
      · split
        · exact (h.update.newPkt e).route.countFwd.releasePkt
        · exact (h.update.newPkt e).route.dispatch

theorem syncRx (h : s.Canon) : s.syncRx.Canon := h.takeTime (fun _ _ h1 => h1.update.countBoth)

theorem followUpRx (h : s.Canon) : s.followUpRx.Canon := h.takeTime (fun _ _ h1 => .ite h1.update h1)

theorem delayRespRx (h : s.Canon) : s.delayRespRx.Canon :=
  h.takeTime (fun _ _ h1 => .ite h1.countAt (.ite h1.update h1.update.put.sampleArrives))

theorem announceRx (h : s.Canon) : s.announceRx.Canon := h.takeTime (fun _ _ h1 => h1.update)

theorem timeUnsup (h : s.Canon) : s.timeUnsup.Canon := h.takeTime (fun _ _ h1 => h1.countBoth)

theorem delayReqTx (h : s.Canon) : s.delayReqTx.Canon := by
  unfold State.delayReqTx
  dsimp only
  split
  · exact h
  · exact .ite h h.update.sendTime

theorem delayReqRx (h : s.Canon) : s.delayReqRx.Canon := h.takeTime (fun _ _ h1 => h1.countBoth.sendTime)

theorem syncTx {p} (h : s.Canon) : (s.syncTx p).Canon := .ite h.update.sendTime h

theorem announceTx {p} (h : s.Canon) : (s.announceTx p).Canon := .ite h.update.sendTime h

/-! ### Sluice -/

theorem freezeArb {i on} (h : s.Canon) : (s.freezeArb i on).Canon := h.put.arbFreeze

theorem freezeBlock {x} (h : s.Canon) : (s.freezeBlock x).Canon := by
  unfold State.freezeBlock
  split
  · exact h.refreshPort.failAttempt
  · exact h.foldl fun _ _ h1 => h1.closeCtx
  · exact h.foldl fun _ _ h1 => h1.freezeArb
  · exact h

theorem sluiceFrozen {page} (h : s.Canon) : (s.sluiceFrozen page).Canon := h.update.puts

theorem sluiceFreeze {page} (h : s.Canon) : (s.sluiceFreeze page).Canon := by
  unfold State.sluiceFreeze
  dsimp only
  split
  · exact h
  · exact .freezeBlock (.countMgmt (.update h.puts))

theorem sluiceDrained {page} (h : s.Canon) : (s.sluiceDrained page).Canon := by
  unfold State.sluiceDrained
  dsimp only
  split
  · exact h
  · refine .ite h (.ite ?a (.istat (.sluiceFrozen ?a)))
    split
    · exact h.leaveUp
    · exact .ite h h.holdUnlit
    · exact h

theorem dropQueues {p} (h : s.Canon) : (s.dropQueues p).Canon :=
  h.foldl fun _ _ h1 => .markQueue (h1.setQueue.countMgmt.foldl fun _ _ h2 => h2.leftQueue.unref)

theorem stopCore {b k} (h : s.Canon) : (s.stopCore b k).Canon := h.freeArray.dropDescs.setCore

theorem dropCtxSpills {b c} (h : s.Canon) : (s.dropCtxSpills b c).Canon := h.foldl fun _ _ h1 => h1.setIndex

theorem dropSpills {b} (h : s.Canon) : (s.dropSpills b).Canon := h.foldl fun _ _ h1 => h1.dropCtxSpills

theorem flushBlock {x} (h : s.Canon) : (s.flushBlock x).Canon := by
  unfold State.flushBlock
  dsimp only
  split
  · exact h.dropQueues.leaveUp
  · exact .dropSpills (.setArray (h.foldl fun _ _ h1 => h1.stopCore))
  · exact h.foldl fun _ _ h1 => h1.arbEnd
  · exact h

theorem sluiceTimeout {page} (h : s.Canon) : (s.sluiceTimeout page).Canon := by
  unfold State.sluiceTimeout
  dsimp only
  split
  · exact h
  · exact .ite h h.flushBlock.sluiceFrozen.istat.logReport.countMgmt

theorem clearStaging {b} (h : s.Canon) : (s.clearStaging b).Canon :=
  .foldl (.update h.setPath) fun _ _ h1 => h1.unref

theorem basinReset {b} (h : s.Canon) : (s.basinReset b).Canon :=
  .dropSpills (.clearStaging (h.foldl fun _ _ h1 => h1.stopCore))

theorem sluiceUnfreeze {page} (h : s.Canon) : (s.sluiceUnfreeze page).Canon := by
  unfold State.sluiceUnfreeze
  dsimp only
  split
  · exact .refreshPort (.ite h.puts.modPort h.puts)
  · exact h.puts.basinReset
  · exact h.puts.foldl fun _ _ h1 => h1.freezeArb
  · exact h.puts

theorem freezeWrite {page freeze} (h : s.Canon) : (s.freezeWrite page freeze).Canon :=
  .ite h (.ite h.sluiceFreeze h.sluiceUnfreeze)

/-! ### Mailbox -/

theorem svcTook {src} (h : s.Canon) : (s.svcTook src).Canon := h.update

theorem mbAnswer {m code body} (h : s.Canon) : (s.mbAnswer m code body).Canon :=
  h.setBarBytes.raise.puts.orBits.countMgmt

theorem fabAnswer {r code body} (h : s.Canon) : (s.fabAnswer r code body).Canon :=
  h.update.consume.originate.countMgmt

theorem svcAnswer {src r code body} (h : s.Canon) : (s.svcAnswer src r code body).Canon := by
  unfold State.svcAnswer
  split
  · exact h.mbAnswer
  · exact h.fabAnswer

theorem serve {src svc f} (h : s.Canon) (hf : ∀ x, (f x).Canon) : (s.serve src svc f).Canon := by
  unfold State.serve
  split
  · exact h
  · exact .ite (.svcTook (hf _)) h

theorem fabricRequest (h : s.Canon) : s.fabricRequest.Canon := by
  unfold State.fabricRequest
  dsimp only
  split
  · exact h
  · exact .ite h.update h.update.consume.countMgmt

theorem svcUnknown {src} (h : s.Canon) : (s.svcUnknown src).Canon := by
  unfold State.svcUnknown
  dsimp only
  split
  · exact h
  · exact .ite h h.svcAnswer.svcTook

/-! ### Power -/

theorem reclock {b} (h : s.Canon) : (s.reclock b).Canon := .ite (.rampFrom (.update h.puts)) (.update h.puts)

theorem clkChange {b} (h : s.Canon) : (s.clkChange b).Canon := .ite (.rampFrom (.update h.put.countBasin)) h

theorem settleClock {b} (h : s.Canon) : (s.settleClock b).Canon := .update h.reclock.put

theorem thermLog {bit} (h : s.Canon) : (s.thermLog bit).Canon := h.istat.logState

theorem droopTrip {i} (h : s.Canon) : (s.droopTrip i).Canon := h.update

theorem stretchEnd {i} (h : s.Canon) : (s.stretchEnd i).Canon :=
  .ite h (.ite h.update.countLog.istat.logReport h.update.countLog)

theorem sense {i v} (h : s.Canon) : (s.sense i v).Canon := .update h.put.puti

theorem basinHold {b} (h : s.Canon) : (s.basinHold b).Canon :=
  .ite h (.ite (.logReport (.countLog (.update h.put))) (.update h.put))

theorem dieLimit {d} (h : s.Canon) : (s.dieLimit d).Canon := .ite h.update.thermLog (.ite h.update.istat h.update)

theorem stackLimit {j} (h : s.Canon) : (s.stackLimit j).Canon := by
  refine .ite (.istat ?a) ?a
  exact .ite h.update.puti.countLog h.update.puti

theorem picLimit (h : s.Canon) : s.picLimit.Canon := .ite h.update.thermLog (.ite h.update.istat h.update)

theorem sensorSample {l} (h : s.Canon) : (s.sensorSample l).Canon := by
  refine .ite h (.update (.picLimit ?_))
  refine .foldl ?_ fun _ _ h1 => h1.stackLimit
  refine .foldl ?_ fun _ _ h1 => h1.dieLimit
  exact .foldl (h.update.foldl fun _ _ h1 => h1.sense) fun _ _ h1 => h1.basinHold

theorem coolStep {b t} (h : s.Canon) : (s.coolStep b t).Canon := .ite h.update (.ite h.update.put.reclock h.update)

theorem thermEvalOne {b} (h : s.Canon) : (s.thermEvalOne b).Canon := by
  unfold State.thermEvalOne
  refine .ite (.istat (.countLog (.reclock (.update h.put)))) (.ite (.ite (.istat (.countLog ?a)) ?a) h.coolStep)
  exact .reclock (.update h.put)

theorem thermEval (h : s.Canon) : s.thermEval.Canon := .ite (h.update.foldl fun _ _ h1 => h1.thermEvalOne) h

theorem powerRead {d v} (h : s.Canon) : (s.powerRead d v).Canon := .update h.puts

theorem domainUpdate {l} (h : s.Canon) : (s.domainUpdate l).Canon :=
  .ite h (.putSat (h.update.foldl fun _ _ h1 => h1.powerRead))

theorem setPowerLimit {pl} (h : s.Canon) : (s.setPowerLimit pl).Canon := h.foldl fun _ _ h1 => h1.put.reclock

theorem capStamps (h : s.Canon) : s.capStamps.Canon := h.update

theorem capEval (h : s.Canon) : s.capEval.Canon := by
  refine .ite h (.ite (.setPowerLimit ?a) ?a)
  exact .capStamps (.ite h.setPowerLimit.countLog h)

theorem capFail (h : s.Canon) : s.capFail.Canon := .ite (.update h.thermLog) h

theorem appendRecord {r} (h : s.Canon) : (s.appendRecord r).Canon := h.nvmAppend.put

theorem loseIslands (h : s.Canon) : s.loseIslands.Canon :=
  ⟨SMap.wf_filter _ _ h.bar, rfl, h.nvm, h.flash⟩

theorem thermalTrip {i v flag} (h : s.Canon) : (s.thermalTrip i v flag).Canon :=
  .ite h (.emit (.emit (.update h.sense.put.appendRecord.loseIslands)))

theorem annealStart {kind apply mb} (h : s.Canon) : (s.annealStart kind apply mb).Canon := .update h.put

theorem annealScheduled (h : s.Canon) : s.annealScheduled.Canon := .ite h (.update h.annealStart)

theorem planFoldl {α : Type} {f : Plan → α → Plan} {l : List α} {p : Plan} (hp : p.st.Canon)
    (hf : ∀ q x, q.st.Canon → (f q x).st.Canon) : (l.foldl f p).st.Canon :=
  List.foldlRecOn (motive := fun q : Plan => q.st.Canon) l f hp fun q hq x _ => hf q x hq

theorem planFlag {p : Plan} {flag bit} (hp : p.st.Canon) : (p.flag flag bit).st.Canon := hp.istat

theorem planBasin {p : Plan} {apply b slack} (hp : p.st.Canon) : (p.basin apply b slack).st.Canon := by
  unfold Plan.basin
  dsimp only
  split
  · exact hp
  · split
    · exact hp
    · split
      · split
        · exact hp.put.rampFrom
        · exact hp
      · split
        · exact planFlag (.logState (.ite hp.put.put.reclock hp))
        · exact planFlag hp.logState

theorem pmbusFault {d} (h : s.Canon) : (s.pmbusFault d).Canon := h.raise.puts.logState

theorem setpoint {d g ack} (h : s.Canon) : (s.setpoint d g ack).Canon :=
  h.onPins (fun _ h1 => h1.foldl fun _ _ h2 => h2.emit)

theorem planDomain {p : Plan} {apply d slack noAck} (hp : p.st.Canon) :
    (p.domain apply d slack noAck).st.Canon := by
  unfold Plan.domain
  dsimp only
  split
  · exact hp
  · split
    · split
      · exact hp
      · split
        · exact hp.setpoint.pmbusFault
        · exact hp.setpoint.put
    · exact planFlag hp.logState

theorem planLane {p : Plan} {apply l} (hp : p.st.Canon) : (p.lane apply l).st.Canon := by
  unfold Plan.lane
  dsimp only
  split
  · exact hp
  · exact planFlag (.ite (hp.updateNvm rfl rfl) hp)

theorem planScan {p : Plan} {c m} (hp : p.st.Canon) : (p.scan c m).st.Canon := by
  unfold Plan.scan
  dsimp only
  split
  · exact planFlag hp.marginStart.marginDone
  · exact hp.marginStart.marginDone

theorem planPlanes (h : s.Canon) : s.planPlanes.Canon := h.updateNvm rfl rfl

theorem annealPlan {apply f} (h : s.Canon) : (s.annealPlan apply f).st.Canon := by
  unfold State.annealPlan
  extract_lets p0 p1 p2 p3
  have h0 : p0.st.Canon := planFoldl h fun _ _ hp => planScan hp
  have h1 : p1.st.Canon := by
    refine planFoldl h0 fun _ _ hp => ?_
    split
    · exact planBasin hp
    · split <;> exact hp
  have h2 : p2.st.Canon := planFoldl h1 fun _ _ hp => planDomain hp
  have h3 : p3.st.Canon := planFoldl h2 fun _ _ hp => planLane hp
  exact .ite h3.planPlanes.freshFree h3

theorem annealEnd {r f} (h : s.Canon) : (s.annealEnd r f).Canon := by
  unfold State.annealEnd
  dsimp only
  split
  · exact .mbAnswer (.update h.annealPlan.appendRecord.put.istat.countLog)
  · exact .update h.annealPlan.appendRecord.put.istat.countLog

theorem annealDone {f} (h : s.Canon) : (s.annealDone f).Canon := by
  unfold State.annealDone
  split
  · exact .ite h h.annealEnd
  · exact h

theorem annealRun {m} (h : s.Canon) : (s.annealRun m).Canon :=
  h.serve (fun _ => .ite h.mbAnswer (.ite h.mbAnswer h.annealStart))

theorem annealRead {m} (h : s.Canon) : (s.annealRead m).Canon := h.serve (fun _ => .ite h.mbAnswer h.mbAnswer)

theorem pmAlert (h : s.Canon) : s.pmAlert.Canon := h.logState

/-! ### Boot -/

theorem resetEntry {last stage} (h : s.Canon) : (s.resetEntry last stage).Canon := .ite h.update.logLost h.update

theorem mapSources {f} (h : s.Canon) : (s.mapSources f).Canon := h.updateMem rfl rfl

theorem keepPins {old} (h : s.Canon) : (State.keepPins old s).Canon :=
  h.put.foldl fun _ _ h1 => .ite h1.put.setCage h1

theorem dropToken {old} (h : s.Canon) : (State.dropToken old s).Canon := .ite h h.emit

theorem coldReset (h : s.Canon) : s.coldReset.Canon := by
  refine .ite (.emit (.resetEntry (.dropToken (.keepPins ?a)))) (.resetEntry (.dropToken (.keepPins ?a)))
  exact ⟨rfl, rfl, h.nvm, h.flash⟩

theorem warmClear (h : s.Canon) : s.warmClear.Canon := by
  refine .resetEntry (.dropToken (.keepPins (.put (.put ?_))))
  exact ⟨SMap.wf_filter _ _ h.bar, rfl, h.nvm, h.flash⟩

theorem warmReset (h : s.Canon) : s.warmReset.Canon := .ite h.logState (.update h.warmClear)

theorem brownout (h : s.Canon) : s.brownout.Canon := .update h.warmClear

theorem brownoutRecovery (h : s.Canon) : s.brownoutRecovery.Canon := .ite h.update.raise h

theorem dataFailSlot {i} (h : s.Canon) : (s.dataFailSlot i).Canon := .ite h.setSlot.puts.orBits h

theorem dataGlass {s0} (h : s.Canon) : (State.dataGlass s0 s).Canon := h.put

theorem dataArray {s0 b} (h : s.Canon) : (State.dataArray s0 s b).Canon := h.put

theorem dataReset (h : s.Canon) : s.dataReset.Canon := by
  refine .resetEntry (.countRecs (.judgeBudget (.foldl (.puts (.dataGlass (.foldl (.keepPins ?_) ?_))) ?_)))
  · have h0 : (((List.range 16).foldl State.dataFailSlot s).mapSources MemSrc.lost).Canon :=
      .mapSources (h.foldl fun _ _ h1 => h1.dataFailSlot)
    exact ⟨SMap.wf_filter _ _ h0.bar, h0.mem, h0.nvm, h0.flash⟩
  · exact fun _ _ h1 => h1.dataArray
  · exact fun _ _ h1 => h1.settleClock

theorem spcMailbox {m} (h : s.Canon) : (s.spcMailbox m).Canon := .ite h.raise.puts.orBits h.setWord

theorem spcReset (h : s.Canon) : s.spcReset.Canon := by
  refine .resetEntry (.puts (.foldl (.foldl ?_ fun _ _ h1 => h1.consume) fun _ _ h1 => h1.spcMailbox))
  exact ⟨SMap.wf_filter _ _ h.bar, h.mem, h.nvm, h.flash⟩

theorem clearEndpoint (h : s.Canon) : s.clearEndpoint.Canon :=
  .mapSources ⟨SMap.wf_filter _ _ h.bar, h.mem, h.nvm, h.flash⟩

theorem flr (h : s.Canon) : s.flr.Canon := h.clearEndpoint

theorem perst (h : s.Canon) : s.perst.Canon := h.clearEndpoint.puts

theorem pcieCfg {c} (h : s.Canon) : (s.pcieCfg c).Canon := .ite (h.update.foldl fun _ _ h1 => h1.unmask) h.update

theorem pcieLink {width gen} (h : s.Canon) : (s.pcieLink width gen).Canon := .ite h.puts h.puts

theorem flashPut {a bs} (h : s.Canon) : (s.flashPut a bs).Canon := ⟨h.bar, h.mem, h.nvm, s.flashPut_wf a bs h.flash⟩

theorem flashStart {op len} (h : s.Canon) : (s.flashStart op len).Canon := .puts (h.updateNvm rfl rfl)

theorem flashAct {op a n} (h : s.Canon) : (s.flashAct op a n).Canon := by
  unfold State.flashAct
  dsimp only
  split
  · exact h.emit.setBarBytes
  · exact h.emit.flashPut
  · exact h.emit.flashPut

theorem flashDone {answered} (h : s.Canon) : (s.flashDone answered).Canon := by
  unfold State.flashDone
  dsimp only
  split
  · exact h
  · refine .puts (.raise (.ite (.flashAct ?a) ?a))
    exact h.updateNvm rfl rfl

/-! ### Access -/

theorem holdWord {a w} (h : s.Canon) : (s.holdWord a w).Canon := by
  unfold State.holdWord
  dsimp only
  split
  · exact h.update
  · exact .ite h.update h.setWord

theorem mergeAt {a v be} (h : s.Canon) : (s.mergeAt a v be).Canon := h.holdWord

/-! ### Slots -/

theorem withWords {l} (h : s.Canon) : (s.withWords l).Canon := h.foldl fun _ _ h1 => h1.mergeAt

theorem claimSlot {agent i part} (h : s.Canon) : (s.claimSlot agent i part).Canon := h.puts

theorem validateSlot {i} (h : s.Canon) : (s.validateSlot i).Canon := h.update.puts

theorem commitSlot {i mode} (h : s.Canon) : (s.commitSlot i mode).Canon := by
  unfold State.commitSlot
  refine .ite h.update.setSlot.put (.ite (.countAt ?a) ?a)
  exact h.update.setSlot.put.put

theorem freeUnits {i} (h : s.Canon) : (s.freeUnits i).Canon := h.setSlot

theorem dropPlaced {i} (h : s.Canon) : (s.dropPlaced i).Canon := by
  unfold State.dropPlaced
  refine .foldl h fun _ _ h1 => ?_
  split
  · exact h1.epRemove
  · exact h1

theorem freeSlot {i} (h : s.Canon) : (s.freeSlot i).Canon := h.freeUnits.puts

theorem releaseSlot {i} (h : s.Canon) : (s.releaseSlot i).Canon :=
  .ite h.setSlot (.ite h.dropPlaced.freeSlot h.freeSlot)

theorem txctlAct {agent i w} (h : s.Canon) : (s.txctlAct agent i w).Canon := by
  unfold State.txctlAct
  refine .ite h ?_
  split
  · exact h.claimSlot
  · exact h.validateSlot
  · exact h.commitSlot
  · exact h.releaseSlot

theorem endSlot {i st} (h : s.Canon) : (s.endSlot i st).Canon :=
  .ite h.freeUnits.put.orBits.freeSlot h.freeUnits.put.orBits

theorem failSlot {i code ix ev} (h : s.Canon) : (s.failSlot i code ix ev).Canon :=
  h.dropPlaced.puts.countMgmt.logReport.endSlot

/-! ### Observation -/

theorem snapTake {late} (h : s.Canon) : (s.snapTake late).Canon := h.update.put

theorem snapClose (h : s.Canon) : s.snapClose.Canon := by
  unfold State.snapClose
  dsimp only
  split
  · exact h
  · exact h.update

theorem selClose (h : s.Canon) : s.selClose.Canon := h.update

theorem setClose (h : s.Canon) : s.setClose.Canon := h.updateMem rfl rfl

theorem snapTrigger {late} (h : s.Canon) : (s.snapTrigger late).Canon := .ite h.istat.countLog h.snapTake

theorem snapGo (h : s.Canon) : s.snapGo.Canon := .ite h.snapTrigger h.update.put

theorem snapStop (h : s.Canon) : s.snapStop.Canon := h.put

theorem snapDue (h : s.Canon) : s.snapDue.Canon := .ite h (.ite h.snapTrigger.put (.update h.snapTrigger))

theorem snapCopyDone {ok} (h : s.Canon) : (s.snapCopyDone ok).Canon := by
  unfold State.snapCopyDone
  dsimp only
  split
  · exact h
  · exact .ite (.countLog (.istat (.emit (.put (.update h.update.put))))) h.update.put.put.istat.logReport

theorem sampleWrite {pipe} (h : s.Canon) : (s.sampleWrite pipe).Canon := by
  unfold State.sampleWrite
  refine .ite h ?_
  dsimp only
  split
  · exact h
  · exact h.update.put.countPort

theorem setLogHeld {n} (h : s.Canon) : (s.setLogHeld n).Canon := h.update.put

theorem logPut {r} (h : s.Canon) : (s.logPut r).Canon :=
  .countLog (.ite h.update.puts.setLogHeld.put h.update.puts.setLogHeld)

theorem logClear (h : s.Canon) : s.logClear.Canon := h.update.puts

theorem logWrite (h : s.Canon) : s.logWrite.Canon := by
  unfold State.logWrite
  dsimp only
  split
  · exact h
  · exact .ite h (.ite h.update.logLost (.ite h.update.logPut.logClear h.update.logPut))

theorem logMode {was} (h : s.Canon) : (s.logMode was).Canon := .ite h.puts (.ite h.put h)

theorem logRptr {old} (h : s.Canon) : (s.logRptr old).Canon := .ite h.update.put h

/-! ### Effects -/

theorem portReset {p} (h : s.Canon) : (s.portReset p).Canon :=
  .associate (.update (h.foldl fun _ _ h1 => h1.setWord))

theorem membersDown {g ds} (h : s.Canon) : (s.membersDown g ds).Canon :=
  .foldl (h.foldl fun _ _ h1 => h1.clearBits) fun _ _ h1 => h1.leaveQueues

theorem groupLeave {t g} (h : s.Canon) : (s.groupLeave t g).Canon := h.membersDown

theorem memberJoin {g i} (h : s.Canon) : (s.memberJoin g i).Canon := .ite h.clearBits.checkMiswire h.clearBits

theorem groupJoin {s0 g} (h : s.Canon) : (s.groupJoin s0 g).Canon :=
  .foldl (.foldl (.ite h.update h) fun _ _ h1 => h1.memberJoin) fun _ _ h1 => h1.refreshMember

theorem enWritten {s0 l} (h : s.Canon) : (State.enWritten s0 s l).Canon := .ite h (.ite h.portEnable h.portDisable)

theorem laneAct {s0 agent l o w} (h : s.Canon) : (State.laneAct s0 s agent l o w).Canon := by
  unfold State.laneAct
  dsimp only
  split
  · exact h.enWritten
  · refine .ite (.clearFail ?a) ?a
    exact .ite h.leaveUp h
  · exact h.laneCfg
  · exact h.put.cageEn
  · exact .ite h.cageAcc h
  · exact h

theorem epochAct {w} (h : s.Canon) : (s.epochAct w).Canon := by
  refine .ite (.epochFlip ?a) ?a
  exact .ite (.epochCopy (.ite h.epochFreeNow h)) (.ite h.epochFreeNow h)

theorem basinAct {b o w} (h : s.Canon) : (s.basinAct b o w).Canon := by
  unfold State.basinAct
  dsimp only
  split
  · exact h.reclock
  · refine .ite (.retireArray ?a) ?a
    exact .ite h.arrayTest h
  · exact h

theorem memcfgAct {o w} (h : s.Canon) : (s.memcfgAct o w).Canon := by
  unfold State.memcfgAct
  refine .ite h ?_
  split
  · exact h.mapreq
  · exact h.triggerRemap
  · exact h.marginStart
  · exact h

theorem glassAct {o w} (h : s.Canon) : (s.glassAct o w).Canon := by
  unfold State.glassAct
  split
  · exact .ite h.armSwitch h
  · exact h.migWrite
  · exact .ite h.beginSearch h
  · exact h

theorem rearm {v} (h : s.Canon) : (s.rearm v).Canon := .ite h.signal h

theorem mailboxGo {agent m} (h : s.Canon) : (s.mailboxGo agent m).Canon := h.update.puts

theorem logAct {s0 o w} (h : s.Canon) : (State.logAct s0 s o w).Canon := by
  unfold State.logAct
  split
  · exact h.logMode
  · exact .ite h.logClear h
  · exact h.logRptr
  · exact h

theorem snapAct {w} (h : s.Canon) : (s.snapAct w).Canon := by
  unfold State.snapAct
  refine .ite (.snapStop ?a) ?a
  exact .ite h.snapGo h

theorem systemAct {s0 agent p o w} (h : s.Canon) : (State.systemAct s0 s agent p o w).Canon := by
  unfold State.systemAct
  split
  · exact .ite h.rearm h
  · exact .ite h.txctlAct h
  · exact .ite h.mailboxGo h
  · exact .ite h.judgeBudget h
  · exact .ite h.unmask h
  · exact h.logAct
  · exact .ite h.culletAppend h
  · exact .ite h.flashStart h
  · exact .ite h.snapAct h
  · exact h

theorem evselAct {s0 p n} (h : s.Canon) : (State.evselAct s0 s p n).Canon := h.update

theorem resetWrite {w} (h : s.Canon) : (s.resetWrite w).Canon := by
  unfold State.resetWrite
  split
  · exact h.spcReset
  · exact h.dataReset
  · exact h.warmReset

theorem pageAct {s0 agent a w} (h : s.Canon) : (State.pageAct s0 s agent a w).Canon := by
  unfold State.pageAct
  refine .ite h.setWord.freezeWrite (.ite h.evselAct (.ite h (.ite h.laneAct (.ite (.ite h.epochAct h)
    (.ite (.ite h.flush h) (.ite h.basinAct (.ite h.memcfgAct (.ite ?_ (.ite h.timeAct (.ite h.systemAct h))))))))))
  split
  · exact h.glassTouched
  · exact h.glassAct

theorem winAct {s0 agent a w} (h : s.Canon) : (State.winAct s0 s agent a w).Canon := by
  unfold State.winAct
  refine .ite (.ite h.klLoad h.klUnload) (.ite h.arbFreeze (.ite h.keepCfg (.ite ?_ (.ite h.update h))))
  split
  · exact h.glassTouched
  · exact h

theorem act {s0 agent a w} (h : s.Canon) : (State.act s0 s agent a w).Canon := .ite h.pageAct h.winAct

/-! ### Bus -/

theorem busAperture {agent a v be} (h : s.Canon) : (s.busAperture agent a v be).2.Canon := by
  unfold State.busAperture
  dsimp only
  split
  · exact h.reject
  · exact h.foldl fun _ _ h1 => h1.apWrite

theorem busReject {agent a v be code} (h : s.Canon) : (s.busReject agent a v be code).Canon :=
  .ite h.reject.countMgmt h.reject

theorem busAccept {agent a v be} (h : s.Canon) : (s.busAccept agent a v be).Canon :=
  .ite h.mergeAt.act.resetWrite h.mergeAt.act

theorem busWrite {agent a v be} (h : s.Canon) : (s.busWrite agent a v be).2.Canon := by
  unfold State.busWrite
  dsimp only
  split
  · exact h.busAperture
  · split
    · exact h.busAccept
    · exact h.busReject

theorem hostWrite {agent a v} (h : s.Canon) : (s.hostWrite agent a v).Canon := h.busWrite

/-! ### Txn -/

theorem takeUnits {sl us} (h : s.Canon) : (s.takeUnits sl us).Canon := h.setSlot

theorem epSetPlace {sl i} (h : s.Canon) : (s.epSetPlace sl i).2.Canon := by
  unfold State.epSetPlace
  dsimp only
  split
  · exact h.setSlot
  · split
    · exact h
    · rename_i e
      exact (h.epInsert e).setSlot

theorem validateRec {t ws sl i} (h : s.Canon) : (s.validateRec t ws sl i).2.Canon := by
  unfold State.validateRec
  dsimp only
  split
  · exact h
  · split
    · split
      · exact h
      · exact h.epSetPlace
    · split
      · exact h
      · exact h.takeUnits

theorem validateRecs {o ws sl l} (h : s.Canon) : (State.validateRecs o ws sl l s).2.2.Canon := by
  induction l generalizing s with
  | nil => exact h
  | cons i l ih =>
    unfold State.validateRecs
    split
    · rename_i e
      have h1 := h.validateRec (t := o) (ws := ws) (sl := sl) (i := i)
      rw [e] at h1
      exact ih h1
    · rename_i e
      have h1 := h.validateRec (t := o) (ws := ws) (sl := sl) (i := i)
      rw [e] at h1
      exact h1

theorem countLocked {code} (h : s.Canon) : (s.countLocked code).Canon := .ite h.countMgmt h

theorem validateSome {sl} (h : s.Canon) : (s.validateSome sl).Canon := by
  unfold State.validateSome
  dsimp only
  split
  · rename_i e
    exact .ite (h.validateRecs.snd2 e).setSlot.put.countMgmt (h.validateRecs.snd2 e).setSlot
  · rename_i e
    exact (h.validateRecs.snd2 e).countLocked.failSlot

theorem validateTurn (h : s.Canon) : s.validateTurn.Canon := by
  unfold State.validateTurn
  dsimp only
  split
  · exact h
  · exact h.update.validateSome

theorem validateUntil {sl n} (h : s.Canon) : (State.validateUntil sl n s).Canon := by
  induction n generalizing s with
  | zero => exact h
  | succ n ih => exact .ite h (ih h.validateTurn)

theorem validateDone {sl} (h : s.Canon) : (s.validateDone sl).Canon := h.validateUntil

theorem validateTick (h : s.Canon) : s.validateTick.Canon := .ite h.validateTurn h

theorem epSetCommit {sl i} (h : s.Canon) : (s.epSetCommit sl i).Canon := by
  unfold State.epSetCommit
  dsimp only
  split
  · exact h.setEpResult.put.put
  · exact h.getD fun _ e => h.epInsert e

theorem applyWords {sl ws} (h : s.Canon) : (s.applyWords sl ws).Canon := by
  refine .foldl (.ite (.recomputeLossy ?a) ?a) fun _ _ h1 => h1.runEntry
  refine .foldl ?_ fun _ _ h1 => h1.groupJoin
  refine .foldl ?_ fun _ _ h1 => h1.restage
  refine .foldl ?_ fun _ _ h1 => h1.act
  refine .foldl ?_ fun _ _ h1 => h1.judgeTest
  refine .foldl ?_ fun _ _ h1 => h1.epSetCommit
  exact .withWords (.foldl (h.foldl fun _ _ h1 => h1.portReset) fun _ _ h1 => h1.groupLeave)

theorem applySlot {sl} (h : s.Canon) : (s.applySlot sl).Canon :=
  .ite h.applyWords.countMgmt.endSlot.resetWrite h.applyWords.countMgmt.endSlot

theorem fireOne {sl} (h : s.Canon) : (s.fireOne sl).Canon := by
  unfold State.fireOne
  split
  · exact h.applySlot
  · exact h.failSlot

theorem fire {sl} (h : s.Canon) : (s.fire sl).Canon := by
  unfold State.fire
  refine .ite h.fireOne ?_
  split
  · exact .applySlot (h.foldl fun _ _ h1 => h1.fireOne)
  · exact h.failSlot

theorem applyNow {sl} (h : s.Canon) : (s.applyNow sl).Canon := .ite h.setSlot.fire h

theorem fireTime {sl} (h : s.Canon) : (s.fireTime sl).Canon := .ite h.countAt.logReport.fire h.fire

theorem timeFire (h : s.Canon) : s.timeFire.Canon := h.foldl fun _ _ h1 => h1.fireTime

theorem releasesClose (h : s.Canon) : s.releasesClose.Canon :=
  .foldl (h.foldl fun _ _ h1 => h1.fireTime) fun _ _ h1 => h1.dropPlaced.freeSlot

/-! ### Startup -/

theorem enterRom {stage} (h : s.Canon) : (s.enterRom stage).Canon := .update h.puts.istat

theorem bootLane {spc} (h : s.Canon) : (s.bootLane spc).Canon := by
  unfold State.bootLane
  dsimp only
  split <;> exact h.puts

theorem workingCopies (h : s.Canon) : s.workingCopies.Canon := h.updateNvm rfl rfl

theorem loadAllow {b seq} (h : s.Canon) : (s.loadAllow b seq).Canon := .ite h.setBarBytes.put h.put

theorem loadSettings (h : s.Canon) : s.loadSettings.Canon := by
  unfold State.loadSettings
  split
  · exact h.puts.workingCopies
  · exact h.puts.loadAllow.workingCopies

theorem useHalf {a q} (h : s.Canon) :
    ({ s with nvm := { s.nvm with remapHalf := a, remapSeq := q } } : State).Canon :=
  h.updateNvm rfl rfl

theorem chooseHalf (h : s.Canon) : s.chooseHalf.Canon := by
  unfold State.chooseHalf
  extract_lets
  split
  · exact .ite (.put h.useHalf) (.put h.useHalf)
  · exact .put h.useHalf
  · exact .put h.useHalf
  · exact .put (.useHalf h.nvmPut)

theorem replayRow {v} (h : s.Canon) : (s.replayRow v).Canon := .puts (h.foldl fun _ _ h1 => .ite h1.puts h1)

theorem mapBankOut {c i d} (h : s.Canon) : (s.mapBankOut c i d).Canon := h.setByte.setByte.put.put

theorem replay {b} (h : s.Canon) : (s.replay b).Canon := by
  unfold State.replay
  split
  · exact h.replayRow
  · exact h.mapBankOut
  · exact h.put
  · exact h

theorem applyCullet {p} (h : s.Canon) : (s.applyCullet p).Canon := by
  unfold State.applyCullet
  dsimp only
  split
  · exact h.orBits
  · split
    · exact h.mapBankOut
    · exact h.put
  · exact h.put
  · exact h

theorem loadRepairs (h : s.Canon) : s.loadRepairs.Canon := by
  unfold State.loadRepairs
  exact .recomputeMap (.foldl (h.chooseHalf.puts.foldl fun _ _ h1 => h1.replay) fun _ _ h1 => h1.applyCullet)

theorem takeGuards {b} (h : s.Canon) : (s.takeGuards b).Canon :=
  .put (.foldl (h.foldl fun _ _ h1 => h1.put) fun _ _ h1 => h1.puts)

theorem freshGuards (h : s.Canon) : s.freshGuards.Canon := h.foldl fun _ _ h1 => h1.puts

theorem firstSetpoint {noAck d} (h : s.Canon) : (State.firstSetpoint noAck s d).Canon :=
  .ite h.setpoint h.setpoint.put.pmbusFault

theorem loadGuards {noAck} (h : s.Canon) : (s.loadGuards noAck).Canon := by
  unfold State.loadGuards
  refine .foldl ?_ fun _ _ h1 => ?_
  · refine .foldl ?_ fun _ _ h1 => ?_
    · refine .update ?_
      split
      · exact h.takeGuards
      · exact h.freshGuards
    · exact h1.firstSetpoint
  · exact h1.settleClock

theorem trainChannel {f c} (h : s.Canon) : (State.trainChannel f s c).Canon :=
  .ite h.marginStart.marginDone.mapoutStartNow h

theorem trainMemory {f} (h : s.Canon) : (s.trainMemory f).Canon :=
  .loseMem (.foldl (h.foldl fun _ _ h1 => h1.trainChannel) fun _ _ h1 => h1.put) rfl

theorem testArrays {ok} (h : s.Canon) : (s.testArrays ok).Canon :=
  .countArrays (.foldl (h.foldl fun _ _ h1 => h1.put) fun _ _ h1 => h1.startupTest.testEnds)

theorem loadCells (h : s.Canon) : s.loadCells.Canon := .recomputeLossy (h.foldl fun _ _ h1 => h1.setCell)

theorem startGlass (h : s.Canon) : s.startGlass.Canon := by
  unfold State.startGlass
  refine .ite ?a (.beginSearch ?a)
  exact h.foldl fun _ _ h1 => h1.put

theorem startAnneal {f} (h : s.Canon) : (s.startAnneal f).Canon := h.annealStart.annealDone

theorem stageConfig {sl recs} (h : s.Canon) : (s.stageConfig sl recs).Canon := h.claimSlot.setBarBytes.put

theorem configFailed {sl} (h : s.Canon) : (s.configFailed sl).Canon := h.puts.freeSlot

theorem commitConfig {sl} (h : s.Canon) : (s.commitConfig sl).Canon := by
  unfold State.commitConfig
  refine .ite h.validateSlot.validateDone.configFailed (.ite (.configFailed ?a) (.freeSlot (.puts ?a)))
  exact h.validateSlot.validateDone.put.fire

theorem loadConfig (h : s.Canon) : s.loadConfig.Canon := by
  unfold State.loadConfig
  refine .ite h (.ite h.puts ?_)
  dsimp only
  split
  · exact h.puts
  · exact .ite h.stageConfig.put h.stageConfig.commitConfig

theorem reachRun {kind} (h : s.Canon) : (s.reachRun kind).Canon := .update (.ite h.puts.istat.istat h.puts.istat)

theorem startTail {kind} (h : s.Canon) : (s.startTail kind).Canon := h.put.loadConfig.reachRun

theorem startHardware {kind f} (h : s.Canon) : (s.startHardware kind f).Canon :=
  h.loadSettings.loadRepairs.loadGuards.trainMemory.testArrays.loadCells.startGlass.startAnneal.startTail

theorem startFirmware {kind f} (h : s.Canon) : (s.startFirmware kind f).Canon := by
  unfold State.startFirmware
  dsimp only
  split
  · exact h.enterRom
  · exact h.puts.bootLane.startHardware

theorem startAll {kind f} (h : s.Canon) : (s.startAll kind f).Canon := by
  unfold State.startAll
  refine .ite (.enterRom (.put ?a)) (.startFirmware (.update ?a))
  exact h.flushAppends.put

theorem reloadAllow (h : s.Canon) : s.reloadAllow.Canon := .ite h h.loadAllow

theorem startup {f} (h : s.Canon) : (s.startup f).Canon := by
  unfold State.startup
  dsimp only
  split
  · exact h
  · exact .ite (.ite h.update h.reloadAllow.loadCells.startTail) (.ite h.startAll h)

theorem overrideDone {m} (h : s.Canon) : (s.overrideDone m).Canon := by
  unfold State.overrideDone
  refine .mbAnswer ?_
  split
  · exact .ite h.puts.commitConfig h.puts
  · exact h.puts

theorem storeDone {seq m} (h : s.Canon) : (s.storeDone seq m).Canon := h.puts.logNvm.mbAnswer

theorem logCopyDone {header slot m} (h : s.Canon) : (s.logCopyDone header slot m).Canon := h.countLog.mbAnswer

theorem streamDone {w} (h : s.Canon) : (s.streamDone w).Canon := by
  unfold State.streamDone
  dsimp only
  split
  · exact h.nvmPut
  · split
    · exact h.nvmPut.storeDone
    · exact .ite h.nvmPut.logNvm.overrideDone h.nvmPut.logNvm.mbAnswer
    · exact h.nvmPut.logCopyDone
    · exact h.nvmPut

theorem nvmWritten (h : s.Canon) : s.nvmWritten.Canon := by
  unfold State.nvmWritten
  dsimp only
  split
  · exact .appendDone (h.updateNvm rfl rfl)
  · split
    · exact .streamDone (h.updateNvm rfl rfl)
    · exact h

theorem spcRestarted (h : s.Canon) : s.spcRestarted.Canon := h.update.foldl fun _ _ h1 => h1.judgeScore

/-! ### Services -/

theorem info {src} (h : s.Canon) : (s.info src).Canon := h.serve (fun _ => h.svcAnswer)

theorem echo {src} (h : s.Canon) : (s.echo src).Canon := h.serve (fun _ => h.svcAnswer)

theorem ptpDefaultds {m} (h : s.Canon) : (s.ptpDefaultds m).Canon :=
  h.serve (fun _ => .ite h.mbAnswer h.update.mbAnswer)

theorem launchReport {src} (h : s.Canon) : (s.launchReport src).Canon :=
  h.serve (fun _ => .ite h.svcAnswer h.svcAnswer)

theorem healthRead {src} (h : s.Canon) : (s.healthRead src).Canon := h.serve (fun _ => .ite h.svcAnswer h.svcAnswer)

theorem fence {m} (h : s.Canon) : (s.fence m).Canon :=
  h.serve (fun _ => .ite h.mbAnswer (.ite h.mbAnswer h.applyFence.mbAnswer))

theorem unfence {m} (h : s.Canon) : (s.unfence m).Canon :=
  h.serve (fun _ => .ite h.mbAnswer (.ite h.mbAnswer h.applyUnfence.mbAnswer))

theorem fenceConfirm {m} (h : s.Canon) : (s.fenceConfirm m).Canon := by
  unfold State.fenceConfirm
  refine h.serve ?_
  intro _
  refine .ite h.mbAnswer ?_
  split
  · exact h.mbAnswer
  · exact h.applyFence.mbAnswer

theorem storeStart {m config} (h : s.Canon) : (s.storeStart m config).Canon :=
  .put (h.foldl fun _ _ h1 => h1.nvmStream)

theorem store {m} (h : s.Canon) : (s.store m).Canon := h.serve (fun _ => .ite h.mbAnswer h.storeStart)

theorem fwOverride {m} (h : s.Canon) : (s.fwOverride m).Canon :=
  h.serve (fun _ => .ite h.mbAnswer (.ite h.mbAnswer (.ite h.nvmStream (.ite h.mbAnswer h.nvmStream))))

theorem copyStart {m} (h : s.Canon) : (s.copyStart m).Canon := h.foldl fun _ _ h1 => h1.nvmStream

theorem logCopy {m} (h : s.Canon) : (s.logCopy m).Canon :=
  h.serve (fun _ => .ite h.mbAnswer (.ite h.mbAnswer h.update))

theorem copyClose (h : s.Canon) : s.copyClose.Canon := by
  unfold State.copyClose
  dsimp only
  split
  · exact h
  · exact h.update.copyStart

/-! ### Read -/

theorem setLatch {agent page v} (h : s.Canon) : (s.setLatch agent page v).Canon := h.update

theorem readCounter {v agent page o} (h : s.Canon) : (s.readCounter v agent page o).2.Canon := by
  unfold State.readCounter
  dsimp only
  split
  · exact h.setLatch
  · exact h.setLatch

theorem readClears {a} (h : s.Canon) : (s.readClears a).Canon := .ite (.update h.put) (.ite (.update h.put) h)

theorem queueRead {agent a back} (h : s.Canon) : (s.queueRead agent a back).Canon := h.update

theorem readOther {agent a} (h : s.Canon) : (s.readOther agent a).Canon :=
  .ite (.ite h.readClears.queueRead h.readClears.setLatch) h

theorem closeRead {v q} (h : s.Canon) : (State.closeRead v s q).Canon :=
  .ite (.ite h.readCounter.emit h.readCounter.answerRead) h.setLatch

theorem readsClose (h : s.Canon) : s.readsClose.Canon := h.update.foldl fun _ _ h1 => h1.closeRead

theorem hostRead {agent a} (h : s.Canon) : (s.hostRead agent a).Canon :=
  .ite h.emit (.ite h.queueRead h.readOther.emit)

theorem portRead {agent a} (h : s.Canon) : (s.portRead agent a).2.Canon := by
  unfold State.portRead
  dsimp only
  split
  · exact h
  · split
    · exact h
    · split
      · split
        · exact h
        · exact h.apWord
      · split
        · exact h.glassAsk
        · split
          · exact h.queueRead
          · exact h.readOther

/-! ### Board -/

theorem setRefs {a b} (h : s.Canon) : (s.setRefs a b).Canon := h.update.put

theorem boardBit {f v} (h : s.Canon) : (s.boardBit f v).Canon := .ite h h.put.logState

theorem refDown {p} (h : s.Canon) : (s.refDown p).Canon := .ite h.leaveUp (.ite h.failAttempt h)

theorem refSwitch {b} (h : s.Canon) : (s.refSwitch b).Canon := .ite h.boardBit.boardBit h.boardBit.boardBit

theorem refLoss {b} (h : s.Canon) : (s.refLoss b).Canon := by
  unfold State.refLoss
  refine .ite h (.foldl (.ite (.refSwitch (.logState (.raise ?a))) (.logState (.raise ?a)))
    fun _ _ h1 => h1.refDown)
  exact .ite h.setRefs h.setRefs

theorem refReturn {b} (h : s.Canon) : (s.refReturn b).Canon := by
  refine .ite h (.ite (.refSwitch ?a) ?a)
  exact .ite h.setRefs h.setRefs

theorem returnsFirst {b} (h : s.Canon) : (s.returnsFirst b).Canon := .ite h.refReturn h

theorem refSeen {b present} (h : s.Canon) : (s.refSeen b present).Canon := h.update

theorem tapSelect {ir ext} (h : s.Canon) : (s.tapSelect ir ext).Canon := h.update

theorem tapOut {v} (h : s.Canon) : (s.tapOut v).Canon := h.emit

theorem tapCells {cells} (h : s.Canon) : (s.tapCells cells).Canon := by
  unfold State.tapCells
  dsimp only
  split
  · exact .update h.tapOut.freshFree
  · exact h

theorem tapIdcode (h : s.Canon) : s.tapIdcode.Canon := h.tapSelect.tapOut

theorem tapExtest {cells} (h : s.Canon) : (s.tapExtest cells).Canon := h.tapSelect.tapCells.emit

theorem tapBypass {code} (h : s.Canon) : (s.tapBypass code).Canon := .ite h h.tapSelect.tapOut

theorem setAccess {status addr data} (h : s.Canon) : (s.setAccess status addr data).Canon := h.update

theorem tapAccess {write addr v} (h : s.Canon) : (s.tapAccess write addr v).Canon := by
  unfold State.tapAccess
  refine .ite h.busWrite.setAccess ?_
  split
  · rename_i e
    exact (h.portRead.snd e).setAccess
  · rename_i e
    exact .ite (h.portRead.snd e).reject.setAccess (h.portRead.snd e).setAccess

theorem tapRegacc {write addr v} (h : s.Canon) : (s.tapRegacc write addr v).Canon := by
  unfold State.tapRegacc
  refine .ite ?a (.tapAccess ?a)
  exact h.tapSelect.tapOut

theorem rillSend {b} (h : s.Canon) : (s.rillSend b).Canon := h.emit

theorem rillRespond {own b code data} (h : s.Canon) : (s.rillRespond own b code data).Canon := .update h.rillSend

theorem rillCount (h : s.Canon) : s.rillCount.Canon := h.countMgmt

theorem setRillPend {p} (h : s.Canon) : (s.setRillPend p).Canon := h.update

theorem rillStep (h : s.Canon) : s.rillStep.Canon := by
  unfold State.rillStep
  split
  · exact h
  · refine .ite h (.ite ?_ h.setRillPend.rillRespond.rillCount)
    split
    · rename_i e
      exact (h.portRead.snd e).setRillPend
    · rename_i e
      exact (h.portRead.snd e).setRillPend

theorem rillGo (h : s.Canon) : s.rillGo.Canon := h.foldl fun _ _ h1 => h1.rillStep

theorem rillRead {b} (h : s.Canon) : (s.rillRead b).Canon := .ite h.rillRespond.rillCount h.setRillPend.rillGo

theorem rillWriteWords {a d} (h : s.Canon) : (s.rillWriteWords a d).2.Canon :=
  .foldlSnd h fun _ _ h1 => h1.busWrite

theorem rillWriteAll {b} (h : s.Canon) : (s.rillWriteAll b).2.Canon := by
  unfold State.rillWriteAll
  dsimp only
  split
  · exact h
  · exact h.rillWriteWords

theorem rillWrite {b} (h : s.Canon) : (s.rillWrite b).Canon :=
  .ite h.rillWriteAll.rillSend.rillCount h.rillWriteAll.rillRespond.rillCount

theorem rillPing {b} (h : s.Canon) : (s.rillPing b).Canon := h.rillRespond.rillCount

theorem rillEnum {b} (h : s.Canon) : (s.rillEnum b).Canon := h.put.emit.rillRespond.rillCount

theorem rillClear {b} (h : s.Canon) : (s.rillClear b).Canon := by
  unfold State.rillClear
  refine .ite (.rillCount (.rillSend ?a)) (.rillCount (.rillRespond ?a))
  exact h.dropToken.put

theorem rillRepeat {b} (h : s.Canon) : (s.rillRepeat b).Canon := .ite h.rillSend.countMgmt h.rillSend

theorem rillBad {x} (h : s.Canon) : (s.rillBad x).Canon := h.countMgmt

theorem rillHold {b} (h : s.Canon) : (s.rillHold b).Canon := .ite h.update h

theorem rillTake {k f b} (h : s.Canon) (hf : ∀ t x, t.Canon → (f t x).Canon) : (s.rillTake k f b).Canon :=
  .ite (hf _ _ h) h

theorem rillRun {frame k f} (h : s.Canon) (hf : ∀ t x, t.Canon → (f t x).Canon) : (s.rillRun frame k f).Canon := by
  unfold State.rillRun
  refine .ite h ?_
  dsimp only
  split
  · exact .ite h.put.rillHold (h.put.rillTake hf)
  · refine .ite h ?_
    split
    · exact h
    · exact .ite (hf _ _ h.update) h

theorem rillOverrun (h : s.Canon) : s.rillOverrun.Canon := .ite h h.countMgmt

theorem setTokIn {t} (h : s.Canon) : (s.setTokIn t).Canon := h.put

theorem setLock {l} (h : s.Canon) : (s.setLock l).Canon := h.put

/-! ### Tick -/

theorem countCycles (h : s.Canon) : s.countCycles.Canon := h.foldl fun _ _ h1 => h1.countBasin

theorem clockEnd (h : s.Canon) : s.clockEnd.Canon :=
  h.samplesClose.releasesClose.fencesClose.countCycles.countIn.readsClose.snapClose.selClose.copyClose.setClose

theorem spcTick (h : s.Canon) : s.spcTick.Canon := .settle (.rillGo (.update h.readsClose.setClose))

theorem idleTick (h : s.Canon) : s.idleTick.Canon :=
  .ite h (.ite h.spcTick h.clockEnd.tick.moveRings.glassReturn.glassAnswer.rillGo.prbsTick.validateTick.settle)

/-! ### The end of a command -/

theorem done {t} (h : t.Canon) : EndsCanon (Machine.done s t) := by
  intro u e
  cases e
  exact h.update

theorem finish {t} (h : s.Canon) (ht : t.Canon) : EndsCanon (Machine.finish s t) := by
  unfold Machine.finish
  split
  · exact h.done
  · exact ht.settle.done

theorem finishSpc {t} (h : s.Canon) (ht : t.Canon) : EndsCanon (Machine.finishSpc s t) := by
  unfold Machine.finishSpc
  split
  · exact h.done
  · exact ht.settle.done

theorem finishAlways {t} (_ : s.Canon) (ht : t.Canon) : EndsCanon (Machine.finishAlways s t) := ht.settle.done

theorem refFinish {b present t} (h : s.Canon) (ht : t.Canon) : EndsCanon (s.refFinish b present t) := by
  unfold State.refFinish
  split
  · exact h.refSeen.done
  · exact h.finish ht

/-! ### The commands -/

/-- Each command ends in the state that its operations give; the arms that share operations stand together. -/
theorem exec (h : s.Canon) (i : Instr) : EndsCanon (Machine.exec i s) := by
  cases i with
  | linkFrameRx => exact h.finish h.linkFrameRx
  | creditRx => exact h.finish h.creditRx
  | censusRx => exact h.finish h.censusRx
  | downRx => exact h.finish h.downRx
  | advertRx => exact h.finish h.advertRx
  | advackRx => exact h.finish h.advackRx
  | linkLcRsv => exact h.finish h.lcReserved
  | creditTx => exact h.finish h.creditTx
  | censusTx => exact h.finish h.censusTx
  | advertTx => exact h.finish h.advertTx
  | txFrameDone => exact h.finish h.txDone
  | portEnable | portDisable | portRetrain | portClearFail | lanecfgWrite | cageEnWrite | cageaccGo | flush
  | epochCopy | epochFreeNow | skipCounterClear | colqTailWrite | arrayRetire | bsnClkTarget | klLoad | klUnload
  | repairRequest | mapreqGo | marginFull | marginScan | glassSearch | glassMigGo | glassReturn | timeLatch
  | timeSet | timeAdj | timeFreqWrite | timeSrcWrite | hostSample | txnClaim | txnValidate | txnCommitNow
  | txnCommitFlip | txnCommitTime | txnRelease | irearm | msixUnmask | sluiceFreeze | sluiceUnfreeze | dataReset
  | spcReset | nvmRetire | flashRead | flashProgram | flashErase | evselWrite | snapGo | snapStop | logClear
  | logModeWrite | logRptrWrite => exact h.finishSpc h.hostWrite
  | bringupAttempt => exact h.finish h.bringupAttempt
  | signalAcquired => exact h.finish h.signalAcquired
  | alignAchieved => exact h.finish h.alignAchieved
  | bringupTimeout => exact h.finish h.bringupTimeout
  | laneLos => exact h.finish h.laneLos
  | lockLoss => exact h.finish h.lockLoss
  | ucwInterval => exact h.finish h.ucwInterval
  | retrainEntryExpire => exact h.finish h.retrainExpire
  | groupReturnRelease => exact h.finish h.groupReturn.markPort
  | cageInsert => exact h.finish h.cageInsert
  | cageDebounce => exact h.finish h.cageDebounce
  | cageRemove => exact h.finish h.cageRemove
  | moduleReady => exact h.finish (h.onPins fun _ h1 => h1.moduleReady)
  | datapathReady => exact h.finish (h.onPins fun _ h1 => h1.datapathReady)
  | cmisTimeout => exact h.finish h.cmisTimeout
  | cmisMonitorPoll => exact h.finish (h.onPins fun _ h1 => h1.monitorPoll)
  | cageIntl => exact h.finish (h.onPins fun _ h1 => h1.cageIntl)
  | cageaccDone => exact h.finish h.cageAccDone
  | ingressPacket => exact h.finish h.ingressNext
  | weirEthDebit => exact h.finish h.weirEthDebit
  | learnInsert | learnMove => exact h.finish h.writerNext
  | ageSweepVisit => exact h.finish h.sweepVisit
  | flushDone => exact h.finish h.flushDone
  | mcReplicate => exact h.finish h.mcReplicate
  | epochCopyDone => exact h.finish h.epochCopyDone
  | epochDrainExpire => exact h.finish h.epochDrain
  | schedSelect => exact h.finish h.schedule
  | launchDue => exact h.finish h.launch
  | queueStall => exact h.finish h.queueStall
  | cisternSweep => exact h.finish h.sweep
  | resultHandoff => exact h.finish h.handoff
  | originPoolGrant => exact h.finish h.originGrant
  | colMatch => exact h.finish h.colMatch
  | bsnAccumulate => exact h.finish h.bsnAccumulate
  | markerAtBasin => exact h.finish h.markerAt
  | bsnFinish => exact h.finish h.bsnFinish
  | kernelInvoke => exact h.finish h.kernelInvoke
  | kernelReturn => exact h.finish h.kernelReturn
  | ctxDeadline => exact h.finish h.ctxDeadline
  | ctxComplete => exact h.finish h.ctxComplete
  | ctxLingerExpire => exact h.finish h.lingerExpire
  | slotReleaseMsg => exact h.finish h.slotRelease
  | slotLedgerCheck => exact h.finish h.ledgerCheck
  | commAdmit | commTeardown | ctxAlloc | ctxAbort | memberFence | templateSet | colCmdInvalid =>
    exact h.finish h.visitQueue
  | teardownRelease => exact h.finish h.teardownRelease
  | teardownDone => exact h.finish h.teardownDone
  | insnSalu => exact h.finish (h.execInsn fun _ _ => h.saluBody)
  | insnSbr => exact h.finish (h.execInsn fun _ _ => h.sbrBody)
  | insnSmem => exact h.finish (h.execInsn fun _ _ => h.smemBody)
  | insnVfp => exact h.finish (h.execInsn fun _ _ => h.vfpBody)
  | insnVint => exact h.finish (h.execInsn fun _ _ => h.vintBody)
  | insnVmem => exact h.finish (h.execInsn fun _ _ => h.vmemBody)
  | insnVcvt => exact h.finish (h.execInsn fun _ _ => h.vcvtBody)
  | insnVperm => exact h.finish (h.execInsn fun _ _ => h.vpermBody)
  | insnSync => exact h.finish (h.execInsn fun _ _ => h.syncBody)
  | insnVxa | insnSys => exact h.finish h.firmwareOnly
  | mload | mstream | mdrain | mfill => exact h.finish (h.execInsn fun _ _ => h.mtxIssue)
  | mwait => exact h.finish (h.execInsn fun _ _ => h.mtxWait)
  | mrel => exact h.finish (h.execInsn fun _ _ => h.mtxRelease)
  | matrixDone => exact h.finish h.matrixDone
  | dmaStart => exact h.finish (h.dmaInsn fun _ _ => h.dmaStart)
  | dmaPoll => exact h.finish (h.dmaInsn fun _ _ => h.dmaPoll)
  | dmaWait => exact h.finish (h.dmaInsn fun _ _ => h.dmaWait)
  | dmaDone => exact h.finish h.dmaDone
  | arraySelftest => exact h.finishSpc (.ite h.startupTest h.hostWrite)
  | arraySelftestDone => exact h.finish h.testDone
  | bsnClkChange => exact h.finish h.clkChange
  | klLoadDone => exact h.finish h.klLoadDone
  | ringInject => exact h.finish h.ringInject
  | ringDeliver => exact h.finish h.ringDeliver
  | memRead | memWrite | memAdd | memFadd | memFaddf | memSwap | memCas | memFmin | memFmax =>
    exact h.finish h.memPerform
  | scrubLine => exact h.finish h.scrubLine
  | rowRemapDone => exact h.finish h.remapDone
  | mapoutStart => exact h.finish h.mapoutStartNow
  | bankMapoutDone => exact h.finish h.bankMapoutDone
  | marginDone => exact h.finish h.marginDone
  | arbGrant => exact h.finish h.arbGrant
  | arbStarve => exact h.finish h.arbStarve
  | apertureRead => exact h.finish h.apRead
  | apertureWrite => exact h.finish h.apWrite
  | glassBoundary => exact h.finish h.glassBoundary
  | glassSwitch => exact h.finish h.glassSwitch
  | glassDriveLoaded => exact h.finish (h.onGlassBus fun _ h1 => h1.driveLoaded)
  | glassRealignResume => exact h.finish h.realignResume
  | glassSearchDone => exact h.finish (h.onGlassBus fun _ h1 => h1.searchDone)
  | nolightRetry => exact h.finish h.nolightRetry
  | ringLockStep => exact h.finish (h.onGlassBus fun _ h1 => h1.lockStep)
  | ringUnlock => exact h.finish (h.onGlassBus fun _ h1 => h1.ringUnlock)
  | ringRelock => exact h.finish (h.onGlassBus fun _ h1 => h1.ringRelock)
  | glassInLos => exact h.finish (h.onGlassBus fun _ h1 => h1.inLos)
  | glassInRestore => exact h.finish (h.onGlassBus fun _ h1 => h1.inRestore)
  | glassPowerUpdate => exact h.finish (h.onGlassBus fun _ h1 => h1.powerUpdate)
  | glassBiasStep => exact h.finish (h.onGlassBus fun _ h1 => h1.biasStep)
  | glassHeadroomLow => exact h.finish h.headroomLow
  | glassOutLow => exact h.finish h.outLowReport
  | glassMigArmed => exact h.finish (h.onGlassBus fun _ h1 => h1.migArmed)
  | glassMigDone => exact h.finish h.migDone
  | servoHoldover => exact h.finish h.servoHoldover
  | ptpSyncRx => exact h.finish h.syncRx
  | ptpFollowUpRx => exact h.finish h.followUpRx
  | ptpDelayReqRx => exact h.finish h.delayReqRx
  | ptpDelayRespRx => exact h.finish h.delayRespRx
  | ptpAnnounceRx => exact h.finish h.announceRx
  | timeMsgUnsup => exact h.finish h.timeUnsup
  | ptpSyncTx => exact h.finish h.syncTx
  | ptpDelayReqTx => exact h.finish h.delayReqTx
  | ptpAnnounceTx => exact h.finish h.announceTx
  | ppsOutEdge => exact h.finish h.ppsOutEdge
  | ppsOutFall => exact h.finish h.ppsOutFall
  | ppsInEdge => exact h.finish h.ppsInEdge
  | txnTimeFire => exact h.finish h.timeFire
  | registerWrite => exact h.finishSpc h.busWrite
  | flr => exact h.finishSpc h.flr
  | txnValidateDone => exact h.finish h.validateDone
  | txnApply => exact h.finish h.applyNow
  | rillRead => exact h.finishSpc (h.rillRun fun _ _ h1 => h1.rillRead)
  | rillWrite => exact h.finishSpc (h.rillRun fun _ _ h1 => h1.rillWrite)
  | rillPing => exact h.finishSpc (h.rillRun fun _ _ h1 => h1.rillPing)
  | rillEnum => exact h.finishSpc (h.setTokIn.setLock.rillRun fun _ _ h1 => h1.rillEnum)
  | rillClear => exact h.finishSpc (h.rillRun fun _ _ h1 => h1.rillClear)
  | rillRepeat => exact h.finishSpc (h.rillRun fun _ _ h1 => h1.rillRepeat)
  | rillCheckErr => exact h.finishSpc (.setLock (h.rillRun (fun _ _ h1 => h1.rillBad)))
  | rillOverrun => exact h.finishSpc h.rillOverrun
  | fabricRequest => exact h.finish h.fabricRequest
  | info => exact h.finishSpc h.info
  | echo => exact h.finishSpc h.echo
  | svcUnknown => exact h.finishSpc h.svcUnknown
  | launch => exact h.finish h.launchReport
  | healthRead => exact h.finishSpc h.healthRead
  | fence => exact h.finish h.fence
  | unfence => exact h.finish h.unfence
  | fenceConfirm => exact h.finish h.fenceConfirm
  | ptpDefaultds => exact h.finishSpc h.ptpDefaultds
  | annealRun => exact h.finish h.annealRun
  | annealRead => exact h.finishSpc h.annealRead
  | store => exact h.finishSpc h.store
  | fwOverride => exact h.finishSpc h.fwOverride
  | logCopy => exact h.finishSpc h.logCopy
  | leafSuspect => exact h.finish h.leafSuspect
  | hardLinkDown => exact h.finish h.hardLinkDown
  | scoreRecover => exact h.finish h.scoreRecover
  | fenceWindowExpire => exact h.finish h.expireFences
  | sluiceDrained => exact h.finish h.sluiceDrained
  | sluiceTimeout => exact h.finish h.sluiceTimeout
  | droopTrip => exact h.finish h.droopTrip
  | stretchEnd => exact h.finish h.stretchEnd
  | thermSensorSample => exact h.finish h.sensorSample
  | thermEval => exact h.finish h.thermEval
  | thermalTrip => exact h.finish h.thermalTrip
  | pwrReadingUpdate => exact h.finish h.domainUpdate
  | pwrCapEval => exact h.finish h.capEval
  | capFail => exact h.finish h.capFail
  | pwrDomRead | thermSensRead => exact h.finishSpc h.hostRead
  | annealScheduled => exact h.finish h.annealScheduled
  | annealRunDone => exact h.finish (h.onGlassBus fun _ h1 => h1.annealDone)
  | pmAlert => exact h.finish h.pmAlert
  | coldReset => exact h.finishAlways h.coldReset
  | warmReset agent =>
    cases agent with
    | none => exact h.finishAlways (.ite h h.warmReset)
    | some g => exact h.finishSpc h.hostWrite
  | brownout => exact h.finish h.brownout
  | startupRun => exact h.finish h.startup
  | nvmWriteDone => exact h.finishAlways h.nvmWritten
  | flashOpDone => exact h.finishSpc h.flashDone
  | counterLoRead agent page n next =>
    cases next with
    | none => exact h.finishSpc h.hostRead
    | some w => exact h.finishSpc h.hostRead.hostRead
  | snapTrigger => exact h.finish h.snapDue
  | snapCopyDone => exact h.finish h.snapCopyDone
  | sampleRingWrite => exact h.finish h.sampleWrite
  | logWrite => exact h.finishSpc h.logWrite
  | refclkLoss b => exact h.refFinish (.refLoss h.returnsFirst)
  | refclkReturn b => exact h.refFinish h.refReturn
  | perst => exact h.finishSpc h.perst
  | tapIdcode => exact h.finishAlways h.tapIdcode
  | tapSamplePreload => exact h.finishAlways h.tapSelect.tapCells
  | tapExtest => exact h.finishAlways h.tapExtest
  | tapBypass => exact h.finishAlways h.tapBypass
  | tapRegacc => exact h.finishSpc h.tapRegacc
  | cmisStateTimeExpire => exact h.finish h.stageExpire
  | brownoutRecovery => exact h.finishAlways h.brownoutRecovery
  | spcRestartDone => exact h.finishSpc h.spcRestarted
  | pcieLinkChange width gen cfg =>
    cases cfg with
    | none => exact h.finishSpc h.pcieLink
    | some c => exact h.finishSpc h.pcieLink.pcieCfg

end State.Canon

theorem State.Canon.step {s : State} (h : s.Canon) : EndsCanon (step s) := by
  unfold Machine.step
  split
  · intro t e
    cases e
    exact h.idleTick
  · exact h.update.exec _

/-- Settles O7: all four stores are empty at reset. -/
theorem resetIsCanonical : Obligations.ResetIsCanonical := (State.canonical_iff _).2 State.reset_canon

/-- Settles O8: the canonical form is kept by each operation on the state, so by each command and by a core clock. -/
theorem stepKeepsCanonicalForm : Obligations.StepKeepsCanonicalForm := by
  intro s t h e
  exact (State.canonical_iff t).2 (((State.canonical_iff s).1 h).step t e)

end Sys2Proof.Machine

namespace Sys2Proof.Machine

/-! ### Parts of the state

What an operation leaves alone is said part by part. A part is a component of the state, a view of one, or a region of the
register words. Each operation has one lemma, `..._touches`, that lists the parts it may change; every part that the list
does not name is as it was. -/

/-- The parts that the frame lemmas speak of. -/
inductive Part where
  | out | events | items | time
  | bar | books | lane | portStat | fwdCfg | tables | ctxWords | colCfg
  | ports | links | answered | consumed | lcQ | fwd | hlth
  | cis | queues | ents | pkts | cells | walk | mcQ | ethDebits | policers
  | path | finQ | outQ | ctxs | accd | skipAt | closedAt | arrived
  | comms | releasing | ledger | held | releaseQ | suspects | blocksUsed | lastCheck
  deriving DecidableEq

/-- Whether the register word at `a` lies in a region. -/
def Part.covers : Part → Nat → Bool
  | .books, a => a == 0x140
  | .lane, a => decide (0x100000 ≤ a) && decide (a < 0x500000) && a % 0x1000 != 0x104
  | .portStat, a => decide (0x100000 ≤ a) && decide (a < 0x500000) && a % 0x1000 == 0x104
  | .fwdCfg, a => decide (0x600000 ≤ a) && decide (a < 0x605000)
  | .colCfg, a => decide (0x900000 ≤ a) && decide (a < 0x904000)
  | .tables, a => decide (0x1000000 ≤ a) && decide (a < 0x5000000)
  | .ctxWords, a => decide (0x5000000 ≤ a)
  | _, _ => false

/-- The counters that select BSN_ITEM_ACC stand as they were. -/
def State.sameItems (s t : State) : Prop :=
  t.obs.sel = s.obs.sel ∧ (SMap.wf (fun _ => 0) s.obs.sel = true → ∀ k, SMap.get (fun _ => 0) s.obs.sel k = 0x80000000 + Ev.BSN_ITEM_ACC →
    SMap.get (fun _ => 0) t.obs.cnt k = SMap.get (fun _ => 0) s.obs.cnt k)

/-- Whether a part is in `t` as it was in `s`; of BOOKS, whether the bits set in `s` still are. -/
def Part.same : Part → State → State → Prop
  | .out, s, t => t.obs.out = s.obs.out
  | .events, s, t => t.obs.sel = s.obs.sel ∧ ∀ k, t.obs.counts k = s.obs.counts k
  | .items, s, t => s.sameItems t
  | .time, s, t => t.time = s.time
  | .bar, s, t => t.bar = s.bar
  | .books, s, t => ∀ k, nbit (s.word 0x140).toNat k = 1 → nbit (t.word 0x140).toNat k = 1
  | .lane, s, t => ∀ a, Part.covers .lane a = true → t.word a = s.word a
  | .portStat, s, t => ∀ a, Part.covers .portStat a = true → t.word a = s.word a
  | .fwdCfg, s, t => ∀ a, Part.covers .fwdCfg a = true → t.word a = s.word a
  | .tables, s, t => ∀ a, Part.covers .tables a = true → t.word a = s.word a
  | .ctxWords, s, t => ∀ a, Part.covers .ctxWords a = true → t.word a = s.word a
  | .colCfg, s, t => ∀ a, Part.covers .colCfg a = true → t.word a = s.word a
  | .ports, s, t => t.ports = s.ports
  | .links, s, t => ∀ p, ({ t.portSt p with vcs := [] } : PortSt) = { s.portSt p with vcs := [] }
  | .answered, s, t => ∀ p, (t.portSt p).answered = (s.portSt p).answered
  | .consumed, s, t => ∀ p v, (t.vcSt p v).consumed = (s.vcSt p v).consumed
  | .lcQ, s, t => t.lcQ = s.lcQ
  | .fwd, s, t => t.fwd = s.fwd
  | .hlth, s, t => t.hlth = s.hlth
  | .cis, s, t => t.cis = s.cis
  | .queues, s, t => t.cis.queues = s.cis.queues
  | .ents, s, t => ∀ p q, (t.queue p q).ents = (s.queue p q).ents ∧ (t.queue p q).wait = (s.queue p q).wait
  | .pkts, s, t => t.cis.pkts = s.cis.pkts
  | .cells, s, t => t.cis.cells = s.cis.cells
  | .walk, s, t => t.cis.walk = s.cis.walk
  | .mcQ, s, t => t.cis.mcQ = s.cis.mcQ
  | .ethDebits, s, t => t.cis.ethDebits = s.cis.ethDebits
  | .policers, s, t => t.cis.policers = s.cis.policers
  | .path, s, t => t.col.path = s.col.path
  | .finQ, s, t => t.col.finQ = s.col.finQ
  | .outQ, s, t => t.col.outQ = s.col.outQ
  | .ctxs, s, t => t.col.ctxs = s.col.ctxs
  | .accd, s, t => ∀ c, (t.ctx c).accd = (s.ctx c).accd
  | .skipAt, s, t => ∀ c, (t.ctx c).skipAt = (s.ctx c).skipAt
  | .closedAt, s, t => ∀ c, (t.ctx c).closedAt = (s.ctx c).closedAt
  | .arrived, s, t => ∀ c i h, ((t.ctx c).index i h).arrived = ((s.ctx c).index i h).arrived
  | .comms, s, t => t.col.comms = s.col.comms
  | .releasing, s, t => ∀ m, (t.comm m).releasing = (s.comm m).releasing
  | .ledger, s, t => t.col.ledger = s.col.ledger
  | .held, s, t => t.col.held = s.col.held
  | .releaseQ, s, t => t.col.releaseQ = s.col.releaseQ
  | .suspects, s, t => t.col.suspects = s.col.suspects
  | .blocksUsed, s, t => t.col.blocksUsed = s.col.blocksUsed
  | .lastCheck, s, t => t.col.lastCheck = s.col.lastCheck

theorem Part.same_refl (x : Part) (s : State) : x.same s s := by
  cases x <;> simp [Part.same, State.sameItems]

theorem Part.same.trans {x : Part} {s t u : State} (h : x.same s t) (k : x.same t u) : x.same s u := by
  cases x <;> simp_all [Part.same, State.sameItems]

/-- From `s` to `t` nothing changed but the listed parts. -/
structure Touches (ps : List Part) (s t : State) : Prop where
  part : ∀ x, x ∉ ps → x.same s t

namespace Touches

variable {ps qs : List Part} {s t u : State}

theorem refl (s : State) : Touches ps s s := ⟨fun x _ => x.same_refl s⟩

theorem trans (h : Touches ps s t) (k : Touches ps t u) : Touches ps s u := ⟨fun x hx => (h.part x hx).trans (k.part x hx)⟩

theorem mono (h : Touches qs s t) (hq : qs ⊆ ps) : Touches ps s t :=
  ⟨fun x hx => h.part x fun hm => hx (hq hm)⟩

/-- One more operation, which may change nothing that is not listed already. -/
theorem step (h : Touches ps s t) (k : Touches qs t u) (hq : qs ⊆ ps) : Touches ps s u := h.trans (k.mono hq)

/-- Two operations in turn. -/
theorem seq {rs : List Part} (h : Touches qs s t) (k : Touches rs t u) (hq : qs ++ rs ⊆ ps) : Touches ps s u :=
  (h.mono (List.append_subset.1 hq).1).trans (k.mono (List.append_subset.1 hq).2)

theorem ite {c : Prop} [Decidable c] (h : Touches ps s t) (k : Touches ps s u) : Touches ps s (if c then t else u) := by
  split <;> assumption

theorem foldl {α : Type} {f : State → α → State} (l : List α) (s : State) (h : ∀ t, ∀ x ∈ l, Touches ps t (f t x)) :
    Touches ps s (l.foldl f s) :=
  List.foldlRecOn (motive := Touches ps s) l f (refl s) fun t ht x hx => ht.trans (h t x hx)

end Touches

/-! ### Words and fields -/

/-- The parts in which a write of the word at `a` shows. -/
def wordParts (a : Nat) : List Part :=
  .bar :: ([.books, .lane, .portStat, .fwdCfg, .colCfg, .tables, .ctxWords] : List Part).filter fun x => x.covers a

/-- A list that holds the registers as such, and each region of which a word lies, holds all the parts that a write of it shows in. -/
theorem wordParts_subset {a : Nat} {ps : List Part} (hbar : Part.bar ∈ ps)
    (h : ∀ x ∈ ([.books, .lane, .portStat, .fwdCfg, .colCfg, .tables, .ctxWords] : List Part), x.covers a = true → x ∈ ps) :
    wordParts a ⊆ ps := by
  intro x hx
  obtain rfl | hx := List.mem_cons.1 hx
  · exact hbar
  · obtain ⟨hm, hc⟩ := List.mem_filter.1 hx
    exact h x hm hc

theorem State.setWord_touches (s : State) (a : Nat) (w : Word) : Touches (wordParts a) s (s.setWord a w) := by
  constructor
  intro x hx
  have same := x.same_refl s
  have word_ne : ∀ b, b ≠ a → (s.setWord a w).word b = s.word b := fun b h => s.word_setWord_ne w h
  cases x
  case bar => simp [wordParts] at hx
  case books =>
    intro k hk
    rw [word_ne _ fun e => hx (by simp [wordParts, ← e, Part.covers])]
    exact hk
  case lane | portStat | fwdCfg | tables | ctxWords | colCfg =>
    intro b hb
    refine word_ne b fun e => hx ?_
    subst e
    simp [wordParts, hb]
  all_goals exact same

theorem State.put_touches (s : State) (f : FRef) (v : Nat) : Touches (wordParts f.addr) s (s.put f v) := s.setWord_touches _ _

theorem State.noteSet_touches (s : State) (a b : Nat) : Touches [] s (s.noteSet a b) := by
  constructor
  intro x _
  have same := x.same_refl s
  cases x <;> exact same

theorem State.orBits_touches (s : State) (f : FRef) (v : Nat) : Touches (wordParts f.addr) s (s.orBits f v) :=
  (s.put_touches _ _).step (State.noteSet_touches _ _ _) (by simp)

theorem State.get_orBits (s : State) (f : FRef) (hf : f.ok) (v : Nat) : (s.orBits f v).get f = (s.get f ||| v) % 2 ^ f.width :=
  s.get_put_same f hf _

/-- A one-bit status field just raised is 1. -/
theorem State.get_raise (s : State) (f : FRef) (hf : f.ok) (h1 : f.hi = f.lo) : (s.raise f).get f = 1 := by
  have hw : f.width = 1 := by simp [FRef.width, h1]
  have hlt := s.get_lt f
  rw [State.raise, s.get_orBits f hf, hw]
  rw [hw] at hlt
  have : s.get f = 0 ∨ s.get f = 1 := by omega
  obtain h | h := this <;> rw [h] <;> rfl

/-! ### What the part records of itself -/

theorem State.emit_touches (s : State) (e : Emit) : Touches [.out] s (s.emit e) := by
  constructor
  intro x hx
  have same := x.same_refl s
  cases x
  case out => simp at hx
  all_goals exact same

theorem bumped_isNone (f : Nat × Option FreshSel → Nat × Option FreshSel) (hk : ∀ x, (f x).1 = x.1)
    (hn : ∀ x, (f x).2.isNone = x.2.isNone) (m : SMap (Option FreshSel)) (k : Nat) :
    (SMap.get (fun _ => none) (m.map f) k).isNone = (SMap.get (fun _ => none) m k).isNone := by
  induction m with
  | nil => rfl
  | cons x m ih =>
    simp only [List.map_cons, SMap.get, hk]
    split
    · exact hn x
    · exact ih

theorem State.countIn_events (s : State) (scope : Nat → Bool) (ev n : Nat) : Part.events.same s (s.countIn scope ev n) := by
  refine ⟨by rw [State.countIn_only], fun k => bumped_isNone _ ?_ ?_ _ _⟩
  · intro x
    split <;> rfl
  · intro x
    split <;> simp

/-- Counting any other event leaves the counters of BSN_ITEM_ACC. -/
theorem State.countIn_touches (s : State) (scope : Nat → Bool) {ev : Nat} (n : Nat) (hev : ev ≠ Ev.BSN_ITEM_ACC) :
    Touches [] s (s.countIn scope ev n) := by
  constructor
  intro x _
  have same := x.same_refl s
  cases x
  case events => exact s.countIn_events scope ev n
  case items =>
    refine ⟨by rw [State.countIn_only], fun hw k hk => ?_⟩
    rw [s.countIn_cnt scope ev n hw, if_neg fun h => hev (by have := h.1; omega)]
  case out =>
    show (s.countIn scope ev n).obs.out = s.obs.out
    rw [State.countIn_only]
  all_goals exact same

/-! The named scopes of counting. -/

theorem State.countPages_touches (s : State) (first num : Nat) {ev : Nat} (n : Nat) (hev : ev ≠ Ev.BSN_ITEM_ACC) :
    Touches [] s (s.countPages first num ev n) := s.countIn_touches _ n hev
theorem State.countAt_touches (s : State) (page : Nat) {ev : Nat} (n : Nat) (hev : ev ≠ Ev.BSN_ITEM_ACC) :
    Touches [] s (s.countAt page ev n) := s.countIn_touches _ n hev
theorem State.countPort_touches (s : State) (p : Nat) {ev : Nat} (n : Nat) (hev : ev ≠ Ev.BSN_ITEM_ACC) :
    Touches [] s (s.countPort p ev n) := s.countAt_touches _ n hev
theorem State.countBoth_touches (s : State) (first num p : Nat) {ev : Nat} (n : Nat) (hev : ev ≠ Ev.BSN_ITEM_ACC) :
    Touches [] s (s.countBoth first num p ev n) := s.countIn_touches _ n hev
theorem State.countFwd_touches (s : State) {ev : Nat} (n : Nat) (hev : ev ≠ Ev.BSN_ITEM_ACC) :
    Touches [] s (s.countFwd ev n) := s.countPages_touches _ _ n hev
theorem State.countCol_touches (s : State) {ev : Nat} (n : Nat) (hev : ev ≠ Ev.BSN_ITEM_ACC) :
    Touches [] s (s.countCol ev n) := s.countPages_touches _ _ n hev
theorem State.countMgmt_touches (s : State) {ev : Nat} (n : Nat) (hev : ev ≠ Ev.BSN_ITEM_ACC) :
    Touches [] s (s.countMgmt ev n) := s.countPages_touches _ _ n hev
theorem State.countLog_touches (s : State) {ev : Nat} (n : Nat) (hev : ev ≠ Ev.BSN_ITEM_ACC) :
    Touches [] s (s.countLog ev n) := s.countPages_touches _ _ n hev
theorem State.countBasin_touches (s : State) (b : Nat) {ev : Nat} (n : Nat) (hev : ev ≠ Ev.BSN_ITEM_ACC) :
    Touches [] s (s.countBasin b ev n) := s.countAt_touches _ n hev

theorem State.logLost_touches (s : State) : Touches [] s s.logLost := by
  have noted : Touches [] s { s with obs := { s.obs with lostBefore := true } } := by
    constructor
    intro x _
    have same := x.same_refl s
    cases x <;> exact same
  exact noted.trans (State.countLog_touches _ _ (by decide))

theorem State.logReport_touches (s : State) (c p i x y : Nat) : Touches [] s (s.logReport c p i x y) := by
  have queued : ∀ (t : State) (l : List LogReq), Touches [] t { t with obs := { t.obs with logQ := l } } := by
    intro t l
    constructor
    intro x _
    have same := x.same_refl t
    cases x <;> exact same
  unfold State.logReport
  dsimp only
  split
  · exact queued _ _
  · split
    · exact (queued _ _).trans (State.logLost_touches _)
    · exact s.logLost_touches

theorem nbit_or (a b k : Nat) (h : nbit a k = 1) : nbit (a ||| b) k = 1 := by
  have bit : ∀ m, nbit m k = 1 ↔ m.testBit k = true := fun m => by
    rw [Nat.testBit_eq_decide_div_mod_eq, decide_eq_true_eq, nbit]
  rw [bit] at h ⊢
  rw [Nat.testBit_or, h, Bool.true_or]

theorem wordRef_ok (a : Nat) : (wordRef a).ok := ⟨Nat.zero_le _, Nat.lt_succ_self 31⟩

theorem State.get_wordRef (s : State) (a : Nat) : s.get (wordRef a) = (s.word a).toNat := by
  have := (s.word a).isLt
  simp only [State.get, FRef.ofWord, wordRef, FRef.width]
  omega

theorem nbit_mod (n w : Nat) {k : Nat} (hk : k < w) : nbit (n % 2 ^ w) k = nbit n k := by
  have bit : ∀ m, nbit m k = (m.testBit k).toNat := fun m => by rw [Nat.toNat_testBit, nbit]
  rw [bit, bit, Nat.testBit_mod_two_pow]
  simp [hk]

/-- A bit of BOOKS once set stays set when others are set. -/
theorem State.orBooks_touches (s : State) (v : Nat) : Touches [.bar] s (s.orBits (wordRef 0x140) v) := by
  have touches := s.orBits_touches (wordRef 0x140) v
  have parts : wordParts (wordRef 0x140).addr = [.bar, .books] := rfl
  rw [parts] at touches
  constructor
  intro x hx
  by_cases hb : x = .books
  · subst hb
    intro k hk
    have hlt : k < 32 := by
      by_contra hge
      have : (s.word 0x140).toNat / 2 ^ k = 0 :=
        Nat.div_eq_of_lt ((s.word 0x140).isLt.trans_le (Nat.pow_le_pow_right (by decide) (by omega)))
      simp [nbit, this] at hk
    have word := s.get_orBits (wordRef 0x140) (wordRef_ok _) v
    rw [State.get_wordRef, State.get_wordRef] at word
    rw [word]
    exact (nbit_mod _ 32 hlt).trans (nbit_or _ _ _ hk)
  · exact touches.part x (by simp_all)

/-- What follows the setting of a bit of BOOKS is counted and logged. -/
theorem State.bookWith_reports (s : State) {bit : Nat} (inst : Nat) (port : Option Nat) (d : Nat) (hb : bit < 32) :
    Touches [] (s.orBits (wordRef 0x140) (2 ^ bit)) (s.bookWith bit inst port d) := by
  have hev : 0x101 + bit ≠ Ev.BSN_ITEM_ACC := by unfold Ev.BSN_ITEM_ACC; omega
  refine Touches.trans ?_ (State.logReport_touches _ _ _ _ _ _)
  cases port with
  | none => exact State.countAt_touches _ _ _ hev
  | some p => exact State.countIn_touches _ _ _ hev

theorem State.bookWith_touches (s : State) {bit : Nat} (inst : Nat) (port : Option Nat) (d : Nat) (hb : bit < 32) :
    Touches [.bar] s (s.bookWith bit inst port d) :=
  (s.orBooks_touches _).step (s.bookWith_reports inst port d hb) (by decide)

/-- The bit that is booked is set in BOOKS. -/
theorem State.bookWith_bit (s : State) {bit : Nat} (inst : Nat) (port : Option Nat) (d : Nat) (hb : bit < 32) :
    nbit ((s.bookWith bit inst port d).word 0x140).toNat bit = 1 := by
  refine (s.bookWith_reports inst port d hb).part .books (by decide) bit ?_
  have word := s.get_orBits (wordRef 0x140) (wordRef_ok _) (2 ^ bit)
  rw [State.get_wordRef, State.get_wordRef, Nat.lor_comm] at word
  rw [word]
  refine (nbit_mod _ 32 hb).trans (nbit_or _ _ _ ?_)
  rw [nbit, Nat.div_self (Nat.two_pow_pos bit)]

theorem State.book_touches (s : State) {bit : Nat} (inst : Nat) (port : Option Nat) (hb : bit < 32) :
    Touches [.bar] s (s.book bit inst port) := s.bookWith_touches inst port 0 hb

/-! ### Components

An update of a component shows in the parts that view it, and in no other. -/

theorem State.setPort_touches (s : State) (p : Nat) (v : PortSt) : Touches [.ports, .links, .answered, .consumed] s (s.setPort p v) := by
  constructor
  intro x hx
  have same := x.same_refl s
  cases x
  case ports | links | answered | consumed => simp at hx
  all_goals exact same

theorem State.setInBuf_touches (s : State) (pipe : Nat) (l : List RxFrame) : Touches [.fwd] s (s.setInBuf pipe l) := by
  constructor
  intro x hx
  have same := x.same_refl s
  cases x
  case fwd => simp at hx
  all_goals exact same

theorem State.setSpray_touches (s : State) (g v c i : Nat) : Touches [.fwd] s (s.setSpray g v c i) := by
  constructor
  intro x hx
  have same := x.same_refl s
  cases x
  case fwd => simp at hx
  all_goals exact same

theorem State.associate_touches (s : State) (p : Nat) (l : Option Nat) : Touches [.hlth] s (s.associate p l) := by
  constructor
  intro x hx
  have same := x.same_refl s
  cases x
  case hlth => simp at hx
  all_goals exact same

theorem State.setLeaf_touches (s : State) (l : Nat) (v : LeafSt) : Touches [.hlth] s (s.setLeaf l v) := by
  constructor
  intro x hx
  have same := x.same_refl s
  cases x
  case hlth => simp at hx
  all_goals exact same

theorem State.autoCause_touches (s : State) (l c : Nat) : Touches [.hlth] s (s.autoCause l c) := by
  constructor
  intro x hx
  have same := x.same_refl s
  cases x
  case hlth => simp at hx
  all_goals exact same

theorem State.dropCause_touches (s : State) (l c : Nat) : Touches [.hlth] s (s.dropCause l c) := by
  constructor
  intro x hx
  have same := x.same_refl s
  cases x
  case hlth => simp at hx
  all_goals exact same

theorem State.setCell_touches (s : State) (c : Nat) (v : Cell) : Touches [.cis, .cells] s (s.setCell c v) := by
  constructor
  intro x hx
  have same := x.same_refl s
  cases x
  case cis | cells => simp at hx
  all_goals exact same

theorem State.setFreed_touches (s : State) (v : Freed) : Touches [.cis] s (s.setFreed v) := by
  constructor
  intro x hx
  have same := x.same_refl s
  cases x
  case cis => simp at hx
  all_goals exact same

theorem State.setPkt_touches (s : State) (i : Nat) (v : Option Pkt) : Touches [.cis, .pkts] s (s.setPkt i v) := by
  constructor
  intro x hx
  have same := x.same_refl s
  cases x
  case cis | pkts => simp at hx
  all_goals exact same

theorem State.setQueue_touches (s : State) (p q : Nat) (v : QueueSt) : Touches [.cis, .queues, .ents] s (s.setQueue p q v) := by
  constructor
  intro x hx
  have same := x.same_refl s
  cases x
  case cis | queues | ents => simp at hx
  all_goals exact same

theorem State.setSched_touches (s : State) (p : Nat) (v : SchedSt) : Touches [.cis] s (s.setSched p v) := by
  constructor
  intro x hx
  have same := x.same_refl s
  cases x
  case cis => simp at hx
  all_goals exact same

theorem State.setPath_touches (s : State) (b : Nat) (l : List BasinItem) : Touches [.path] s (s.setPath b l) := by
  constructor
  intro x hx
  have same := x.same_refl s
  cases x
  case path => simp at hx
  all_goals exact same

theorem State.setFinItems_touches (s : State) (b : Nat) (l : List (Nat × Nat × Nat)) : Touches [.finQ] s (s.setFinItems b l) := by
  constructor
  intro x hx
  have same := x.same_refl s
  cases x
  case finQ => simp at hx
  all_goals exact same

theorem State.stageOut_touches (s : State) (o : ColOut) : Touches [.outQ] s (s.stageOut o) := by
  constructor
  intro x hx
  have same := x.same_refl s
  cases x
  case outQ => simp at hx
  all_goals exact same

theorem State.setCtx_touches (s : State) (c : Nat) (v : CtxSt) : Touches [.ctxs, .accd, .skipAt, .closedAt, .arrived] s (s.setCtx c v) := by
  constructor
  intro x hx
  have same := x.same_refl s
  cases x
  case ctxs | accd | skipAt | closedAt | arrived => simp at hx
  all_goals exact same

theorem State.setComm_touches (s : State) (m : Nat) (v : CommSt) : Touches [.comms, .releasing] s (s.setComm m v) := by
  constructor
  intro x hx
  have same := x.same_refl s
  cases x
  case comms | releasing => simp at hx
  all_goals exact same

theorem State.setArb_touches (s : State) (i : Nat) (v : ArbSt) : Touches [] s (s.setArb i v) := by
  constructor
  intro x _
  have same := x.same_refl s
  cases x <;> exact same

theorem State.setStopPkts_touches (s : State) (i r : Nat) (l : List RingPkt) : Touches [] s (s.setStopPkts i r l) := by
  constructor
  intro x _
  have same := x.same_refl s
  cases x <;> exact same

theorem State.nvmAppend_touches (s : State) (w : NvmWrite) : Touches [] s (s.nvmAppend w) := by
  constructor
  intro x _
  have same := x.same_refl s
  cases x <;> exact same

/-! ### The end of a command -/

theorem State.signalMsix_touches (s : State) (v : Fin 64) : Touches [.bar, .out] s (s.signalMsix v) := by
  have parts : wordParts (F.MSIX_PBA_PENDING (v.val / 32)).addr ⊆ [.bar, .out] := by
    have : v.val / 32 = 0 ∨ v.val / 32 = 1 := by omega
    obtain h | h := this <;> rw [h] <;> decide
  unfold State.signalMsix
  split
  · exact (s.orBits_touches _ _).mono parts
  · exact (s.emit_touches _).mono (by decide)

theorem State.signalRill_touches (s : State) (vp : Nat) : Touches [.bar, .out] s (s.signalRill vp) :=
  Touches.ite ((s.emit_touches _).seq (State.countMgmt_touches _ _ (by decide)) (by decide)) (Touches.refl s)

theorem pended_touches (s : State) (vp : Nat) : Touches [] s { s with obs := { s.obs with vpend := vp } } := by
  constructor
  intro x _
  have same := x.same_refl s
  cases x <;> exact same

theorem queued_touches (s : State) (l : List Instr) (n : Nat) :
    Touches [.time] s { s with pending := l, time := { s.time with core := n } } := by
  constructor
  intro x hx
  have same := x.same_refl s
  cases x
  case time => simp at hx
  all_goals exact same

theorem State.settle_touches (s : State) : Touches [.bar, .out] s s.settle := by
  refine Touches.step (Touches.foldl _ s fun t v hv => ?_) (pended_touches _ _) (by decide)
  refine Touches.ite ?_ (Touches.refl t)
  exact (t.signalMsix_touches ⟨v, List.mem_range.1 hv⟩).trans (State.signalRill_touches _ _)

/-- From its effect to its end a command signals interrupt vectors, and nothing else changes but the time, which is that of
the clock in which it runs. -/
structure Ended (u t : State) : Prop where
  touches : Touches [.out, .time, .bar] u t
  sent : Sent u t []

/-- A command of a part that runs completes, and what its effect and its end make true holds. -/
theorem completes_of_ended {c : Instr} {s u : State} {Q : State → Prop} (h : s.stopped = false) (hc : exec c s = finish s u)
    (hQ : ∀ t, Ended u t → Q t) : Completes c s Q := by
  refine ⟨_, hc.trans (finish_running h u), hQ _ ⟨u.settle_touches.seq (queued_touches _ _ _) (by decide), ?_⟩⟩
  obtain ⟨v, hv, e⟩ := u.settle_signalled
  rw [e]
  exact hv.sent

end Sys2Proof.Machine

namespace Sys2Proof.Machine

/-! ### Queues and their stall clocks -/

theorem State.queue_setQueue_cases (s : State) (p q : Nat) (v : QueueSt) (i j : Nat) :
    (s.setQueue p q v).queue i j = if 64 * i + j = 64 * p + q then v else s.queue i j := by
  split
  · next e =>
    unfold State.queue
    rw [e]
    exact SMap.get_set_same _ _ _ _
  · next e => exact SMap.get_set_ne _ _ _ e

/-- An update of a queue that keeps its entries and its wait. -/
theorem State.setQueue_keeps_ents (s : State) (p q : Nat) (v : QueueSt) (he : v.ents = (s.queue p q).ents)
    (hw : v.wait = (s.queue p q).wait) : Touches [.cis, .queues] s (s.setQueue p q v) := by
  constructor
  intro x hx
  by_cases hb : x = .ents
  · subst hb
    intro i j
    rw [s.queue_setQueue_cases]
    split
    · next e =>
      have same : s.queue i j = s.queue p q := by unfold State.queue; rw [e]
      exact ⟨he.trans (by rw [same]), hw.trans (by rw [same])⟩
    · exact ⟨rfl, rfl⟩
  · exact (s.setQueue_touches p q v).part x (by simp_all)

theorem State.markQueue_touches (s : State) (p q : Nat) : Touches [.cis, .queues] s (s.markQueue p q) := by
  have unblocked : Touches [.cis, .queues] s (if (s.queue p q).blockedSince = none then s
      else s.setQueue p q { s.queue p q with blockedSince := none, blockedHead := 0 }) :=
    (Touches.refl s).ite (s.setQueue_keeps_ents _ _ _ rfl rfl)
  unfold State.markQueue
  dsimp only
  split
  · exact unblocked
  · exact unblocked.ite ((Touches.refl s).ite (s.setQueue_keeps_ents _ _ _ rfl rfl))

theorem State.markPort_touches (s : State) (p : Nat) : Touches [.cis, .queues] s (s.markPort p) :=
  Touches.foldl _ s fun t q _ => t.markQueue_touches p q

theorem State.endStalls_touches (s : State) (p v : Nat) : Touches [.cis, .queues] s (s.endStalls p v) :=
  Touches.foldl _ s fun t q _ => Touches.ite
    (t.setQueue_keeps_ents p q { t.queue p q with stalled := false, blockedSince := none } rfl rfl) (Touches.refl t)

/-! ### The health service -/

theorem State.countRecs_touches (s : State) : Touches [.bar] s s.countRecs := (s.put_touches _ _).mono (by decide)

theorem State.judgeWarn_touches (s : State) (l : Nat) : Touches [.bar, .hlth] s (s.judgeWarn l) :=
  Touches.ite (((s.setLeaf_touches _ _).seq (State.orBits_touches _ _ _) (by decide)).step
    (State.logReport_touches _ _ _ _ _ _) (by decide)) ((s.setLeaf_touches _ _).mono (by decide))

theorem State.withdraw_touches (s : State) (l c : Nat) : Touches [.bar, .hlth] s (s.withdraw l c) := by
  have dropped : Touches [.bar, .hlth] s (s.dropCause l c) := (s.dropCause_touches l c).mono (by decide)
  refine Touches.ite ?_ dropped
  have held := dropped.step (State.setLeaf_touches _ l { (s.dropCause l c).leaf l with rec_ := none, cause := 0 }) (by decide)
  exact ((held.step (State.logReport_touches _ _ _ _ _ _) (by decide)).step (State.countMgmt_touches _ _ (by decide)) (by decide)).step
    (State.countRecs_touches _) (by decide)

theorem State.judgeScore_touches (s : State) (l : Nat) : Touches [.bar, .hlth] s (s.judgeScore l) := by
  refine (Touches.refl s).ite ?_
  have judged : Touches [.bar, .hlth] s (s.setLeaf l { s.leaf l with low := decide ((s.leaf l).score ≤ s.get F.HLTH_SCORE_FENCE) }) :=
    ((s.setLeaf_touches _ _).mono (by decide))
  exact (((judged.step (State.autoCause_touches _ _ _) (by decide)).ite judged)).ite
    ((judged.trans (State.withdraw_touches _ _ _)).ite judged)

theorem State.penalty_touches (s : State) (l n : Nat) : Touches [.bar, .hlth] s (s.penalty l n) :=
  (((s.setLeaf_touches _ _).mono (by decide)).trans (State.judgeWarn_touches _ l)).trans (State.judgeScore_touches _ l)

theorem State.portPenalty_touches (s : State) (p n : Nat) : Touches [.bar, .hlth] s (s.portPenalty p n) := by
  unfold State.portPenalty
  split
  · exact s.penalty_touches _ n
  · exact Touches.refl s

/-! ### The VCs of a link -/

@[simp] theorem State.vcSt_setVc (s : State) (p v : Nat) (x : VcSt) : (s.setVc p v x).vcSt p v = x := by
  simp [State.vcSt, State.setVc]

theorem State.vcSt_setVc_ne (s : State) (p v : Nat) (x : VcSt) {q w : Nat} (h : q ≠ p ∨ w ≠ v) :
    (s.setVc p v x).vcSt q w = s.vcSt q w := by
  unfold State.vcSt State.setVc
  by_cases e : q = p
  · subst e
    rw [State.portSt_setPort]
    exact SMap.get_set_ne _ _ _ (h.resolve_left fun h => h rfl)
  · rw [State.portSt_setPort_ne _ _ e]

theorem State.vcSt_congr {s t : State} (h : t.ports = s.ports) (p v : Nat) : t.vcSt p v = s.vcSt p v := by
  unfold State.vcSt State.portSt
  rw [h]

/-- An update of one VC leaves the rest of every link. -/
theorem State.setVc_touches (s : State) (p v : Nat) (x : VcSt) : Touches [.ports, .consumed] s (s.setVc p v x) := by
  have link : ∀ q, ((s.setVc p v x).portSt q = s.portSt q)
      ∨ (q = p ∧ (s.setVc p v x).portSt q = { s.portSt p with vcs := SMap.set (fun _ => {}) (s.portSt p).vcs v x }) := by
    intro q
    by_cases e : q = p
    · subst e
      exact .inr ⟨rfl, State.portSt_setPort _ _ _⟩
    · exact .inl (State.portSt_setPort_ne _ _ e)
  constructor
  intro y hy
  by_cases hl : y = .links
  · subst hl
    intro q
    obtain h | ⟨rfl, h⟩ := link q <;> rw [h]
  · by_cases ha : y = .answered
    · subst ha
      intro q
      obtain h | ⟨rfl, h⟩ := link q <;> rw [h]
    · exact (s.setPort_touches p _).part y (by simp_all)

/-- An update of one VC that keeps its consumed count. -/
theorem State.setVc_keeps_consumed (s : State) (p v : Nat) (x : VcSt) (hx : x.consumed = (s.vcSt p v).consumed) :
    Touches [.ports] s (s.setVc p v x) := by
  constructor
  intro y hy
  by_cases hc : y = .consumed
  · subst hc
    intro q w
    by_cases e : q = p ∧ w = v
    · obtain ⟨rfl, rfl⟩ := e
      rw [State.vcSt_setVc, hx]
    · rw [s.vcSt_setVc_ne p v x (by tauto)]
  · exact (s.setVc_touches p v x).part y (by simp_all)

/-! ### Credit and census -/

/-- A lane register other than PORTSTAT. -/
theorem wordParts_lane {a : Nat} (h : 0x100000 ≤ a) (h' : a < 0x500000) (hm : a % 0x1000 ≠ 0x104) :
    wordParts a ⊆ [.bar, .lane] := by
  refine wordParts_subset (by decide) fun x hx hc => ?_
  fin_cases hx <;> simp [Part.covers] at hc ⊢ <;> omega

/-- What a credit fault leaves in the port's registers and with the health service, once it is booked. -/
theorem State.creditFault_reports (s : State) (p : PortIx) (v : Nat) :
    Touches [.bar, .lane, .hlth] (s.book 1 (p * 8 + v) (some p)) (s.creditFault p v) := by
  have register : wordParts (F.LANE_PORTCENSUS1_FAULTS p).addr ⊆ [.bar, .lane] := by
    apply wordParts_lane <;> simp [F.LANE_PORTCENSUS1_FAULTS] <;> omega
  have shown : Touches [.bar, .lane] (s.book 1 (p * 8 + v) (some p)) (((s.book 1 (p * 8 + v) (some p)).addSat
      (F.LANE_PORTCENSUS1_FAULTS p) 1).put (F.LANE_PORTCENSUS1_LASTVC p) v) :=
    ((State.put_touches _ _ _).mono register).step (State.put_touches _ _ _) register
  exact (shown.seq (State.countPort_touches _ _ _ (by decide)) (by decide)).step (State.portPenalty_touches _ _ _) (by decide)

theorem State.creditFault_touches (s : State) (p : PortIx) (v : Nat) : Touches [.bar, .lane, .hlth] s (s.creditFault p v) :=
  ((s.book_touches _ _ (by decide)).mono (by decide)).trans (s.creditFault_reports p v)

theorem State.creditFault_bit (s : State) (p : PortIx) (v : Nat) : nbit ((s.creditFault p v).word 0x140).toNat 1 = 1 :=
  (s.creditFault_reports p v).part .books (by decide) 1 (s.bookWith_bit _ _ _ (by decide))

/-- S of a VC after a CREDIT with COUNT `count` (R352). -/
def State.creditsAfter (s : State) (p v count : Nat) : Nat :=
  let left := (s.peerC p v : Int) - toSigned 32 (ofSigned 32 (((s.vcSt p v).started : Int) - count))
  if (s.peerC p v : Int) < left then s.peerC p v else left.toNat

theorem State.creditsAfter_eq (s : State) (p v count : Nat) : (s.creditsAfter p v count : Int) = min (s.peerC p v : Int)
    (max 0 ((s.peerC p v : Int) - toSigned 32 (ofSigned 32 (((s.vcSt p v).started : Int) - count)))) := by
  unfold State.creditsAfter
  dsimp only
  split <;> omega

/-- A CREDIT gives S its value; beyond that it may be a fault, end stalls and start stall clocks. -/
theorem State.applyCredit_touches (s : State) (p : PortIx) (v count : Nat) : Touches [.bar, .lane, .hlth, .cis, .queues]
    (s.setVc p v { s.vcSt p v with credits := s.creditsAfter p v count }) (s.applyCredit p v count) := by
  have faulted : ∀ (t u : State) (c : Prop) [Decidable c], Touches [.bar, .lane, .hlth, .cis, .queues] t u →
      Touches [.bar, .lane, .hlth, .cis, .queues] t (if c then u.creditFault p v else u) :=
    fun t u c _ h => (h.step (u.creditFault_touches p v) (by decide)).ite h
  refine Touches.step ?_ (State.markPort_touches _ _) (by decide)
  have counted := ((State.countPort_touches (s.setVc p v { s.vcSt p v with credits := s.creditsAfter p v count }) p
    (ev := Ev.LINK_CREDIT_RX) 1 (by decide)).mono (ps := [.bar, .lane, .hlth, .cis, .queues]) (by decide))
  exact Touches.ite ((faulted _ _ _ counted).step (State.endStalls_touches _ _ _) (by decide)) (faulted _ _ _ counted)

end Sys2Proof.Machine

namespace Sys2Proof.Machine

/-! ### Link control received -/

/-- The state without the oldest link control frame of a port. -/
def State.withoutLc (s : State) (p : Nat) : State := { s with lcQ := s.lcQ.eraseP fun g => g.port == p }

/-- The oldest link control frame of a port is taken where it is of the type asked. -/
theorem State.takeLc_eq {s : State} {p : Nat} {f : LcFrame} {ok : Nat → Bool} (hf : s.lcQ.find? (fun g => g.port == p) = some f)
    (hok : ok (lcType f.bytes) = true) : s.takeLc p ok = some (f.bytes, s.withoutLc p) := by
  unfold State.takeLc
  rw [hf]
  exact if_pos hok

/-- A VC whose lost credit of `n` cells a census repairs (R45). -/
def VcSt.repaired (x : VcSt) (n now : Nat) : VcSt :=
  { x with
    received := (x.received + n) % 2 ^ 32, returned := (x.returned + n) % 2 ^ 32, force := true
    unsentSince := match x.unsentSince with
      | some t => some t
      | none => some now }

/-- The difference that a census finds. -/
def State.censusGap (s : State) (p v count : Nat) : Int := toSigned 32 (ofSigned 32 ((count : Int) - (s.vcSt p v).received))

theorem State.census_repairs (s : State) (p : PortIx) (v count : Nat) (h : 0 < s.censusGap p v count) :
    Touches [.bar, .lane] (s.setVc p v ((s.vcSt p v).repaired (s.censusGap p v count).toNat s.now)) (s.census p v count)
      ∧ nbit ((s.census p v count).word 0x140).toNat 0 = 1 := by
  have repaired : s.census p v count = (((((s.setVc p v ((s.vcSt p v).repaired (s.censusGap p v count).toNat s.now)).book 0 (p * 8 + v)
      (some p.val)).addSat (F.LANE_PORTCENSUS0_REPAIRED p) (s.censusGap p v count).toNat).countPort p Ev.CENSUS_REPAIR
        (s.censusGap p v count).toNat)) :=
    (if_neg h.ne').trans (if_neg h.not_gt)
  generalize s.setVc p v ((s.vcSt p v).repaired (s.censusGap p v count).toNat s.now) = t at *
  have register : wordParts (F.LANE_PORTCENSUS0_REPAIRED p).addr ⊆ [.bar, .lane] := by
    apply wordParts_lane <;> simp [F.LANE_PORTCENSUS0_REPAIRED] <;> omega
  have reports : Touches [.bar, .lane] (t.book 0 (p * 8 + v) (some p.val)) (s.census p v count) := by
    rw [repaired]
    exact ((State.put_touches _ _ _).mono register).step (State.countPort_touches _ _ _ (by decide)) (by decide)
  exact ⟨((t.book_touches _ _ (by decide)).mono (by decide)).trans reports, reports.part .books (by decide) 0 (t.bookWith_bit _ _ _ (by decide))⟩

theorem State.census_faults (s : State) (p v count : Nat) (h : s.censusGap p v count < 0) :
    s.census p v count = s.creditFault p v := (if_neg h.ne).trans (if_pos h)

theorem State.census_agrees (s : State) (p v count : Nat) (h : s.censusGap p v count = 0) : s.census p v count = s := if_pos h

/-! ### O11: credit and census received -/

theorem creditRx_sets_credits (p : PortIx) (f : LcFrame) (s : State) (hs : s.stopped = false) (hup : s.portUp p = true)
    (hf : s.lcQ.find? (fun g => g.port == p.val) = some f) (ht : lcType f.bytes = 0x01) :
    Completes (.creditRx p) s fun t =>
      t.lcQ = s.lcQ.eraseP (fun g => g.port == p.val)
        ∧ (t.vcSt p (lcVc f.bytes)).credits = s.creditsAfter p (lcVc f.bytes) (lcCount f.bytes)
        ∧ ∀ w, w ≠ lcVc f.bytes → t.vcSt p w = s.vcSt p w := by
  have effect : s.creditRx p = (s.withoutLc p).applyCredit p (lcVc f.bytes) (lcCount f.bytes) := by
    unfold State.creditRx
    rw [State.takeLc_eq hf (by rw [ht]; rfl)]
    exact if_pos hup
  refine completes_of_ended hs rfl fun t ht => ?_
  rw [effect] at ht
  have touched := ((s.withoutLc p).applyCredit_touches p (lcVc f.bytes) (lcCount f.bytes)).seq (ps := [.bar, .lane, .hlth, .cis, .queues, .out, .time])
    ht.touches (by decide)
  have ports := State.vcSt_congr (touched.part .ports (by decide)) p
  refine ⟨touched.part .lcQ (by decide), ?_, fun w hw => ?_⟩
  · rw [ports, State.vcSt_setVc]
    rfl
  · rw [ports, State.vcSt_setVc_ne _ _ _ _ (.inr hw)]
    rfl

theorem censusRx_repairs_or_faults (p : PortIx) (f : LcFrame) (s : State) (hs : s.stopped = false) (hup : s.portUp p = true)
    (hf : s.lcQ.find? (fun g => g.port == p.val) = some f) (ht : lcType f.bytes = 0x02) (h5 : lcVc f.bytes ≠ 5)
    (h7 : lcVc f.bytes ≠ 7) : Completes (.censusRx p) s fun t =>
      let v := lcVc f.bytes
      let d := s.censusGap p v (lcCount f.bytes)
      t.lcQ = s.lcQ.eraseP (fun g => g.port == p.val)
        ∧ (0 < d → (t.vcSt p v).received = ((s.vcSt p v).received + d.toNat) % 2 ^ 32
            ∧ (t.vcSt p v).returned = ((s.vcSt p v).returned + d.toNat) % 2 ^ 32 ∧ nbit (t.word 0x140).toNat 0 = 1)
        ∧ (d ≤ 0 → ∀ w, t.vcSt p w = s.vcSt p w)
        ∧ (d < 0 → nbit (t.word 0x140).toNat 1 = 1) := by
  have effect : s.censusRx p = (s.withoutLc p).census p (lcVc f.bytes) (lcCount f.bytes) := by
    unfold State.censusRx
    rw [State.takeLc_eq hf (by rw [ht]; rfl)]
    exact if_pos ⟨hup, h5, h7⟩
  have gap : (s.withoutLc p).censusGap p (lcVc f.bytes) (lcCount f.bytes) = s.censusGap p (lcVc f.bytes) (lcCount f.bytes) := rfl
  have vcs : ∀ w, (s.withoutLc p).vcSt p w = s.vcSt p w := fun _ => rfl
  refine completes_of_ended hs rfl fun t ht => ?_
  rw [effect] at ht
  generalize lcVc f.bytes = v at *
  generalize lcCount f.bytes = count at *
  have books := ht.touches.part .books (by decide)
  have ports := State.vcSt_congr (ht.touches.part .ports (by decide)) p
  have lcQ : t.lcQ = _ := ht.touches.part .lcQ (by decide)
  dsimp only
  rw [← gap]
  obtain neg | zero | pos := lt_trichotomy ((s.withoutLc p).censusGap p v count) 0
  · rw [State.census_faults _ _ _ _ neg] at books ports lcQ
    have fault := (s.withoutLc p).creditFault_touches p v
    refine ⟨lcQ.trans (fault.part .lcQ (by decide)), fun h => absurd h neg.not_gt, fun _ w => ?_, fun _ => ?_⟩
    · rw [ports, State.vcSt_congr (fault.part .ports (by decide)), vcs]
    · exact books 1 (State.creditFault_bit _ _ _)
  · rw [State.census_agrees _ _ _ _ zero] at ports lcQ
    exact ⟨lcQ, fun h => absurd zero h.ne', fun _ => ports, fun h => absurd zero h.ne⟩
  · obtain ⟨repair, bit⟩ := (s.withoutLc p).census_repairs p v count pos
    have repaired := State.vcSt_congr (repair.part .ports (by decide)) p v
    rw [State.vcSt_setVc] at repaired
    refine ⟨lcQ.trans (repair.part .lcQ (by decide)), fun _ => ?_, fun h => absurd pos h.not_gt, fun h => absurd pos h.not_gt⟩
    rw [ports, repaired]
    exact ⟨rfl, rfl, books 0 bit⟩

theorem linkLcRsv_only_counts (p : PortIx) (f : LcFrame) (s : State) (hs : s.stopped = false)
    (hf : s.lcQ.find? (fun g => g.port == p.val) = some f) (ht : lcType f.bytes ∉ [0x01, 0x02, 0x03, 0x10, 0x11]) :
    Completes (.linkLcRsv p) s fun t =>
      t.lcQ = s.lcQ.eraseP (fun g => g.port == p.val) ∧ t.ports = s.ports ∧ t.fwd = s.fwd ∧ t.cis = s.cis ∧ t.hlth = s.hlth := by
  have effect : s.lcReserved p = (s.withoutLc p).countPort p Ev.LINK_LC_RSV 1 := by
    unfold State.lcReserved
    rw [State.takeLc_eq hf (by simpa using ht)]
  refine completes_of_ended hs rfl fun t ht => ?_
  rw [effect] at ht
  have touched := ((State.countPort_touches (s.withoutLc p) p (ev := Ev.LINK_LC_RSV) 1 (by decide)).mono (by decide)).trans ht.touches
  exact ⟨touched.part .lcQ (by decide), touched.part .ports (by decide), touched.part .fwd (by decide),
    touched.part .cis (by decide), touched.part .hlth (by decide)⟩

/-- Settles O11: CREDIT, CENSUS and a reserved type each take their frame and change the counts of their VC alone. -/
theorem receivedCreditAndCensusMoveTheCounts : Obligations.ReceivedCreditAndCensusMoveTheCounts := by
  refine ⟨fun p f s hs hup hf ht => ?_, censusRx_repairs_or_faults, linkLcRsv_only_counts⟩
  obtain ⟨t, e, lcQ, credits, rest⟩ := creditRx_sets_credits p f s hs hup hf ht
  exact ⟨t, e, lcQ, by rw [credits, State.creditsAfter_eq], rest⟩

end Sys2Proof.Machine

namespace Sys2Proof.Machine

/-! ### Fields read after several were given values -/

/-- Two fields share no bit. -/
def FRef.apart (f g : FRef) : Prop := f.addr ≠ g.addr ∨ f.hi < g.lo ∨ g.hi < f.lo

theorem State.get_congr {s t : State} {f : FRef} (h : t.word f.addr = s.word f.addr) : t.get f = s.get f := by
  unfold State.get
  rw [h]

theorem State.word_congr {s t : State} (h : t.bar = s.bar) (a : Nat) : t.word a = s.word a := by
  unfold State.word
  rw [h]

theorem State.get_put_apart (s : State) {f g : FRef} (hf : f.ok) (hg : g.ok) (h : f.apart g) (v : Nat) :
    (s.put f v).get g = s.get g := by
  obtain h | h := h
  · exact s.get_put_ne f g h.symm v
  · exact s.get_put_disj f g hf hg h v

theorem State.get_puts_apart (s : State) (l : List (FRef × Nat)) {g : FRef} (hg : g.ok)
    (h : ∀ x ∈ l, x.1.ok ∧ x.1.apart g) : (s.puts l).get g = s.get g := by
  induction l generalizing s with
  | nil => rfl
  | cons x l ih =>
    obtain ⟨hx, hl⟩ := List.forall_mem_cons.1 h
    exact (ih (s.put x.1 x.2) hl).trans (s.get_put_apart hx.1 hg hx.2 _)

/-- Of fields that share no bits, given values in turn, each reads as its own. -/
theorem State.get_puts_mem (s : State) {l : List (FRef × Nat)} (hok : ∀ x ∈ l, x.1.ok)
    (hl : l.Pairwise fun x y => y.1.apart x.1) {f : FRef} {v : Nat} (h : (f, v) ∈ l) : (s.puts l).get f = v % 2 ^ f.width := by
  induction l generalizing s with
  | nil => cases h
  | cons x l ih =>
    obtain ⟨hx, hl⟩ := List.pairwise_cons.1 hl
    obtain ⟨hxok, hlok⟩ := List.forall_mem_cons.1 hok
    obtain rfl | h := List.mem_cons.1 h
    · exact (State.get_puts_apart _ l hxok fun y hy => ⟨hlok y hy, hx y hy⟩).trans (s.get_put_same f hxok v)
    · exact ih (s.put x.1 x.2) hlok hl h

theorem State.word_puts_ne (s : State) (l : List (FRef × Nat)) {a : Nat} (h : ∀ x ∈ l, x.1.addr ≠ a) :
    (s.puts l).word a = s.word a := by
  induction l generalizing s with
  | nil => rfl
  | cons x l ih =>
    obtain ⟨hx, hl⟩ := List.forall_mem_cons.1 h
    exact (ih (s.put x.1 x.2) hl).trans (State.word_setWord_ne _ _ hx.symm)

theorem State.puts_touches {ps : List Part} (s : State) (l : List (FRef × Nat)) (h : ∀ x ∈ l, wordParts x.1.addr ⊆ ps) :
    Touches ps s (s.puts l) := Touches.foldl _ s fun t x hx => (t.put_touches x.1 x.2).mono (h x hx)

/-! ### Links -/

/-- An update of a link that keeps its VCs and whether the exchange has been answered. -/
theorem State.modPort_touches (s : State) (p : Nat) (f : PortSt → PortSt) (hv : (f (s.portSt p)).vcs = (s.portSt p).vcs)
    (ha : (f (s.portSt p)).answered = (s.portSt p).answered) : Touches [.ports, .links] s (s.modPort p f) := by
  have link : ∀ q, ((s.modPort p f).portSt q = s.portSt q) ∨ (q = p ∧ (s.modPort p f).portSt q = f (s.portSt p)) := by
    intro q
    by_cases e : q = p
    · subst e
      exact .inr ⟨rfl, State.portSt_setPort _ _ _⟩
    · exact .inl (State.portSt_setPort_ne _ _ e)
  constructor
  intro x hx
  by_cases ha' : x = .answered
  · subst ha'
    intro q
    obtain h | ⟨rfl, h⟩ := link q <;> rw [h]
    exact ha
  · by_cases hc : x = .consumed
    · subst hc
      intro q w
      obtain h | ⟨rfl, h⟩ := link q
      · rw [State.vcSt, State.vcSt, h]
      · rw [State.vcSt, State.vcSt, h, hv]
    · exact (s.setPort_touches p _).part x (by simp_all)

/-- PORTSTAT. -/
theorem wordParts_portStat {a : Nat} (h : 0x100000 ≤ a) (h' : a < 0x500000) (hm : a % 0x1000 = 0x104) :
    wordParts a ⊆ [.bar, .portStat] := by
  refine wordParts_subset (by decide) fun x hx hc => ?_
  fin_cases hx <;> simp [Part.covers] at hc ⊢ <;> omega

theorem State.setPortState_touches (s : State) (p : PortIx) (st : Nat) :
    Touches [.bar, .portStat, .ports, .links] s (s.setPortState p st) := by
  have register : wordParts (F.LANE_PORTSTAT_STATE p).addr ⊆ [.bar, .portStat] := by
    apply wordParts_portStat <;> simp [F.LANE_PORTSTAT_STATE] <;> omega
  exact ((s.put_touches _ _).mono register).seq (State.modPort_touches _ p (fun x => { x with since := s.now }) rfl rfl) (by decide)

theorem State.portState_congr {s t : State} (h : Part.portStat.same s t) (p : PortIx) : t.portState p = s.portState p := by
  have address : (F.LANE_PORTSTAT_STATE p).addr = 0x100104 + p.val * 0x1000 := rfl
  refine State.get_congr (h _ ?_)
  rw [address]
  simp only [Part.covers, Bool.and_eq_true, beq_iff_eq]
  exact ⟨⟨decide_eq_true (by omega), decide_eq_true (by omega)⟩, by omega⟩

theorem State.portState_setPortState (s : State) (p : PortIx) (st : Nat) (hst : st < 8) : (s.setPortState p st).portState p = st := by
  have bar : (s.setPortState p st).bar = (s.put (F.LANE_PORTSTAT_STATE p) st).bar := rfl
  have ok : (F.LANE_PORTSTAT_STATE p).ok := ⟨Nat.le_add_right 29 2, Nat.lt_succ_self 31⟩
  rw [State.portState, State.get_congr (State.word_congr bar _), s.get_put_same _ ok]
  exact Nat.mod_eq_of_lt hst

/-! ### Frames received -/

theorem State.sampleStep_touches (s : State) (p v : Nat) : Touches [.ports, .links] s (s.sampleStep p v).2 := by
  unfold State.sampleStep
  split
  · exact s.modPort_touches p (fun x => { x with lfsr := some _ }) rfl rfl
  · exact Touches.refl s

theorem State.rxData_touches (s : State) (f : RxFrame) : Touches [.ports, .links, .fwd] s (s.rxData f) := by
  have received := s.setVc_keeps_consumed f.port (pVc f.bytes) { s.vcSt f.port (pVc f.bytes) with
    received := ((s.vcSt f.port (pVc f.bytes)).received + cellsOf f.bytes.length) % 2 ^ 32 } rfl
  have sampled := (received.mono (by decide)).trans (State.sampleStep_touches _ f.port (pVc f.bytes))
  exact sampled.seq (State.setInBuf_touches _ _ _) (by decide)

/-! ### Groups -/

/-- The regions from the pages of the groups up. -/
def highParts : List Part := [.bar, .fwdCfg, .colCfg, .tables, .ctxWords]

theorem wordParts_high {a : Nat} (h : 0x500000 ≤ a) : wordParts a ⊆ highParts := by
  refine wordParts_subset (by decide) fun x hx hc => ?_
  fin_cases hx <;> simp [Part.covers, highParts] at hc ⊢ <;> omega

/-- The registers that show the members of a group. -/
theorem wordParts_group (g : Nat) : wordParts (0x500124 + g * 0x1000) ⊆ highParts := wordParts_high (by omega)

theorem State.setMiswire_touches (s : State) (p : Nat) (on : Bool) : Touches highParts s (s.setMiswire p on) := by
  unfold State.setMiswire
  split
  · exact Touches.refl s
  · next g i _ =>
    split
    · exact (s.orBits_touches (F.GROUP_GRPSTAT_MISWIRE g) _).mono (wordParts_group g)
    · exact (s.put_touches (F.GROUP_GRPSTAT_MISWIRE g) _).mono (wordParts_group g)

/-- What the check of a port's place in its group may change. -/
def miswireParts : List Part := [.bar, .fwdCfg, .colCfg, .tables, .ctxWords, .ports, .links, .hlth]

theorem State.checkMiswire_touches (s : State) (p : Nat) :
    Touches miswireParts s (s.checkMiswire p) := by
  unfold State.checkMiswire
  split
  · exact Touches.refl s
  · refine (Touches.refl s).ite (Touches.ite ((s.setMiswire_touches p true).mono (by decide)) ?_)
    have marked := ((s.modPort_touches p (fun x => { x with miswired := true }) rfl rfl).mono (by decide)).step (State.setMiswire_touches _ p true)
      (ps := miswireParts) (by decide)
    exact ((marked.step (State.countIn_touches _ _ _ (by decide)) (by decide)).step (State.logReport_touches _ _ _ _ _ _) (by decide)).step
      (State.portPenalty_touches _ _ _) (by decide)

theorem State.spliceQueues_touches (s : State) (p q : Nat) : Touches [.cis, .queues, .ents] s (s.spliceQueues p q) :=
  Touches.foldl _ s fun t _ _ => ((t.setQueue_touches _ _ _).trans (State.setQueue_touches _ _ _ _)).step
    (State.markQueue_touches _ _ _) (by decide)

/-- The ports that a group notes as left without a substitute (R120). -/
theorem noteDown_touches (s : State) (l : List (Nat × Nat)) : Touches [.fwd] s { s with fwd := { s.fwd with lastDown := l } } := by
  constructor
  intro x hx
  have same := x.same_refl s
  cases x
  case fwd => simp at hx
  all_goals exact same

theorem State.leaveQueues_touches (s : State) (g i : Nat) : Touches [.fwd, .cis, .queues, .ents] s (s.leaveQueues g i) := by
  unfold State.leaveQueues
  split
  · exact (noteDown_touches s _).mono (by decide)
  · exact (s.spliceQueues_touches _ _).seq (State.countAt_touches _ _ _ (by decide)) (by decide)

theorem State.waitFor_touches (s : State) (p q : Nat) : Touches [.cis, .queues, .ents] s (s.waitFor p q) :=
  Touches.foldl _ s fun t _ _ => t.setQueue_touches _ _ _

theorem State.takeOrphans_touches (s : State) (g p : Nat) : Touches [.fwd, .cis, .queues, .ents] s (s.takeOrphans g p) :=
  ((noteDown_touches s _).mono (by decide)).trans (Touches.foldl _ _ fun t _ _ =>
    ((t.spliceQueues_touches _ _).seq (State.countAt_touches _ _ _ (by decide)) (by decide)).ite (Touches.refl t))

/-- What a change of a member's liveness may change. -/
def refreshParts : List Part := [.bar, .fwdCfg, .colCfg, .tables, .ctxWords, .fwd, .cis, .queues, .ents]

theorem State.memberUp_touches (s : State) (g i : Nat) :
    Touches refreshParts s (s.memberUp g i) := by
  have shown := (((s.orBits_touches (F.GROUP_GRPSTAT_LIVE g) (2 ^ i)).mono (wordParts_group g)).mono
    (ps := refreshParts) (by decide))
  unfold State.memberUp
  dsimp only
  split
  · exact shown.step (State.waitFor_touches _ _ _) (by decide)
  · exact shown.step (State.takeOrphans_touches _ _ _) (by decide)

theorem State.refreshPort_touches (s : State) (p : Nat) :
    Touches refreshParts s (s.refreshPort p) := by
  unfold State.refreshPort
  split
  · next g i _ =>
    refine Touches.ite ((Touches.refl s).ite ?_) (Touches.ite ?_ (Touches.refl s))
    · exact s.memberUp_touches g i
    · have shown := (((s.put_touches (F.GROUP_GRPSTAT_LIVE g)
        (s.get (F.GROUP_GRPSTAT_LIVE g) - (s.get (F.GROUP_GRPSTAT_LIVE g) &&& 2 ^ i))).mono
        (wordParts_group g)).mono (ps := refreshParts) (by decide))
      exact shown.step (State.leaveQueues_touches _ _ _) (by decide)
  · exact Touches.refl s

/-! ### Entry to UP -/

theorem State.startVcs_touches (s : State) (p : Nat) : Touches [.ports, .consumed] s (s.startVcs p) :=
  Touches.foldl _ s fun t _ _ => t.setVc_touches _ _ _

theorem State.setLossy_touches (s : State) (n : Nat) : Touches [.bar] s (s.setLossy n) :=
  s.puts_touches _ (by simp; decide)

theorem State.recomputeLossy_touches (s : State) : Touches [.bar] s s.recomputeLossy :=
  Touches.ite (((s.put_touches _ _).mono (by decide)).trans (State.setLossy_touches _ _))
    (((s.put_touches _ _).mono (by decide)).trans (State.setLossy_touches _ _))

theorem State.leafPortUp_touches (s : State) (p : Nat) : Touches [.bar, .hlth] s (s.leafPortUp p) := by
  unfold State.leafPortUp
  split
  · exact Touches.refl s
  · exact ((s.setLeaf_touches _ _).mono (by decide)).trans (State.withdraw_touches _ _ _)

/-- What entry to UP may change beside the port's state. -/
def upParts : List Part :=
  [.bar, .fwdCfg, .colCfg, .tables, .ctxWords, .ports, .links, .consumed, .fwd, .hlth, .cis, .queues, .ents]

theorem State.enterUp_touches (s : State) (p : PortIx) : Touches upParts (s.setPortState p 5) (s.enterUp p) := by
  have started : Touches upParts (s.setPortState p 5)
      (((s.setPortState p 5).modPort p fun y => { y with headActive := y.headAdv, early := [] }).startVcs p) :=
    (State.modPort_touches _ _ _ rfl rfl).seq (State.startVcs_touches _ _) (by decide)
  have counted := (started.step (State.recomputeLossy_touches _) (by decide)).step
    (State.countPort_touches _ p (ev := Ev.LINK_UP) 1 (by decide)) (by decide)
  have joined := ((counted.step (State.leafPortUp_touches _ p) (by decide)).step (State.checkMiswire_touches _ p) (by decide)).step
    (State.refreshPort_touches _ p) (by decide)
  exact (joined.step (State.markPort_touches _ p) (by decide)).trans
    (Touches.foldl _ _ fun t f _ => ((t.rxData_touches f).mono (by decide)))

end Sys2Proof.Machine

namespace Sys2Proof.Machine

/-! ### The attempt to enter UP -/

theorem State.tryUp_touches (s : State) (p : PortIx) : Touches (.portStat :: upParts) s (s.tryUp p) := by
  unfold State.tryUp
  dsimp only
  split
  · exact (s.setPortState_touches p 5).seq (s.enterUp_touches p) (by decide)
  · exact Touches.refl s

/-- Both halves of the exchange, the lanes and the freeze decide the state that a port in ADVERT takes (R344, R359). -/
theorem State.portState_tryUp (s : State) (p : PortIx) (h4 : s.portState p = 4) :
    (s.tryUp p).portState p = if (s.portSt p).acked = true ∧ (s.portSt p).answered = true ∧ s.lanesLocked p = true
      ∧ s.portFrozen p = false then 5 else 4 := by
  have entered : (s.enterUp p).portState p = 5 := by
    rw [State.portState_congr ((s.enterUp_touches p).part .portStat (by decide))]
    exact s.portState_setPortState p 5 (by decide)
  unfold State.tryUp
  simp only [h4, true_and, Bool.not_eq_true']
  split
  · exact entered
  · exact h4

/-- Whether the lanes of a port are locked, and whether it is frozen, is read from other registers than those of its peer. -/
theorem State.lanesLocked_congr {s t : State} (h : ∀ a, a % 0x1000 ∈ [0x10, 0x100, 0x184] → t.word a = s.word a) (p : Nat) :
    t.lanesLocked p = s.lanesLocked p ∧ t.portFrozen p = s.portFrozen p := by
  have speed : t.get (F.LANE_PORTCFG_SPEED p) = s.get (F.LANE_PORTCFG_SPEED p) :=
    State.get_congr (h _ (by simp [F.LANE_PORTCFG_SPEED, Nat.add_mod]))
  have lanes : ∀ l, t.word (0x100184 + l * 0x1000) = s.word (0x100184 + l * 0x1000) := fun l => h _ (by simp [Nat.add_mod])
  have signal : ∀ l, t.get (F.LANE_LANESTAT_SIGNAL l) = s.get (F.LANE_LANESTAT_SIGNAL l) := fun l => State.get_congr (lanes l)
  have aligned : ∀ l, t.get (F.LANE_LANESTAT_ALIGNED l) = s.get (F.LANE_LANESTAT_ALIGNED l) := fun l => State.get_congr (lanes l)
  have freeze : t.get (F.COMMON_CTRL_FREEZE (0x100 + p)) = s.get (F.COMMON_CTRL_FREEZE (0x100 + p)) :=
    State.get_congr (h _ (by simp [F.COMMON_CTRL_FREEZE, Nat.add_mod]))
  constructor
  · simp only [State.lanesLocked, State.lanesLit, State.lanesOf, State.portLanes, State.on, speed, signal, aligned]
  · simp only [State.portFrozen, State.on, freeze]

/-! ### An accepted ADVERT -/

/-- What an accepted ADVERT shows of the peer. -/
def peerFields (p : Nat) (b : List Byte) : List (FRef × Nat) := [
  (F.LANE_PORTPEER_VALID p, 1), (F.LANE_PORTPEER_ROLE p, advRole b), (F.LANE_PORTPEER_NUMBER p, advNumber b),
  (F.LANE_PEERADV0_ACCEPT p, advAccept b), (F.LANE_PEERADV0_H p, advH b),
  (F.LANE_PEERADV1_G0 p, advG b 0), (F.LANE_PEERADV1_G1 p, advG b 1), (F.LANE_PEERADV1_G2 p, advG b 2), (F.LANE_PEERADV1_G3 p, advG b 3),
  (F.LANE_PEERADV2_G4 p, advG b 4), (F.LANE_PEERADV2_G5 p, advG b 5), (F.LANE_PEERADV2_G6 p, advG b 6), (F.LANE_PEERADV2_G7 p, advG b 7)]

/-- The port has kept an ADVERT. -/
def State.advertKept (s : State) (p : Nat) (b : List Byte) : State := s.modPort p fun x => { x with acked := true, peerBody := b }

/-- The port has shown the peer, and its leaf is known. -/
def State.advertShown (s : State) (p : Nat) (b : List Byte) : State := (s.puts (peerFields p b)).associate p (some (advNumber b))

/-- The port has kept, shown and acknowledged an ADVERT. -/
def State.advertTaken (s : State) (p : Nat) (b : List Byte) : State :=
  ((s.advertKept p b).advertShown p b).sendLc p (lcBody 0x11 0 (crcStd b))

theorem peerFields_ok (p : Nat) (b : List Byte) : ∀ x ∈ peerFields p b, x.1.ok := by
  simp [peerFields, FRef.ok, F.LANE_PORTPEER_VALID, F.LANE_PORTPEER_ROLE, F.LANE_PORTPEER_NUMBER, F.LANE_PEERADV0_ACCEPT,
    F.LANE_PEERADV0_H, F.LANE_PEERADV1_G0, F.LANE_PEERADV1_G1, F.LANE_PEERADV1_G2, F.LANE_PEERADV1_G3, F.LANE_PEERADV2_G4,
    F.LANE_PEERADV2_G5, F.LANE_PEERADV2_G6, F.LANE_PEERADV2_G7]

theorem peerFields_apart (p : Nat) (b : List Byte) : (peerFields p b).Pairwise fun x y => y.1.apart x.1 := by
  simp [peerFields, FRef.apart, F.LANE_PORTPEER_VALID, F.LANE_PORTPEER_ROLE, F.LANE_PORTPEER_NUMBER, F.LANE_PEERADV0_ACCEPT,
    F.LANE_PEERADV0_H, F.LANE_PEERADV1_G0, F.LANE_PEERADV1_G1, F.LANE_PEERADV1_G2, F.LANE_PEERADV1_G3, F.LANE_PEERADV2_G4,
    F.LANE_PEERADV2_G5, F.LANE_PEERADV2_G6, F.LANE_PEERADV2_G7]

/-- The registers of the peer. -/
theorem peerFields_addr (p : Nat) (b : List Byte) : ∀ x ∈ peerFields p b,
    x.1.addr ∈ [0x100108 + p * 0x1000, 0x100120 + p * 0x1000, 0x100124 + p * 0x1000, 0x100128 + p * 0x1000] := by
  simp [peerFields, F.LANE_PORTPEER_VALID, F.LANE_PORTPEER_ROLE, F.LANE_PORTPEER_NUMBER, F.LANE_PEERADV0_ACCEPT,
    F.LANE_PEERADV0_H, F.LANE_PEERADV1_G0, F.LANE_PEERADV1_G1, F.LANE_PEERADV1_G2, F.LANE_PEERADV1_G3, F.LANE_PEERADV2_G4,
    F.LANE_PEERADV2_G5, F.LANE_PEERADV2_G6, F.LANE_PEERADV2_G7]

theorem State.advertKept_touches (s : State) (p : Nat) (b : List Byte) : Touches [.ports, .links] s (s.advertKept p b) :=
  s.modPort_touches p (fun x => { x with acked := true, peerBody := b }) rfl rfl

theorem State.acked_advertKept (s : State) (p : Nat) (b : List Byte) : ((s.advertKept p b).portSt p).acked = true := by
  unfold State.advertKept State.modPort
  rw [State.portSt_setPort]

theorem State.advertShown_touches (s : State) (p : PortIx) (b : List Byte) : Touches [.bar, .lane, .hlth] s (s.advertShown p b) := by
  have registers : ∀ x ∈ peerFields p b, wordParts x.1.addr ⊆ [.bar, .lane] := by
    intro x hx
    have address := peerFields_addr p b x hx
    simp only [List.mem_cons, List.not_mem_nil, or_false] at address
    apply wordParts_lane <;> omega
  exact (s.puts_touches (peerFields p b) registers).seq (State.associate_touches _ _ _) (by decide)

theorem State.advertTaken_touches (s : State) (p : PortIx) (b : List Byte) :
    Touches [.bar, .lane, .ports, .links, .hlth, .out] s (s.advertTaken p b) :=
  ((s.advertKept_touches p b).seq ((s.advertKept p b).advertShown_touches p b) (by decide)).step (State.emit_touches _ _) (by decide)

theorem State.acked_advertTaken (s : State) (p : PortIx) (b : List Byte) : ((s.advertTaken p b).portSt p).acked = true := by
  have ports : (s.advertTaken p b).ports = (s.advertKept p b).ports :=
    (((s.advertKept p b).advertShown_touches p b).seq (ps := [.bar, .lane, .hlth, .out]) (State.emit_touches _ _) (by decide)).part .ports
      (by decide)
  rw [State.portSt, ports]
  exact s.acked_advertKept p b

/-- An ADVACK leaves. -/
theorem State.out_advertTaken (s : State) (p : PortIx) (b : List Byte) : (s.advertTaken p b).obs.out
    = .linkControl p (lcBody 0x11 0 (crcStd b) ++ linkCheck (lcBody 0x11 0 (crcStd b))) :: s.obs.out := by
  have before : ((s.advertKept p b).advertShown p b).obs.out = s.obs.out :=
    (s.advertKept_touches p b).seq (ps := [.bar, .lane, .ports, .links, .hlth])
      ((s.advertKept p b).advertShown_touches p b) (by decide) |>.part .out (by decide)
  rw [← before]
  rfl

/-- Its registers are those that show the peer. -/
theorem State.advertTaken_bar (s : State) (p : Nat) (b : List Byte) :
    (s.advertTaken p b).bar = ((s.advertKept p b).puts (peerFields p b)).bar :=
  (((State.associate_touches _ p (some (advNumber b))).mono (ps := [.hlth, .out]) (by decide)) |>.step (State.emit_touches _ _) (by decide)).part .bar
    (by decide)

theorem State.advertTaken_word (s : State) (p : PortIx) (b : List Byte) (a : Nat) (ha : a % 0x1000 ∈ [0x10, 0x100, 0x184]) :
    (s.advertTaken p b).word a = s.word a := by
  rw [State.word_congr (s.advertTaken_bar p b)]
  refine (State.word_puts_ne _ (peerFields p b) fun x hx => ?_).trans (State.word_congr ((s.advertKept_touches p b).part .bar (by decide)) a)
  have address := peerFields_addr p b x hx
  simp only [List.mem_cons, List.not_mem_nil, or_false] at address ha
  omega

/-- Each field of the peer shows its value, which it can hold. -/
theorem State.advertTaken_shows (s : State) (p : PortIx) (b : List Byte) {f : FRef} {v : Nat} (h : (f, v) ∈ peerFields p b)
    (hv : v < 2 ^ f.width) : (s.advertTaken p b).get f = v :=
  (State.get_congr (State.word_congr (s.advertTaken_bar p b) _)).trans <|
    (State.get_puts_mem _ (peerFields_ok p b) (peerFields_apart p b) h).trans (Nat.mod_eq_of_lt hv)

theorem hbits_lt (b : List Byte) (i j : Nat) : hbits b i j < 2 ^ (j - i + 1) := Nat.mod_lt _ (Nat.two_pow_pos _)

end Sys2Proof.Machine

namespace Sys2Proof.Machine

/-! ### Cells and packets freed -/

theorem State.culletAppend_touches (s : State) (kind reason i : Nat) : Touches [.bar] s (s.culletAppend kind reason i) := by
  have volatile : ∀ (t : State) (l : List (Nat × Nat)), Touches [] t { t with nvm := { t.nvm with volatileCullet := l } } := by
    intro t l
    constructor
    intro x _
    have same := x.same_refl t
    cases x <;> exact same
  unfold State.culletAppend
  split
  · exact Touches.refl s
  · have logged := ((s.logReport_touches Ev.RETIRE 0xf01 (leNat (slice (culletBytes kind reason i s.time.sec) 0 4))
      (leNat (slice (culletBytes kind reason i s.time.sec) 4 4)) (leNat (slice (culletBytes kind reason i s.time.sec) 8 4))).mono (ps := [.bar]) (by decide))
    dsimp only
    split
    · exact logged.step (State.nvmAppend_touches _ _) (by decide)
    · exact (logged.step (volatile _ _) (by decide)).step (State.put_touches _ _ _) (by decide)

/-- A cell is retired, and what follows from it is in registers and the cullet alone. -/
theorem State.retireCell_sets (s : State) (c : Nat) : Touches [.bar] (s.setCell c { st := .retired, bad := true }) (s.retireCell c) := by
  have retired := (s.setCell c { st := .retired, bad := true }).culletAppend_touches 1 1 c
  unfold State.retireCell
  dsimp only
  split
  · exact retired.trans (State.setLossy_touches _ _)
  · split
    · exact retired.step (State.put_touches _ _ _) (by decide)
    · exact (retired.step (State.put_touches _ _ _) (by decide)).step (State.logReport_touches _ _ _ _ _ _) (by decide)

/-- What a cell is once it is free. -/
def Cell.freed (x : Cell) : Cell := if x.bad then { st := .retired, bad := true } else {}

theorem State.freeCell_sets (s : State) (c : Nat) : Touches [.bar, .cis] (s.setCell c (s.cell c).freed) (s.freeCell c) := by
  unfold State.freeCell Cell.freed
  split
  · exact (s.retireCell_sets c).mono (by decide)
  · exact (State.setFreed_touches _ _).mono (by decide)

theorem State.freeCell_touches (s : State) (c : Nat) : Touches [.bar, .cis, .cells] s (s.freeCell c) :=
  (s.setCell_touches c _).seq (s.freeCell_sets c) (by decide)

theorem State.returnCredit_touches (s : State) (p v n : Nat) : Touches [.ports] s (s.returnCredit p v n) := by
  unfold State.returnCredit
  split
  · exact Touches.refl s
  · exact s.setVc_keeps_consumed p v _ rfl

theorem State.noteAccount_touches (s : State) (a : Account) (n : Nat) : Touches [.cis] s (s.noteAccount a n) := by
  cases a with
  | port p v => exact Touches.refl s
  | lossy => exact s.setFreed_touches _
  | vc5 => exact s.setFreed_touches _
  | origin => exact s.setFreed_touches _

/-- A packet released is gone, and no other packet with it. -/
theorem State.releasePkt_gone (s : State) (i : Nat) : Touches [.bar, .cis, .cells, .ports] (s.setPkt i none) (s.releasePkt i)
    ∨ (s.pkt? i = none ∧ s.releasePkt i = s) := by
  unfold State.releasePkt
  split
  · next h => exact .inr ⟨h, rfl⟩
  · next k h =>
    have freed : Touches [.bar, .cis, .cells, .ports] (s.setPkt i none) (k.cells.foldl State.freeCell (s.setPkt i none)) :=
      Touches.foldl _ _ fun t c _ => (t.freeCell_touches c).mono (by decide)
    refine .inl ?_
    dsimp only
    split
    · exact freed.step (State.returnCredit_touches _ _ _ _) (by decide)
    · exact freed.step (State.noteAccount_touches _ _ _) (by decide)

theorem State.releasePkt_touches (s : State) (i : Nat) : Touches [.bar, .cis, .cells, .pkts, .ports] s (s.releasePkt i) := by
  obtain h | ⟨_, h⟩ := s.releasePkt_gone i
  · exact (s.setPkt_touches i none).seq h (by decide)
  · rw [h]
    exact Touches.refl s

theorem State.unref_touches (s : State) (i : Nat) : Touches [.bar, .cis, .cells, .pkts, .ports] s (s.unref i) := by
  unfold State.unref
  split
  · exact Touches.refl s
  · exact ((s.setPkt_touches i _).seq (State.releasePkt_touches _ i) (by decide)).ite ((s.setPkt_touches i _).mono (by decide))

theorem State.pkt_congr {s t : State} (h : t.cis.pkts = s.cis.pkts) (i : Nat) : t.pkt? i = s.pkt? i := by
  unfold State.pkt?
  rw [h]

theorem State.pkt_releasePkt (s : State) (i : Nat) : (s.releasePkt i).pkt? i = none := by
  obtain h | ⟨none, h⟩ := s.releasePkt_gone i
  · rw [State.pkt_congr (h.part .pkts (by decide)), State.pkt_setPkt]
  · rw [h, none]

theorem State.pkt_releasePkt_ne (s : State) {i j : Nat} (hj : j ≠ i) : (s.releasePkt i).pkt? j = s.pkt? j := by
  obtain h | ⟨_, h⟩ := s.releasePkt_gone i
  · rw [State.pkt_congr (h.part .pkts (by decide)), State.pkt_setPkt_ne _ _ hj]
  · rw [h]

theorem State.pkt_unref_ne (s : State) {i j : Nat} (hj : j ≠ i) : (s.unref i).pkt? j = s.pkt? j := by
  unfold State.unref
  split
  · rfl
  · dsimp only
    split
    · rw [State.pkt_releasePkt_ne _ hj, State.pkt_setPkt_ne _ _ hj]
    · exact State.pkt_setPkt_ne _ _ hj

/-- A packet that loses its last reference is gone. -/
theorem State.pkt_unref_last (s : State) {i : Nat} (h : ∀ k, s.pkt? i = some k → k.refs ≤ 1) : (s.unref i).pkt? i = none := by
  unfold State.unref
  split
  · next e => exact e
  · next k e =>
    dsimp only
    rw [if_pos (h k e)]
    exact State.pkt_releasePkt _ i

theorem State.markBad_touches (s : State) (k : Pkt) (bad : List Nat) : Touches [.cis, .cells] s (s.markBad k bad) := by
  refine Touches.foldl _ s fun t i _ => ?_
  split
  · exact t.setCell_touches _ _
  · exact Touches.refl t

theorem State.leftQueue_touches (s : State) (p q : Nat) (e : QEnt) : Touches [.cis] s (s.leftQueue p q e) := by
  unfold State.leftQueue
  split
  · exact s.setFreed_touches _
  · exact Touches.refl s

theorem State.lateHead_touches (s : State) (p q : Nat) : Touches [] s (s.lateHead p q) := by
  unfold State.lateHead
  split
  · exact (State.countAt_touches s 0xd00 1 (by decide)).ite (Touches.refl s)
  · exact Touches.refl s

/-! ### The start of a frame -/

theorem State.countCisPort_touches (s : State) (p : Nat) {ev : Nat} (n : Nat) (hev : ev ≠ Ev.BSN_ITEM_ACC) :
    Touches [] s (s.countCisPort p ev n) := s.countBoth_touches _ _ _ n hev

theorem State.stamped_touches (s : State) (t : TimeSt) : Touches [.time] s { s with time := t } := by
  constructor
  intro x hx
  have same := x.same_refl s
  cases x
  case time => simp at hx
  all_goals exact same

theorem State.departs_touches (s : State) (p : Nat) (k : Pkt) : Touches [.time] s (s.departs p k).2 := by
  unfold State.departs
  dsimp only
  split
  · exact Touches.refl s
  · exact (s.stamped_touches _).step (State.countBoth_touches _ _ _ _ _ (by decide)) (by decide)
  · dsimp only
    split
    · exact ((s.stamped_touches _).trans (State.stamped_touches _ _)).step (State.countBoth_touches _ _ _ _ _ (by decide)) (by decide)
    · exact (s.stamped_touches _).step (State.countBoth_touches _ _ _ _ _ (by decide)) (by decide)
  · exact s.stamped_touches _
  · exact s.stamped_touches _

theorem State.afterSend_touches (s : State) (p q n : Nat) (strict : Bool) : Touches [.cis, .queues] s (s.afterSend p q n strict) := by
  have spent : Touches [.cis, .queues] s (s.setQueue p q { s.queue p q with
      deficit := if (s.queue p q).ents.isEmpty then 0 else (s.queue p q).deficit - n }) := s.setQueue_keeps_ents p q _ rfl rfl
  exact (Touches.refl s).ite (Touches.ite (spent.step (State.setSched_touches _ _ _) (by decide)) spent)

/-- The queue without its head, which has left it. -/
def State.headTaken (s : State) (p q : Nat) (e : QEnt) : State :=
  (s.setQueue p q { s.queue p q with ents := (s.queue p q).ents.drop 1 }).leftQueue p q e

/-- The credit of a frame of `n` cells is spent (R352). -/
def State.creditSpent (s : State) (p v n : Nat) : State :=
  s.setVc p v { s.vcSt p v with started := ((s.vcSt p v).started + n) % 2 ^ 32, credits := (s.vcSt p v).credits - n }

/-- The head of a queue is the packet being sent, and its credit is spent. -/
def State.sending (s : State) (p q : Nat) (e : QEnt) (k : Pkt) : State :=
  ((s.headTaken p q e).creditSpent p (pVc k.bytes) k.cells.length).modPort p fun y =>
    { y with tx := some (e, pVc k.bytes, k.cells.length), next := none }

theorem State.sending_touches (s : State) (p q : Nat) (e : QEnt) (k : Pkt) :
    Touches [.cis, .queues, .ents, .ports, .links] s (s.sending p q e k) := by
  have left : Touches [.cis, .queues, .ents, .ports, .links] s (s.headTaken p q e) :=
    (s.setQueue_touches p q _).seq (State.leftQueue_touches _ _ _ _) (by decide)
  have spent : Touches [.ports] (s.headTaken p q e) ((s.headTaken p q e).creditSpent p (pVc k.bytes) k.cells.length) :=
    State.setVc_keeps_consumed _ _ _ _ rfl
  exact (left.trans (spent.mono (by decide))).step (State.modPort_touches _ p (fun y =>
    { y with tx := some (e, pVc k.bytes, k.cells.length), next := none }) rfl rfl) (by decide)

theorem State.startFrame_sends {s : State} {p q : Nat} {e : QEnt} {k : Pkt} (h : s.headPkt p q = some (e, k)) (strict : Bool) :
    Touches [.time, .out, .cis, .queues] (s.sending p q e k) (s.startFrame p q strict) := by
  have effect : s.startFrame p q strict = ((((((s.sending p q e k).departs p k).2.emit (.frame p (((s.sending p q e k).departs p k).1
      ++ linkCheck ((s.sending p q e k).departs p k).1))).countCisPort p Ev.SCHED_TX 1).afterSend p q k.bytes.length
        strict).lateHead p q).markPort p := by
    unfold State.startFrame
    rw [h]
    rfl
  rw [effect]
  generalize s.sending p q e k = t
  have sent := ((t.departs_touches p k).seq (ps := [.time, .out, .cis, .queues]) (State.emit_touches _ (.frame p ((t.departs p k).1
    ++ linkCheck (t.departs p k).1))) (by decide)).step (State.countCisPort_touches _ p (ev := Ev.SCHED_TX) 1 (by decide)) (by decide)
  exact ((sent.step (State.afterSend_touches _ p q k.bytes.length strict) (by decide)).step (State.lateHead_touches _ p q)
    (by decide)).step (State.markPort_touches _ p) (by decide)

theorem State.startFrame_touches (s : State) (p q : Nat) (strict : Bool) :
    Touches [.time, .out, .cis, .queues, .ents, .ports, .links] s (s.startFrame p q strict) := by
  cases h : s.headPkt p q with
  | none =>
    unfold State.startFrame
    rw [h]
    exact Touches.refl s
  | some x => exact (s.sending_touches p q x.1 x.2).seq (State.startFrame_sends h strict) (by decide)

theorem State.tx_startFrame {s : State} {p q : Nat} {e : QEnt} {k : Pkt} (h : s.headPkt p q = some (e, k)) (strict : Bool) :
    ((s.startFrame p q strict).portSt p).tx = some (e, pVc k.bytes, k.cells.length) := by
  have ports : (s.startFrame p q strict).ports = (s.sending p q e k).ports := (State.startFrame_sends h strict).part .ports (by decide)
  have tx : ((s.sending p q e k).portSt p).tx = some (e, pVc k.bytes, k.cells.length) := by
    unfold State.sending State.modPort
    rw [State.portSt_setPort]
  rw [State.portSt, ports]
  exact tx

end Sys2Proof.Machine

namespace Sys2Proof.Machine

/-- What a command's effect sent is what the command sent. -/
theorem Ended.sent_of {s u t : State} {l : List Emit} (h : Ended u t) (ho : u.obs.out = l ++ s.obs.out) : Sent s t l := by
  obtain ⟨sig, out, signals⟩ := h.sent
  exact ⟨sig, by rw [out, ho]; simp, signals⟩

theorem State.portUp_of_portState {s : State} {p : Nat} (h : s.portState p = 5) : s.portUp p = true := by
  show (s.portState p == 5) = true
  rw [h]
  rfl

/-- The lane registers other than PORTSTAT by their offset in the page. -/
theorem covers_lane (p : PortIx) {o : Nat} (ho : o < 0x1000) (h4 : o ≠ 0x104) : Part.covers .lane (0x100000 + o + p.val * 0x1000) = true := by
  simp only [Part.covers, Bool.and_eq_true, bne_iff_ne, ne_eq]
  exact ⟨⟨decide_eq_true (by omega), decide_eq_true (by omega)⟩, by omega⟩

/-! ### O15: the ADVERT exchange -/

theorem advertRx_accepts (p : PortIx) (f : LcFrame) (s : State) (hs : s.stopped = false) (h4 : s.portState p = 4)
    (hf : s.lcQ.find? (fun g => g.port == p.val) = some f) (ht : lcType f.bytes = 0x10) (hok : s.advertOk p f.bytes = true) :
    Completes (.advertRx p) s fun t =>
      let ack := lcBody 0x11 0 (crcStd f.bytes)
      t.lcQ = s.lcQ.eraseP (fun g => g.port == p.val) ∧ t.get (F.LANE_PORTPEER_VALID p) = 1 ∧ t.get (F.LANE_PORTPEER_NUMBER p) = advNumber f.bytes
        ∧ t.get (F.LANE_PEERADV0_H p) = advH f.bytes ∧ t.get (F.LANE_PEERADV0_ACCEPT p) = advAccept f.bytes
        ∧ Sent s t [.linkControl p (ack ++ linkCheck ack)]
        ∧ t.portState p = if (s.portSt p).answered = true ∧ s.lanesLocked p = true ∧ s.portFrozen p = false then 5 else 4 := by
  have effect : s.advertRx p = ((s.withoutLc p).advertTaken p f.bytes).tryUp p := by
    unfold State.advertRx
    rw [State.takeLc_eq hf (by rw [ht]; rfl)]
    dsimp only
    rw [show (s.withoutLc p).portState p = 4 from h4]
    exact if_pos hok
  refine completes_of_ended hs rfl fun t ht => ?_
  rw [effect] at ht
  have taken := (s.withoutLc p).advertTaken_touches p f.bytes
  have words : ∀ a, a % 0x1000 ∈ [0x10, 0x100, 0x184] → ((s.withoutLc p).advertTaken p f.bytes).word a = s.word a :=
    (s.withoutLc p).advertTaken_word p f.bytes
  have shows := fun g v => (s.withoutLc p).advertTaken_shows p f.bytes (f := g) (v := v)
  have acked := (s.withoutLc p).acked_advertTaken p f.bytes
  have out := (s.withoutLc p).out_advertTaken p f.bytes
  generalize (s.withoutLc p).advertTaken p f.bytes = u at *
  have up := u.tryUp_touches p
  have ended := up.seq (ps := .portStat :: .out :: .time :: upParts) ht.touches (by decide)
  have shown : ∀ g v, (g, v) ∈ peerFields p f.bytes → v < 2 ^ g.width → Part.covers .lane g.addr = true → t.get g = v :=
    fun g v hm hv hg => (State.get_congr (ended.part .lane (by decide) _ hg)).trans (shows g v hm hv)
  have portState : u.portState p = 4 := (State.portState_congr (taken.part .portStat (by decide)) p).trans h4
  have answered : (u.portSt p).answered = (s.portSt p).answered := taken.part .answered (by decide) p
  obtain ⟨locked, frozen⟩ := State.lanesLocked_congr words p
  refine ⟨?_, ?_, ?_, ?_, ?_, ?_, ?_⟩
  · exact Eq.trans (b := u.lcQ) (ended.part .lcQ (by decide)) (taken.part .lcQ (by decide))
  · exact shown _ 1 (by simp [peerFields]) (Nat.lt_succ_self 1) (covers_lane p (o := 0x108) (by decide) (by decide))
  · exact shown _ _ (by simp [peerFields]) (hbits_lt _ _ _) (covers_lane p (o := 0x108) (by decide) (by decide))
  · exact shown _ _ (by simp [peerFields]) (hbits_lt _ _ _) (covers_lane p (o := 0x120) (by decide) (by decide))
  · exact shown _ _ (by simp [peerFields]) (hbits_lt _ _ _) (covers_lane p (o := 0x120) (by decide) (by decide))
  · exact ht.sent_of (Eq.trans (b := u.obs.out) (up.part .out (by decide)) out)
  · rw [State.portState_congr (ht.touches.part .portStat (by decide)), u.portState_tryUp p portState, acked, answered, locked, frozen]
    simp

theorem advertRx_acknowledges_again (p : PortIx) (f : LcFrame) (s : State) (hs : s.stopped = false) (h5 : s.portState p = 5)
    (hf : s.lcQ.find? (fun g => g.port == p.val) = some f) (ht : lcType f.bytes = 0x10) (hb : f.bytes = (s.portSt p).peerBody) :
    Completes (.advertRx p) s fun t =>
      let ack := lcBody 0x11 0 (crcStd f.bytes)
      t.portState p = 5 ∧ t.ports = s.ports ∧ Sent s t [.linkControl p (ack ++ linkCheck ack)] := by
  have effect : s.advertRx p = (s.withoutLc p).sendLc p (lcBody 0x11 0 (crcStd f.bytes)) := by
    unfold State.advertRx
    rw [State.takeLc_eq hf (by rw [ht]; rfl)]
    dsimp only
    rw [show (s.withoutLc p).portState p = 5 from h5]
    exact if_pos hb
  refine completes_of_ended hs rfl fun t ht => ?_
  rw [effect] at ht
  exact ⟨(State.portState_congr (ht.touches.part .portStat (by decide)) p).trans h5, ht.touches.part .ports (by decide), ht.sent_of rfl⟩

theorem State.answered_touches (s : State) (p : Nat) :
    Touches [.ports, .links, .answered, .consumed] s (s.modPort p fun x => { x with answered := true }) := s.setPort_touches p _

theorem advackRx_answers (p : PortIx) (f : LcFrame) (s : State) (hs : s.stopped = false) (h4 : s.portState p = 4)
    (hf : s.lcQ.find? (fun g => g.port == p.val) = some f) (ht : lcType f.bytes = 0x11) (hown : (s.portSt p).ownBody ≠ [])
    (hcrc : lcCount f.bytes = crcStd (s.portSt p).ownBody) :
    Completes (.advackRx p) s fun t => t.lcQ = s.lcQ.eraseP (fun g => g.port == p.val) ∧ (t.portSt p).answered = true
      ∧ t.portState p = if (s.portSt p).acked = true ∧ s.lanesLocked p = true ∧ s.portFrozen p = false then 5 else 4 := by
  have effect : s.advackRx p = ((s.withoutLc p).modPort p fun x => { x with answered := true }).tryUp p := by
    unfold State.advackRx
    rw [State.takeLc_eq hf (by rw [ht]; rfl)]
    exact if_pos ⟨h4, hown, hcrc⟩
  refine completes_of_ended hs rfl fun t ht => ?_
  rw [effect] at ht
  have noted := (s.withoutLc p).answered_touches p
  have link : (((s.withoutLc p).modPort p fun x => { x with answered := true }).portSt p) = { s.portSt p with answered := true } :=
    State.portSt_setPort _ _ _
  have words : ∀ a, a % 0x1000 ∈ [0x10, 0x100, 0x184] →
      ((s.withoutLc p).modPort p fun x => { x with answered := true }).word a = s.word a :=
    fun a _ => State.word_congr (noted.part .bar (by decide)) a
  generalize (s.withoutLc p).modPort p (fun x => { x with answered := true }) = u at *
  have up := u.tryUp_touches p
  have ended := up.seq (ps := .portStat :: .out :: .time :: upParts) ht.touches (by decide)
  have portState : u.portState p = 4 := (State.portState_congr (noted.part .portStat (by decide)) p).trans h4
  obtain ⟨locked, frozen⟩ := State.lanesLocked_congr words p
  refine ⟨Eq.trans (b := u.lcQ) (ended.part .lcQ (by decide)) (noted.part .lcQ (by decide)), ?_, ?_⟩
  · rw [ended.part .answered (by decide) p, link]
  · rw [State.portState_congr (ht.touches.part .portStat (by decide)), u.portState_tryUp p portState, link, locked, frozen]
    simp

theorem advertTx_sends (p : PortIx) (s : State) (hs : s.stopped = false) (h4 : s.portState p = 4)
    (hdue : ∀ x, (s.portSt p).advAt = some x → x + usClocks 10 ≤ s.now) :
    Completes (.advertTx p) s fun t => (t.portSt p).advAt = some s.now
      ∧ ((s.portSt p).ownBody ≠ [] → (t.portSt p).ownBody = (s.portSt p).ownBody)
      ∧ Sent s t [.linkControl p ((t.portSt p).ownBody ++ linkCheck (t.portSt p).ownBody)] := by
  have due : ((s.portSt p).advAt.elim true fun t => s.passed t (usClocks 10)) = true := by
    cases h : (s.portSt p).advAt with
    | none => rfl
    | some x => exact decide_eq_true (hdue x h)
  obtain ⟨h, b, hb, effect⟩ : ∃ h b, ((s.portSt p).ownBody ≠ [] → b = (s.portSt p).ownBody)
      ∧ s.advertTx p = (s.modPort p fun y => { y with headAdv := h, ownBody := b, advAt := some s.now }).sendLc p b := by
    refine ⟨_, _, fun hne => ?_, (if_neg ?_).trans rfl⟩
    · exact if_neg hne
    · simp [h4, due]
  refine completes_of_ended hs rfl fun t ht => ?_
  rw [effect] at ht
  have link : t.portSt p = { s.portSt p with headAdv := h, ownBody := b, advAt := some s.now } := by
    have ports : t.ports = (s.modPort p fun y => { y with headAdv := h, ownBody := b, advAt := some s.now }).ports :=
      ht.touches.part .ports (by decide)
    rw [State.portSt, ports]
    exact State.portSt_setPort _ _ _
  rw [link]
  exact ⟨rfl, hb, ht.sent_of rfl⟩

theorem creditTx_sends (p : PortIx) (v : Vc) (s : State) (hs : s.stopped = false) (h5 : s.portState p = 5)
    (hdue : s.creditDue p v = true) : Completes (.creditTx p v) s fun t =>
      let b := lcBody 0x01 v (s.vcSt p v).returned
      (t.vcSt p v).sentCount = (s.vcSt p v).returned ∧ (t.vcSt p v).sentAt = s.now ∧ (t.vcSt p v).force = false
        ∧ (t.vcSt p v).unsentSince = none ∧ Sent s t [.linkControl p (b ++ linkCheck b)] := by
  have effect : s.creditTx p v = (((s.setVc p v { s.vcSt p v with
      sentCount := (s.vcSt p v).returned, sentAt := s.now, unsentSince := none, force := false }).sendLc p
        (lcBody 0x01 v (s.vcSt p v).returned)).countPort p Ev.LINK_CREDIT_TX 1) :=
    if_neg (by simp [State.portUp_of_portState h5, hdue])
  refine completes_of_ended hs rfl fun t ht => ?_
  rw [effect] at ht
  have counted := State.countPort_touches ((s.setVc p v { s.vcSt p v with
      sentCount := (s.vcSt p v).returned, sentAt := s.now, unsentSince := none, force := false }).sendLc p
        (lcBody 0x01 v (s.vcSt p v).returned)) p (ev := Ev.LINK_CREDIT_TX) 1 (by decide)
  have vc := State.vcSt_congr (((counted.mono (by decide)).trans ht.touches).part .ports (by decide)) p v
  rw [show ∀ (u : State) b, (u.sendLc p b).vcSt p v = u.vcSt p v from fun _ _ => rfl, State.vcSt_setVc] at vc
  dsimp only
  rw [vc]
  exact ⟨rfl, rfl, rfl, rfl, ht.sent_of ((counted.part .out (by decide)).trans rfl)⟩

theorem censusTx_sends (p : PortIx) (v : Vc) (s : State) (hs : s.stopped = false) (h5 : s.portState p = 5) (h7 : v ≠ 7)
    (haccept : nbit (s.get (F.LANE_PEERADV0_ACCEPT p)) (7 - v) = 1)
    (hdue : s.passed (s.portSt p).since (nsClocks (1250 * v) + usClocks 10 * (s.vcSt p v).markers) = true) :
    Completes (.censusTx p v) s fun t =>
      let b := lcBody 0x02 v (s.vcSt p v).consumed
      (t.vcSt p v).markers = (s.vcSt p v).markers + 1 ∧ Sent s t [.linkControl p (b ++ linkCheck b)] := by
  have hv : v.val ≠ 7 := fun h => h7 (Fin.ext h)
  have effect : s.censusTx p v = (s.setVc p v { s.vcSt p v with markers := (s.vcSt p v).markers + 1 }).sendLc p
      (lcBody 0x02 v (s.vcSt p v).consumed) :=
    if_neg (by simp [State.portUp_of_portState h5, hv, haccept, hdue])
  refine completes_of_ended hs rfl fun t ht => ?_
  rw [effect] at ht
  have vc := State.vcSt_congr (ht.touches.part .ports (by decide)) p v
  rw [show ∀ (u : State) b, (u.sendLc p b).vcSt p v = u.vcSt p v from fun _ _ => rfl, State.vcSt_setVc] at vc
  dsimp only
  rw [vc]
  exact ⟨rfl, ht.sent_of rfl⟩

/-- The frame being sent has left, and its cells are consumed (R352). -/
def State.frameLeft (s : State) (p v n : Nat) : State :=
  (s.modPort p fun x => { x with tx := none }).setVc p v { s.vcSt p v with consumed := ((s.vcSt p v).consumed + n) % 2 ^ 32 }

theorem State.vcSt_modPort (s : State) (p : Nat) (f : PortSt → PortSt) (hv : (f (s.portSt p)).vcs = (s.portSt p).vcs) (q v : Nat) :
    (s.modPort p f).vcSt q v = s.vcSt q v := by
  unfold State.vcSt State.modPort
  by_cases e : q = p
  · rw [e, State.portSt_setPort, hv]
  · rw [State.portSt_setPort_ne _ _ e]

theorem State.vcSt_frameLeft (s : State) (p v n : Nat) :
    ((s.frameLeft p v n).vcSt p v).consumed = ((s.vcSt p v).consumed + n) % 2 ^ 32
      ∧ ∀ w, w ≠ v → (s.frameLeft p v n).vcSt p w = s.vcSt p w := by
  constructor
  · unfold State.frameLeft
    rw [State.vcSt_setVc]
  · intro w hw
    unfold State.frameLeft
    rw [State.vcSt_setVc_ne _ _ _ _ (.inr hw)]
    exact s.vcSt_modPort p (fun x => { x with tx := none }) rfl p w

theorem State.frameLeft_touches (s : State) (p v n : Nat) : Touches [.ports, .links, .consumed] s (s.frameLeft p v n) :=
  (s.modPort_touches p (fun x => { x with tx := none }) rfl rfl).seq (State.setVc_touches _ _ _ _) (by decide)

theorem State.link_frameLeft (s : State) (p v n : Nat) :
    { (s.frameLeft p v n).portSt p with vcs := [] } = { s.portSt p with tx := none, vcs := [] } := by
  unfold State.frameLeft State.setVc State.modPort
  rw [State.portSt_setPort, State.portSt_setPort]

/-- The packet whose frame has left loses its reference. -/
def State.frameDone (s : State) (p v n : Nat) (e : QEnt) (bad : List Nat) : State :=
  match (s.frameLeft p v n).pkt? e.pkt with
  | none => s.frameLeft p v n
  | some k => ((((s.frameLeft p v n).markBad k bad).countPort p Ev.TX_FRAME 1).countPort p Ev.TX_BYTES k.bytes.length).unref e.pkt

theorem State.txDone_eq {s : State} {p : Nat} {e : QEnt} {v n : Nat} (h : (s.portSt p).tx = some (e, v, n)) (bad : List Nat) :
    s.txDone p bad = (s.frameDone p v n e bad).startNext p := by
  have vc : (s.setPort p { s.portSt p with tx := none }).vcSt p v = s.vcSt p v :=
    s.vcSt_modPort p (fun x => { x with tx := none }) rfl p v
  have left : (s.setPort p { s.portSt p with tx := none }).setVc p v { s.vcSt p v with consumed := ((s.vcSt p v).consumed + n) % 2 ^ 32 }
      = s.frameLeft p v n := rfl
  unfold State.txDone State.frameDone
  rw [h]
  dsimp only
  rw [vc, left]
  cases (s.frameLeft p v n).pkt? e.pkt <;> rfl

theorem State.frameDone_touches (s : State) (p v n : Nat) (e : QEnt) (bad : List Nat) :
    Touches [.bar, .cis, .cells, .pkts, .ports] (s.frameLeft p v n) (s.frameDone p v n e bad) := by
  unfold State.frameDone
  split
  · exact Touches.refl _
  · next k _ =>
    have counted : Touches [.bar, .cis, .cells, .pkts, .ports] (s.frameLeft p v n)
        ((((s.frameLeft p v n).markBad k bad).countPort p Ev.TX_FRAME 1).countPort p Ev.TX_BYTES k.bytes.length) :=
      ((State.markBad_touches _ k bad).seq (State.countPort_touches _ _ _ (by decide)) (by decide)).step
        (State.countPort_touches _ _ _ (by decide)) (by decide)
    exact counted.trans (State.unref_touches _ _)

theorem State.pkt_frameDone (s : State) (p v n : Nat) (e : QEnt) (bad : List Nat) {i : Nat} (hi : i ≠ e.pkt) :
    (s.frameDone p v n e bad).pkt? i = s.pkt? i := by
  have before : (s.frameLeft p v n).pkt? i = s.pkt? i := State.pkt_congr ((s.frameLeft_touches p v n).part .pkts (by decide)) i
  unfold State.frameDone
  split
  · exact before
  · next k _ =>
    have counted : Touches [.cis, .cells] (s.frameLeft p v n)
        ((((s.frameLeft p v n).markBad k bad).countPort p Ev.TX_FRAME 1).countPort p Ev.TX_BYTES k.bytes.length) :=
      ((State.markBad_touches _ k bad).step (State.countPort_touches _ _ _ (by decide)) (by decide)).step
        (State.countPort_touches _ _ _ (by decide)) (by decide)
    rw [State.pkt_unref_ne _ hi, State.pkt_congr (counted.part .pkts (by decide)), before]

theorem State.startNext_touches (s : State) (p : Nat) :
    Touches [.time, .out, .cis, .queues, .ents, .ports, .links] s (s.startNext p) := by
  unfold State.startNext
  split
  · have decided := ((s.modPort_touches p (fun x => { x with next := none }) rfl rfl).mono
      (ps := [.time, .out, .cis, .queues, .ents, .ports, .links]) (by decide))
    exact (decided.trans (State.startFrame_touches _ _ _ _)).ite (Touches.refl s)
  · exact Touches.refl s

theorem State.startNext_none {s : State} {p : Nat} (h : (s.portSt p).next = none) : s.startNext p = s := by
  unfold State.startNext
  rw [h]

theorem State.tx_startNext {s : State} {p q : Nat} {e : QEnt} {k : Pkt} (hn : (s.portSt p).next = some q) (hup : s.portUp p = true)
    (hk : s.headPkt p q = some (e, k)) : ((s.startNext p).portSt p).tx = some (e, pVc k.bytes, k.cells.length) := by
  unfold State.startNext
  rw [hn]
  dsimp only
  rw [if_pos hup]
  exact State.tx_startFrame (s := s.setPort p { s.portSt p with next := none }) hk _

theorem txFrameDone_starts_next (p : PortIx) (bad : List (Fin 37)) (e : QEnt) (v n : Nat) (s : State) (hs : s.stopped = false)
    (htx : (s.portSt p).tx = some (e, v, n)) : Completes (.txFrameDone p bad) s fun t =>
      ((s.portSt p).next = none → (t.portSt p).tx = none)
        ∧ (∀ q e' k, (s.portSt p).next = some q → s.portUp p = true → s.headPkt p q = some (e', k) → e'.pkt ≠ e.pkt →
          (t.portSt p).tx = some (e', pVc k.bytes, k.cells.length))
        ∧ (t.vcSt p v).consumed = ((s.vcSt p v).consumed + n) % 2 ^ 32
        ∧ ∀ w, w ≠ v → (t.vcSt p w).consumed = (s.vcSt p w).consumed := by
  refine completes_of_ended hs rfl fun t ht => ?_
  rw [State.txDone_eq htx] at ht
  have left := s.frameLeft_touches p v n
  obtain ⟨gained, others⟩ := s.vcSt_frameLeft p v n
  have done := s.frameDone_touches p v n e (bad.map Fin.val)
  have link := (done.part .links (by decide) p).trans (s.link_frameLeft p v n)
  have pkts := fun i => s.pkt_frameDone p v n e (bad.map Fin.val) (i := i)
  have both := left.seq (ps := [.bar, .cis, .cells, .pkts, .ports, .links, .consumed]) done (by decide)
  have consumed := fun w => done.part .consumed (by decide) p w
  generalize s.frameDone p v n e (bad.map Fin.val) = u at *
  have next : (u.portSt p).next = (s.portSt p).next := (congrArg PortSt.next link :)
  have none : (u.portSt p).tx = none := (congrArg PortSt.tx link :)
  have started := u.startNext_touches p
  have ports : ∀ q, t.portSt q = (u.startNext p).portSt q := fun q => by
    rw [State.portSt, ht.touches.part .ports (by decide)]
    rfl
  have kept : ∀ w, (t.vcSt p w).consumed = ((s.frameLeft p v n).vcSt p w).consumed := fun w =>
    (ht.touches.part .consumed (by decide) p w).trans ((started.part .consumed (by decide) p w).trans (consumed w))
  refine ⟨fun h => ?_, fun q e' k hq hup hk hne => ?_, ?_, fun w hw => ?_⟩
  · rw [ports, State.startNext_none (next.trans h), none]
  · have up : u.portUp p = true := (congrArg (· == 5) (State.portState_congr (both.part .portStat (by decide)) p)).trans hup
    have head : u.headPkt p q = some (e', k) := by
      unfold State.headPkt at hk ⊢
      rw [(both.part .ents (by decide) p q).1]
      generalize (s.queue p q).ents = l at *
      cases l with
      | nil => cases hk
      | cons x l =>
        dsimp only at hk ⊢
        have hx : x = e' := by
          cases hp : s.pkt? x.pkt with
          | none => rw [hp] at hk; cases hk
          | some y => rw [hp] at hk; exact (Prod.mk.inj (Option.some.inj hk)).1
        rw [pkts x.pkt (hx ▸ hne), hk]
    rw [ports, State.tx_startNext (next.trans hq) up head]
  · rw [kept, gained]
  · rw [kept, others w hw]

/-- Settles O15: each half of the exchange leaves its answer, and the port enters UP with the second. -/
theorem advertExchangeBringsThePortUp : Obligations.AdvertExchangeBringsThePortUp :=
  ⟨advertRx_accepts, advertRx_acknowledges_again, advackRx_answers, advertTx_sends, creditTx_sends, censusTx_sends,
    txFrameDone_starts_next⟩

end Sys2Proof.Machine

namespace Sys2Proof.Machine

/-! ### O23: queues -/

theorem State.queue_congr {s t : State} (h : t.cis.queues = s.cis.queues) (p q : Nat) : t.queue p q = s.queue p q := by
  unfold State.queue
  rw [h]

/-- The queue is emptied and stalled on VC `v`. -/
def QueueSt.emptied (x : QueueSt) (v : Nat) : QueueSt :=
  { x with ents := [], deficit := 0, stalled := true, stallVc := v, blockedSince := none, blockedHead := 0 }

/-- What follows the emptying of a queue leaves the queues. -/
theorem State.queueStall_empties {s : State} {p q x : Nat} {h : QEnt × Pkt} (hb : (s.queue p q).blockedSince = some x)
    (hh : s.headPkt p q = some h) (hx : s.passed x (usClocks (s.get F.CISCFG_STALL_STALL_US)) = true) :
    Touches [.bar, .hlth, .cis, .cells, .pkts, .ports] (s.setQueue p q ((s.queue p q).emptied (pVc h.2.bytes))) (s.queueStall p q) := by
  have effect : s.queueStall p q = (((((s.queue p q).ents.foldl (fun u e =>
      ((u.countCisPort p Ev.CIS_STALL_DROP 1).leftQueue p q e).unref e.pkt) (s.setQueue p q ((s.queue p q).emptied
        (pVc h.2.bytes)))).countCisPort p Ev.CIS_STALL 1).logReport Ev.CIS_STALL 0x700 (64 * p + q) (s.queue p q).ents.length
          0).portPenalty p 64) := by
    unfold State.queueStall
    dsimp only
    rw [hb, hh]
    exact if_neg (by rw [hx]; decide)
  rw [effect]
  generalize s.setQueue p q _ = u
  have dropped : Touches [.bar, .hlth, .cis, .cells, .pkts, .ports] u ((s.queue p q).ents.foldl (fun u e =>
      ((u.countCisPort p Ev.CIS_STALL_DROP 1).leftQueue p q e).unref e.pkt) u) := Touches.foldl _ u fun t e _ =>
    (((State.countCisPort_touches t p (ev := Ev.CIS_STALL_DROP) 1 (by decide)).mono (by decide)).trans (State.leftQueue_touches _ p q e)).seq
      (State.unref_touches _ _) (by decide)
  exact ((dropped.step (State.countCisPort_touches _ p (ev := Ev.CIS_STALL) 1 (by decide)) (by decide)).step
    (State.logReport_touches _ _ _ _ _ _) (by decide)).step (State.portPenalty_touches _ _ _) (by decide)

theorem queueStall_empties_queue (p : PortIx) (q : Fin 64) (x : Nat) (h : QEnt × Pkt) (s : State) (hs : s.stopped = false)
    (hb : (s.queue p q).blockedSince = some x) (hh : s.headPkt p q = some h)
    (hx : s.passed x (usClocks (s.get F.CISCFG_STALL_STALL_US)) = true) :
    Completes (.queueStall p q) s fun t => (t.queue p q).ents = [] ∧ (t.queue p q).stalled = true
      ∧ (t.queue p q).stallVc = pVc h.2.bytes ∧ (t.queue p q).blockedSince = none := by
  refine completes_of_ended hs rfl fun t ht => ?_
  have queue : t.queue p q = (s.queue p q).emptied (pVc h.2.bytes) := by
    rw [State.queue_congr (ht.touches.part .queues (by decide)),
      State.queue_congr ((State.queueStall_empties hb hh hx).part .queues (by decide)), State.queue_setQueue]
  rw [queue]
  exact ⟨rfl, rfl, rfl, rfl⟩

theorem groupReturnRelease_ends_wait (p : PortIx) (q : Fin 64) (s : State) (hs : s.stopped = false) (hw : (s.queue p q).wait ≠ [])
    (hq : ∀ n ∈ (s.queue p q).wait, ∀ y ∈ s.cis.queues, ∀ e ∈ y.2.ents, e.seq ≠ n)
    (hp : ∀ n ∈ (s.queue p q).wait, ∀ y ∈ s.ports, ∀ x, y.2.tx = some x → x.1.seq ≠ n) :
    Completes (.groupReturnRelease p q) s fun t => (t.queue p q).wait = [] ∧ (t.queue p q).ents = (s.queue p q).ents := by
  have left : ∀ n ∈ (s.queue p q).wait, n ∉ (s.cis.queues.flatMap fun (y : Nat × QueueSt) => y.2.ents.map QEnt.seq)
      ++ s.ports.filterMap fun (y : Nat × PortSt) => y.2.tx.map fun t => t.1.seq := by
    intro n hn hm
    obtain hm | hm := List.mem_append.1 hm
    · obtain ⟨y, hy, hm⟩ := List.mem_flatMap.1 hm
      obtain ⟨e, he, rfl⟩ := List.mem_map.1 hm
      exact hq _ hn y hy e he rfl
    · obtain ⟨y, hy, hm⟩ := List.mem_filterMap.1 hm
      obtain ⟨x, hx, rfl⟩ := Option.map_eq_some_iff.1 hm
      exact hp _ hn y hy x hx rfl
  have effect : s.groupReturn p q = s.setQueue p q { s.queue p q with wait := [] } :=
    if_pos ⟨hw, List.all_eq_true.2 fun n hn => by simpa using left n hn⟩
  refine completes_of_ended hs rfl fun t ht => ?_
  rw [effect] at ht
  have ended := ((s.setQueue p q { s.queue p q with wait := [] }).markPort_touches p).seq (ps := [.cis, .queues, .out, .time, .bar])
    ht.touches (by decide)
  obtain ⟨ents, wait⟩ := ended.part .ents (by decide) p q
  rw [ents, wait, State.queue_setQueue]
  exact ⟨rfl, rfl⟩

/-! ### Policers -/

theorem State.weirDiscard_touches (s : State) (d : Bool) : Touches [] s (s.weirDiscard d) :=
  (State.countPages_touches _ _ _ _ (by decide)).ite (Touches.refl s)

theorem State.weirClamp_touches (s : State) (c : Bool) (i : Nat) : Touches [.bar] s (s.weirClamp c i) :=
  (State.book_touches _ _ _ (by decide)).ite (Touches.refl s)

theorem State.policer_congr {s t : State} (h : t.cis.policers = s.cis.policers) (i : Nat) : t.policer i = s.policer i := by
  unfold State.policer
  rw [h]

@[simp] theorem State.policer_setPolicer (s : State) (i : Nat) (x : PolicerSt) : (s.setPolicer i x).policer i = x :=
  SMap.get_set_same _ _ _ _

theorem State.policer_setPolicer_ne (s : State) {i j : Nat} (x : PolicerSt) (h : j ≠ i) :
    (s.setPolicer i x).policer j = s.policer j := SMap.get_set_ne _ _ _ h

/-- The policer with its buckets credited, and raised to −M_F where below it (R50). -/
def State.creditedPolicer (s : State) (i : Nat) : PolicerSt :=
  { s.policer i with
    c := (((s.policer i).c.credit s.now (s.get (F.POLICER_W0_CIR i)) (s.get (F.POLICER_W2_CBS i))).1.floor s.maxFrame).1
    p := (((s.policer i).p.credit s.now (s.get (F.POLICER_W1_PIR i)) (s.get (F.POLICER_W3_PBS i))).1.floor s.maxFrame).1 }

theorem State.creditPolicer_sets (s : State) (i : Nat) :
    Touches [.bar] (s.setPolicer i (s.creditedPolicer i)) (s.creditPolicer i) :=
  ((((State.weirDiscard_touches _ _).seq (State.weirDiscard_touches _ _) (by decide)).trans
    (State.weirClamp_touches _ _ _))).trans (State.weirClamp_touches _ _ _)

/-- The policer debited for a packet of a colour. -/
def PolicerSt.debited (x : PolicerSt) (colour bytes mf : Nat) : PolicerSt :=
  { x with
    c := if colour = 0 then (x.c.debit bytes mf).1 else x.c
    p := if colour ≤ 1 then (x.p.debit bytes mf).1 else x.p }

theorem State.debitPolicer_sets (s : State) (i colour bytes : Nat) :
    Touches [.bar] (s.setPolicer i ((s.policer i).debited colour bytes s.maxFrame)) (s.debitPolicer i colour bytes) := by
  have debited : (s.policer i).debited colour bytes s.maxFrame = { s.policer i with
      c := (if colour = 0 then (s.policer i).c.debit bytes s.maxFrame else ((s.policer i).c, false)).1
      p := (if colour ≤ 1 then (s.policer i).p.debit bytes s.maxFrame else ((s.policer i).p, false)).1 } := by
    unfold PolicerSt.debited
    split <;> split <;> rfl
  rw [debited]
  exact (State.weirClamp_touches _ _ _).trans (State.weirClamp_touches _ _ _)

theorem State.maxFrame_congr {s t : State} (h : Part.fwdCfg.same s t) : t.maxFrame = s.maxFrame := by
  unfold State.maxFrame
  rw [State.get_congr (h _ (by decide))]

/-- The state in which a waiting debit is taken. -/
def State.withoutDebit (s : State) (x : Nat × Nat × Nat × Nat) : State :=
  { s with cis := { s.cis with ethDebits := s.cis.ethDebits.erase x } }

theorem weirEthDebit_debits (p : PortIx) (x i c b : Nat) (s : State) (hs : s.stopped = false)
    (hx : s.cis.ethDebits.find? (fun y => y.1 == p.val) = some (x, i, c, b)) : Completes (.weirEthDebit p) s fun t =>
      let cc := (((s.policer i).c.credit s.now (s.get (F.POLICER_W0_CIR i)) (s.get (F.POLICER_W2_CBS i))).1.floor s.maxFrame).1
      let pp := (((s.policer i).p.credit s.now (s.get (F.POLICER_W1_PIR i)) (s.get (F.POLICER_W3_PBS i))).1.floor s.maxFrame).1
      t.cis.ethDebits = s.cis.ethDebits.erase (x, i, c, b)
        ∧ (t.policer i).c = (if c = 0 then (cc.debit b s.maxFrame).1 else cc)
        ∧ (t.policer i).p = (if c ≤ 1 then (pp.debit b s.maxFrame).1 else pp)
        ∧ ∀ j, j ≠ i → t.policer j = s.policer j := by
  have effect : s.weirEthDebit p = ((s.withoutDebit (x, i, c, b)).creditPolicer i).debitPolicer i c b := by
    unfold State.weirEthDebit
    rw [hx]
    rfl
  refine completes_of_ended hs rfl fun t ht => ?_
  rw [effect] at ht
  have credited := (s.withoutDebit (x, i, c, b)).creditPolicer_sets i
  have policer : (s.withoutDebit (x, i, c, b)).creditedPolicer i = s.creditedPolicer i := rfl
  have debits : ((s.withoutDebit (x, i, c, b)).setPolicer i (s.creditedPolicer i)).cis.ethDebits = s.cis.ethDebits.erase (x, i, c, b) := rfl
  have frame : ((s.withoutDebit (x, i, c, b)).setPolicer i (s.creditedPolicer i)).maxFrame = s.maxFrame := rfl
  have others : ∀ j, j ≠ i → ((s.withoutDebit (x, i, c, b)).setPolicer i (s.creditedPolicer i)).policer j = s.policer j :=
    fun j hj => State.policer_setPolicer_ne _ _ hj
  rw [policer] at credited
  have own := State.policer_setPolicer (s.withoutDebit (x, i, c, b)) i (s.creditedPolicer i)
  generalize (s.withoutDebit (x, i, c, b)).setPolicer i (s.creditedPolicer i) = u at *
  generalize (s.withoutDebit (x, i, c, b)).creditPolicer i = v at *
  have debited := v.debitPolicer_sets i c b
  rw [State.policer_congr (credited.part .policers (by decide)), own,
    State.maxFrame_congr (credited.part .fwdCfg (by decide)), frame] at debited
  have ended := debited.seq (ps := [.out, .time, .bar]) ht.touches (by decide)
  have policers := State.policer_congr (ended.part .policers (by decide))
  dsimp only
  refine ⟨?_, ?_, ?_, fun j hj => ?_⟩
  · exact Eq.trans (b := v.cis.ethDebits) (ended.part .ethDebits (by decide))
      (Eq.trans (b := u.cis.ethDebits) (credited.part .ethDebits (by decide)) debits)
  · rw [policers, State.policer_setPolicer]
    rfl
  · rw [policers, State.policer_setPolicer]
    rfl
  · rw [policers, State.policer_setPolicer_ne _ _ hj, State.policer_congr (credited.part .policers (by decide)), others j hj]

end Sys2Proof.Machine

namespace Sys2Proof.SMap

variable {α : Type} [DecidableEq α]

theorem forall_lt_of_wfFrom (d : Nat → α) {lo : Nat} {m : SMap α} (h : wfFrom d lo m = true) : ∀ x ∈ m, lo ≤ x.1 := by
  induction m generalizing lo with
  | nil => simp
  | cons x m ih =>
    simp only [wfFrom, Bool.and_eq_true, decide_eq_true_eq] at h
    obtain ⟨⟨hlo, -⟩, hm⟩ := h
    exact List.forall_mem_cons.2 ⟨hlo, fun y hy => by have := ih hm y hy; omega⟩

/-- A key that a table in canonical form gives a value of its own is listed once. -/
theorem split_of_wfFrom (d : Nat → α) {lo k : Nat} {m : SMap α} (h : wfFrom d lo m = true) (hk : get d m k ≠ d k) :
    ∃ l₁ l₂, m = l₁ ++ (k, get d m k) :: l₂ ∧ (∀ x ∈ l₁, x.1 ≠ k) ∧ ∀ x ∈ l₂, x.1 ≠ k := by
  induction m generalizing lo with
  | nil => exact absurd rfl hk
  | cons x m ih =>
    obtain ⟨j, v⟩ := x
    simp only [wfFrom, Bool.and_eq_true, decide_eq_true_eq] at h
    obtain ⟨⟨-, -⟩, hm⟩ := h
    simp only [get] at hk ⊢
    split at hk
    · next e =>
      subst e
      refine ⟨[], m, by simp, by simp, fun y hy => ?_⟩
      have := forall_lt_of_wfFrom d hm y hy
      omega
    · next e =>
      obtain ⟨l₁, l₂, hl, h₁, h₂⟩ := ih hm hk
      refine ⟨(j, v) :: l₁, l₂, ?_, List.forall_mem_cons.2 ⟨fun h => e h.symm, h₁⟩, h₂⟩
      rw [if_neg e, List.cons_append, ← hl]

end Sys2Proof.SMap

namespace Sys2Proof.Machine

/-! ### O23: the sweep of the Cistern -/

theorem State.cell_congr {s t : State} (h : t.cis.cells = s.cis.cells) (c : Nat) : t.cell c = s.cell c := by
  unfold State.cell
  rw [h]

@[simp] theorem State.cell_setCell (s : State) (c : Nat) (x : Cell) : (s.setCell c x).cell c = x := SMap.get_set_same _ _ _ _

theorem State.cell_setCell_ne (s : State) {c d : Nat} (x : Cell) (h : d ≠ c) : (s.setCell c x).cell d = s.cell d :=
  SMap.get_set_ne _ _ _ h

theorem State.cell_freeCell (s : State) (c : Nat) : (s.freeCell c).cell c = (s.cell c).freed := by
  rw [State.cell_congr ((s.freeCell_sets c).part .cells (by decide)), State.cell_setCell]

theorem State.cell_freeCell_ne (s : State) {c d : Nat} (h : d ≠ c) : (s.freeCell c).cell d = s.cell d := by
  rw [State.cell_congr ((s.freeCell_sets c).part .cells (by decide)), State.cell_setCell_ne _ _ h]

theorem State.sweepCell_touches (s : State) (hit : List Nat) (c : Nat) (x : Cell) :
    Touches [.bar, .cis, .cells] s (s.sweepCell hit c x) := by
  have freed := s.freeCell_touches c
  unfold State.sweepCell
  split
  · exact ((s.setCell_touches c _).mono (by decide)).ite ((Touches.refl s).ite
      ((freed.step (State.book_touches _ _ _ (by decide)) (by decide)).ite ((s.setCell_touches c _).mono (by decide))))
  · exact ((s.book_touches _ _ (by decide)).mono (by decide)).ite freed
  · exact Touches.refl s

theorem State.cell_sweepCell_ne (s : State) (hit : List Nat) {c d : Nat} (x : Cell) (h : d ≠ c) :
    (s.sweepCell hit c x).cell d = s.cell d := by
  have booked : ∀ (t : State) (bit : Nat) (_ : bit < 32), (t.book bit c none).cell d = t.cell d := fun t bit hb =>
    State.cell_congr ((t.book_touches c none hb).part .cells (by decide)) d
  unfold State.sweepCell
  split
  · split
    · exact s.cell_setCell_ne _ h
    · split
      · rfl
      · split
        · rw [booked _ 2 (by decide), s.cell_freeCell_ne h]
        · exact s.cell_setCell_ne _ h
  · split
    · exact booked s 3 (by decide)
    · exact s.cell_freeCell_ne h
  · rfl

/-- A sound cell that this walk and the last missed is freed as an orphan (R47). -/
theorem State.sweepCell_frees {s : State} {hit : List Nat} {c : Nat} {x : Cell} (hx : s.cell c = x) (hst : x.st = .allocated)
    (hbad : x.bad = false) (hmissed : x.missed = true) (hwalk : x.walk < s.cis.walk) (hc : c ∉ hit) :
    (s.sweepCell hit c x).cell c = {} ∧ nbit ((s.sweepCell hit c x).word 0x140).toNat 2 = 1 := by
  have effect : s.sweepCell hit c x = (s.freeCell c).book 2 c none := by
    unfold State.sweepCell
    rw [hst]
    dsimp only
    rw [if_neg (by simpa using hc), if_neg (by omega), if_pos hmissed]
  rw [effect]
  refine ⟨?_, State.bookWith_bit _ _ _ _ (by decide)⟩
  rw [State.cell_congr ((State.book_touches _ c none (by decide)).part .cells (by decide)), State.cell_freeCell, hx, Cell.freed, hbad]
  rfl

/-- The walk's end over the listed cells. -/
def State.sweepCells (s : State) (hit : List Nat) (l : List (Nat × Cell)) : State := l.foldl (fun t x => t.sweepCell hit x.1 x.2) s

theorem State.sweepCells_touches (s : State) (hit : List Nat) (l : List (Nat × Cell)) :
    Touches [.bar, .cis, .cells] s (s.sweepCells hit l) := Touches.foldl l s fun t x _ => t.sweepCell_touches hit x.1 x.2

theorem State.cell_sweepCells_ne (s : State) (hit : List Nat) {l : List (Nat × Cell)} {c : Nat} (h : ∀ x ∈ l, x.1 ≠ c) :
    (s.sweepCells hit l).cell c = s.cell c :=
  List.foldlRecOn (motive := fun t => State.cell t c = s.cell c) l _ rfl fun t ht x hx =>
    (t.cell_sweepCell_ne hit x.2 fun e => h x hx e.symm).trans ht

theorem State.sweepCells_frees {s : State} {hit : List Nat} {c : Nat} {x : Cell} (hwf : SMap.wf (fun _ => ({} : Cell)) s.cis.cells = true)
    (hx : s.cell c = x) (hst : x.st = .allocated) (hbad : x.bad = false) (hmissed : x.missed = true) (hwalk : x.walk < s.cis.walk)
    (hc : c ∉ hit) : (s.sweepCells hit s.cis.cells).cell c = {}
      ∧ nbit ((s.sweepCells hit s.cis.cells).word 0x140).toNat 2 = 1 := by
  obtain ⟨l₁, l₂, hl, h₁, h₂⟩ := SMap.split_of_wfFrom (k := c) (fun _ => ({} : Cell)) hwf (by
    show s.cell c ≠ {}
    rw [hx]
    intro e
    rw [e] at hst
    cases hst)
  have parts : s.sweepCells hit s.cis.cells = ((s.sweepCells hit l₁).sweepCell hit c x).sweepCells hit l₂ := by
    have value : SMap.get (fun _ => ({} : Cell)) s.cis.cells c = x := hx
    rw [value] at hl
    rw [hl, State.sweepCells, List.foldl_append, List.foldl_cons]
    rfl
  have walk : (s.sweepCells hit l₁).cis.walk = s.cis.walk := (s.sweepCells_touches hit l₁).part .walk (by decide)
  obtain ⟨freed, orphan⟩ := State.sweepCell_frees (s := s.sweepCells hit l₁) ((s.cell_sweepCells_ne hit h₁).trans hx) hst hbad
    hmissed (walk ▸ hwalk) hc
  rw [parts]
  exact ⟨(State.cell_sweepCells_ne _ hit h₂).trans freed, (State.sweepCells_touches _ hit l₂).part .books (by decide) 2 orphan⟩

theorem State.sweepFree_touches (s : State) (c : Nat) : Touches [.bar, .cis, .cells] s (s.sweepFree c) :=
  ((s.setCell_touches c _).seq (State.book_touches _ _ _ (by decide)) (by decide)).ite (Touches.refl s)

theorem State.cell_sweepFree_ne (s : State) {c d : Nat} (h : d ≠ c) : (s.sweepFree c).cell d = s.cell d := by
  unfold State.sweepFree
  split
  · rw [State.cell_congr ((State.book_touches _ c none (by decide)).part .cells (by decide)), State.cell_setCell_ne _ _ h]
  · rfl

/-- The cells that the walk reached while they were FREE. -/
def State.sweepReached (s : State) (hit : List Nat) : State := hit.foldl State.sweepFree s

theorem State.sweepReached_touches (s : State) (hit : List Nat) : Touches [.bar, .cis, .cells] s (s.sweepReached hit) :=
  Touches.foldl hit s fun t c _ => t.sweepFree_touches c

theorem State.cell_sweepReached (s : State) {hit : List Nat} {c : Nat} (h : c ∉ hit) : (s.sweepReached hit).cell c = s.cell c :=
  List.foldlRecOn (motive := fun t => State.cell t c = s.cell c) hit _ rfl fun t ht x hx =>
    (t.cell_sweepFree_ne (c := x) (d := c) fun e => h (e ▸ hx)).trans ht

theorem State.bookCells_touches (s : State) (bit : Nat) (l : List Nat) (hb : bit < 32) :
    Touches [.bar] s (l.foldl (fun t c => t.book bit c none) s) := Touches.foldl l s fun t _ _ => t.book_touches _ _ hb

theorem State.sweepRefs_touches (s : State) (refs : List Nat) (i : Nat) : Touches [.bar, .cis, .pkts] s (s.sweepRefs refs i) := by
  unfold State.sweepRefs
  split
  · split
    · exact (s.setPkt_touches i _).seq (State.bookCells_touches _ 4 _ (by decide)) (by decide)
    · exact Touches.refl s
  · exact Touches.refl s

theorem State.pkt_sweepRefs_ne (s : State) (refs : List Nat) {i j : Nat} (h : j ≠ i) : (s.sweepRefs refs i).pkt? j = s.pkt? j := by
  unfold State.sweepRefs
  split
  · split
    · rw [State.pkt_congr ((State.bookCells_touches _ 4 _ (by decide)).part .pkts (by decide)), State.pkt_setPkt_ne _ _ h]
    · rfl
  · rfl

/-- A packet with fewer references than were found gets the number found, with REF_FAULT (R49). -/
theorem State.sweepRefs_raises {s : State} {refs : List Nat} {i : Nat} {k : Pkt} (hk : s.pkt? i = some k) (hcells : k.cells ≠ [])
    (hrefs : k.refs < refs.count i) : (s.sweepRefs refs i).pkt? i = some { k with refs := refs.count i }
      ∧ nbit ((s.sweepRefs refs i).word 0x140).toNat 4 = 1 := by
  have effect : s.sweepRefs refs i = k.cells.foldl (fun t c => t.book 4 c none) (s.setPkt i (some { k with refs := refs.count i })) := by
    unfold State.sweepRefs
    rw [hk]
    exact if_pos hrefs
  rw [effect]
  refine ⟨by rw [State.pkt_congr ((State.bookCells_touches _ 4 _ (by decide)).part .pkts (by decide)), State.pkt_setPkt], ?_⟩
  generalize s.setPkt i _ = u
  obtain ⟨c, l, hl⟩ := List.exists_cons_of_ne_nil hcells
  rw [hl, List.foldl_cons]
  exact (State.bookCells_touches _ 4 l (by decide)).part .books (by decide) 4 (State.bookWith_bit _ _ _ _ (by decide))

/-- The counts are raised. -/
def State.sweepCounts (s : State) (refs l : List Nat) : State := l.foldl (fun t i => t.sweepRefs refs i) s

theorem State.sweepCounts_touches (s : State) (refs l : List Nat) : Touches [.bar, .cis, .pkts] s (s.sweepCounts refs l) :=
  Touches.foldl l s fun t i _ => t.sweepRefs_touches refs i

/-- A packet whose count is raised keeps it. -/
theorem State.sweepRefs_keeps {s : State} {refs : List Nat} {i j : Nat} {k : Pkt} (hk : s.pkt? i = some k) (hrefs : k.refs = refs.count i) :
    (s.sweepRefs refs j).pkt? i = some k := by
  by_cases e : i = j
  · subst e
    unfold State.sweepRefs
    rw [hk]
    dsimp only
    rw [if_neg (by omega), hk]
  · rw [s.pkt_sweepRefs_ne refs e, hk]

theorem State.sweepCounts_raises {s : State} {refs l : List Nat} {i : Nat} {k : Pkt} (hi : i ∈ l) (hk : s.pkt? i = some k)
    (hcells : k.cells ≠ []) (hrefs : k.refs < refs.count i) : (s.sweepCounts refs l).pkt? i = some { k with refs := refs.count i }
      ∧ nbit ((s.sweepCounts refs l).word 0x140).toNat 4 = 1 := by
  induction l generalizing s with
  | nil => cases hi
  | cons j l ih =>
    by_cases e : i = j
    · subst e
      obtain ⟨raised, fault⟩ := State.sweepRefs_raises hk hcells hrefs
      refine ⟨?_, (State.sweepCounts_touches _ refs l).part .books (by decide) 4 fault⟩
      exact List.foldlRecOn (motive := fun t => State.pkt? t i = some { k with refs := refs.count i }) l _ raised
        fun t ht x _ => State.sweepRefs_keeps ht rfl
    · exact ih ((List.mem_cons.1 hi).resolve_left e) ((s.pkt_sweepRefs_ne refs e).trans hk)

theorem State.dropOrphan_touches (s : State) (refs : List Nat) (i : Nat) : Touches [.cis, .pkts] s (s.dropOrphan refs i) := by
  unfold State.dropOrphan
  split
  · exact (s.setPkt_touches _ _).ite (Touches.refl s)
  · exact Touches.refl s

theorem State.pkt_dropOrphan (s : State) {refs : List Nat} (i : Nat) {j : Nat} (h : j ∈ refs) : (s.dropOrphan refs i).pkt? j = s.pkt? j := by
  unfold State.dropOrphan
  split
  · split
    · next hc =>
      refine s.pkt_setPkt_ne none fun e => ?_
      simp [← e, h] at hc
    · rfl
  · rfl

/-- The orphans dropped. -/
def State.dropOrphans (s : State) (held : List Nat) (l : List (Nat × Option Pkt)) : State :=
  l.foldl (fun t x => t.dropOrphan held x.1) s

theorem State.dropOrphans_touches (s : State) (held : List Nat) (l : List (Nat × Option Pkt)) :
    Touches [.cis, .pkts] s (s.dropOrphans held l) := Touches.foldl l s fun t x _ => t.dropOrphan_touches held x.1

theorem State.pkt_dropOrphans (s : State) {held : List Nat} (l : List (Nat × Option Pkt)) {i : Nat} (h : i ∈ held) :
    (s.dropOrphans held l).pkt? i = s.pkt? i :=
  List.foldlRecOn (motive := fun t => State.pkt? t i = s.pkt? i) l _ rfl fun t ht x _ => (t.pkt_dropOrphan x.1 h).trans ht

/-- The state when the walk is done, but for its number. -/
def State.swept (s : State) (extra : List Nat) : State :=
  let hit := s.reached (s.references ++ s.heldPkts extra)
  let u := ((s.sweepCells hit s.cis.cells).sweepReached hit).sweepCounts s.references s.references.eraseDups
  u.dropOrphans (s.references ++ s.heldPkts extra) u.cis.pkts

/-- The number of the next walk. -/
def State.nextWalk (s : State) : State := { s with cis := { s.cis with walk := s.cis.walk + 1 } }

theorem State.sweep_eq (s : State) (extra : List Nat) : s.sweep extra = (s.swept extra).nextWalk := rfl

theorem State.nextWalk_touches (s : State) : Touches [.cis, .walk] s s.nextWalk := by
  constructor
  intro x hx
  have same := x.same_refl s
  cases x
  case cis | walk => simp at hx
  all_goals exact same

theorem State.swept_touches (s : State) (extra : List Nat) : Touches [.bar, .cis, .cells, .pkts] s (s.swept extra) :=
  (((s.sweepCells_touches _ _).seq (State.sweepReached_touches _ _) (by decide)).trans
    ((State.sweepCounts_touches _ _ _).mono (by decide))).trans
    ((State.dropOrphans_touches _ _ _).mono (by decide))

theorem State.swept_frees {s : State} {extra : List Nat} {c : Nat} {x : Cell} (hwf : SMap.wf (fun _ => ({} : Cell)) s.cis.cells = true)
    (hx : s.cell c = x) (hst : x.st = .allocated) (hbad : x.bad = false) (hmissed : x.missed = true) (hwalk : x.walk < s.cis.walk)
    (hc : c ∉ s.reached (s.references ++ s.heldPkts extra)) :
    (s.swept extra).cell c = {} ∧ nbit ((s.swept extra).word 0x140).toNat 2 = 1 := by
  obtain ⟨freed, orphan⟩ := State.sweepCells_frees hwf hx hst hbad hmissed hwalk hc
  unfold State.swept
  dsimp only
  generalize s.sweepCells _ s.cis.cells = u at *
  have reached := u.cell_sweepReached hc
  have later : Touches [.bar, .cis, .pkts] (u.sweepReached (s.reached (s.references ++ s.heldPkts extra))) _ :=
    (State.sweepCounts_touches _ s.references s.references.eraseDups).trans ((State.dropOrphans_touches _
      (s.references ++ s.heldPkts extra) ((u.sweepReached (s.reached (s.references ++ s.heldPkts extra))).sweepCounts s.references
        s.references.eraseDups).cis.pkts).mono (by decide))
  exact ⟨(State.cell_congr (later.part .cells (by decide)) c).trans (reached.trans freed),
    later.part .books (by decide) 2 ((u.sweepReached_touches _).part .books (by decide) 2 orphan)⟩

theorem State.swept_raises {s : State} {extra : List Nat} {i : Nat} {k : Pkt} (hk : s.pkt? i = some k) (hcells : k.cells ≠ [])
    (hrefs : k.refs < s.references.count i) : (s.swept extra).pkt? i = some { k with refs := s.references.count i }
      ∧ nbit ((s.swept extra).word 0x140).toNat 4 = 1 := by
  have mem : i ∈ s.references := List.count_pos_iff.1 (by omega)
  unfold State.swept
  dsimp only
  have before := ((s.sweepCells_touches (s.reached (s.references ++ s.heldPkts extra)) s.cis.cells).trans
    (State.sweepReached_touches _ (s.reached (s.references ++ s.heldPkts extra))))
  generalize (s.sweepCells _ s.cis.cells).sweepReached _ = u at *
  obtain ⟨raised, fault⟩ := State.sweepCounts_raises (List.mem_eraseDups.2 mem) ((State.pkt_congr (before.part .pkts (by decide)) i).trans hk)
    hcells hrefs
  generalize u.sweepCounts s.references s.references.eraseDups = v at *
  exact ⟨(v.pkt_dropOrphans _ (List.mem_append_left _ mem)).trans raised, (v.dropOrphans_touches _ _).part .books (by decide) 4 fault⟩

theorem cisternSweep_frees_and_raises (s : State) (hs : s.stopped = false) (hwf : SMap.wf (fun _ => ({} : Cell)) s.cis.cells = true) :
    Completes .cisternSweep s fun t => t.cis.walk = s.cis.walk + 1
      ∧ (∀ (c : Nat) (x : Cell), s.cell c = x → x.st = .allocated → x.bad = false → x.missed = true → x.walk < s.cis.walk →
        c ∉ s.reached (s.references ++ s.heldPkts s.pathPkts) → t.cell c = {} ∧ nbit (t.word 0x140).toNat 2 = 1)
      ∧ ∀ (i : Nat) (k : Pkt), s.pkt? i = some k → k.cells ≠ [] → k.refs < s.references.count i →
        (t.pkt? i).map Pkt.refs = some (s.references.count i) ∧ nbit (t.word 0x140).toNat 4 = 1 := by
  refine completes_of_ended hs rfl fun t ht => ?_
  rw [State.sweep_eq] at ht
  have later := (s.swept s.pathPkts).nextWalk_touches.seq (ps := [.cis, .walk, .out, .time, .bar]) ht.touches (by decide)
  refine ⟨?_, fun c x hx hst hbad hmissed hwalk hc => ?_, fun i k hk hcells hrefs => ?_⟩
  · have walk : (s.swept s.pathPkts).cis.walk = s.cis.walk := (s.swept_touches _).part .walk (by decide)
    rw [ht.touches.part .walk (by decide), State.nextWalk, walk]
  · obtain ⟨freed, orphan⟩ := State.swept_frees hwf hx hst hbad hmissed hwalk hc
    exact ⟨(State.cell_congr (later.part .cells (by decide)) c).trans freed, later.part .books (by decide) 2 orphan⟩
  · obtain ⟨raised, fault⟩ := State.swept_raises (extra := s.pathPkts) hk hcells hrefs
    rw [State.pkt_congr (later.part .pkts (by decide)), raised]
    exact ⟨rfl, later.part .books (by decide) 4 fault⟩

end Sys2Proof.Machine

namespace Sys2Proof.Machine

/-! ### O23: the replicator -/

/-- The parts in which some write of a register word shows. -/
def wordsParts : List Part := [.bar, .books, .lane, .portStat, .fwdCfg, .colCfg, .tables, .ctxWords]

theorem wordParts_words (a : Nat) : wordParts a ⊆ wordsParts := by
  exact wordParts_subset (by decide) fun x hx _ => List.mem_cons_of_mem _ hx

theorem State.addSat_touches (s : State) (f : FRef) (n : Nat) : Touches (wordParts f.addr) s (s.addSat f n) := s.put_touches _ _

theorem State.spray_touches (s : State) (g v c : Nat) : Touches [.fwd] s (s.spray g v c).2 := by
  unfold State.spray
  dsimp only
  split
  · exact Touches.refl s
  · exact (s.setSpray_touches _ _ _ _).step (State.countAt_touches _ _ _ (by decide)) (by decide)

theorem State.chooseMember_touches (s : State) (g bank : Nat) (b : List Byte) : Touches [.fwd] s (s.chooseMember g bank b).2 := by
  unfold State.chooseMember
  split
  · split
    · exact Touches.refl s
    · exact Touches.ite ((State.countAt_touches _ _ _ (by decide)).seq (State.countAt_touches _ _ _ (by decide)) (by decide))
        ((State.countAt_touches _ _ _ (by decide)).mono (by decide))
  · exact s.spray_touches _ _ _

theorem State.replicaPort_touches (s : State) (k : Pkt) (leaf : Nat) : Touches [.fwd] s (s.replicaPort k leaf).2 := by
  unfold State.replicaPort
  split
  · exact Touches.refl s
  · split
    · exact s.chooseMember_touches _ _ _
    · exact Touches.refl s
  · exact Touches.refl s

theorem State.modPkt_touches (s : State) (i : Nat) (f : Pkt → Pkt) : Touches [.cis, .pkts] s (s.modPkt i f) := by
  unfold State.modPkt
  split
  · exact s.setPkt_touches _ _
  · exact Touches.refl s

theorem State.admitLossy_touches (s : State) (i : Nat) : Touches [.cis, .pkts, .ports] s (s.admitLossy i) := by
  unfold State.admitLossy
  split
  · split
    · exact (s.setPkt_touches _ _).seq (State.returnCredit_touches _ _ _ _) (by decide)
    · exact Touches.refl s
  · exact Touches.refl s

theorem numbered_touches (s : State) (n : Nat) : Touches [.cis] s { s with cis := { s.cis with nextSeq := n } } := by
  constructor
  intro x hx
  have same := x.same_refl s
  cases x
  case cis => simp at hx
  all_goals exact same

theorem State.writeEntry_touches (s : State) (p q i : Nat) : Touches [.cis, .queues, .ents, .pkts] s (s.writeEntry p q i) := by
  have entered : Touches [.cis, .queues, .ents, .pkts] s
      (((({ s with cis := { s.cis with nextSeq := s.cis.nextSeq + 1 } } : State).setQueue p q
        { s.queue p q with ents := (s.queue p q).ents ++ [⟨s.cis.nextSeq, i⟩] }).addRef i).markQueue p q) :=
    (((numbered_touches s _).seq (State.setQueue_touches _ _ _ _) (by decide)).step (State.modPkt_touches _ _ _)
      (by decide)).step (State.markQueue_touches _ _ _) (by decide)
  exact Touches.ite (entered.step (State.lateHead_touches _ _ _) (by decide)) entered

/-- Counting an event, whichever it is. -/
theorem State.countAny_touches (s : State) (scope : Nat → Bool) (ev n : Nat) : Touches [.items] s (s.countIn scope ev n) := by
  constructor
  intro x hx
  have same := x.same_refl s
  cases x
  case items => simp at hx
  case events => exact s.countIn_events scope ev n
  case out =>
    show (s.countIn scope ev n).obs.out = s.obs.out
    rw [State.countIn_only]
  all_goals exact same

theorem State.offer_touches (s : State) (p i : Nat) : Touches [.cis, .queues, .ents, .pkts, .ports, .items] s (s.offer p i) := by
  unfold State.offer
  split
  · exact Touches.refl s
  · next k _ =>
    have dropped : ∀ n, Touches [.items] s (s.countCisPort p (lossyEvent n k.colour) 1) := fun n => s.countAny_touches
      (fun g => (decide (0x700 ≤ g) && decide (g < 0x700 + 2)) || g == 0x100 + p) (lossyEvent n k.colour) 1
    dsimp only
    refine Touches.ite ((State.countCisPort_touches _ _ _ (by decide)).mono (by decide))
      (Touches.ite ?_ ((s.writeEntry_touches _ _ _).mono (by decide)))
    split
    · exact (s.admitLossy_touches i).seq (State.writeEntry_touches _ _ _ _) (by decide)
    · exact (dropped _).mono (by decide)

/-- What the walk of a chain may change. -/
def mcParts : List Part :=
  [.bar, .books, .lane, .portStat, .fwdCfg, .colCfg, .tables, .ctxWords, .cis, .queues, .ents, .pkts, .cells, .ports, .fwd, .items]

theorem Walk.skip_touches (w : Walk) (leaf : Nat) (f : FRef) (ev : Nat) (hev : ev ≠ Ev.BSN_ITEM_ACC) :
    Touches mcParts w.st (w.skip leaf f ev).st :=
  ((w.st.addSat_touches f 1).mono (wordParts_words _)).seq (State.countFwd_touches _ _ hev) (by decide)

theorem Walk.reach_touches (w : Walk) (i d : Nat) (inLeaf : Option Nat) (leaf : Nat) :
    Touches mcParts w.st (w.reach i d inLeaf leaf).st := by
  unfold Walk.reach
  dsimp only
  split
  · exact Touches.refl _
  · split
    · exact Touches.refl _
    · next k _ =>
      have skipped : ∀ (f : FRef) (ev : Nat), ev ≠ Ev.BSN_ITEM_ACC →
          Touches mcParts w.st (({ w with seen := leaf :: w.seen } : Walk).skip leaf f ev).st := fun f ev hev =>
        Walk.skip_touches _ leaf f ev hev
      split
      · exact Touches.refl _
      · split
        · exact skipped _ _ (by decide)
        · split
          · exact skipped _ _ (by decide)
          · split
            · exact ((w.st.replicaPort_touches k leaf).seq (State.offer_touches _ _ _) (by decide)).step
                (State.countFwd_touches _ _ (by decide)) (by decide)
            · exact skipped _ _ (by decide)

/-- The leaves that one descriptor names, in turn. -/
def Walk.overLeaves (w : Walk) (i d : Nat) (inLeaf : Option Nat) (leaves : List Nat) : Walk :=
  leaves.foldl (fun w leaf => w.reach i d inLeaf leaf) w

theorem Walk.overLeaves_touches (w : Walk) (i d : Nat) (inLeaf : Option Nat) (leaves : List Nat) :
    Touches mcParts w.st (w.overLeaves i d inLeaf leaves).st := by
  induction leaves generalizing w with
  | nil => exact Touches.refl _
  | cons leaf leaves ih => exact (w.reach_touches i d inLeaf leaf).trans (ih _)

/-- The walk of a chain of descriptors for packet `i` (R126). -/
def Walk.overChain (w : Walk) (i bank : Nat) (inLeaf : Option Nat) (chain : List Nat) : Walk :=
  chain.foldl (fun w d => w.overLeaves i d inLeaf (w.st.descLeaves bank d)) w

theorem Walk.overChain_touches (w : Walk) (i bank : Nat) (inLeaf : Option Nat) (chain : List Nat) :
    Touches mcParts w.st (w.overChain i bank inLeaf chain).st := by
  induction chain generalizing w with
  | nil => exact Touches.refl _
  | cons d chain ih => exact (w.overLeaves_touches i d inLeaf _).trans (ih _)

/-- The walk for a packet that is there, from its start with the walk reference to its end. -/
def State.walked (s : State) (m : McItem) (k : Pkt) : Walk :=
  (⟨s.modPkt m.pkt fun k => { k with refs := 1 }, [], []⟩ : Walk).overChain m.pkt k.bank m.inLeaf (s.descChain k.bank 64 m.desc)

/-- The end of a walk: the walk reference is dropped. -/
def Walk.ended (w : Walk) (i : Nat) : State × List Nat := (w.st.unref i, w.skips)

theorem State.replicate_eq {s : State} {m : McItem} {k : Pkt} (hk : s.pkt? m.pkt = some k) :
    s.replicate m = (s.walked m k).ended m.pkt := by
  rw [State.replicate, hk]
  rfl

theorem State.replicate_touches (s : State) (m : McItem) : Touches mcParts s (s.replicate m).1 := by
  cases hk : s.pkt? m.pkt with
  | none =>
    unfold State.replicate
    rw [hk]
    exact Touches.refl s
  | some k =>
    have walked : Touches mcParts (s.modPkt m.pkt fun k => { k with refs := 1 }) (s.walked m k).st :=
      Walk.overChain_touches ⟨_, [], []⟩ _ _ _ _
    rw [State.replicate_eq hk]
    exact (((s.modPkt_touches _ _).mono (by decide)).trans walked).step (State.unref_touches _ _) (by decide)

/-- A chain whose first descriptor is not valid gives the packet up (R126). -/
theorem State.replicate_invalid {s : State} {m : McItem} {k : Pkt} (hk : s.pkt? m.pkt = some k)
    (hd : s.on (F.MDESC_W0_VALID (k.bank * 65536 + m.desc)) = false) :
    (s.replicate m).1.pkt? m.pkt = none ∧ (s.replicate m).2 = [] := by
  have chain : s.descChain k.bank 64 m.desc = [] := if_neg (by rw [mdIx, hd]; decide)
  have effect : s.replicate m = ((s.modPkt m.pkt fun k => { k with refs := 1 }).unref m.pkt, []) := by
    rw [State.replicate_eq hk, State.walked, chain]
    rfl
  rw [effect]
  refine ⟨State.pkt_unref_last _ fun x hx => ?_, rfl⟩
  unfold State.modPkt at hx
  rw [hk] at hx
  dsimp only at hx
  rw [State.pkt_setPkt] at hx
  exact (Option.some.inj hx) ▸ le_refl 1

/-- The replicator has taken the oldest waiting packet. -/
def State.withoutMc (s : State) (rest : List McItem) : State := { s with cis := { s.cis with mcQ := rest } }

theorem State.mcReplicate_touches {s : State} {m : McItem} {rest : List McItem} (h : s.cis.mcQ = m :: rest) :
    Touches mcParts (s.withoutMc rest) s.mcReplicate := by
  have walked := (s.withoutMc rest).replicate_touches m
  unfold State.mcReplicate
  rw [h]
  dsimp only
  split
  · exact walked
  · split
    · exact walked
    · have counted := walked.step (State.countCol_touches ((s.withoutMc rest).replicate m).1 (ev := Ev.COL_DELIVERY_SKIP)
        ((s.withoutMc rest).replicate m).2.length (by decide)) (by decide)
      split
      · exact counted.trans (((State.addSat_touches _ _ _).mono (wordParts_words _)).mono (by decide))
      · exact counted

/-- Where no leaf was skipped, nothing is reported. -/
theorem State.mcReplicate_eq {s : State} {m : McItem} {rest : List McItem} (h : s.cis.mcQ = m :: rest)
    (hskip : ((s.withoutMc rest).replicate m).2 = []) : s.mcReplicate = ((s.withoutMc rest).replicate m).1 := by
  have skips : (State.replicate { s with cis := { s.cis with mcQ := rest } } m).2.isEmpty = true := by
    rw [show (State.replicate { s with cis := { s.cis with mcQ := rest } } m).2 = [] from hskip]
    rfl
  unfold State.mcReplicate
  rw [h]
  dsimp only
  split
  · rfl
  · exact if_pos (.inr skips)

theorem mcReplicate_takes_oldest (m : McItem) (rest : List McItem) (s : State) (hs : s.stopped = false) (h : s.cis.mcQ = m :: rest) :
    Completes .mcReplicate s fun t => t.cis.mcQ = rest
      ∧ ∀ k, s.pkt? m.pkt = some k → s.on (F.MDESC_W0_VALID (k.bank * 65536 + m.desc)) = false → t.pkt? m.pkt = none := by
  refine completes_of_ended hs rfl fun t ht => ⟨?_, fun k hk hd => ?_⟩
  · exact Eq.trans (b := s.mcReplicate.cis.mcQ) (ht.touches.part .mcQ (by decide)) ((State.mcReplicate_touches h).part .mcQ (by decide))
  · obtain ⟨gone, skips⟩ := State.replicate_invalid (s := s.withoutMc rest) hk hd
    rw [State.pkt_congr (ht.touches.part .pkts (by decide)), State.mcReplicate_eq h skips, gone]

/-- Settles O23: each event of the queues, the policers, the sweep and the replicator leaves what it says, and what follows
it leaves that alone. -/
theorem queuesPolicersAndTheSweep : Obligations.QueuesPolicersAndTheSweep :=
  ⟨queueStall_empties_queue, groupReturnRelease_ends_wait, weirEthDebit_debits, cisternSweep_frees_and_raises,
    mcReplicate_takes_oldest⟩

end Sys2Proof.Machine

namespace Sys2Proof.Machine

/-! ### Contexts -/

theorem State.ctx_congr {s t : State} (h : t.col.ctxs = s.col.ctxs) (c : Nat) : t.ctx c = s.ctx c := by
  unfold State.ctx
  rw [h]

theorem State.ctx_modCtx (s : State) (c : Nat) (f : CtxSt → CtxSt) : (s.modCtx c f).ctx c = f (s.ctx c) := State.ctx_setCtx _ _ _

theorem State.ctx_modCtx_ne (s : State) {c d : Nat} (f : CtxSt → CtxSt) (h : d ≠ c) : (s.modCtx c f).ctx d = s.ctx d :=
  State.ctx_setCtx_ne _ _ h

/-- Between two states of a context no member has arrived, been skipped or been counted, and no Basin has closed. -/
structure CtxSt.Keeps (x y : CtxSt) : Prop where
  accd : y.accd = x.accd
  skipAt : y.skipAt = x.skipAt
  closedAt : y.closedAt = x.closedAt
  arrived : ∀ i h, (y.index i h).arrived = (x.index i h).arrived

theorem State.modCtx_keeps (s : State) (c : Nat) (f : CtxSt → CtxSt) (h : (s.ctx c).Keeps (f (s.ctx c))) :
    Touches [.ctxs] s (s.modCtx c f) := by
  have ctx : ∀ d, (s.ctx d).Keeps ((s.modCtx c f).ctx d) := by
    intro d
    by_cases e : d = c
    · subst e
      rw [s.ctx_modCtx]
      exact h
    · rw [s.ctx_modCtx_ne f e]
      exact ⟨rfl, rfl, rfl, fun _ _ => rfl⟩
  constructor
  intro x hx
  have same := (s.setCtx_touches c (f (s.ctx c))).part x
  cases x
  case ctxs => simp at hx
  case accd => exact fun d => (ctx d).accd
  case skipAt => exact fun d => (ctx d).skipAt
  case closedAt => exact fun d => (ctx d).closedAt
  case arrived => exact fun d => (ctx d).arrived
  all_goals exact same (by decide)

theorem CtxSt.index_set (x : CtxSt) (idx half : Nat) (y : IdxSt) (i h : Nat) :
    ({ x with idx := SMap.set (fun _ => {}) x.idx (idx * 2 + half) y } : CtxSt).index i h
      = if i * 2 + h = idx * 2 + half then y else x.index i h := by
  unfold CtxSt.index
  split
  · next e =>
    rw [e]
    exact SMap.get_set_same _ _ _ _
  · next e => exact SMap.get_set_ne _ _ _ e

theorem State.index_setIndex (s : State) (c idx half : Nat) (y : IdxSt) : ((s.setIndex c idx half y).ctx c).index idx half = y := by
  rw [State.setIndex, State.ctx_modCtx, CtxSt.index_set, if_pos rfl]

/-- An update of a chunk index. -/
theorem State.setIndex_touches (s : State) (c idx half : Nat) (y : IdxSt) : Touches [.ctxs, .arrived] s (s.setIndex c idx half y) := by
  have ctx : ∀ d, ((s.setIndex c idx half y).ctx d).accd = (s.ctx d).accd ∧ ((s.setIndex c idx half y).ctx d).skipAt = (s.ctx d).skipAt
      ∧ ((s.setIndex c idx half y).ctx d).closedAt = (s.ctx d).closedAt := by
    intro d
    by_cases e : d = c
    · subst e
      rw [State.setIndex, State.ctx_modCtx]
      exact ⟨rfl, rfl, rfl⟩
    · rw [State.setIndex, State.ctx_modCtx_ne _ _ e]
      exact ⟨rfl, rfl, rfl⟩
  constructor
  intro x hx
  have same : x ∉ [Part.ctxs, .accd, .skipAt, .closedAt, .arrived] → x.same s (s.setIndex c idx half y) := (s.setCtx_touches c _).part x
  cases x
  case ctxs | arrived => simp at hx
  case accd => exact fun d => (ctx d).1
  case skipAt => exact fun d => (ctx d).2.1
  case closedAt => exact fun d => (ctx d).2.2
  all_goals exact same (by decide)

/-- An update of a chunk index that keeps who has arrived. -/
theorem State.setIndex_keeps (s : State) (c idx half : Nat) (y : IdxSt) (h : y.arrived = ((s.ctx c).index idx half).arrived) :
    Touches [.ctxs] s (s.setIndex c idx half y) := by
  refine s.modCtx_keeps c _ ⟨rfl, rfl, rfl, fun i k => ?_⟩
  rw [CtxSt.index_set]
  split
  · next e =>
    rw [h]
    unfold CtxSt.index
    rw [e]
  · rfl

/-! ### Words of a context -/

theorem wordParts_ctx {a : Nat} (h : 0x5000000 ≤ a) : wordParts a ⊆ [.bar, .ctxWords] := by
  refine wordParts_subset (by decide) fun x hx hc => ?_
  fin_cases hx <;> simp [Part.covers] at hc ⊢ <;> omega

theorem State.ctxBit_touches (s : State) (c base i : Nat) : Touches [.bar, .ctxWords] s (s.ctxBit c base i) :=
  (s.orBits_touches (wordRef (0x05000000 + 1024 * c + 4 * (base + i / 32))) _).mono
    (wordParts_ctx (a := 0x05000000 + 1024 * c + 4 * (base + i / 32)) (by omega))

theorem State.ctxCount_touches (s : State) (c i n : Nat) : Touches [.bar, .ctxWords] s (s.ctxCount c i n) :=
  (s.addSat_touches _ n).mono (wordParts_ctx (by simp [F.CTX_W12_COUNTER]; omega))

theorem State.noteSkips_touches (s : State) (c half n : Nat) (skips : List Nat) :
    Touches [.bar, .ctxWords] s (s.noteSkips c half n skips) := by
  have marked : Touches [.bar, .ctxWords] s (skips.foldl (fun t i => t.ctxBit c 32 i) s) :=
    Touches.foldl _ s fun t i _ => t.ctxBit_touches c 32 i
  exact (Touches.refl s).ite ((marked.trans (State.ctxCount_touches _ c 7 n)).ite marked)

theorem State.emptyIndices_touches (s : State) (c n half : Nat) : Touches [.ctxs] s (s.emptyIndices c n half) :=
  s.modCtx_keeps c _ ⟨rfl, rfl, rfl, fun _ _ => rfl⟩

/-! ### Requests of the spill path -/

theorem State.arbRaise_touches (s : State) (i r : Nat) : Touches [] s (s.arbRaise i r) := by
  unfold State.arbRaise
  dsimp only
  split
  · exact s.setArb_touches _ _
  · exact Touches.refl s

theorem State.queuePkt_touches (s : State) (stop r : Nat) (p : RingPkt) : Touches [] s (s.queuePkt stop r p) := by
  unfold State.queuePkt
  dsimp only
  generalize stopInst stop p.ring p.cls = i
  exact (s.setStopPkts_touches _ _ _).trans (State.arbRaise_touches _ _ _)

/-- The kernel does not unfold `State.memIssue` within its depth where the place is not yet named: so it is unfolded here by a
name of its own. -/
theorem State.memIssue_touches {s t : State} {b r : Nat} {q : MemReq} : s.memIssue b r q = some t → Touches [] s t := by
  generalize hf : @State.memIssue = f
  delta State.memIssue at hf
  subst hf
  beta_reduce
  generalize s.locate q.addr = place
  intro h
  cases place with
  | none => cases h
  | some l =>
    cases h
    exact s.queuePkt_touches _ _ _

/-- Several requests, of which those to no place are not sent. -/
theorem State.memIssues_touches {α : Type} (s : State) (b r : Nat) (f : α → MemReq) (l : List α) :
    Touches [] s (l.foldl (fun t x => (t.memIssue b r (f x)).getD t) s) := by
  refine Touches.foldl l s fun t x _ => ?_
  cases h : t.memIssue b r (f x) with
  | none => exact Touches.refl t
  | some u => exact State.memIssue_touches h

theorem State.spillContrib_touches (s : State) (c b idx : Nat) (bytes : List Byte) : Touches [.ctxs] s (s.spillContrib c b idx bytes) := by
  unfold State.spillContrib
  dsimp only
  split
  · exact Touches.refl s
  · exact (s.setIndex_keeps c idx 0 _ (by rfl)).trans ((State.memIssues_touches _ b 25 _ _).mono (by decide))

theorem State.readImage_touches (s : State) (c b idx : Nat) : Touches [.ctxs] s (s.readImage c b idx) := by
  unfold State.readImage
  dsimp only
  split
  · exact s.setIndex_keeps c idx 0 _ (by rfl)
  · exact (s.setIndex_keeps c idx 0 _ (by rfl)).trans ((State.memIssues_touches _ b 25 _ _).mono (by decide))

/-! ### Chunk indices -/

theorem State.pushFinish_touches (s : State) (c b idx half : Nat) : Touches [.finQ, .ctxs] s (s.pushFinish c b idx half) :=
  ((s.setFinItems_touches _ _).seq (State.readImage_touches _ _ _ _) (by decide)).ite ((s.setFinItems_touches _ _).mono (by decide))

/-- What the completion of an index may change. -/
def indexParts : List Part := [.bar, .ctxWords, .ctxs, .finQ]

theorem State.checkIndex_touches (s : State) (c b idx half : Nat) : Touches indexParts s (s.checkIndex c b idx half) := by
  have done : ∀ skips, Touches indexParts s
      ((s.setIndex c idx half { (s.ctx c).index idx half with done := true }).noteSkips c half 1 skips) := fun skips =>
    (s.setIndex_keeps c idx half _ (by rfl)).seq (State.noteSkips_touches _ _ _ _ _) (by decide)
  have completed : ∀ t : State, Touches [.ctxs] t (t.modCtx c fun z => { z with complete := z.complete + 1 }) := fun t =>
    t.modCtx_keeps c _ ⟨rfl, rfl, rfl, fun _ _ => rfl⟩
  unfold State.checkIndex
  dsimp only
  split
  · exact Touches.refl s
  · split
    · exact (done _).step (State.emptyIndices_touches _ _ _ _) (by decide)
    · split
      · exact ((done _).step (completed _) (by decide)).step (State.pushFinish_touches _ _ _ _ _) (by decide)
      · exact (done _).step (completed _) (by decide)

theorem State.foldContrib_touches (s : State) (c b idx half : Nat) (k : Pkt) : Touches [.ctxs] s (s.foldContrib c b idx half k) :=
  (s.spillContrib_touches _ _ _ _).ite ((s.setIndex_keeps c idx half _ (by rfl)).step (State.countBasin_touches _ _ _ (by decide)) (by decide))

theorem State.countNanIn_touches (s : State) (c b idx : Nat) (k : Pkt) : Touches [] s (s.countNanIn c b idx k) :=
  (State.countBasin_touches _ _ _ (by decide)).ite (Touches.refl s)

/-! ### Paths and the close of a context -/

theorem State.path_congr {s t : State} (h : t.col.path = s.col.path) (b : Nat) : t.path b = s.path b := by
  unfold State.path
  rw [h]

@[simp] theorem State.path_setPath (s : State) (b : Nat) (l : List BasinItem) : (s.setPath b l).path b = l := SMap.get_set_same _ _ _ _

theorem State.path_setPath_ne (s : State) {b d : Nat} (l : List BasinItem) (h : d ≠ b) : (s.setPath b l).path d = s.path d :=
  SMap.get_set_ne _ _ _ h

/-- A marker on the path to each of several Basins. -/
theorem State.path_pushPaths (s : State) (i : BasinItem) {l : List Nat} (hl : l.Nodup) (b : Nat) :
    (l.foldl (fun t b => t.pushPath b i) s).path b = if b ∈ l then s.path b ++ [i] else s.path b := by
  induction l generalizing s with
  | nil => rfl
  | cons d l ih =>
    obtain ⟨hd, hl⟩ := List.nodup_cons.1 hl
    rw [List.foldl_cons, ih _ hl, State.pushPath]
    by_cases e : b = d
    · subst e
      rw [if_neg hd, if_pos List.mem_cons_self, State.path_setPath]
    · rw [State.path_setPath_ne _ _ e]
      simp [e]

theorem Params.basins_nodup (p : Params) : p.basins.Nodup := List.nodup_range.filter _

theorem State.path_markAll (s : State) (c : Nat) (i : BasinItem) (b : Nat) :
    (s.markAll c i).path b = if b ∈ (s.params c).basins then s.path b ++ [i] else s.path b :=
  s.path_pushPaths i (s.params c).basins_nodup b

theorem State.markAll_touches (s : State) (c : Nat) (i : BasinItem) : Touches [.path] s (s.markAll c i) :=
  Touches.foldl _ s fun t _ _ => t.setPath_touches _ _

/-- The context is CLOSING, with its status. -/
def State.closing (s : State) (c : Nat) (status : Option Nat) : State :=
  (s.setPhase c 4).modCtx c fun x => { x with close := status }

theorem State.setPhase_touches (s : State) (c ph : Nat) : Touches [.bar, .ctxWords, .ctxs] s (s.setPhase c ph) :=
  (s.modCtx_keeps c (fun x => { x with phase := ph }) ⟨rfl, rfl, rfl, fun _ _ => rfl⟩).seq
    ((State.put_touches _ (F.CTX_W10_STATE c) _).mono (wordParts_ctx (by simp [F.CTX_W10_STATE]; omega))) (by decide)

theorem State.closing_touches (s : State) (c : Nat) (status : Option Nat) : Touches [.bar, .ctxWords, .ctxs] s (s.closing c status) :=
  (s.setPhase_touches c 4).step (State.modCtx_keeps _ c (fun x => { x with close := status }) ⟨rfl, rfl, rfl, fun _ _ => rfl⟩) (by decide)

theorem State.closeCtx_eq {s : State} {c : Nat} (h : (s.ctx c).phase = 2) (status : Option Nat) :
    s.closeCtx c status = (s.closing c status).markAll c (.close c) := if_neg (by simp [h])

theorem State.closeCtx_touches (s : State) (c : Nat) (status : Option Nat) :
    Touches [.bar, .ctxWords, .ctxs, .path] s (s.closeCtx c status) :=
  (Touches.refl s).ite ((s.closing_touches c status).seq (State.markAll_touches _ _ _) (by decide))

/-- A close puts at most one marker on a path. -/
theorem State.path_closeCtx (s : State) (c : Nat) (status : Option Nat) (b : Nat) :
    (s.closeCtx c status).path b = s.path b ∨ (s.closeCtx c status).path b = s.path b ++ [.close c] := by
  by_cases h : (s.ctx c).phase = 2
  · rw [State.closeCtx_eq h, State.path_markAll, State.path_congr ((s.closing_touches c status).part .path (by decide))]
    split
    · exact .inr rfl
    · exact .inl rfl
  · rw [State.closeCtx, if_pos h]
    exact .inl rfl

theorem State.closeIfComplete_touches (s : State) (c : Nat) : Touches [.bar, .ctxWords, .ctxs, .path] s (s.closeIfComplete c) :=
  (s.closeCtx_touches c none).ite (Touches.refl s)

theorem State.path_closeIfComplete (s : State) (c b : Nat) :
    (s.closeIfComplete c).path b = s.path b ∨ (s.closeIfComplete c).path b = s.path b ++ [.close c] := by
  unfold State.closeIfComplete
  split
  · exact s.path_closeCtx c none b
  · exact .inl rfl

end Sys2Proof.Machine

namespace Sys2Proof.Machine

/-! ### O28: a chunk accumulated -/

/-- A counter of BSN_ITEM_ACC gains what one operation counts, where nothing before or after it counts that event. -/
theorem counted_between {s u t : State} {scope : Nat → Bool} {n : Nat} (hw : SMap.wf (fun _ => 0) s.obs.sel = true)
    (hi : s.sameItems u) (he : Part.events.same s u) (ht : (u.countIn scope Ev.BSN_ITEM_ACC n).sameItems t) :
    Counted s t scope Ev.BSN_ITEM_ACC n := by
  obtain ⟨sel, cnt⟩ := hi
  have counted := u.countIn_only scope Ev.BSN_ITEM_ACC n
  have sel' : (u.countIn scope Ev.BSN_ITEM_ACC n).obs.sel = u.obs.sel := by rw [counted]
  intro k hk hp hc
  rw [ht.2 (by rw [sel', sel]; exact hw) k (by rw [sel', sel]; exact hk),
    u.counted_countIn scope _ n (by rw [sel]; exact hw) k (by rw [sel]; exact hk) hp (by rw [he.2 k]; exact hc), cnt hw k hk]

/-- The contribution is counted in its context, once for its two halves. -/
def State.chunkCounted (s : State) (c half : Nat) : State := if half = 0 then s.modCtx c fun x => { x with accd := x.accd + 1 } else s

/-- A RECORD is handed on, and completes a record context's index. -/
def State.recordTaken (s : State) (p : Params) (b c idx : Nat) (k : Pkt) : State :=
  if p.type = 1 then (s.stageOut ⟨c, 0xb, idx, { bytes := pPayload k.bytes, basin := b }, false⟩).modCtx c fun x =>
    { x with complete := x.complete + 1 }
  else s.stageOut ⟨c, 0xb, idx, { bytes := pPayload k.bytes, basin := b }, false⟩

/-- The value of a contribution is folded in, unless its index is done or it brings none. -/
def State.contribFolded (s : State) (b c idx half : Nat) (k : Pkt) : State :=
  if cSub k.bytes = 0x0 ∧ !((s.ctx c).index idx half).done then (s.foldContrib c b idx half k).countNanIn c b idx k else s

/-- The member has arrived. -/
def State.memberArrived (s : State) (c idx half : Nat) (k : Pkt) : State :=
  s.setIndex c idx half { (s.ctx c).index idx half with arrived := cContrib k.bytes :: ((s.ctx c).index idx half).arrived }

/-- The chunk is accounted. -/
def State.chunkTaken (s : State) (b c idx half : Nat) (k : Pkt) : State :=
  if cSub k.bytes = 0x2 then (s.chunkCounted c half).recordTaken (s.params c) b c idx k
  else (((s.chunkCounted c half).contribFolded b c idx half k).memberArrived c idx half k).checkIndex c b idx half

/-- The chunk is accounted, and its reference dropped. -/
def State.chunkSettled (s : State) (b i c idx half : Nat) (k : Pkt) : State := (s.chunkTaken b c idx half k).unref i

theorem State.accumulateChunk_eq {s : State} {i : Nat} {k : Pkt} (hk : s.pkt? i = some k) (b c idx half : Nat) :
    s.accumulateChunk b i c idx half
      = ((s.chunkSettled b i c idx half k).countBasin b Ev.BSN_ITEM_ACC 1).closeIfComplete c := by
  rw [State.accumulateChunk, hk]
  rfl

theorem State.chunkCounted_touches (s : State) (c half : Nat) :
    Touches [.ctxs, .accd, .skipAt, .closedAt, .arrived] s (s.chunkCounted c half) :=
  (s.setCtx_touches c _).ite (Touches.refl s)

theorem State.accd_chunkCounted (s : State) (c half : Nat) :
    ((s.chunkCounted c half).ctx c).accd = (s.ctx c).accd + if half = 0 then 1 else 0 := by
  unfold State.chunkCounted
  split
  · rw [State.ctx_modCtx]
  · rfl

theorem State.recordTaken_touches (s : State) (p : Params) (b c idx : Nat) (k : Pkt) :
    Touches [.outQ, .ctxs] s (s.recordTaken p b c idx k) := by
  have staged : ∀ o, Touches [.outQ, .ctxs] s (s.stageOut o) := fun o => (s.stageOut_touches o).mono (by decide)
  exact ((staged _).step (State.modCtx_keeps _ c (fun x => { x with complete := x.complete + 1 }) ⟨rfl, rfl, rfl, fun _ _ => rfl⟩)
    (by decide)).ite (staged _)

theorem State.contribFolded_touches (s : State) (b c idx half : Nat) (k : Pkt) :
    Touches [.ctxs] s (s.contribFolded b c idx half k) :=
  ((s.foldContrib_touches c b idx half k).step (State.countNanIn_touches _ _ _ _ _) (by decide)).ite (Touches.refl s)

theorem State.memberArrived_touches (s : State) (c idx half : Nat) (k : Pkt) :
    Touches [.ctxs, .arrived] s (s.memberArrived c idx half k) := s.setIndex_touches _ _ _ _

theorem State.mem_memberArrived (s : State) (c idx half : Nat) (k : Pkt) :
    cContrib k.bytes ∈ (((s.memberArrived c idx half k).ctx c).index idx half).arrived := by
  rw [State.memberArrived, State.index_setIndex]
  exact List.mem_cons_self

/-- What accounting a chunk may change after its count. -/
def chunkParts : List Part := [.bar, .ctxWords, .ctxs, .finQ, .arrived, .outQ]

theorem State.chunkTaken_touches (s : State) (b c idx half : Nat) (k : Pkt) :
    Touches chunkParts (s.chunkCounted c half) (s.chunkTaken b c idx half k) := by
  refine Touches.ite ((State.recordTaken_touches _ _ _ _ _ _).mono (by decide)) ?_
  exact ((State.contribFolded_touches _ b c idx half k).seq (State.memberArrived_touches _ _ _ _ _) (by decide)).step
    (State.checkIndex_touches _ _ _ _ _) (by decide)

/-- A contribution's member is accounted as arrived. -/
theorem State.mem_chunkTaken (s : State) (b c idx half : Nat) (k : Pkt) (h : cSub k.bytes ≠ 0x2) :
    cContrib k.bytes ∈ (((s.chunkTaken b c idx half k).ctx c).index idx half).arrived := by
  unfold State.chunkTaken
  rw [if_neg h, (State.checkIndex_touches _ c b idx half).part .arrived (by decide) c idx half]
  exact State.mem_memberArrived _ _ _ _ _

/-- What the settling of a chunk may change. -/
def settledParts : List Part :=
  [.ctxs, .accd, .skipAt, .closedAt, .arrived, .bar, .ctxWords, .finQ, .outQ, .cis, .cells, .pkts, .ports]

theorem State.chunkSettled_touches (s : State) (b i c idx half : Nat) (k : Pkt) :
    Touches settledParts s (s.chunkSettled b i c idx half k) :=
  ((s.chunkCounted_touches c half).seq (s.chunkTaken_touches b c idx half k) (by decide)).step
    (State.unref_touches _ i) (by decide)

theorem State.accd_chunkSettled (s : State) (b i c idx half : Nat) (k : Pkt) :
    ((s.chunkSettled b i c idx half k).ctx c).accd = (s.ctx c).accd + if half = 0 then 1 else 0 := by
  rw [State.chunkSettled, (State.unref_touches _ i).part .accd (by decide) c,
    (s.chunkTaken_touches b c idx half k).part .accd (by decide) c, s.accd_chunkCounted]

theorem State.mem_chunkSettled (s : State) (b i c idx half : Nat) (k : Pkt) (h : cSub k.bytes ≠ 0x2) :
    cContrib k.bytes ∈ (((s.chunkSettled b i c idx half k).ctx c).index idx half).arrived := by
  rw [State.chunkSettled, (State.unref_touches _ i).part .arrived (by decide) c idx half]
  exact s.mem_chunkTaken b c idx half k h

theorem bsnAccumulate_takes_chunk (b : BasinIx) (i c idx half : Nat) (rest : List BasinItem) (k : Pkt) (s : State)
    (hs : s.stopped = false) (hp : s.path b = .chunk i c idx half :: rest) (htakes : s.takesItems b = true)
    (hk : s.pkt? i = some k) (hw : SMap.wf (fun _ => 0) s.obs.sel = true) : Completes (.bsnAccumulate b) s fun t =>
      (t.path b = rest ∨ t.path b = rest ++ [.close c])
        ∧ (t.ctx c).accd = (s.ctx c).accd + (if half = 0 then 1 else 0)
        ∧ (cSub k.bytes ≠ 0x2 → cContrib k.bytes ∈ ((t.ctx c).index idx half).arrived)
        ∧ Counted s t (· == 0xa00 + b.val) Ev.BSN_ITEM_ACC 1 := by
  have effect : s.bsnAccumulate b = (s.setPath b rest).accumulateChunk b i c idx half := by
    unfold State.bsnAccumulate
    rw [hp]
    exact if_pos htakes
  refine completes_of_ended hs rfl fun t ht => ?_
  rw [effect, State.accumulateChunk_eq (s := s.setPath b rest) hk] at ht
  have popped := s.setPath_touches b rest
  have settled := (s.setPath b rest).chunkSettled_touches b i c idx half k
  have path := State.path_congr (settled.part .path (by decide)) b
  rw [State.path_setPath] at path
  have accd := (s.setPath b rest).accd_chunkSettled b i c idx half k
  rw [popped.part .accd (by decide) c] at accd
  have arrived := (s.setPath b rest).mem_chunkSettled b i c idx half k
  generalize (s.setPath b rest).chunkSettled b i c idx half k = u at *
  have counted : Touches [.items] u (u.countBasin b Ev.BSN_ITEM_ACC 1) := u.countAny_touches (fun q => q == 0xa00 + b.val) _ 1
  have closed := (u.countBasin b Ev.BSN_ITEM_ACC 1).closeIfComplete_touches c
  have ended := closed.seq (ps := [.bar, .ctxWords, .ctxs, .path, .out, .time]) ht.touches (by decide)
  have later := counted.seq (ps := [.items, .bar, .ctxWords, .ctxs, .path, .out, .time]) ended (by decide)
  refine ⟨?_, (later.part .accd (by decide) c).trans accd, fun h => ?_, ?_⟩
  · rw [State.path_congr (ht.touches.part .path (by decide)), ← path, ← State.path_congr (counted.part .path (by decide)) b]
    exact State.path_closeIfComplete _ c b
  · rw [later.part .arrived (by decide) c idx half]
    exact arrived h
  · exact counted_between hw ((popped.part .items (by decide)).trans (settled.part .items (by decide)))
      ((popped.part .events (by decide)).trans (settled.part .events (by decide))) (ended.part .items (by decide))

end Sys2Proof.Machine

namespace Sys2Proof.Machine

/-! ### O28: markers at a Basin -/

/-- What a marker may change at an index. -/
def markerParts : List Part := [.bar, .ctxWords, .ctxs, .finQ, .arrived]

/-- The members that a Basin has skipped, once it takes a fence marker for one. -/
def CtxSt.withSkip (x : CtxSt) (b i : Nat) : List Nat := if (x.skipOn b).contains i then x.skipOn b else i :: x.skipOn b

theorem CtxSt.mem_withSkip (x : CtxSt) (b i : Nat) : i ∈ x.withSkip b i := by
  unfold CtxSt.withSkip
  split
  · next h => simpa using h
  · exact List.mem_cons_self

/-- The Basin has taken a fence marker. -/
def State.skipNoted (s : State) (b c i : Nat) : State :=
  s.modCtx c fun z => { z with skipAt := SMap.set (fun _ => []) z.skipAt b ((s.ctx c).withSkip b i) }

theorem State.skipNoted_touches (s : State) (b c i : Nat) :
    Touches [.ctxs, .accd, .skipAt, .closedAt, .arrived] s (s.skipNoted b c i) := s.setCtx_touches c _

theorem State.mem_skipNoted (s : State) (b c i : Nat) : i ∈ ((s.skipNoted b c i).ctx c).skipOn b := by
  have skips : ((s.skipNoted b c i).ctx c).skipOn b = (s.ctx c).withSkip b i := by
    rw [State.skipNoted, State.ctx_modCtx]
    exact SMap.get_set_same _ _ _ _
  rw [skips]
  exact (s.ctx c).mem_withSkip b i

/-- What a fence marker does at the indices of its context, once it is noted. -/
def State.fenceIndices (t : State) (s : State) (b c i : Nat) : State :=
  (s.params c).halves.foldl (fun t half =>
    if ((s.ctx c).withSkip b i).length = s.nmemb (s.ctxComm c) ∧ ¬ ((s.ctx c).skipOn b).contains i then
      ((((t.touched c b half).foldl (fun v (e : Nat × IdxSt) => v.checkIndex c b e.1 half) t).noteSkips c half (t.untouched c b half)
        ((s.ctx c).withSkip b i)).emptyIndices c (t.untouched c b half) half)
    else (t.touched c b half).foldl (fun v (e : Nat × IdxSt) => v.checkIndex c b e.1 half) t) t

theorem State.fenceAt_eq (s : State) (b c i : Nat) :
    s.fenceAt b c i = ((s.skipNoted b c i).fenceIndices s b c i).closeIfComplete c := rfl

theorem State.fenceIndices_touches (t s : State) (b c i : Nat) : Touches indexParts t (t.fenceIndices s b c i) := by
  refine Touches.foldl _ t fun u half _ => ?_
  have checked : Touches indexParts u ((u.touched c b half).foldl (fun v (e : Nat × IdxSt) => v.checkIndex c b e.1 half) u) :=
    Touches.foldl _ u fun v _ _ => v.checkIndex_touches _ _ _ _
  exact ((checked.step (State.noteSkips_touches _ _ _ _ _) (by decide)).step (State.emptyIndices_touches _ _ _ _) (by decide)).ite checked

theorem markerAtBasin_takes_fence (b : BasinIx) (c i : Nat) (rest : List BasinItem) (s : State) (hs : s.stopped = false)
    (hp : s.path b = .fence c i :: rest) (hclk : s.clkHeld b = false) : Completes (.markerAtBasin b) s fun t =>
      (t.path b = rest ∨ t.path b = rest ++ [.close c]) ∧ i ∈ (t.ctx c).skipOn b := by
  have effect : s.markerAt b = (s.setPath b rest).fenceAt b c i := by
    unfold State.markerAt
    rw [hclk, hp]
    rfl
  refine completes_of_ended hs rfl fun t ht => ?_
  rw [effect, State.fenceAt_eq] at ht
  have path : (s.setPath b rest).path b = rest := State.path_setPath _ _ _
  generalize s.setPath b rest = s1 at *
  have noted := (s1.skipNoted_touches b c i).part .path (by decide)
  have mem := s1.mem_skipNoted b c i
  have marked := (s1.skipNoted b c i).fenceIndices_touches s1 b c i
  have path2 := (State.path_congr (marked.part .path (by decide)) b).trans ((State.path_congr noted b).trans path)
  generalize (s1.skipNoted b c i) = s2 at *
  generalize s2.fenceIndices s1 b c i = u at *
  have closed := u.closeIfComplete_touches c
  constructor
  · rw [State.path_congr (ht.touches.part .path (by decide)), ← path2]
    exact u.path_closeIfComplete c b
  · have skipAt : (t.ctx c).skipAt = (s2.ctx c).skipAt := (ht.touches.part .skipAt (by decide) c).trans
      ((closed.part .skipAt (by decide) c).trans (marked.part .skipAt (by decide) c))
    unfold CtxSt.skipOn at mem ⊢
    rw [skipAt]
    exact mem

theorem State.ctxBits_touches (s : State) (c base : Nat) (l : List Nat) :
    Touches [.bar, .ctxWords] s (l.foldl (fun t i => t.ctxBit c base i) s) := Touches.foldl _ s fun t i _ => t.ctxBit_touches c base i

theorem State.discardIndex_touches (s : State) (c b half idx : Nat) (y : IdxSt) :
    Touches markerParts s (s.discardIndex c b half idx y) := by
  unfold State.discardIndex
  split
  · exact Touches.refl s
  · exact ((s.setIndex_touches c idx half _).seq (State.noteSkips_touches _ _ _ _ _) (by decide)).step
      (State.ctxBits_touches _ _ _ _) (by decide)

/-- What a close marker does at the indices of its context. -/
def State.closeIndices (s : State) (b c : Nat) : State :=
  (s.params c).halves.foldl (fun t half =>
    let t1 := (t.touched c b half).foldl (fun v (e : Nat × IdxSt) => v.discardIndex c b half e.1 e.2) t
    if t.untouched c b half = 0 ∨ ((s.ctx c).skipOn b).length = s.nmemb (s.ctxComm c) then t1
    else ((List.range (s.nmemb (s.ctxComm c))).filter fun i => !((s.ctx c).skipOn b).contains i).foldl (fun v i => v.ctxBit c 64 i)
      (t1.noteSkips c half (t.untouched c b half) ((s.ctx c).skipOn b))) s

theorem State.closeAt_eq (s : State) (b c : Nat) :
    s.closeAt b c = (s.closeIndices b c).modCtx c fun x => { x with closedAt := b :: x.closedAt } := rfl

theorem State.closeIndices_touches (s : State) (b c : Nat) : Touches markerParts s (s.closeIndices b c) := by
  refine Touches.foldl _ s fun u half _ => ?_
  have discarded : Touches markerParts u ((u.touched c b half).foldl (fun v (e : Nat × IdxSt) => v.discardIndex c b half e.1 e.2) u) :=
    Touches.foldl _ u fun v _ _ => v.discardIndex_touches _ _ _ _ _
  exact discarded.ite ((discarded.step (State.noteSkips_touches _ _ _ _ _) (by decide)).step (State.ctxBits_touches _ _ _ _) (by decide))

theorem markerAtBasin_takes_close (b : BasinIx) (c : Nat) (rest : List BasinItem) (s : State) (hs : s.stopped = false)
    (hp : s.path b = .close c :: rest) (hclk : s.clkHeld b = false) : Completes (.markerAtBasin b) s fun t =>
      t.path b = rest ∧ (t.ctx c).closedAt = b.val :: (s.ctx c).closedAt := by
  have effect : s.markerAt b = (s.setPath b rest).closeAt b c := by
    unfold State.markerAt
    rw [hclk, hp]
    rfl
  refine completes_of_ended hs rfl fun t ht => ?_
  rw [effect, State.closeAt_eq] at ht
  have path : (s.setPath b rest).path b = rest := State.path_setPath _ _ _
  have before := (s.setPath_touches b rest).part .closedAt (by decide) c
  generalize s.setPath b rest = s1 at *
  have marked := s1.closeIndices_touches b c
  generalize s1.closeIndices b c = u at *
  have noted : Touches [.ctxs, .accd, .skipAt, .closedAt, .arrived] u (u.modCtx c fun x => { x with closedAt := b.val :: x.closedAt }) :=
    u.setCtx_touches c _
  constructor
  · rw [State.path_congr (ht.touches.part .path (by decide)), State.path_congr (noted.part .path (by decide)),
      State.path_congr (marked.part .path (by decide)), path]
  · rw [ht.touches.part .closedAt (by decide) c, State.ctx_modCtx, marked.part .closedAt (by decide) c, before]

/-! ### O28: a finish item -/

/-- The result of a finish item: the images' values, rounded once (R207). -/
def State.finished (s : State) (b c idx half : Nat) : Staged :=
  let p := s.params c
  let y := (s.ctx c).index idx half
  let key := s.ctxKey c
  let r := encodeVals p.ofmt (y.images.map (imageVal p.op p.fmt (s.weightOf c y.arrived))) p.sr
    (srDraw p.srseed key.1 key.2.1 key.2.2 idx) p.ovf
  { bytes := r.1, elems := r.2, basin := b, partial_ := !((s.ctx c).skipOn b).all fun i => y.arrived.contains i }

theorem State.countSr_touches (s : State) (b : Nat) (l : List (Rounded × Nat)) : Touches [] s (s.countSr b l) :=
  (State.countBasin_touches _ _ _ (by decide)).trans (State.countBasin_touches _ _ _ (by decide))

theorem State.params_congr {s t : State} (h : t.bar = s.bar) (c : Nat) : t.params c = s.params c := by
  unfold State.params
  simp only [State.word_congr h]

theorem State.ctxKey_congr {s t : State} (h : t.bar = s.bar) (c : Nat) : t.ctxKey c = s.ctxKey c := by
  have get : ∀ f, t.get f = s.get f := fun f => State.get_congr (State.word_congr h _)
  unfold State.ctxKey State.ctxComm
  simp only [get]

/-- The finish item is gone, and its index done. -/
def State.itemTaken (s : State) (b c idx half : Nat) : State :=
  ((s.setFinItems b ((s.finItems b).erase (c, idx, half))).countBasin b Ev.BSN_ITEM_FIN 1).setIndex c idx half
    { (s.ctx c).index idx half with images := [], got := [], done := true }

theorem State.itemTaken_touches (s : State) (b c idx half : Nat) : Touches [.finQ, .ctxs, .arrived] s (s.itemTaken b c idx half) :=
  ((s.setFinItems_touches b _).seq (State.countBasin_touches _ b 1 (by decide)) (by decide)).step
    (State.setIndex_touches _ _ _ _ _) (by decide)

theorem State.finItems_congr {s t : State} (h : t.col.finQ = s.col.finQ) (b : Nat) : t.finItems b = s.finItems b := by
  unfold State.finItems
  rw [h]

theorem State.finItems_itemTaken (s : State) (b c idx half : Nat) :
    (s.itemTaken b c idx half).finItems b = (s.finItems b).erase (c, idx, half) := by
  have later : Touches [.ctxs, .arrived] (s.setFinItems b ((s.finItems b).erase (c, idx, half))) (s.itemTaken b c idx half) :=
    (State.countBasin_touches _ b 1 (by decide)).seq (State.setIndex_touches _ _ _ _ _) (by decide)
  rw [State.finItems_congr (later.part .finQ (by decide))]
  exact SMap.get_set_same _ _ _ _

/-- The values of an index of a REDUCE context that is not PAIRED are rounded once and staged. -/
theorem State.finishValues_stages {s : State} {c : Nat} (htype : (s.params c).type = 0) (hpaired : (s.params c).paired = false)
    (b idx : Nat) (vals : List Num) (imgs : List Byte) (skip : Bool) :
    let r := encodeVals (s.params c).ofmt vals (s.params c).sr
      (srDraw (s.params c).srseed (s.ctxKey c).1 (s.ctxKey c).2.1 (s.ctxKey c).2.2 idx) (s.params c).ovf
    s.finishValues b c idx vals imgs skip
      = (s.countSr b r.2).stageOut ⟨c, 0x8, idx, { bytes := r.1, elems := r.2, basin := b, partial_ := skip }, false⟩ := by
  intro r
  have kept : ((s.countSr b r.2).params c).paired = false :=
    (congrArg Params.paired (State.params_congr ((s.countSr_touches b r.2).part .bar (by decide)) c)).trans hpaired
  unfold State.finishValues
  dsimp only
  rw [if_neg (by omega), State.handFinished, if_neg (by rw [kept]; decide)]

theorem State.finishItem_stages {s : State} {c : Nat} (hspill : (s.params c).spill = false) (htype : (s.params c).type = 0)
    (hpaired : (s.params c).paired = false) (b idx half : Nat) (bad : Bool) :
    s.finishItem b c idx half bad = ((s.itemTaken b c idx half).countSr b (s.finished b c idx half).elems).stageOut
      ⟨c, 0x8, idx, s.finished b c idx half, false⟩ := by
  have bar := (s.itemTaken_touches b c idx half).part .bar (by decide)
  have params := State.params_congr bar c
  have key := State.ctxKey_congr bar c
  have images : s.finalImages c idx half = (((s.ctx c).index idx half).images, false) := if_neg (by rw [hspill]; decide)
  have values := State.finishValues_stages (s := s.itemTaken b c idx half) (c := c) (by rw [params, htype]) (by rw [params, hpaired]) b idx
  rw [params, key] at values
  rw [State.finishItem, images]
  dsimp only
  rw [if_neg (by rw [hspill]; rintro ⟨h, -⟩; cases h)]
  exact values _ _ _

theorem State.stagedOn_stageOut (s : State) (b : Nat) (o : ColOut) (hb : o.body.basin = b) (ho : o.sub ≠ 0x9) :
    (s.stageOut o).stagedOn b = s.stagedOn b + o.body.bytes.length := by
  have out : (s.stageOut o).col.outQ = s.col.outQ ++ [o] := rfl
  have rest : ∀ i, (s.stageOut o).pkt? i = s.pkt? i := fun _ => rfl
  have path : (s.stageOut o).path b = s.path b := rfl
  unfold State.stagedOn
  rw [out, path, List.map_append, List.foldl_append]
  simp only [rest, List.map_cons, List.map_nil, List.foldl_cons, List.foldl_nil, hb, ho, ne_eq, not_false_eq_true, and_self, if_true]
  omega

theorem State.stagedOn_congr {s t : State} (hp : t.col.path = s.col.path) (ho : t.col.outQ = s.col.outQ)
    (hk : t.cis.pkts = s.cis.pkts) (b : Nat) : t.stagedOn b = s.stagedOn b := by
  unfold State.stagedOn
  simp only [State.path_congr hp, ho, State.pkt_congr hk]

theorem State.stagingBytes_congr {s t : State} (h : t.bar = s.bar) (b : Nat) : t.stagingBytes b = s.stagingBytes b := by
  unfold State.stagingBytes
  rw [State.get_congr (State.word_congr h _)]

theorem bsnFinish_stages_result (b : BasinIx) (bad : Bool) (c idx half : Nat) (s : State) (hs : s.stopped = false)
    (hn : s.nextFin b = some (c, idx, half)) (htakes : s.takesItems b = true) (hchunk : s.chunkReady b = false)
    (hspill : (s.params c).spill = false) (htype : (s.params c).type = 0) (hpaired : (s.params c).paired = false)
    (hroom : s.stagedOn b + (s.finished b c idx half).bytes.length ≤ s.stagingBytes b) : Completes (.bsnFinish b bad) s fun t =>
      t.finItems b = (s.finItems b).erase (c, idx, half) ∧ ∃ o : ColOut, t.col.outQ = s.col.outQ ++ [o] ∧ o.ctx = c ∧ o.sub = 0x8
        ∧ o.cidx = idx ∧ o.body.bytes = (s.finished b c idx half).bytes := by
  have staged := State.finishItem_stages hspill htype hpaired b idx half bad
  have taken : Touches [.finQ, .ctxs, .arrived] s ((s.itemTaken b c idx half).countSr b (s.finished b c idx half).elems) :=
    (s.itemTaken_touches b c idx half).step (State.countSr_touches _ _ _) (by decide)
  have items := State.finItems_congr ((State.countSr_touches (s.itemTaken b c idx half) b (s.finished b c idx half).elems).part .finQ
    (by decide)) b
  rw [s.finItems_itemTaken] at items
  have basin : (s.finished b c idx half).basin = b := rfl
  generalize s.finished b c idx half = r at *
  generalize (s.itemTaken b c idx half).countSr b r.elems = u at *
  have room : (s.finishItem b c idx half bad).stagingOver b = false := by
    have held := u.stagedOn_stageOut b ⟨c, 0x8, idx, r, false⟩ basin (show 0x8 ≠ 0x9 by decide)
    rw [State.stagedOn_congr (taken.part .path (by decide)) (taken.part .outQ (by decide)) (taken.part .pkts (by decide))] at held
    have bytes := State.stagingBytes_congr (s := s) (t := u.stageOut ⟨c, 0x8, idx, r, false⟩) (taken.part .bar (by decide)) b
    rw [staged, State.stagingOver, held, bytes]
    simpa using hroom
  have effect : s.bsnFinish b bad = u.stageOut ⟨c, 0x8, idx, r, false⟩ := by
    unfold State.bsnFinish
    rw [hn]
    dsimp only
    rw [if_neg (by rw [htakes, hchunk]; decide), if_neg (by rw [room]; decide), staged]
  refine completes_of_ended hs rfl fun t ht => ?_
  rw [effect] at ht
  refine ⟨?_, ⟨c, 0x8, idx, r, false⟩, ?_, rfl, rfl, rfl, rfl⟩
  · rw [State.finItems_congr (ht.touches.part .finQ (by decide)), ← items]
    rfl
  · have out : u.col.outQ = s.col.outQ := taken.part .outQ (by decide)
    rw [ht.touches.part .outQ (by decide), ← out]
    rfl

/-- Settles O28: a chunk, a marker or a finish item taken leaves its account, and what follows keeps it. -/
theorem basinsTakeChunksMarkersAndFinishItems : Obligations.BasinsTakeChunksMarkersAndFinishItems :=
  ⟨bsnAccumulate_takes_chunk, markerAtBasin_takes_fence, markerAtBasin_takes_close,
    fun b bad c idx half s hs hn htakes hchunk hspill htype hpaired hroom =>
      bsnFinish_stages_result b bad c idx half s hs hn htakes hchunk hspill htype hpaired hroom⟩

end Sys2Proof.Machine

namespace Sys2Proof.Machine

/-! ### O30: a context closes -/

/-- The parameters of a context stand below the word that shows its state. -/
theorem State.params_put_ctx (s : State) (c : Nat) {f : FRef} {o : Nat} (hf : f.addr = 0x5000000 + o + c * 0x400) (ho : 0x28 ≤ o)
    (ho' : o < 0x400) (v : Nat) (d : Nat) : (s.put f v).params d = s.params d := by
  have word : ∀ i ∈ List.range 10, ((s.put f v).word (0x05000000 + 1024 * d + 4 * i)).toNat
      = (s.word (0x05000000 + 1024 * d + 4 * i)).toNat := by
    intro i hi
    rw [List.mem_range] at hi
    rw [show (s.put f v).word (0x05000000 + 1024 * d + 4 * i) = s.word _ from State.word_setWord_ne _ _ (by rw [hf]; omega)]
  exact List.map_congr_left word

theorem State.params_setPhase (s : State) (c ph d : Nat) : (s.setPhase c ph).params d = s.params d :=
  (State.params_put_ctx _ c (f := F.CTX_W10_STATE c) (o := 0x28) rfl (by decide) (by decide) _ d).trans
    (State.params_congr ((s.setCtx_touches c _).part .bar (by decide)) d)

theorem State.ctx_setPhase (s : State) (c ph : Nat) : (s.setPhase c ph).ctx c = { s.ctx c with phase := ph } :=
  Eq.trans (b := (s.modCtx c fun x => { x with phase := ph }).ctx c)
    (State.ctx_congr ((State.put_touches (s.modCtx c fun x => { x with phase := ph }) (F.CTX_W10_STATE c)
      (if s.tearing (s.ctxComm c) then 6 else ph)).mono (ps := wordsParts) (wordParts_words _) |>.part .ctxs (by decide)) c)
    (s.ctx_modCtx c _)

theorem State.ctx_closing (s : State) (c : Nat) (status : Option Nat) :
    (s.closing c status).ctx c = { s.ctx c with phase := 4, close := status } := by
  rw [State.closing, State.ctx_modCtx, State.ctx_setPhase]

theorem State.params_closing (s : State) (c : Nat) (status : Option Nat) (d : Nat) : (s.closing c status).params d = s.params d :=
  (State.params_congr ((State.setCtx_touches (s.setPhase c 4) c _).part .bar (by decide)) d).trans (s.params_setPhase c 4 d)

/-- An OPEN context that closes has a marker last on the path to each Basin of its mask. -/
theorem State.closeCtx_closes {s : State} {c : Nat} (h : (s.ctx c).phase = 2) (status : Option Nat) :
    (s.closeCtx c status).ctx c = { s.ctx c with phase := 4, close := status }
      ∧ ∀ b ∈ (s.params c).basins, (s.closeCtx c status).path b = s.path b ++ [.close c] := by
  rw [State.closeCtx_eq h]
  constructor
  · rw [State.ctx_congr ((State.markAll_touches _ c _).part .ctxs (by decide)), State.ctx_closing]
  · intro b hb
    rw [State.path_markAll, State.params_closing, if_pos hb, State.path_congr ((s.closing_touches c status).part .path (by decide))]

/-- The engine's interrupt registers. -/
theorem wordParts_istat : wordParts 0x900114 ⊆ [.bar, .colCfg] := by decide

theorem State.raiseIstat_touches (s : State) (f : FRef) (hf : f.addr = 0x900114) : Touches [.bar, .colCfg] s (s.raise f) :=
  (s.orBits_touches f 1).mono (hf ▸ wordParts_istat)

/-- An interrupt bit of the engine that an effect has raised stands raised at the end of its command. -/
theorem Ended.istat {s t : State} {f : FRef} (h : Ended (s.raise f) t) (hf : f.addr = 0x900114) (hok : f.ok) (h1 : f.hi = f.lo) :
    t.get f = 1 := by
  rw [State.get_congr (h.touches.part .colCfg (by decide) f.addr (by rw [hf]; rfl)), s.get_raise f hok h1]

/-! ### O30: a context finishes -/

/-- The status, the flags and the times that a context shows as it goes to DONE. -/
def State.doneFields (s : State) (c : Nat) : List (FRef × Nat) := [
  (F.CTX_W28_STATUS c, s.statusOf c), (F.CTX_W28_RFLAGS c, s.rflagsOf c (s.statusOf c)),
  (F.CTX_W22_TIMES c 2, s.time.sec), (F.CTX_W22_TIMES c 3, s.time.ns)]

/-- A context is DONE. -/
def State.ctxDone (s : State) (c : Nat) : State :=
  ((s.puts (s.doneFields c)).modCtx c fun x => { x with doneAt := s.now }).setPhase c 5

/-- The completion record of a context. -/
def State.completion (s : State) (c : Nat) : ColOut :=
  ⟨c, 0x9, 0xffffffff, { bytes := s.recordBytes c (s.statusOf c) (s.rflagsOf c (s.statusOf c))
                         partial_ := nbit (s.rflagsOf c (s.statusOf c)) 15 == 1 }, false⟩

theorem State.finishCtx_eq (s : State) (c : Nat) : s.finishCtx c
    = ((s.ctxDone c).stageOut (s.completion c)).statusEvents c (s.statusOf c) (s.rflagsOf c (s.statusOf c)) := rfl

theorem State.statusOf_lt (s : State) (c : Nat) : s.statusOf c < 2 ^ 8 := by
  have codes : s.statusOf c ∈ [stNores, stCountFault, stPair, stAborted, stTimeout, stHeld, 0] := by
    unfold State.statusOf
    dsimp only
    split_ifs <;> simp
  exact (show ∀ n ∈ [stNores, stCountFault, stPair, stAborted, stTimeout, stHeld, 0], n < 2 ^ 8 by decide) _ codes

theorem State.statusEvents_touches (s : State) (c status flags : Nat) : Touches [.bar, .colCfg] s (s.statusEvents c status flags) := by
  have part : Touches [.bar, .colCfg] s (if nbit flags 15 = 1 then s.countCol Ev.COL_PARTIAL 1 else s) :=
    ((State.countCol_touches s 1 (by decide)).mono (by decide)).ite (Touches.refl s)
  unfold State.statusEvents
  dsimp only
  split
  · exact part.step (State.countCol_touches _ 1 (by decide)) (by decide)
  · split
    · exact (part.step (State.countCol_touches _ 1 (by decide)) (by decide)).trans (State.raiseIstat_touches _ _ rfl)
    · split
      · exact part.step (State.bookWith_touches _ _ _ _ (by decide)) (by decide)
      · exact part

theorem State.doneFields_ok (s : State) (c : Nat) : ∀ x ∈ s.doneFields c, x.1.ok := by
  simp [State.doneFields, FRef.ok, F.CTX_W28_STATUS, F.CTX_W28_RFLAGS, F.CTX_W22_TIMES]

theorem State.doneFields_apart (s : State) (c : Nat) : (s.doneFields c).Pairwise fun x y => y.1.apart x.1 := by
  simp [State.doneFields, FRef.apart, F.CTX_W28_STATUS, F.CTX_W28_RFLAGS, F.CTX_W22_TIMES]
  omega

theorem State.doneFields_addr (s : State) (c : Nat) : ∀ x ∈ s.doneFields c, 0x5000000 ≤ x.1.addr := by
  simp [State.doneFields, F.CTX_W28_STATUS, F.CTX_W28_RFLAGS, F.CTX_W22_TIMES]
  omega

theorem State.donePuts_touches (s : State) (c : Nat) : Touches [.bar, .ctxWords] s (s.puts (s.doneFields c)) :=
  s.puts_touches _ fun x hx => wordParts_ctx (s.doneFields_addr c x hx)

theorem State.ctxDone_touches (s : State) (c : Nat) : Touches [.bar, .ctxWords, .ctxs] s (s.ctxDone c) :=
  ((s.donePuts_touches c).seq (State.modCtx_keeps _ c (fun x => { x with doneAt := s.now })
    ⟨rfl, rfl, rfl, fun _ _ => rfl⟩) (by decide)).step (State.setPhase_touches _ c 5) (by decide)

theorem State.ctx_ctxDone (s : State) (c : Nat) : (s.ctxDone c).ctx c = { s.ctx c with phase := 5, doneAt := s.now } := by
  rw [State.ctxDone, State.ctx_setPhase, State.ctx_modCtx, State.ctx_congr ((s.donePuts_touches c).part .ctxs (by decide))]

theorem State.status_ctxDone (s : State) (c : Nat) : (s.ctxDone c).get (F.CTX_W28_STATUS c) = s.statusOf c := by
  have shown : (s.puts (s.doneFields c)).get (F.CTX_W28_STATUS c) = s.statusOf c % 2 ^ 8 :=
    s.get_puts_mem (s.doneFields_ok c) (s.doneFields_apart c) (by simp [State.doneFields])
  rw [Nat.mod_eq_of_lt (s.statusOf_lt c)] at shown
  rw [← shown]
  have noted : ((s.puts (s.doneFields c)).modCtx c fun x => { x with doneAt := s.now }).bar = (s.puts (s.doneFields c)).bar :=
    (State.setCtx_touches _ c _).part .bar (by decide)
  have phased : ((s.puts (s.doneFields c)).modCtx c fun x => { x with doneAt := s.now }).setPhase c 5 = s.ctxDone c := rfl
  rw [← phased]
  generalize (s.puts (s.doneFields c)).modCtx c (fun x => { x with doneAt := s.now }) = u at *
  refine State.get_congr (Eq.trans (b := u.word (F.CTX_W28_STATUS c).addr) ?_ (State.word_congr noted _))
  have other : (F.CTX_W28_STATUS c).addr ≠ (F.CTX_W10_STATE c).addr := by
    simp [F.CTX_W28_STATUS, F.CTX_W10_STATE]
  refine Eq.trans (b := (u.modCtx c fun x => { x with phase := 5 }).word (F.CTX_W28_STATUS c).addr) (State.word_setWord_ne _ _ other) ?_
  exact State.word_congr ((State.setCtx_touches _ c _).part .bar (by decide)) _

/-- A context is DONE with the STATUS that was due to it, and its completion record is staged. -/
def CtxFinished (c : Nat) (s t : State) : Prop :=
  (t.ctx c).phase = 5 ∧ (t.ctx c).doneAt = s.now ∧ t.get (F.CTX_W28_STATUS c) = s.statusOf c
    ∧ ∃ o : ColOut, t.col.outQ = s.col.outQ ++ [o] ∧ o.ctx = c ∧ o.sub = 0x9

/-- What follows the finish of a context leaves it finished. -/
theorem State.finishCtx_finishes {s t : State} {c : Nat} (h : Touches [.bar, .colCfg, .out, .time] (s.finishCtx c) t) :
    CtxFinished c s t := by
  have ctx := s.ctx_ctxDone c
  have status := s.status_ctxDone c
  have out : (s.ctxDone c).col.outQ = s.col.outQ := (s.ctxDone_touches c).part .outQ (by decide)
  rw [State.finishCtx_eq] at h
  generalize s.ctxDone c = u at *
  have events := ((u.stageOut (s.completion c)).statusEvents_touches c (s.statusOf c) (s.rflagsOf c (s.statusOf c)))
  have later := (events.mono (by decide)).trans h
  have ctx2 : t.ctx c = u.ctx c := (State.ctx_congr (later.part .ctxs (by decide)) c).trans
    (State.ctx_congr ((u.stageOut_touches _).part .ctxs (by decide)) c)
  have covered : Part.covers .ctxWords (F.CTX_W28_STATUS c).addr = true :=
    decide_eq_true (show 0x5000000 ≤ 0x5000070 + c * 0x400 by omega)
  rw [CtxFinished, ctx2, ctx]
  refine ⟨rfl, rfl, ?_, s.completion c, ?_, rfl, rfl⟩
  · rw [State.get_congr (later.part .ctxWords (by decide) _ covered), ← status]
    exact State.get_congr (State.word_congr ((u.stageOut_touches _).part .bar (by decide)) _)
  · rw [later.part .outQ (by decide), ← out]
    rfl

/-! ### O30: the deadline and completion -/

theorem ctxDeadline_closes (c : Fin 16384) (s : State) (hs : s.stopped = false)
    (hpast : (s.ctx c).openAt + usClocks (s.params c).deadline ≤ s.now) (h2 : (s.ctx c).phase = 2) :
    Completes (.ctxDeadline c) s fun t => (t.ctx c).phase = 4 ∧ (t.ctx c).close = some stTimeout
      ∧ t.get F.COLCFG_ISTAT_TIMEOUT = 1 ∧ ∀ b ∈ (s.params c).basins, t.path b = s.path b ++ [.close c.val] := by
  have effect : s.ctxDeadline c = (s.closeCtx c (some stTimeout)).raise F.COLCFG_ISTAT_TIMEOUT := by
    unfold State.ctxDeadline State.passed
    dsimp only
    rw [if_neg (by simpa using hpast), if_pos h2]
  refine completes_of_ended hs rfl fun t ht => ?_
  rw [effect] at ht
  obtain ⟨ctx, path⟩ := State.closeCtx_closes h2 (some stTimeout)
  have later := (State.raiseIstat_touches (s.closeCtx c (some stTimeout)) F.COLCFG_ISTAT_TIMEOUT rfl).seq (ps := [.bar, .colCfg, .out, .time])
    ht.touches (by decide)
  rw [State.ctx_congr (later.part .ctxs (by decide)), ctx]
  refine ⟨rfl, rfl, ht.istat rfl (by constructor <;> decide) rfl, fun b hb => ?_⟩
  rw [State.path_congr (later.part .path (by decide)), path b hb]

theorem ctxDeadline_finishes (c : Fin 16384) (s : State) (hs : s.stopped = false)
    (hpast : (s.ctx c).openAt + usClocks (s.params c).deadline ≤ s.now) (h3 : (s.ctx c).phase = 3) :
    Completes (.ctxDeadline c) s fun t => CtxFinished c s t ∧ t.get F.COLCFG_ISTAT_TIMEOUT = 1 := by
  have effect : s.ctxDeadline c = (s.finishCtx c).raise F.COLCFG_ISTAT_TIMEOUT := by
    unfold State.ctxDeadline State.passed
    dsimp only
    rw [if_neg (by simpa using hpast), if_neg (by omega), if_pos h3]
  refine completes_of_ended hs rfl fun t ht => ?_
  rw [effect] at ht
  have later := (State.raiseIstat_touches (s.finishCtx c) F.COLCFG_ISTAT_TIMEOUT rfl).seq (ps := [.bar, .colCfg, .out, .time])
    ht.touches (by decide)
  exact ⟨State.finishCtx_finishes later, ht.istat rfl (by constructor <;> decide) rfl⟩

theorem ctxComplete_finishes (c : Fin 16384) (s : State) (hs : s.stopped = false) (h4 : (s.ctx c).phase = 4)
    (hquiet : s.ctxQuiet c = true) : Completes (.ctxComplete c) s (CtxFinished c s) := by
  have effect : s.ctxComplete c = s.finishCtx c := if_pos ⟨h4, hquiet⟩
  refine completes_of_ended hs rfl fun t ht => ?_
  rw [effect] at ht
  exact State.finishCtx_finishes (ht.touches.mono (by decide))

end Sys2Proof.Machine

namespace Sys2Proof.Machine

/-! ### The accounts of the engine -/

theorem ledgerSet_touches (s : State) (l : List SlotRec) : Touches [.ledger] s { s with col := { s.col with ledger := l } } := by
  constructor
  intro x hx
  have same := x.same_refl s
  cases x
  case ledger => simp at hx
  all_goals exact same

theorem blocksSet_touches (s : State) (n : Nat) : Touches [.blocksUsed] s { s with col := { s.col with blocksUsed := n } } := by
  constructor
  intro x hx
  have same := x.same_refl s
  cases x
  case blocksUsed => simp at hx
  all_goals exact same

theorem heldSet_touches (s : State) (l : List SlotRec) (q : List (SlotRec × Nat)) :
    Touches [.held, .releaseQ] s { s with col := { s.col with held := l, releaseQ := q } } := by
  constructor
  intro x hx
  have same := x.same_refl s
  cases x
  case held | releaseQ => simp at hx
  all_goals exact same

theorem State.comm_congr {s t : State} (h : t.col.comms = s.col.comms) (m : Nat) : t.comm m = s.comm m := by
  unfold State.comm
  rw [h]

/-- An update of a communicator that keeps whether its releases are out. -/
theorem State.setComm_keeps (s : State) (m : Nat) (x : CommSt) (h : x.releasing = (s.comm m).releasing) :
    Touches [.comms] s (s.setComm m x) := by
  constructor
  intro y hy
  by_cases e : y = .releasing
  · subst e
    intro n
    by_cases en : n = m
    · rw [en, State.comm_setComm, h]
    · rw [State.comm_setComm_ne _ _ en]
  · exact (s.setComm_touches m x).part y (by simp_all)

theorem State.freeBlocks_touches (s : State) (owner n : Nat) : Touches [.comms, .blocksUsed] s (s.freeBlocks owner n) :=
  ((s.setComm_keeps _ _ (by rfl)).mono (by decide)).ite ((blocksSet_touches s _).mono (by decide))

theorem State.freeRec_touches (s : State) (r : SlotRec) : Touches [.comms, .ledger] s (s.freeRec r) :=
  ((s.setComm_keeps _ _ (by rfl)).mono (by decide)).ite ((ledgerSet_touches s _).mono (by decide))

/-- The registers from the pages of the Basins up. -/
theorem wordParts_basin {a : Nat} (h : 0xa00000 ≤ a) : wordParts a ⊆ [.bar, .tables, .ctxWords] := by
  refine wordParts_subset (by decide) fun x hx hc => ?_
  fin_cases hx <;> simp [Part.covers] at hc ⊢ <;> omega

/-- The bytes reserved on the Basins' pages. -/
theorem wordParts_resv (b : Nat) : wordParts (F.BASIN_RESV_BYTES b).addr ⊆ [.bar, .tables, .ctxWords] :=
  wordParts_basin (show 0xa00000 ≤ 0xa0010c + b * 0x1000 by omega)

theorem wordParts_resv_of_lt {b : Nat} (hb : b < 50) : wordParts (F.BASIN_RESV_BYTES b).addr ⊆ [.bar] := by
  have addr : (F.BASIN_RESV_BYTES b).addr = 0xa0010c + b * 0x1000 := rfl
  rw [addr]
  refine wordParts_subset (by decide) fun x hx hc => ?_
  fin_cases hx <;> simp [Part.covers] at hc ⊢ <;> omega

/-! ### Release messages -/

/-- The slot bytes of an owner that the Basins hold. -/
def State.ownRecs (s : State) (owner : Nat) : List SlotRec := s.col.held.filter fun r => r.owner == owner

/-- The Basins send the release messages of an owner. -/
def State.messaged (s : State) (owner blocks : Nat) : State :=
  { s with col := { s.col with
    held := s.col.held.filter fun r => r.owner != owner
    releaseQ := s.col.releaseQ ++ ((s.ownRecs owner).zipIdx).map fun (x : SlotRec × Nat) =>
      (x.1, if x.2 + 1 = (s.ownRecs owner).length then blocks else 0) } }

/-- Bytes come off the pages of their Basins. -/
def State.unreserved (s : State) (l : List SlotRec) : State :=
  l.foldl (fun t r => t.put (F.BASIN_RESV_BYTES r.basin) (t.get (F.BASIN_RESV_BYTES r.basin) - r.bytes)) s

theorem State.releaseOwner_eq (s : State) (owner blocks : Nat) : s.releaseOwner owner blocks
    = if (s.ownRecs owner).isEmpty then s.freeBlocks owner blocks else (s.messaged owner blocks).unreserved (s.ownRecs owner) := rfl

theorem State.unreserved_touches {ps : List Part} (s : State) (l : List SlotRec)
    (h : ∀ r ∈ l, wordParts (F.BASIN_RESV_BYTES r.basin).addr ⊆ ps) : Touches ps s (s.unreserved l) :=
  Touches.foldl l s fun t r hr => (t.put_touches _ _).mono (h r hr)

/-- What the release of an owner's resources may change. -/
def releaseParts : List Part := [.comms, .blocksUsed, .held, .releaseQ, .bar, .tables, .ctxWords]

theorem State.releaseOwner_touches (s : State) (owner blocks : Nat) : Touches releaseParts s (s.releaseOwner owner blocks) := by
  rw [State.releaseOwner_eq]
  exact ((s.freeBlocks_touches owner blocks).mono (by decide)).ite ((heldSet_touches s _ _).seq
    (State.unreserved_touches _ _ fun r _ => wordParts_resv r.basin) (by decide))

/-- Where the Basins named are Basins of the part, no table is written. -/
theorem State.releaseOwner_keeps_tables (s : State) (owner blocks : Nat) (h : ∀ r ∈ s.col.held, r.basin < 50) :
    Touches [.comms, .blocksUsed, .held, .releaseQ, .bar] s (s.releaseOwner owner blocks) := by
  rw [State.releaseOwner_eq]
  exact ((s.freeBlocks_touches owner blocks).mono (by decide)).ite ((heldSet_touches s _ _).seq
    (State.unreserved_touches _ _ fun r hr => wordParts_resv_of_lt (h r (List.mem_filter.1 hr).1)) (by decide))

/-- An owner whose resources are released holds nothing on a Basin. -/
theorem State.held_releaseOwner (s : State) (owner blocks : Nat) : ∀ r ∈ (s.releaseOwner owner blocks).col.held, r.owner ≠ owner := by
  rw [State.releaseOwner_eq]
  split
  · next h =>
    have held : (s.freeBlocks owner blocks).col.held = s.col.held := (s.freeBlocks_touches owner blocks).part .held (by decide)
    rw [held]
    intro r hr e
    have : r ∈ s.ownRecs owner := List.mem_filter.2 ⟨hr, by simp [e]⟩
    rw [List.isEmpty_iff.1 h] at this
    cases this
  · have held : ((s.messaged owner blocks).unreserved (s.ownRecs owner)).col.held = (s.messaged owner blocks).col.held :=
      (State.unreserved_touches _ _ fun r _ => wordParts_resv r.basin).part .held (by decide)
    rw [held]
    intro r hr e
    have := (List.mem_filter.1 hr).2
    simp [e] at this

/-! ### O30: the end of linger -/

/-- A context is IDLE again, at its next CSEQ. -/
def State.idled (s : State) (c : Nat) : State :=
  ((s.setCtx c { phase := 1, instances := (s.ctx c).instances }).setPhase c 1).put (F.CTX_W11_CSEQ c)
    ((s.get (F.CTX_W11_CSEQ c) + s.get (F.COMM_W3_WIN (s.ctxComm c))) % 2 ^ 32)

theorem wordParts_cseq (c : Nat) : wordParts (F.CTX_W11_CSEQ c).addr ⊆ [.bar, .ctxWords] :=
  wordParts_ctx (show 0x5000000 ≤ 0x500002c + c * 0x400 by omega)

theorem State.phase_idled (s : State) (c : Nat) : ((s.idled c).ctx c).phase = 1 := by
  have put : (s.idled c).ctx c = ((s.setCtx c { phase := 1, instances := (s.ctx c).instances }).setPhase c 1).ctx c :=
    State.ctx_congr (((State.put_touches _ (F.CTX_W11_CSEQ c) _).mono (wordParts_cseq c)).part .ctxs (by decide)) c
  rw [put, State.ctx_setPhase]

theorem State.cseq_idled (s : State) (c : Nat) : (s.idled c).get (F.CTX_W11_CSEQ c)
    = (s.get (F.CTX_W11_CSEQ c) + s.get (F.COMM_W3_WIN (s.ctxComm c))) % 2 ^ 32 :=
  (State.get_put_same _ (F.CTX_W11_CSEQ c) ⟨Nat.zero_le _, Nat.lt_succ_self 31⟩ _).trans (Nat.mod_mod _ _)

theorem State.held_idled (s : State) (c : Nat) : (s.idled c).col.held = s.col.held :=
  ((((s.setCtx_touches c { phase := 1, instances := (s.ctx c).instances }).mono (by decide)).step (State.setPhase_touches _ c 1)
    (ps := [.bar, .ctxWords, .ctxs, .accd, .skipAt, .closedAt, .arrived]) (by decide)).step
      ((State.put_touches _ (F.CTX_W11_CSEQ c) _).mono (wordParts_cseq c)) (by decide)).part .held (by decide)

theorem State.rebase_touches (s : State) {m : Nat} (hm : m < 4096) : Touches [.bar, .tables] s (s.rebase m) := by
  have register : wordParts (F.COMM_W5_BASE m).addr ⊆ [.bar, .tables] := by
    have addr : (F.COMM_W5_BASE m).addr = 0x4000014 + m * 0x40 := rfl
    rw [addr]
    refine wordParts_subset (by decide) fun x hx hc => ?_
    fin_cases hx <;> simp [Part.covers] at hc ⊢ <;> omega
  unfold State.rebase
  dsimp only
  split
  · exact Touches.refl s
  · exact (s.put_touches _ _).mono register

theorem State.ctxComm_lt (s : State) (c : Nat) : s.ctxComm c < 4096 := s.get_lt (F.CTX_W10_COMMIDX c)

theorem ctxLingerExpire_returns (c : Fin 16384) (s : State) (hs : s.stopped = false) (h5 : (s.ctx c).phase = 5)
    (htear : s.tearing (s.ctxComm c) = false)
    (hpast : (s.ctx c).doneAt + usClocks (s.get F.COLCFG_LINGER_LINGER_US) ≤ s.now) (hout : ∀ o ∈ s.col.outQ, o.ctx ≠ c)
    (hheld : ∀ r ∈ s.col.held, r.basin < 50) : Completes (.ctxLingerExpire c) s fun t => (t.ctx c).phase = 1
      ∧ t.get (F.CTX_W11_CSEQ c) = (s.get (F.CTX_W11_CSEQ c) + s.get (F.COMM_W3_WIN (s.ctxComm c))) % 2 ^ 32 := by
  have effect : s.lingerExpire c = (((s.idled c).releaseOwner c (s.ctx c).blocks).rebase (s.ctxComm c)) := by
    have out : (s.col.outQ.any fun o => o.ctx == c.val) = false := by simpa using hout
    refine if_neg ?_
    simp [h5, htear, State.passed, hpast, out]
  refine completes_of_ended hs rfl fun t ht => ?_
  rw [effect] at ht
  have phase := s.phase_idled c
  have cseq := s.cseq_idled c
  have held := s.held_idled c
  generalize s.idled c = u at *
  have released := u.releaseOwner_keeps_tables c (s.ctx c).blocks (held ▸ hheld)
  have later := (released.seq (State.rebase_touches _ (s.ctxComm_lt c)) (by decide)).trans
    (ht.touches.mono (ps := [.comms, .blocksUsed, .held, .releaseQ, .bar, .tables, .out, .time]) (by decide))
  have covered : Part.covers .ctxWords (F.CTX_W11_CSEQ c).addr = true :=
    decide_eq_true (show 0x5000000 ≤ 0x500002c + c.val * 0x400 by omega)
  exact ⟨(congrArg CtxSt.phase (State.ctx_congr (later.part .ctxs (by decide)) c)).trans phase,
    (State.get_congr (later.part .ctxWords (by decide) _ covered)).trans cseq⟩

/-! ### O30: release messages and the ledger -/

/-- The ledger has taken the oldest release message. -/
def State.withoutMsg (s : State) (rest : List (SlotRec × Nat)) : State := { s with col := { s.col with releaseQ := rest } }

theorem State.slotRelease_eq {s : State} {r : SlotRec} {blocks : Nat} {rest : List (SlotRec × Nat)}
    (h : s.col.releaseQ = (r, blocks) :: rest) : s.slotRelease = ((s.withoutMsg rest).freeRec r).freeBlocks r.owner blocks := by
  unfold State.slotRelease
  rw [h]
  rfl

theorem State.ownerTorn_congr {s t : State} (hb : t.bar = s.bar) (hr : Part.releasing.same s t) (o : Nat) : t.ownerTorn o = s.ownerTorn o := by
  have comm : t.ownerComm o = s.ownerComm o := by
    unfold State.ownerComm
    rw [State.get_congr (State.word_congr hb _)]
  unfold State.ownerTorn
  rw [comm, hr]

theorem slotReleaseMsg_takes_oldest (r : SlotRec) (blocks : Nat) (rest : List (SlotRec × Nat)) (s : State) (hs : s.stopped = false)
    (hq : s.col.releaseQ = (r, blocks) :: rest) : Completes .slotReleaseMsg s fun t => t.col.releaseQ = rest
      ∧ (s.ownerTorn r.owner = false → t.col.ledger = s.col.ledger.erase r ∧ t.col.blocksUsed = s.col.blocksUsed - blocks)
      ∧ (s.ownerTorn r.owner = true → t.col.ledger = s.col.ledger ∧ t.col.blocksUsed = s.col.blocksUsed) := by
  refine completes_of_ended hs rfl fun t ht => ?_
  rw [State.slotRelease_eq hq] at ht
  have queue : (s.withoutMsg rest).col.releaseQ = rest := rfl
  have ledger : (s.withoutMsg rest).col.ledger = s.col.ledger := rfl
  have used : (s.withoutMsg rest).col.blocksUsed = s.col.blocksUsed := rfl
  have torn : (s.withoutMsg rest).ownerTorn r.owner = s.ownerTorn r.owner := rfl
  generalize s.withoutMsg rest = u at *
  have freed := u.freeRec_touches r
  have torn2 : (u.freeRec r).ownerTorn r.owner = s.ownerTorn r.owner :=
    (State.ownerTorn_congr (freed.part .bar (by decide)) (freed.part .releasing (by decide)) _).trans torn
  have blocksFreed := (u.freeRec r).freeBlocks_touches r.owner blocks
  have both := freed.seq (ps := [.comms, .ledger, .blocksUsed]) blocksFreed (by decide)
  have ledger2 : t.col.ledger = (u.freeRec r).col.ledger :=
    Eq.trans (b := ((u.freeRec r).freeBlocks r.owner blocks).col.ledger) (ht.touches.part .ledger (by decide))
      (blocksFreed.part .ledger (by decide))
  have used2 : t.col.blocksUsed = ((u.freeRec r).freeBlocks r.owner blocks).col.blocksUsed := ht.touches.part .blocksUsed (by decide)
  have used3 : (u.freeRec r).col.blocksUsed = s.col.blocksUsed := Eq.trans (b := u.col.blocksUsed) (freed.part .blocksUsed (by decide)) used
  refine ⟨?_, fun h => ⟨?_, ?_⟩, fun h => ⟨?_, ?_⟩⟩
  · exact Eq.trans (b := u.col.releaseQ) ((both.mono (by decide)).trans (ht.touches.mono (ps := [.comms, .ledger, .blocksUsed, .out, .time, .bar])
      (by decide)) |>.part .releaseQ (by decide)) queue
  · rw [ledger2, ← ledger, State.freeRec, if_neg (by rw [torn, h]; decide)]
  · rw [used2, ← used3, State.freeBlocks, if_neg (by rw [torn2, h]; decide)]
  · rw [ledger2, State.freeRec, if_pos (torn.trans h)]
    exact ledger
  · rw [used2, State.freeBlocks, if_pos (torn2.trans h)]
    exact used3

end Sys2Proof.Machine

namespace Sys2Proof.Machine

/-! ### O30: the check of the ledger -/

/-- Whether an owner lives is read from its context, from its communicator's entry and from whether that one's releases are
out. -/
theorem State.ownerLives_congr {s t : State} (ht : Part.tables.same s t) (hw : Part.ctxWords.same s t) (hc : Part.ctxs.same s t)
    (hr : Part.releasing.same s t) (o : Nat) : t.ownerLives o = s.ownerLives o := by
  have index : t.get (F.CTX_W10_COMMIDX o) = s.get (F.CTX_W10_COMMIDX o) :=
    State.get_congr (hw _ (decide_eq_true (show 0x5000000 ≤ 0x5000028 + o * 0x400 by omega)))
  have valid : t.get (F.COMM_W1_VALID (o - 16384)) = s.get (F.COMM_W1_VALID (o - 16384)) := by
    refine State.get_congr ?_
    have addr : 0x1000000 ≤ (F.COMM_W1_VALID (o - 16384)).addr := show 0x1000000 ≤ 0x4000004 + (o - 16384) * 0x40 by omega
    generalize (F.COMM_W1_VALID (o - 16384)).addr = a at *
    by_cases h : a < 0x5000000
    · refine ht a ?_
      simp only [Part.covers, Bool.and_eq_true]
      exact ⟨decide_eq_true addr, decide_eq_true h⟩
    · exact hw a (decide_eq_true (Nat.le_of_not_lt h))
  unfold State.ownerLives State.ownerTorn State.ownerComm State.on
  rw [index, valid, State.ctx_congr hc, hr]

theorem State.checkLedger_touches (s : State) (r : SlotRec) : Touches [.bar, .ledger] s (s.checkLedger r) :=
  (Touches.refl s).ite (((ledgerSet_touches s _).seq (State.book_touches _ _ _ (by decide)) (by decide)).ite
    (Touches.refl s))

/-- A record that nothing holds, for a second time. -/
structure State.Stale (s : State) (r : SlotRec) : Prop where
  dead : s.ownerLives r.owner = false
  free : r ∉ s.col.held
  suspect : r ∈ s.col.suspects

theorem State.Stale.of_touches {s t : State} {r : SlotRec} (h : s.Stale r) (ht : Touches [.bar, .ledger] s t) : t.Stale r where
  dead := (State.ownerLives_congr (ht.part .tables (by decide)) (ht.part .ctxWords (by decide)) (ht.part .ctxs (by decide))
    (ht.part .releasing (by decide)) _).trans h.dead
  free := by
    have held : t.col.held = s.col.held := ht.part .held (by decide)
    exact held ▸ h.free
  suspect := by
    have suspects : t.col.suspects = s.col.suspects := ht.part .suspects (by decide)
    exact suspects ▸ h.suspect

/-- The ledger is short of one record. -/
def State.ledgerErased (s : State) (r : SlotRec) : State := { s with col := { s.col with ledger := s.col.ledger.erase r } }

theorem State.Stale.checkLedger_eq {s : State} {r : SlotRec} (h : s.Stale r) :
    s.checkLedger r = (s.ledgerErased r).book 7 r.basin none := by
  unfold State.checkLedger
  rw [if_neg (by simp [h.dead, h.free]), if_pos (by simpa using h.suspect)]
  rfl

theorem State.Stale.checkLedger_erases {s : State} {r : SlotRec} (h : s.Stale r) :
    (s.checkLedger r).col.ledger = s.col.ledger.erase r ∧ nbit ((s.checkLedger r).word 0x140).toNat 7 = 1 := by
  rw [h.checkLedger_eq]
  exact ⟨(State.book_touches _ r.basin none (by decide)).part .ledger (by decide), State.bookWith_bit _ _ _ _ (by decide)⟩

/-- The check of another record leaves the count of this one. -/
theorem State.count_checkLedger_ne (s : State) {r x : SlotRec} (h : x ≠ r) :
    (s.checkLedger x).col.ledger.count r = s.col.ledger.count r := by
  unfold State.checkLedger
  split
  · rfl
  · split
    · have ledger : ((s.ledgerErased x).book 7 x.basin none).col.ledger = s.col.ledger.erase x :=
        (State.book_touches _ x.basin none (by decide)).part .ledger (by decide)
      refine Eq.trans (congrArg (List.count r) ledger) ?_
      exact List.count_erase_of_ne h.symm
    · rfl

/-- Each visit of a stale record takes one of it off the ledger. -/
theorem State.Stale.checkLedgers {s : State} {r : SlotRec} (h : s.Stale r) (l : List SlotRec) :
    (l.foldl State.checkLedger s).col.ledger.count r = s.col.ledger.count r - l.count r
      ∧ (r ∈ l → nbit ((l.foldl State.checkLedger s).word 0x140).toNat 7 = 1) := by
  induction l generalizing s with
  | nil => exact ⟨rfl, fun h => nomatch h⟩
  | cons x l ih =>
    have touched := s.checkLedger_touches x
    obtain ⟨count, bit⟩ := ih (h.of_touches touched)
    rw [List.foldl_cons]
    by_cases e : x = r
    · subst e
      obtain ⟨erased, booked⟩ := h.checkLedger_erases
      have rest : Touches [.bar, .ledger] (s.checkLedger x) (l.foldl State.checkLedger (s.checkLedger x)) :=
        Touches.foldl l _ fun t y _ => t.checkLedger_touches y
      refine ⟨?_, fun _ => rest.part .books (by decide) 7 booked⟩
      rw [count, erased, List.count_erase_self, List.count_cons_self]
      omega
    · refine ⟨?_, fun hm => bit ((List.mem_cons.1 hm).resolve_left fun h => e h.symm)⟩
      rw [count, s.count_checkLedger_ne e, List.count_cons_of_ne e]

/-- Slot bytes retired from the pool of their Basin. -/
theorem retiredSet_touches (s : State) (l : List SlotRec) (m : SMap Nat) :
    Touches [.held] s { s with col := { s.col with held := l, retired := m } } := by
  constructor
  intro x hx
  have same := x.same_refl s
  cases x
  case held => simp at hx
  all_goals exact same

theorem State.checkHeld_touches (s : State) (r : SlotRec) : Touches [.held, .bar, .tables, .ctxWords] s (s.checkHeld r) :=
  (Touches.refl s).ite (((retiredSet_touches s _ _).seq ((State.put_touches _ _ _).mono (wordParts_resv r.basin))
    (by decide)).step (State.book_touches _ _ _ (by decide)) (by decide))

/-- The records checked on both sides. -/
def State.ledgerChecked (s : State) : State :=
  (s.col.ledger.foldl State.checkLedger s).col.held.foldl State.checkHeld (s.col.ledger.foldl State.checkLedger s)

/-- The next suspects are noted, and the time of the check. -/
def State.suspectsNoted (s : State) : State :=
  { s with col := { s.col with
    suspects := s.col.ledger.filter fun r => !s.ownerLives r.owner && !s.col.held.contains r
    lastCheck := s.now } }

theorem State.ledgerCheck_eq {s : State} (h : s.passed s.col.lastCheck (msClocks 1) = true) :
    s.ledgerCheck = s.ledgerChecked.suspectsNoted := if_neg (by simpa using h)

theorem State.suspectsNoted_touches (s : State) : Touches [.suspects, .lastCheck] s s.suspectsNoted := by
  constructor
  intro x hx
  have same := x.same_refl s
  cases x
  case suspects | lastCheck => simp at hx
  all_goals exact same

theorem State.ledgerChecked_time (s : State) : s.ledgerChecked.now = s.now := by
  have checked : Touches [.bar, .ledger] s (s.col.ledger.foldl State.checkLedger s) := Touches.foldl _ s fun t r _ => t.checkLedger_touches r
  have held : Touches [.held, .bar, .tables, .ctxWords] (s.col.ledger.foldl State.checkLedger s) s.ledgerChecked :=
    Touches.foldl _ _ fun t r _ => t.checkHeld_touches r
  have time : s.ledgerChecked.time = s.time :=
    Eq.trans (b := (s.col.ledger.foldl State.checkLedger s).time) (held.part .time (by decide)) (checked.part .time (by decide))
  rw [State.now, time]
  rfl

theorem State.Stale.ledgerChecked {s : State} {r : SlotRec} (h : s.Stale r) (hr : r ∈ s.col.ledger) :
    r ∉ s.ledgerChecked.col.ledger ∧ nbit (s.ledgerChecked.word 0x140).toNat 7 = 1 := by
  obtain ⟨count, bit⟩ := h.checkLedgers s.col.ledger
  have held : Touches [.held, .bar, .tables, .ctxWords] (s.col.ledger.foldl State.checkLedger s) s.ledgerChecked :=
    Touches.foldl _ _ fun t r _ => t.checkHeld_touches r
  have ledger : s.ledgerChecked.col.ledger = (s.col.ledger.foldl State.checkLedger s).col.ledger := held.part .ledger (by decide)
  rw [Nat.sub_self] at count
  exact ⟨ledger ▸ List.count_eq_zero.1 count, held.part .books (by decide) 7 (bit hr)⟩

theorem slotLedgerCheck_frees (s : State) (hs : s.stopped = false) (hdue : s.col.lastCheck + msClocks 1 ≤ s.now) :
    Completes .slotLedgerCheck s fun t => t.col.lastCheck = s.now ∧ ∀ r ∈ s.col.ledger, s.ownerLives r.owner = false →
      r ∉ s.col.held → r ∈ s.col.suspects → r ∉ t.col.ledger ∧ nbit (t.word 0x140).toNat 7 = 1 := by
  refine completes_of_ended hs rfl fun t ht => ?_
  rw [State.ledgerCheck_eq (decide_eq_true hdue)] at ht
  have noted := s.ledgerChecked.suspectsNoted_touches
  have later := noted.seq (ps := [.suspects, .lastCheck, .out, .time, .bar]) ht.touches (by decide)
  refine ⟨?_, fun r hr hdead hfree hsuspect => ?_⟩
  · exact Eq.trans (b := s.ledgerChecked.suspectsNoted.col.lastCheck) (ht.touches.part .lastCheck (by decide)) s.ledgerChecked_time
  · obtain ⟨gone, bit⟩ := State.Stale.ledgerChecked ⟨hdead, hfree, hsuspect⟩ hr
    have ledger : t.col.ledger = s.ledgerChecked.col.ledger := later.part .ledger (by decide)
    exact ⟨ledger ▸ gone, later.part .books (by decide) 7 bit⟩

/-! ### O30: teardown -/

/-- The resources of one context of a communicator are released. -/
def State.ctxReleased (s : State) (c : Nat) : State :=
  (s.releaseOwner c (s.ctx c).blocks).modCtx c fun y => { y with blocks := 0, slots := [] }

theorem State.ctxReleased_touches (s : State) (c : Nat) : Touches (.ctxs :: releaseParts) s (s.ctxReleased c) :=
  (s.releaseOwner_touches c _).seq (State.modCtx_keeps _ c (fun y => { y with blocks := 0, slots := [] })
    ⟨rfl, rfl, rfl, fun _ _ => rfl⟩) (by decide)

/-- The releases of a communicator are out, and those of its contexts sent. -/
def State.teardownBegun (s : State) (m : Nat) : State :=
  (s.commCtxs m).foldl State.ctxReleased (s.setComm m { s.comm m with releasing := true })

theorem State.releasing_teardownBegun (s : State) (m : Nat) : ((s.teardownBegun m).comm m).releasing = true := by
  have sent : Touches (.ctxs :: releaseParts) (s.setComm m { s.comm m with releasing := true }) (s.teardownBegun m) :=
    Touches.foldl _ _ fun t c _ => t.ctxReleased_touches c
  rw [sent.part .releasing (by decide) m, State.comm_setComm]

theorem teardownRelease_sends (m : Fin 4096) (s : State) (hs : s.stopped = false) (hv : s.on (F.COMM_W1_VALID m) = true)
    (htear : s.tearing m = true) (hr : (s.comm m).releasing = false) (hquiet : s.commQuiet m = true) :
    Completes (.teardownRelease m) s fun t => (t.comm m).releasing = true ∧ ∀ r ∈ t.col.held, r.owner ≠ 16384 + m.val := by
  have effect : s.teardownRelease m = (s.teardownBegun m).releaseOwner (16384 + m)
      ((s.comm m).posBlocks * s.get (F.COMM_W3_WIN m)) := if_neg (by simp [hv, htear, hr, hquiet])
  refine completes_of_ended hs rfl fun t ht => ?_
  rw [effect] at ht
  have begun := s.releasing_teardownBegun m
  generalize s.teardownBegun m = u at *
  have released := u.releaseOwner_touches (16384 + m) ((s.comm m).posBlocks * s.get (F.COMM_W3_WIN m))
  have held := u.held_releaseOwner (16384 + m) ((s.comm m).posBlocks * s.get (F.COMM_W3_WIN m))
  refine ⟨?_, ?_⟩
  · rw [ht.touches.part .releasing (by decide) m, released.part .releasing (by decide) m, begun]
  · have same : t.col.held = (u.releaseOwner (16384 + m) ((s.comm m).posBlocks * s.get (F.COMM_W3_WIN m))).col.held :=
      ht.touches.part .held (by decide)
    rw [same]
    exact held

/-- Words set to 0. -/
def State.zeroed (s : State) (l : List Nat) : State := l.foldl (fun t a => t.setWord a 0#32) s

theorem State.zeroed_touches (s : State) (l : List Nat) : Touches wordsParts s (s.zeroed l) :=
  Touches.foldl l s fun t a _ => (t.setWord_touches a _).mono (wordParts_words a)

theorem State.word_zeroed (s : State) {l : List Nat} {a : Nat} (h : a ∈ l) : (s.zeroed l).word a = 0#32 := by
  have keeps : ∀ (l : List Nat) (t : State), t.word a = 0#32 → (t.zeroed l).word a = 0#32 := by
    intro l t ht
    exact List.foldlRecOn (motive := fun u => State.word u a = 0#32) l _ ht fun u hu b _ => by
      by_cases e : a = b
      · subst e
        exact State.word_setWord_same _ _ _
      · rw [State.word_setWord_ne _ _ e, hu]
  induction l generalizing s with
  | nil => cases h
  | cons b l ih =>
    obtain rfl | h := List.mem_cons.1 h
    · exact keeps l _ (State.word_setWord_same _ _ _)
    · exact ih (s.setWord b 0#32) h

theorem State.freeEntry_eq (s : State) (c : Nat) : s.freeEntry c
    = (s.zeroed ((List.range 148).map fun i => 0x05000000 + 1024 * c + 4 * i)).setCtx c { instances := (s.ctx c).instances } := rfl

theorem State.phase_freeEntry (s : State) (c d : Nat) :
    ((s.freeEntry c).ctx d).phase = if d = c then 0 else (s.ctx d).phase := by
  rw [State.freeEntry_eq]
  split
  · next e => rw [e, State.ctx_setCtx]
  · next e => rw [State.ctx_setCtx_ne _ _ e, State.ctx_congr ((s.zeroed_touches _).part .ctxs (by decide))]

/-- The entries of several contexts return to FREE. -/
theorem State.phase_freeEntries (s : State) {l : List Nat} {c : Nat} (h : c ∈ l) : ((l.foldl State.freeEntry s).ctx c).phase = 0 := by
  have keeps : ∀ (l : List Nat) (t : State), (t.ctx c).phase = 0 → ((l.foldl State.freeEntry t).ctx c).phase = 0 := by
    intro l t ht
    exact List.foldlRecOn (motive := fun u => (State.ctx u c).phase = 0) l _ ht fun u hu d _ => by
      rw [u.phase_freeEntry d c, hu, ite_self]
  induction l generalizing s with
  | nil => cases h
  | cons d l ih =>
    rw [List.foldl_cons]
    obtain rfl | h := List.mem_cons.1 h
    · exact keeps l _ (by rw [State.phase_freeEntry, if_pos rfl])
    · exact ih (s.freeEntry d) h

/-- The ledger records and blocks that a communicator's releases kept come free. -/
def State.tornFreed (s : State) (m : Nat) : State :=
  { s with col := { s.col with
    ledger := (s.comm m).torn.foldl List.erase s.col.ledger, blocksUsed := s.col.blocksUsed - (s.comm m).tornBlocks } }

/-- The entries of the map of members of a communicator, and the words of its own. -/
def State.memberWords (s : State) (m n : Nat) : List Nat := (List.range n).map fun i => 0x04100000 + 4 * s.memEntry m i
def commWords (m : Nat) : List Nat := (List.range 16).map fun i => 0x04000000 + 64 * m + 4 * i

theorem State.teardownDone_eq {s : State} {m : Nat} (hr : (s.comm m).releasing = true) (hq : s.col.releaseQ = []) :
    s.teardownDone m = ((((((s.commCtxs m).foldl State.freeEntry (s.tornFreed m)).zeroed
      (s.memberWords m (s.nmemb m))).zeroed (commWords m)).setComm m {}).raise F.COLCFG_ISTAT_TORN_DONE) := by
  unfold State.teardownDone
  dsimp only
  rw [if_neg (by simp [hr, hq])]
  unfold State.zeroed State.memberWords commWords
  rw [List.foldl_map, List.foldl_map]
  rfl

theorem teardownDone_frees (m : Fin 4096) (s : State) (hs : s.stopped = false) (hr : (s.comm m).releasing = true)
    (hq : s.col.releaseQ = []) : Completes (.teardownDone m) s fun t => t.on (F.COMM_W1_VALID m) = false
      ∧ t.comm m = {} ∧ (∀ c ∈ s.commCtxs m, (t.ctx c).phase = 0) ∧ t.get F.COLCFG_ISTAT_TORN_DONE = 1 := by
  refine completes_of_ended hs rfl fun t ht => ?_
  rw [State.teardownDone_eq hr hq] at ht
  have phases := fun c (hc : c ∈ s.commCtxs m) => (s.tornFreed m).phase_freeEntries hc
  generalize (s.commCtxs m).foldl State.freeEntry (s.tornFreed m) = u at *
  have cleared := u.zeroed_touches (s.memberWords m (s.nmemb m))
  generalize u.zeroed (s.memberWords m (s.nmemb m)) = v at *
  have addr : (F.COMM_W1_VALID m).addr = 0x4000004 + m.val * 0x40 := rfl
  have valid : (v.zeroed (commWords m)).word (F.COMM_W1_VALID m).addr = 0#32 :=
    v.word_zeroed (List.mem_map.2 ⟨1, by decide, by rw [addr]; omega⟩)
  have cleared2 := v.zeroed_touches (commWords m)
  generalize v.zeroed (commWords m) = w at *
  have freed := w.setComm_touches m {}
  have comm : (w.setComm m {}).comm m = {} := State.comm_setComm _ _ _
  have later := (State.raiseIstat_touches (w.setComm m {}) F.COLCFG_ISTAT_TORN_DONE rfl).seq (ps := [.bar, .colCfg, .out, .time])
    ht.touches (by decide)
  have covered : Part.covers .tables (F.COMM_W1_VALID m).addr = true := by
    rw [addr]
    simp only [Part.covers, Bool.and_eq_true]
    exact ⟨decide_eq_true (by omega), decide_eq_true (by omega)⟩
  have word : t.word (F.COMM_W1_VALID m).addr = 0#32 :=
    (later.part .tables (by decide) _ covered).trans ((freed.part .tables (by decide) _ covered).trans valid)
  refine ⟨?_, ?_, fun c hc => ?_, ht.istat rfl (by constructor <;> decide) rfl⟩
  · have zero : t.get (F.COMM_W1_VALID m) = 0 := by
      rw [State.get, word, FRef.ofWord, BitVec.toNat_zero, Nat.zero_div, Nat.zero_mod]
    rw [State.on, zero]
    rfl
  · rw [State.comm_congr (later.part .comms (by decide)), comm]
  · rw [State.ctx_congr (later.part .ctxs (by decide)), State.ctx_congr (freed.part .ctxs (by decide)),
      State.ctx_congr (cleared2.part .ctxs (by decide)), State.ctx_congr (cleared.part .ctxs (by decide)), phases c hc]

/-- Settles O30: each end of a context, a release message or a communicator leaves what it says. -/
theorem contextsCloseFinishAndReturn : Obligations.ContextsCloseFinishAndReturn :=
  ⟨fun c s hs hpast => ⟨ctxDeadline_closes c s hs hpast, ctxDeadline_finishes c s hs hpast⟩, ctxComplete_finishes,
    ctxLingerExpire_returns, slotReleaseMsg_takes_oldest, slotLedgerCheck_frees, teardownRelease_sends,
    fun m s hs hr hq _ => teardownDone_frees m s hs hr hq⟩

end Sys2Proof.Machine

namespace Sys2Proof.Machine

/-! ### O18: what happens beside a frame's way

A frame's way through ingress lies in the input buffers, the Cistern, the credit of its VC and the queues of its consumers.
The checks, samples, counters, logging, learning and signals on that way leave all of these. -/

/-- From `s` to `t` nothing on a frame's way changed. -/
structure Noted (s t : State) : Prop where
  inBuf : t.fwd.inBuf = s.fwd.inBuf
  lateDrops : t.fwd.lateDrops = s.fwd.lateDrops
  cis : t.cis = s.cis
  ports : t.ports = s.ports
  time : t.time = s.time
  mgmt : t.mgmt = s.mgmt

namespace Noted

theorem refl (s : State) : Noted s s := ⟨rfl, rfl, rfl, rfl, rfl, rfl⟩

theorem trans {s t u : State} (h : Noted s t) (k : Noted t u) : Noted s u :=
  ⟨k.inBuf.trans h.inBuf, k.lateDrops.trans h.lateDrops, k.cis.trans h.cis, k.ports.trans h.ports, k.time.trans h.time,
    k.mgmt.trans h.mgmt⟩

theorem ite {c : Prop} [Decidable c] {s t u : State} (h : Noted s t) (k : Noted s u) : Noted s (if c then t else u) := by
  split <;> assumption

end Noted

theorem State.countIn_notes (s : State) (scope : Nat → Bool) (ev n : Nat) : Noted s (s.countIn scope ev n) :=
  ⟨rfl, rfl, rfl, rfl, rfl, rfl⟩

theorem State.countPages_notes (s : State) (first num ev n : Nat) : Noted s (s.countPages first num ev n) :=
  s.countIn_notes _ _ _
theorem State.countAt_notes (s : State) (page ev n : Nat) : Noted s (s.countAt page ev n) := s.countIn_notes _ _ _
theorem State.countPort_notes (s : State) (p ev n : Nat) : Noted s (s.countPort p ev n) := s.countAt_notes _ _ _
theorem State.countBoth_notes (s : State) (first num p ev n : Nat) : Noted s (s.countBoth first num p ev n) :=
  s.countIn_notes _ _ _
theorem State.countFwd_notes (s : State) (ev n : Nat) : Noted s (s.countFwd ev n) := s.countPages_notes _ _ _ _
theorem State.countCisPort_notes (s : State) (p ev n : Nat) : Noted s (s.countCisPort p ev n) := s.countBoth_notes _ _ _ _ _

theorem State.logReport_notes (s : State) (c p i x y : Nat) : Noted s (s.logReport c p i x y) := by
  unfold State.logReport
  dsimp only
  split
  · exact ⟨rfl, rfl, rfl, rfl, rfl, rfl⟩
  · split <;> exact ⟨rfl, rfl, rfl, rfl, rfl, rfl⟩

theorem State.bookWith_notes (s : State) (bit inst : Nat) (port : Option Nat) (d : Nat) :
    Noted s (s.bookWith bit inst port d) := by
  have set : Noted s (s.orBits (wordRef 0x140) (2 ^ bit)) := ⟨rfl, rfl, rfl, rfl, rfl, rfl⟩
  cases port with
  | none => exact (set.trans (State.countAt_notes _ 0 (0x101 + bit) 1)).trans (State.logReport_notes _ _ _ _ _ _)
  | some p =>
    exact (set.trans (State.countIn_notes _ (fun q => q == 0 || q == 0x100 + p) (0x101 + bit) 1)).trans
      (State.logReport_notes _ _ _ _ _ _)

theorem State.sampleEpoch_notes (s : State) (e : Nat) : Noted s (s.sampleEpoch e).2 := by
  unfold State.sampleEpoch
  split
  · exact Noted.refl s
  · split <;> exact ⟨rfl, rfl, rfl, rfl, rfl, rfl⟩

theorem State.takeSample_notes (s : State) (f : RxFrame) (outcome : Nat) : Noted s (s.takeSample f outcome) :=
  (Noted.refl s).ite ((s.countPort_notes _ _ _).ite ⟨rfl, rfl, rfl, rfl, rfl, rfl⟩)

theorem State.learnRequest_notes (s : State) (pipe : Nat) (r : LearnReq) : Noted s (s.learnRequest pipe r) :=
  (Noted.refl s).ite ((s.countFwd_notes _ _).ite ⟨rfl, rfl, rfl, rfl, rfl, rfl⟩)

theorem State.raise_notes (s : State) (f : FRef) : Noted s (s.raise f) := ⟨rfl, rfl, rfl, rfl, rfl, rfl⟩

theorem State.learnFrom_notes (s : State) (p : Nat) (b : List Byte) : Noted s (s.learnFrom p b) := by
  unfold State.learnFrom
  split
  · unfold State.learn
    dsimp only
    split
    · exact s.learnRequest_notes _ _
    · next e _ =>
      have hit := s.raise_notes (F.EP_W3_HIT e)
      exact hit.ite ((hit.trans (State.countFwd_notes _ _ _)).ite (hit.trans (State.learnRequest_notes _ _ _)))
  · exact Noted.refl s

theorem State.settle_notes (s : State) : Noted s s.settle where
  inBuf := by rw [s.settle_only]
  lateDrops := by rw [s.settle_only]
  cis := by rw [s.settle_only]
  ports := by rw [s.settle_only]
  time := by rw [s.settle_only]
  mgmt := by rw [s.settle_only]

/-! ### What is counted once -/

/-- The counters that select the event stand as they were. -/
structure Uncounted (ev : Nat) (s t : State) : Prop where
  sel : t.obs.sel = s.obs.sel
  cnt : SMap.wf (fun _ => 0) s.obs.sel = true → ∀ k, SMap.get (fun _ => 0) s.obs.sel k = 0x80000000 + ev →
    SMap.get (fun _ => 0) t.obs.cnt k = SMap.get (fun _ => 0) s.obs.cnt k

theorem Uncounted.trans {ev : Nat} {s t u : State} (h : Uncounted ev s t) (k : Uncounted ev t u) : Uncounted ev s u where
  sel := k.sel.trans h.sel
  cnt hw i hi := (k.cnt (by rw [h.sel]; exact hw) i (by rw [h.sel]; exact hi)).trans (h.cnt hw i hi)

theorem Uncounted.of_obs {ev : Nat} {s t : State} (h : t.obs = s.obs) : Uncounted ev s t :=
  ⟨by rw [h], fun _ _ _ => by rw [h]⟩

theorem State.countIn_uncounted (s : State) (scope : Nat → Bool) {ev other : Nat} (n : Nat) (h : ev ≠ other) :
    Uncounted ev s (s.countIn scope other n) where
  sel := by rw [State.countIn_only]
  cnt hw k hk := by rw [s.countIn_cnt scope other n hw, if_neg fun e => h (by have := e.1; omega)]

theorem State.settle_uncounted (s : State) {ev : Nat} (h : ev ≠ Ev.RILL_INTR_TX) : Uncounted ev s s.settle := by
  obtain ⟨u, hu, e⟩ := s.settle_signalled
  rw [e]
  exact ⟨congrArg (·.obs.sel) hu.only, fun hw k hk => hu.cnt hw k (by omega)⟩

/-- A counter of the event gains what one operation counts, where nothing before or after it counts that event. -/
theorem counted_once {s u t : State} {scope wider : Nat → Bool} {ev n : Nat} (hw : SMap.wf (fun _ => 0) s.obs.sel = true)
    (hu : Uncounted ev s u) (he : Part.events.same s u) (hscope : ∀ q, scope q = true → wider q = true)
    (ht : Uncounted ev (u.countIn wider ev n) t) : Counted s t scope ev n := by
  have sel : (u.countIn wider ev n).obs.sel = s.obs.sel := by rw [State.countIn_only]; exact hu.sel
  intro k hk hp hc
  rw [ht.cnt (by rw [sel]; exact hw) k (by rw [sel]; exact hk),
    u.counted_countIn wider ev n (by rw [hu.sel]; exact hw) k (by rw [hu.sel]; exact hk) (hscope _ hp)
      (by rw [he.2 k]; exact hc),
    hu.cnt hw k hk]

theorem Completes.mono {c : Instr} {s : State} {P Q : State → Prop} (h : Completes c s P) (hQ : ∀ t, P t → Q t) :
    Completes c s Q := by
  obtain ⟨t, next, ht⟩ := h
  exact ⟨t, next, hQ t ht⟩

/-- A command whose effect leaves the core clock completes, and what its effect and its signals make true holds. -/
theorem completes_of_noted {c : Instr} {s u : State} {Q : State → Prop} (h : s.stopped = false) (hc : exec c s = finish s u)
    (hcore : u.time.core = s.time.core)
    (hQ : ∀ t, Noted u t → (∀ ev, ev ≠ Ev.RILL_INTR_TX → Uncounted ev u t) → Q t) : Completes c s Q := by
  have settled := u.settle_notes
  refine ⟨_, hc.trans (finish_running h u), hQ _ { settled with time := ?_ } fun ev hev => ?_⟩
  · show { u.settle.time with core := s.time.core } = u.time
    rw [settled.time, ← hcore]
  · obtain ⟨sel, cnt⟩ := u.settle_uncounted hev
    exact ⟨sel, cnt⟩

/-! ### A frame of which nothing enters the Cistern -/

/-- The credit of a frame has returned as cells (R84, R92). -/
def CreditReturned (f : RxFrame) (s t : State) : Prop :=
  (t.vcSt f.port (pVc f.bytes)).returned = ((s.vcSt f.port (pVc f.bytes)).returned + cellsOf f.bytes.length) % 2 ^ 32

/-- From `s` to `t` the credit of a frame returned, and nothing else on a frame's way changed. -/
structure GivesBack (f : RxFrame) (s t : State) : Prop where
  inBuf : t.fwd.inBuf = s.fwd.inBuf
  lateDrops : t.fwd.lateDrops = s.fwd.lateDrops
  cis : t.cis = s.cis
  core : t.time.core = s.time.core
  returned : CreditReturned f s t

theorem Noted.givesBack {f : RxFrame} {s t u : State} (h : Noted s t) (k : GivesBack f t u) : GivesBack f s u where
  inBuf := k.inBuf.trans h.inBuf
  lateDrops := k.lateDrops.trans h.lateDrops
  cis := k.cis.trans h.cis
  core := k.core.trans (by rw [h.time])
  returned := by
    have returned := k.returned
    rwa [CreditReturned, State.vcSt_congr h.ports] at returned

theorem GivesBack.noted {f : RxFrame} {s t u : State} (h : GivesBack f s t) (k : Noted t u) : GivesBack f s u where
  inBuf := k.inBuf.trans h.inBuf
  lateDrops := k.lateDrops.trans h.lateDrops
  cis := k.cis.trans h.cis
  core := by rw [k.time, h.core]
  returned := by rw [CreditReturned, State.vcSt_congr k.ports, h.returned]

theorem cellsOf_length_ne_zero {b : List Byte} (h : b ≠ []) : cellsOf b.length ≠ 0 := by
  have := List.length_pos_iff.2 h
  unfold cellsOf ceilDiv
  omega

theorem State.returnFrame_givesBack (s : State) {f : RxFrame} (h : f.bytes ≠ []) :
    GivesBack f s (s.returnFrame f.port (pVc f.bytes) f.bytes.length) := by
  unfold State.returnFrame State.returnCredit
  dsimp only
  rw [if_neg (cellsOf_length_ne_zero h)]
  exact ⟨rfl, rfl, rfl, rfl, by rw [CreditReturned, State.vcSt_setVc]⟩

theorem State.returnFrame_obs (s : State) (p v n : Nat) : (s.returnFrame p v n).obs = s.obs := by
  unfold State.returnFrame State.returnCredit
  dsimp only
  split <;> rfl

theorem State.noCell_givesBack (s : State) {f : RxFrame} (h : f.bytes ≠ []) : GivesBack f s (s.noCell f) := by
  have returned := s.returnFrame_givesBack h
  unfold State.noCell
  dsimp only
  split
  · exact returned.noted (State.countCisPort_notes _ _ _ _)
  · exact returned.noted ((State.countCisPort_notes _ _ _ _).trans (State.logReport_notes _ _ _ _ _ _))

theorem State.inBuf_of_setInBuf {s t : State} {pipe : Nat} {rest : List RxFrame}
    (h : t.fwd.inBuf = (s.setInBuf pipe rest).fwd.inBuf) : t.inBuf pipe = rest := by
  rw [State.inBuf, h]
  exact SMap.get_set_same _ _ _ _

/-! ### Cells taken -/

theorem length_pickFree_le (m : SMap Cell) (c n : Nat) : (pickFree m c n).length ≤ n := by
  induction m generalizing c n with
  | nil => simp [pickFree]
  | cons x m ih =>
    obtain ⟨k, y⟩ := x
    simp only [pickFree, List.length_append, List.length_map, List.length_range]
    split
    · simp
    · split
      · have := ih (k + 1) (n - min n (k - c) - 1)
        rw [List.length_cons]
        omega
      · have := ih (k + 1) (n - min n (k - c))
        omega

theorem State.hasCells_iff (s : State) (n : Nat) : s.hasCells n = true ↔ ¬ (s.freeCells n).length < n := by
  have := length_pickFree_le s.cellsSeen 0 n
  rw [State.hasCells, beq_iff_eq, State.freeCells]
  omega

theorem State.hasCells_congr {s t : State} (hcells : t.cis.cells = s.cis.cells) (hfreed : t.cis.freed = s.cis.freed)
    (hcore : t.time.core = s.time.core) (n : Nat) : t.hasCells n = s.hasCells n := by
  unfold State.hasCells State.freeCells State.cellsSeen State.freedNow State.now
  rw [hcells, hfreed, hcore]

theorem Noted.hasCells {s t : State} (h : Noted s t) (n : Nat) : t.hasCells n = s.hasCells n :=
  State.hasCells_congr (by rw [h.cis]) (by rw [h.cis]) (by rw [h.time]) n

/-- The packet `k` stands in its cells, `cells` being the cells once it does. -/
def State.withPkt (s : State) (k : Pkt) (cells : SMap Cell) : State :=
  ({ s with cis := { s.cis with cells := cells, nextPkt := s.cis.nextPkt + 1 } } : State).setPkt s.cis.nextPkt
    (some { k with cells := s.freeCells (cellsOf k.bytes.length) })

theorem State.takeCells_only (s : State) (l : List Nat) :
    ∃ cells : SMap Cell, l.foldl (fun t c => t.setCell c { st := .allocated, walk := t.cis.walk }) s
      = { s with cis := { s.cis with cells := cells } } := by
  refine List.foldlRecOn (motive := fun t => ∃ cells : SMap Cell, t = { s with cis := { s.cis with cells := cells } }) l _
    ⟨s.cis.cells, rfl⟩ ?_
  rintro t ⟨cells, rfl⟩ c -
  exact ⟨_, rfl⟩

theorem State.newPkt_some {s : State} {k : Pkt} (h : s.hasCells (cellsOf k.bytes.length) = true) :
    ∃ cells, s.newPkt k = some (s.cis.nextPkt, s.withPkt k cells) := by
  obtain ⟨cells, taken⟩ := s.takeCells_only (s.freeCells (cellsOf k.bytes.length))
  refine ⟨cells, ?_⟩
  unfold State.newPkt
  dsimp only
  rw [if_neg ((s.hasCells_iff _).1 h), taken]
  rfl

theorem State.newPkt_none {s : State} {k : Pkt} (h : ¬ s.hasCells (cellsOf k.bytes.length) = true) : s.newPkt k = none :=
  if_pos (not_not.1 fun hn => h ((s.hasCells_iff _).2 hn))

/-! ### A frame's consumers -/

/-- The packet that a frame makes is placed and charged to its port's account (R130). -/
def FramePlaced (f : RxFrame) (s t : State) : Prop :=
  (t.pkt? s.cis.nextPkt).map (fun k => (k.bytes, k.acct)) = some (f.bytes, Account.port f.port (pVc f.bytes))

/-- From `s` to `t` a frame was placed, and the input buffers and the core clock are as they were. -/
structure Places (f : RxFrame) (s t : State) : Prop where
  inBuf : t.fwd.inBuf = s.fwd.inBuf
  core : t.time.core = s.time.core
  pkt : FramePlaced f s t

/-- The packet that a frame makes, which has no cells yet. -/
abbrev RxFrame.pkt (f : RxFrame) (bank : Nat := 0) : Pkt :=
  { bytes := f.bytes, acct := .port f.port (pVc f.bytes), cells := [], inPort := some f.port, bank := bank }

theorem State.pkt_withPkt (s : State) (k : Pkt) (cells : SMap Cell) :
    (s.withPkt k cells).pkt? s.cis.nextPkt = some { k with cells := s.freeCells (cellsOf k.bytes.length) } :=
  State.pkt_setPkt _ _ _

theorem State.toTime_places {s : State} {f : RxFrame} (h : s.hasCells (cellsOf f.bytes.length) = true) :
    Places f s (s.toTime f) ∧ (s.toTime f).time.rxQ
      = s.time.rxQ ++ [⟨f.port, f.bytes, f.sec, f.ns, f.frac, f.epoch, some s.cis.nextPkt⟩] := by
  obtain ⟨cells, placed⟩ := State.newPkt_some (k := f.pkt) h
  rw [State.toTime, State.holdFrame, placed]
  exact ⟨⟨rfl, rfl, congrArg (Option.map _) (s.pkt_withPkt _ cells)⟩, rfl⟩

theorem State.toEngine_places {s : State} {f : RxFrame} (h : s.hasCells (cellsOf f.bytes.length) = true) :
    Places f s (s.toEngine f) ∧ (s.toEngine f).cis.chunkQ = s.cis.chunkQ ++ [s.cis.nextPkt] := by
  obtain ⟨cells, placed⟩ := State.newPkt_some (k := f.pkt s.activeBank) h
  rw [State.toEngine, placed]
  exact ⟨⟨rfl, rfl, congrArg (Option.map _) (s.pkt_withPkt _ cells)⟩, rfl⟩

theorem State.toSpc_places {s : State} {f : RxFrame} (h : s.hasCells (cellsOf f.bytes.length) = true) :
    Places f s (s.toSpc f) ∧ (s.toSpc f).mgmt.fabIn = s.mgmt.fabIn ++ [⟨f.port, f.bytes, some s.cis.nextPkt⟩] := by
  obtain ⟨cells, placed⟩ := State.newPkt_some (k := f.pkt) h
  rw [State.toSpc, State.holdFrame, placed]
  exact ⟨⟨rfl, rfl, congrArg (Option.map _) (s.pkt_withPkt _ cells)⟩, rfl⟩

theorem State.toTime_noCell {s : State} {f : RxFrame} (h : ¬ s.hasCells (cellsOf f.bytes.length) = true) :
    s.toTime f = s.noCell f := by
  rw [State.toTime, State.holdFrame, State.newPkt_none h]

theorem State.toEngine_noCell {s : State} {f : RxFrame} (h : ¬ s.hasCells (cellsOf f.bytes.length) = true) :
    s.toEngine f = s.noCell f := by
  rw [State.toEngine, State.newPkt_none h]

theorem State.toSpc_noCell {s : State} {f : RxFrame} (h : ¬ s.hasCells (cellsOf f.bytes.length) = true) :
    s.toSpc f = s.noCell f := by
  rw [State.toSpc, State.holdFrame, State.newPkt_none h]

/-! ### Colouring -/

/-- The state with other buckets and debits of the Weir. -/
def State.withWeir (s : State) (ps : SMap PolicerSt) (ds : List (Nat × Nat × Nat × Nat)) : State :=
  { s with cis := { s.cis with policers := ps, ethDebits := ds } }

/-- From `s` to `t` nothing on a frame's way changed but the Weir's own. -/
def WeirNoted (s t : State) : Prop := ∃ ps ds, Noted (s.withWeir ps ds) t

theorem Noted.weir {s t : State} (h : Noted s t) : WeirNoted s t := ⟨s.cis.policers, s.cis.ethDebits, h⟩

theorem Noted.withWeir {s t : State} (h : Noted s t) (ps : SMap PolicerSt) (ds : List (Nat × Nat × Nat × Nat)) :
    Noted (s.withWeir ps ds) (t.withWeir ps ds) :=
  { h with cis := congrArg (fun c : CisSt => { c with policers := ps, ethDebits := ds }) h.cis }

theorem WeirNoted.trans {s t u : State} (h : WeirNoted s t) (k : WeirNoted t u) : WeirNoted s u := by
  obtain ⟨ps, ds, h⟩ := h
  obtain ⟨qs, es, k⟩ := k
  exact ⟨qs, es, (h.withWeir qs es).trans k⟩

theorem WeirNoted.ite {c : Prop} [Decidable c] {s t u : State} (h : WeirNoted s t) (k : WeirNoted s u) :
    WeirNoted s (if c then t else u) := by
  split <;> assumption

theorem State.setPolicer_weir (s : State) (i : Nat) (x : PolicerSt) : WeirNoted s (s.setPolicer i x) := ⟨_, _, Noted.refl _⟩

theorem State.weirDiscard_notes (s : State) (d : Bool) : Noted s (s.weirDiscard d) :=
  (s.countPages_notes _ _ _ _).ite (Noted.refl s)

theorem State.weirClamp_notes (s : State) (c : Bool) (i : Nat) : Noted s (s.weirClamp c i) :=
  (s.bookWith_notes _ _ _ _).ite (Noted.refl s)

theorem State.creditPolicer_weir (s : State) (i : Nat) : WeirNoted s (s.creditPolicer i) :=
  (s.setPolicer_weir i _).trans ((((State.weirDiscard_notes _ _).trans (State.weirDiscard_notes _ _)).trans
    (State.weirClamp_notes _ _ _)).trans (State.weirClamp_notes _ _ _)).weir

theorem State.debitPolicer_weir (s : State) (i colour bytes : Nat) : WeirNoted s (s.debitPolicer i colour bytes) :=
  (s.setPolicer_weir i _).trans ((State.weirClamp_notes _ _ _).trans (State.weirClamp_notes _ _ _)).weir

theorem State.colour_weir (s : State) (p : Nat) (b : List Byte) : WeirNoted s (s.colour p b).2 := by
  unfold State.colour
  split
  · exact (Noted.refl s).weir
  · next i _ =>
    have used := (s.creditPolicer_weir i).trans (State.setPolicer_weir _ i { (s.creditPolicer i).policer i with
      usedAt := s.now + 1, usedBy := p / 32 })
    dsimp only
    refine WeirNoted.trans ?_ (State.countBoth_notes _ _ _ _ _ _).weir
    exact (used.trans ⟨_, _, Noted.refl _⟩).ite (used.trans (State.debitPolicer_weir _ _ _ _))

end Sys2Proof.Machine

namespace Sys2Proof.Machine

/-! ### O18: the checks -/

theorem State.headerCheck_sampleEpoch (s : State) (e : Nat) (b : List Byte) :
    (s.sampleEpoch e).2.headerCheck b = s.headerCheck b := by
  unfold State.sampleEpoch
  split
  · rfl
  · split <;> rfl

theorem State.headerCheck_le (s : State) (b : List Byte) : s.headerCheck b ≤ 10 := by
  unfold State.headerCheck
  split_ifs <;> omega

/-- The state once the bank of a frame is sampled and its header checked. -/
def State.checked (s : State) (f : RxFrame) : State :=
  (s.sampleEpoch (pE f.bytes)).2.takeSample f
    (if s.notStored f (s.headerCheck f.bytes) then 0 else s.headerCheck f.bytes)

theorem State.checked_notes (s : State) (f : RxFrame) : Noted s (s.checked f) :=
  (s.sampleEpoch_notes _).trans (State.takeSample_notes _ _ _)

theorem State.takeSample_events (s : State) (f : RxFrame) (outcome : Nat) : Part.events.same s (s.takeSample f outcome) := by
  unfold State.takeSample
  dsimp only
  split
  · exact Part.events.same_refl s
  · split
    · exact s.countIn_events _ _ _
    · exact ⟨rfl, fun _ => rfl⟩

theorem State.takeSample_uncounted (s : State) (f : RxFrame) (outcome : Nat) {ev : Nat} (h : ev ≠ Ev.SAMPLE_LOST) :
    Uncounted ev s (s.takeSample f outcome) := by
  unfold State.takeSample
  dsimp only
  split
  · exact .of_obs rfl
  · split
    · exact s.countIn_uncounted (fun q => q == 0x100 + f.port) 1 h
    · exact ⟨rfl, fun _ _ _ => rfl⟩

theorem State.sampleEpoch_obs (s : State) (e : Nat) : (s.sampleEpoch e).2.obs = s.obs := by
  unfold State.sampleEpoch
  split
  · rfl
  · split <;> rfl

theorem State.checked_events (s : State) (f : RxFrame) : Part.events.same s (s.checked f) := by
  obtain ⟨sel, counts⟩ := (s.sampleEpoch (pE f.bytes)).2.takeSample_events f
    (if s.notStored f (s.headerCheck f.bytes) then 0 else s.headerCheck f.bytes)
  rw [State.sampleEpoch_obs] at sel counts
  exact ⟨sel, counts⟩

theorem State.checked_uncounted (s : State) (f : RxFrame) {ev : Nat} (h : ev ≠ Ev.SAMPLE_LOST) :
    Uncounted ev s (s.checked f) :=
  (Uncounted.of_obs (s.sampleEpoch_obs _)).trans (State.takeSample_uncounted _ _ _ h)

/-- A frame takes its lookup slot in one of three ways: it finds no cell, it fails a check, or it goes to its consumer. -/
theorem State.ingress_eq (s : State) (f : RxFrame) : s.ingress f =
    if s.notStored f (s.headerCheck f.bytes) = true then (s.checked f).noCell f
    else if s.headerCheck f.bytes ≠ 0 then
      ((s.checked f).countPort f.port (Ev.HDR_1 + s.headerCheck f.bytes - 1) 1).returnFrame f.port (pVc f.bytes) f.bytes.length
    else (s.checked f).classify f (s.sampleEpoch (pE f.bytes)).1 := by
  unfold State.ingress
  dsimp only
  rw [State.headerCheck_sampleEpoch]
  rfl

/-! ### The way to a consumer -/

/-- A frame comes in: it is coloured, `enter` takes it, and what it teaches is learnt. -/
def State.comesIn (s : State) (f : RxFrame) (enter : State → State) : State :=
  (s.colour f.port f.bytes).2.learnKept (enter (s.colour f.port f.bytes).2) f

theorem State.comesIn_enters (s : State) (f : RxFrame) (enter : State → State) :
    ∃ u, WeirNoted s u ∧ Noted (enter u) (s.comesIn f enter) :=
  ⟨_, s.colour_weir _ _, (State.learnFrom_notes _ _ _).ite (Noted.refl _)⟩

/-- A TIME packet, which is the time block's (R22). -/
def RxFrame.forTime (f : RxFrame) : Prop := pProto f.bytes = 1 ∧ pType f.bytes = 1

/-- A chunk, which is the collective engine's (R22). -/
def RxFrame.forEngine (f : RxFrame) : Prop := pProto f.bytes = 1 ∧ pType f.bytes = 4

/-- A control packet for this spine, which is the SPC's (R22). -/
def RxFrame.forSpc (f : RxFrame) : Prop :=
  pProto f.bytes = 1 ∧ pType f.bytes ≠ 1 ∧ pType f.bytes ≠ 4 ∧ epKind (pDest f.bytes) = 2

theorem State.classify_time (s : State) {f : RxFrame} (h : f.forTime) (used : Bool) :
    s.classify f used = s.comesIn f fun t => t.toTime f := if_pos h

theorem State.classify_chunk (s : State) {f : RxFrame} (h : f.forEngine) (used : Bool) :
    s.classify f used = s.comesIn f fun t => t.toEngine f := by
  obtain ⟨dfp, type⟩ := h
  exact (if_neg fun k => by omega).trans (if_pos ⟨dfp, type⟩)

theorem State.classify_ctrl (s : State) {f : RxFrame} (h : f.forSpc) (used : Bool) :
    s.classify f used = s.comesIn f fun t => t.toSpc f := by
  obtain ⟨dfp, notTime, notChunk, spine⟩ := h
  exact (if_neg fun k => notTime k.2).trans ((if_neg fun k => notChunk k.2).trans (if_pos ⟨dfp, spine⟩))

/-- A frame of another protocol that names a bank out of use (R92). -/
theorem State.classify_unused {s : State} {f : RxFrame} (h : pProto f.bytes ≠ 1) :
    s.classify f false = (s.fwdDrop f.port Ev.FWD_EPOCH).returnFrame f.port (pVc f.bytes) f.bytes.length :=
  (if_neg fun k => h k.1).trans ((if_neg fun k => h k.1).trans (if_neg fun k => h k.1))

theorem State.sampleEpoch_unused {s : State} {e : Nat} (he : e ≠ s.activeBank) (hst : s.get F.FWDEPOCH_STATUS_STATE ≠ 1) :
    (s.sampleEpoch e).1 = false := by
  unfold State.sampleEpoch
  rw [if_neg he, if_neg hst]

/-- A consumer of the frame `f`: `enter` hands `f` to it, where cells are free places it and enters `item` of its packet
in `queue`, and drops it where too few are. -/
structure Consumer {α : Type} (f : RxFrame) (enter : State → State) (queue : State → List α) (item : Nat → α) : Prop where
  takes : ∀ (u : State) (used : Bool), u.classify f used = u.comesIn f enter
  places : ∀ u : State, u.hasCells (cellsOf f.bytes.length) = true → Places f u (enter u)
  queued : ∀ u : State, u.hasCells (cellsOf f.bytes.length) = true → queue (enter u) = queue u ++ [item u.cis.nextPkt]
  noCell : ∀ u : State, ¬ u.hasCells (cellsOf f.bytes.length) = true → enter u = u.noCell f
  noted : ∀ t u : State, Noted t u → queue u = queue t
  apart : ∀ (u : State) pipe rest ps ds, queue ((u.setInBuf pipe rest).withWeir ps ds) = queue u

theorem RxFrame.forTime.consumer {f : RxFrame} (h : f.forTime) : Consumer f (fun u => u.toTime f) (fun u => u.time.rxQ)
    (fun i => ⟨f.port, f.bytes, f.sec, f.ns, f.frac, f.epoch, some i⟩) where
  takes u := u.classify_time h
  places _ room := (State.toTime_places room).1
  queued _ room := (State.toTime_places room).2
  noCell _ := State.toTime_noCell
  noted _ _ k := congrArg TimeSt.rxQ k.time
  apart _ _ _ _ _ := rfl

theorem RxFrame.forEngine.consumer {f : RxFrame} (h : f.forEngine) :
    Consumer f (fun u => u.toEngine f) (fun u => u.cis.chunkQ) (fun i => i) where
  takes u := u.classify_chunk h
  places _ room := (State.toEngine_places room).1
  queued _ room := (State.toEngine_places room).2
  noCell _ := State.toEngine_noCell
  noted _ _ k := congrArg CisSt.chunkQ k.cis
  apart _ _ _ _ _ := rfl

theorem RxFrame.forSpc.consumer {f : RxFrame} (h : f.forSpc) : Consumer f (fun u => u.toSpc f) (fun u => u.mgmt.fabIn)
    (fun i => ⟨f.port, f.bytes, some i⟩) where
  takes u := u.classify_ctrl h
  places _ room := (State.toSpc_places room).1
  queued _ room := (State.toSpc_places room).2
  noCell _ := State.toSpc_noCell
  noted _ _ k := congrArg MgmtSt.fabIn k.mgmt
  apart _ _ _ _ _ := rfl

section

variable {α : Type} {f : RxFrame} {enter : State → State} {queue : State → List α} {item : Nat → α} {s : State}
  (hcode : s.headerCheck f.bytes = 0)

include hcode

/-- A frame that passed the checks and finds its cells comes in. -/
theorem State.ingress_comesIn (hc : Consumer f enter queue item) (hroom : s.hasCells (cellsOf f.bytes.length) = true) :
    s.ingress f = (s.checked f).comesIn f enter := by
  have stored : ¬ s.notStored f (s.headerCheck f.bytes) = true := by simp [State.notStored, hroom]
  rw [State.ingress_eq, if_neg stored, if_neg (not_not.2 hcode), hc.takes]

/-- A frame that passed the checks and finds no cells gives its credit back. -/
theorem State.ingress_noCell (hc : Consumer f enter queue item) (hb : f.bytes ≠ [])
    (hroom : ¬ s.hasCells (cellsOf f.bytes.length) = true) : ∃ ps ds, GivesBack f (s.withWeir ps ds) (s.ingress f) := by
  rw [State.ingress_eq]
  split
  · exact ⟨_, _, (s.checked_notes f).givesBack ((s.checked f).noCell_givesBack hb)⟩
  · rw [if_neg (not_not.2 hcode), hc.takes]
    obtain ⟨u, coloured, learnt⟩ := (s.checked f).comesIn_enters f enter
    obtain ⟨ps, ds, coloured⟩ := (s.checked_notes f).weir.trans coloured
    rw [hc.noCell u (by rwa [coloured.hasCells])] at learnt
    exact ⟨ps, ds, coloured.givesBack ((u.noCell_givesBack hb).noted learnt)⟩

end

/-! ### INGRESS_PACKET -/

/-- The state in which a VC7 frame has come too late for its lookup slot, its credit still to return. -/
def State.late (s : State) (pipe : Nat) (f : RxFrame) (rest : List RxFrame) : State :=
  ((s.setInBuf pipe rest).countLate pipe).takeSample f (((s.setInBuf pipe rest).countLate pipe).headerCheck f.bytes)

theorem State.lateDrops_countLate (s : State) (pipe : Nat) : SMap.get (fun _ => 0) (s.countLate pipe).fwd.lateDrops pipe
    = SMap.get (fun _ => 0) s.fwd.lateDrops pipe + 1 := by
  unfold State.countLate
  dsimp only
  rw [SMap.get_set_same]

section

variable {pipe : Fin 32} {f : RxFrame} {rest : List RxFrame} {s : State} (hs : s.stopped = false)
  (hq : s.inBuf pipe = f :: rest)

include hq in
theorem exec_ingressPacket (hp : s.policerBehind f.port (pVc f.bytes) = false) :
    exec (.ingressPacket pipe false) s = finish s ((s.setInBuf pipe rest).ingress f) := by
  show finish s (s.ingressNext pipe false) = _
  unfold State.ingressNext
  rw [hq]
  exact congrArg (finish s) ((if_neg (by decide)).trans (if_neg (by simp [hp])))

include hq in
theorem State.ingressNext_late (h7 : pVc f.bytes = 7) :
    s.ingressNext pipe true = (s.late pipe f rest).returnFrame f.port (pVc f.bytes) f.bytes.length := by
  unfold State.ingressNext
  rw [hq]
  dsimp only
  rw [if_pos rfl, if_pos h7, h7]
  rfl

include hq in
theorem State.ingressNext_waits (h7 : pVc f.bytes ≠ 7) : s.ingressNext pipe true = s := by
  unfold State.ingressNext
  rw [hq]
  exact (if_pos rfl).trans (if_neg h7)

include hs hq

theorem ingress_waits (h7 : pVc f.bytes ≠ 7) :
    Completes (.ingressPacket pipe true) s fun t => t.fwd = s.fwd ∧ t.cis = s.cis ∧ t.ports = s.ports := by
  refine completes_of_ended hs (congrArg (finish s) (State.ingressNext_waits hq h7)) fun t ht => ?_
  exact ⟨ht.touches.part .fwd (by decide), ht.touches.part .cis (by decide), ht.touches.part .ports (by decide)⟩

theorem ingress_drops_late (hb : f.bytes ≠ []) (h7 : pVc f.bytes = 7) : Completes (.ingressPacket pipe true) s fun t =>
    t.inBuf pipe = rest ∧ (t.cis = s.cis ∧ CreditReturned f s t)
      ∧ SMap.get (fun _ => 0) t.fwd.lateDrops pipe = SMap.get (fun _ => 0) s.fwd.lateDrops pipe + 1 := by
  have back : GivesBack f ((s.setInBuf pipe rest).countLate pipe)
      ((s.late pipe f rest).returnFrame f.port (pVc f.bytes) f.bytes.length) :=
    (State.takeSample_notes _ f _).givesBack (State.returnFrame_givesBack _ hb)
  refine completes_of_noted hs (congrArg (finish s) (State.ingressNext_late hq h7)) back.core fun t ht _ => ?_
  have ended := back.noted ht
  refine ⟨State.inBuf_of_setInBuf ended.inBuf, ⟨ended.cis, ended.returned⟩, ?_⟩
  rw [ended.lateDrops, State.lateDrops_countLate]
  rfl

variable (hp : s.policerBehind f.port (pVc f.bytes) = false)

include hp

/-- A frame that ingress gives back leaves its buffer, and nothing of it enters the Cistern. -/
theorem ingress_gives_back (back : GivesBack f (s.setInBuf pipe rest) ((s.setInBuf pipe rest).ingress f)) :
    Completes (.ingressPacket pipe false) s fun t => (t.inBuf pipe = rest ∧ t.cis = s.cis ∧ CreditReturned f s t)
      ∧ ∀ ev, ev ≠ Ev.RILL_INTR_TX → Uncounted ev ((s.setInBuf pipe rest).ingress f) t := by
  refine completes_of_noted hs (exec_ingressPacket hq hp) back.core fun t ht uncounted => ?_
  have ended := back.noted ht
  exact ⟨⟨State.inBuf_of_setInBuf ended.inBuf, ended.cis, ended.returned⟩, uncounted⟩

/-- A frame that finds its cells is placed, and its consumer takes it. -/
theorem ingress_enters {α : Type} {enter : State → State} {queue : State → List α} {item : Nat → α}
    (hc : Consumer f enter queue item) (hcode : s.headerCheck f.bytes = 0)
    (hroom : s.hasCells (cellsOf f.bytes.length) = true) : Completes (.ingressPacket pipe false) s fun t =>
      (t.inBuf pipe = rest ∧ FramePlaced f s t) ∧ queue t = queue s ++ [item s.cis.nextPkt] := by
  obtain ⟨u, coloured, learnt⟩ := ((s.setInBuf pipe rest).checked f).comesIn_enters f enter
  obtain ⟨ps, ds, coloured⟩ := ((s.setInBuf pipe rest).checked_notes f).weir.trans coloured
  rw [← State.ingress_comesIn (s := s.setInBuf pipe rest) hcode hc hroom] at learnt
  have room : u.hasCells (cellsOf f.bytes.length) = true := (coloured.hasCells _).trans hroom
  have placed := hc.places u room
  have next : u.cis.nextPkt = s.cis.nextPkt := by
    rw [coloured.cis]
    rfl
  have core : ((s.setInBuf pipe rest).ingress f).time.core = s.time.core := by
    rw [learnt.time, placed.core, coloured.time]
    rfl
  refine completes_of_noted hs (exec_ingressPacket hq hp) core fun t ht _ => ?_
  have entered := learnt.trans ht
  refine ⟨⟨State.inBuf_of_setInBuf (entered.inBuf.trans (placed.inBuf.trans coloured.inBuf)), ?_⟩, ?_⟩
  · rw [FramePlaced, State.pkt_congr (congrArg CisSt.pkts entered.cis), ← next]
    exact placed.pkt
  · rw [hc.noted _ _ entered, hc.queued u room, hc.noted _ _ coloured, hc.apart, next]

variable (hb : f.bytes ≠ [])

include hb

theorem ingress_drops_not_stored (hn : s.notStored f (s.headerCheck f.bytes) = true) :
    Completes (.ingressPacket pipe false) s fun t => t.inBuf pipe = rest ∧ t.cis = s.cis ∧ CreditReturned f s t := by
  have effect : (s.setInBuf pipe rest).ingress f = ((s.setInBuf pipe rest).checked f).noCell f :=
    (State.ingress_eq _ f).trans (if_pos hn)
  refine (ingress_gives_back hs hq hp ?_).mono fun t ht => ht.1
  rw [effect]
  exact (State.checked_notes _ f).givesBack (State.noCell_givesBack _ hb)

/-- A frame that is dropped once its header is checked, and counted for it. -/
theorem ingress_drops_counted {wider : Nat → Bool} {ev : Nat} (hlost : ev ≠ Ev.SAMPLE_LOST) (hrill : ev ≠ Ev.RILL_INTR_TX)
    (hwider : wider (0x100 + f.port) = true)
    (effect : (s.setInBuf pipe rest).ingress f = (((s.setInBuf pipe rest).checked f).countIn wider ev 1).returnFrame
      f.port (pVc f.bytes) f.bytes.length) :
    Completes (.ingressPacket pipe false) s fun t => t.inBuf pipe = rest ∧ (t.cis = s.cis ∧ CreditReturned f s t)
      ∧ (SMap.wf (fun _ => 0) s.obs.sel = true → Counted s t (· == 0x100 + f.port) ev 1) := by
  have back : GivesBack f (s.setInBuf pipe rest) ((s.setInBuf pipe rest).ingress f) := by
    rw [effect]
    exact ((State.checked_notes _ f).trans (State.countIn_notes _ _ _ _)).givesBack (State.returnFrame_givesBack _ hb)
  refine (ingress_gives_back hs hq hp back).mono fun t ht => ?_
  obtain ⟨⟨inBuf, credited⟩, uncounted⟩ := ht
  refine ⟨inBuf, credited, fun hw => ?_⟩
  have before : Uncounted ev s ((s.setInBuf pipe rest).checked f) :=
    (Uncounted.of_obs (s := s) (t := s.setInBuf pipe rest) rfl).trans ((s.setInBuf pipe rest).checked_uncounted f hlost)
  have after := uncounted ev hrill
  rw [effect] at after
  refine counted_once hw before ((s.setInBuf pipe rest).checked_events f) (fun q hport => ?_)
    ((Uncounted.of_obs (State.returnFrame_obs _ _ _ _)).trans after)
  rw [beq_iff_eq.1 hport, hwider]

theorem ingress_drops_failed (hcode : s.headerCheck f.bytes ≠ 0) (hn : s.notStored f (s.headerCheck f.bytes) = false) :
    Completes (.ingressPacket pipe false) s fun t => t.inBuf pipe = rest ∧ (t.cis = s.cis ∧ CreditReturned f s t)
      ∧ (SMap.wf (fun _ => 0) s.obs.sel = true →
        Counted s t (· == 0x100 + f.port) (Ev.HDR_1 + s.headerCheck f.bytes - 1) 1) := by
  have stored : ¬ s.notStored f (s.headerCheck f.bytes) = true := by simp [hn]
  have bound := s.headerCheck_le f.bytes
  have range : 0x201 ≤ Ev.HDR_1 + s.headerCheck f.bytes - 1 ∧ Ev.HDR_1 + s.headerCheck f.bytes - 1 ≤ 0x20a := by
    unfold Ev.HDR_1
    omega
  refine ingress_drops_counted (wider := (· == 0x100 + f.port)) hs hq hp hb ?_ ?_ (beq_self_eq_true _) ?_
  · unfold Ev.SAMPLE_LOST
    omega
  · unfold Ev.RILL_INTR_TX
    omega
  · exact (State.ingress_eq _ f).trans ((if_neg stored).trans (if_pos hcode))

theorem ingress_drops_unused (hcode : s.headerCheck f.bytes = 0) (hn : s.notStored f 0 = false) (hproto : pProto f.bytes ≠ 1)
    (hbank : pE f.bytes ≠ s.activeBank) (hstate : s.get F.FWDEPOCH_STATUS_STATE ≠ 1) :
    Completes (.ingressPacket pipe false) s fun t => t.inBuf pipe = rest ∧ (t.cis = s.cis ∧ CreditReturned f s t)
      ∧ (SMap.wf (fun _ => 0) s.obs.sel = true → Counted s t (· == 0x100 + f.port) Ev.FWD_EPOCH 1) := by
  have stored : ¬ s.notStored f (s.headerCheck f.bytes) = true := by simp [hcode, hn]
  have unused : ((s.setInBuf pipe rest).sampleEpoch (pE f.bytes)).1 = false := State.sampleEpoch_unused hbank hstate
  refine ingress_drops_counted (wider := fun q => (decide (0x600 ≤ q) && decide (q < 0x600 + 5)) || q == 0x100 + f.port)
    hs hq hp hb (by decide) (by decide) (by rw [beq_self_eq_true, Bool.or_true]) ?_
  rw [State.ingress_eq, unused]
  exact (if_neg stored).trans ((if_neg (not_not.2 hcode)).trans (State.classify_unused hproto))

/-- A frame for a consumer that finds no cells places no packet. -/
theorem ingress_drops_noCell {α : Type} {enter : State → State} {queue : State → List α} {item : Nat → α}
    (hc : Consumer f enter queue item) (hcode : s.headerCheck f.bytes = 0)
    (hroom : ¬ s.hasCells (cellsOf f.bytes.length) = true) : Completes (.ingressPacket pipe false) s fun t =>
      t.inBuf pipe = rest ∧ t.cis.pkts = s.cis.pkts ∧ CreditReturned f s t := by
  obtain ⟨ps, ds, back⟩ := State.ingress_noCell (s := s.setInBuf pipe rest) hcode hc hb hroom
  refine completes_of_noted hs (exec_ingressPacket hq hp) back.core fun t ht _ => ?_
  have ended := back.noted ht
  have pkts : t.cis.pkts = s.cis.pkts := by
    rw [ended.cis]
    rfl
  exact ⟨State.inBuf_of_setInBuf ended.inBuf, pkts, ended.returned⟩

theorem ingress_finds_no_cells (hcode : s.headerCheck f.bytes = 0) (hconsumer : f.forTime ∨ f.forEngine ∨ f.forSpc)
    (hroom : ¬ s.hasCells (cellsOf f.bytes.length) = true) : Completes (.ingressPacket pipe false) s fun t =>
      t.inBuf pipe = rest ∧ t.cis.pkts = s.cis.pkts ∧ CreditReturned f s t := by
  obtain h | h | h := hconsumer
  · exact ingress_drops_noCell hs hq hp hb h.consumer hcode hroom
  · exact ingress_drops_noCell hs hq hp hb h.consumer hcode hroom
  · exact ingress_drops_noCell hs hq hp hb h.consumer hcode hroom

end

/-- An empty input buffer leaves the buffers, whether or not the part stands still. -/
theorem ingress_idles {pipe : Fin 32} {s : State} (hq : s.inBuf pipe = []) (late : Bool) :
    Completes (.ingressPacket pipe late) s fun t => t.fwd = s.fwd ∧ t.cis = s.cis ∧ t.ports = s.ports := by
  have same : s.ingressNext pipe late = s := by
    unfold State.ingressNext
    rw [hq]
  have effect : exec (.ingressPacket pipe late) s = finish s s := congrArg (finish s) same
  cases hs : s.stopped with
  | true => exact ⟨_, effect.trans (if_pos hs), rfl, rfl, rfl⟩
  | false =>
    exact completes_of_ended hs effect fun t ht =>
      ⟨ht.touches.part .fwd (by decide), ht.touches.part .cis (by decide), ht.touches.part .ports (by decide)⟩

/-- Settles O18: ingress gives a frame back, leaves it waiting or hands it to its consumer, and what comes beside and after
that leaves all of these. -/
theorem ingressSendsEachFrameToItsConsumer : Obligations.IngressSendsEachFrameToItsConsumer :=
  ⟨fun _ _ _ _ hs hq hb hp => ⟨ingress_drops_failed hs hq hp hb, ingress_drops_not_stored hs hq hp hb,
    fun hcode (h : RxFrame.forTime _) => ingress_enters hs hq hp h.consumer hcode,
    fun hcode (h : RxFrame.forEngine _) => ingress_enters hs hq hp h.consumer hcode,
    fun hcode (h : RxFrame.forSpc _) => ingress_enters hs hq hp h.consumer hcode,
    ingress_finds_no_cells hs hq hp hb, ingress_drops_unused hs hq hp hb, ingress_waits hs hq, ingress_drops_late hs hq hb⟩,
    fun _ late _ hq => ingress_idles hq late⟩

end Sys2Proof.Machine

namespace Sys2Proof.Machine

/-! ### O24: what the forwarding events leave alone

What an operation leaves alone is said by a view of the state in which all that it may change is blank: the view is the same
before and after. Counting, logging and signalling write the registers and the part's records of itself; the table writer,
the sweeper and the epochs write forwarding state as well, and the policers the Cistern. -/

/-- All but the registers and tables and what the part records of itself. -/
def State.beyondRecords (s : State) : State := { s with bar := [], setNow := [], obs := {} }

/-- All but these and forwarding state. -/
def State.beyondFwd (s : State) : State := { s.beyondRecords with fwd := {} }

/-- All but these and the Cistern. -/
def State.beyondCis (s : State) : State := { s.beyondRecords with cis := {} }

theorem State.beyondFwd_of_records {s t : State} (h : t.beyondRecords = s.beyondRecords) : t.beyondFwd = s.beyondFwd :=
  congrArg (fun u : State => { u with fwd := {} }) h

theorem State.beyondCis_of_records {s t : State} (h : t.beyondRecords = s.beyondRecords) : t.beyondCis = s.beyondCis :=
  congrArg (fun u : State => { u with cis := {} }) h

/-- A fold over operations that keep a view keeps it. -/
theorem foldl_keeps {α β : Type} (view : State → β) {f : State → α → State} (h : ∀ t x, view (f t x) = view t)
    (l : List α) (s : State) : view (l.foldl f s) = view s :=
  List.foldlRecOn (motive := fun t => view t = view s) l f rfl fun t ht x _ => (h t x).trans ht

/-- A choice between states of one view has that view. -/
theorem ite_keeps {β : Type} (view : State → β) {c : Prop} [Decidable c] {s t u : State} (h : view t = view s)
    (k : view u = view s) : view (if c then t else u) = view s := by split <;> assumption

theorem State.setWord_beyondFwd (s : State) (a : Nat) (w : Word) : (s.setWord a w).beyondFwd = s.beyondFwd := rfl
theorem State.put_beyondFwd (s : State) (f : FRef) (v : Nat) : (s.put f v).beyondFwd = s.beyondFwd := rfl
theorem State.raise_beyondFwd (s : State) (f : FRef) : (s.raise f).beyondFwd = s.beyondFwd := rfl
theorem State.withFwd_beyondFwd (s : State) (f : FwdSt) : ({ s with fwd := f } : State).beyondFwd = s.beyondFwd := rfl
theorem State.undamp_beyondFwd (s : State) (k : Nat) : (s.undamp k).beyondFwd = s.beyondFwd := rfl

theorem State.countIn_beyondRecords (s : State) (scope : Nat → Bool) (ev n : Nat) :
    (s.countIn scope ev n).beyondRecords = s.beyondRecords := rfl

theorem State.countFwd_beyondFwd (s : State) (ev n : Nat) : (s.countFwd ev n).beyondFwd = s.beyondFwd :=
  State.beyondFwd_of_records (s.countIn_beyondRecords _ ev n)

theorem State.logReport_beyondRecords (s : State) (c p i x y : Nat) : (s.logReport c p i x y).beyondRecords = s.beyondRecords := by
  unfold State.logReport
  dsimp only
  split
  · rfl
  · split <;> rfl

theorem State.settle_beyondRecords (s : State) : s.settle.beyondRecords = s.beyondRecords :=
  (congrArg State.beyondRecords s.settle_only).trans rfl

/-! The operations of the table writer, the sweeper and the epochs. -/

theorem State.puts_beyondFwd (s : State) (l : List (FRef × Nat)) : (s.puts l).beyondFwd = s.beyondFwd := by
  unfold State.puts
  refine foldl_keeps State.beyondFwd (fun t x => ?_) l s
  exact t.put_beyondFwd _ _

theorem State.logReport_beyondFwd (s : State) (c p i x y : Nat) : (s.logReport c p i x y).beyondFwd = s.beyondFwd :=
  State.beyondFwd_of_records (s.logReport_beyondRecords c p i x y)

theorem State.setEpResult_beyondFwd (s : State) (bank e r : Nat) : (s.setEpResult bank e r).beyondFwd = s.beyondFwd :=
  ite_keeps State.beyondFwd rfl rfl

theorem State.setEpWords_beyondFwd (s : State) (e : Nat) (ws : List Word) : (s.setEpWords e ws).beyondFwd = s.beyondFwd := by
  unfold State.setEpWords
  refine foldl_keeps State.beyondFwd (fun t p => ?_) _ s
  exact t.setWord_beyondFwd _ _

theorem State.epApply_beyondFwd (s : State) (path : List Nat) (free : Nat) (new : List Word) :
    (s.epApply path free new).beyondFwd = s.beyondFwd := by
  have moved : ∀ l : List (Nat × List Word), (l.foldl (fun t p => t.setEpWords p.1 p.2) s).beyondFwd = s.beyondFwd := fun l => by
    refine foldl_keeps State.beyondFwd (fun t p => ?_) l s
    exact t.setEpWords_beyondFwd _ _
  unfold State.epApply
  cases path with
  | nil => exact (State.setEpWords_beyondFwd _ _ _).trans (moved _)
  | cons e path => exact (State.setEpWords_beyondFwd _ _ _).trans (moved _)

theorem State.epInsert_beyondFwd {s t : State} {key : Nat} {new : List Word} {stash : Bool}
    (h : s.epInsert key new stash = some t) : t.beyondFwd = s.beyondFwd := by
  unfold State.epInsert at h
  split at h
  · exact Option.some.inj h ▸ s.setEpWords_beyondFwd _ _
  · split at h
    · exact Option.some.inj h ▸ s.setEpWords_beyondFwd _ _
    · split at h
      · exact Option.some.inj h ▸ s.epApply_beyondFwd _ _ _
      · cases h

theorem State.epInsertInto_beyondFwd {s t : State} {n key : Nat} {new : List Word}
    (h : s.epInsertInto n key new = some t) : t.beyondFwd = s.beyondFwd := by
  unfold State.epInsertInto at h
  split at h
  · exact Option.some.inj h ▸ s.setEpWords_beyondFwd _ _
  · split at h
    · exact Option.some.inj h ▸ s.epApply_beyondFwd _ _ _
    · cases h

theorem State.stashReinsert_beyondFwd (s : State) (n : Nat) : (s.stashReinsert n).beyondFwd = s.beyondFwd := by
  unfold State.stashReinsert
  split
  · rfl
  · split
    · next h => exact (State.setEpWords_beyondFwd _ _ _).trans (State.epInsertInto_beyondFwd h)
    · rfl

theorem State.epRemove_beyondFwd (s : State) (e : Nat) : (s.epRemove e).beyondFwd = s.beyondFwd := by
  have cleared : ((s.undamp (s.epKey e)).setEpWords e [0#32, 0#32, 0#32, 0#32]).beyondFwd = s.beyondFwd :=
    State.setEpWords_beyondFwd _ _ _
  exact ite_keeps State.beyondFwd ((State.stashReinsert_beyondFwd _ _).trans cleared) cleared

theorem State.moveEntry_beyondFwd (s : State) (e res : Nat) : (s.moveEntry e res).beyondFwd = s.beyondFwd := by
  have damped := s.countFwd_beyondFwd Ev.LEARN_MOVE_DAMPED 1
  unfold State.moveEntry
  refine ite_keeps State.beyondFwd (s.countFwd_beyondFwd _ _) (ite_keeps State.beyondFwd (ite_keeps State.beyondFwd damped ?_) ?_)
  · exact (State.logReport_beyondFwd _ _ _ _ _ _).trans ((State.withFwd_beyondFwd _ _).trans damped)
  · exact (State.countFwd_beyondFwd _ _ _).trans (s.puts_beyondFwd _)

theorem State.writerTakes_beyondFwd (s : State) (r : LearnReq) : (s.writerTakes r).beyondFwd = s.beyondFwd := by
  have refused := s.countFwd_beyondFwd Ev.LEARN_REFUSED 1
  unfold State.writerTakes
  split
  · exact ite_keeps State.beyondFwd (s.raise_beyondFwd _) (s.moveEntry_beyondFwd _ _)
  · split
    · next h => exact (State.countFwd_beyondFwd _ _ _).trans (State.epInsert_beyondFwd h)
    · refine ite_keeps State.beyondFwd refused ?_
      exact (State.logReport_beyondFwd _ _ _ _ _ _).trans ((State.withFwd_beyondFwd _ _).trans refused)

theorem State.writerNext_beyondFwd (s : State) (pipe : Nat) (move : Bool) : (s.writerNext pipe move).beyondFwd = s.beyondFwd := by
  unfold State.writerNext
  split
  · rfl
  · exact ite_keeps State.beyondFwd ((State.writerTakes_beyondFwd _ _).trans (s.withFwd_beyondFwd _)) rfl

theorem State.ageEntry_beyondFwd (s : State) (e : Nat) (hit : Bool) : (s.ageEntry e hit).beyondFwd = s.beyondFwd := by
  unfold State.ageEntry
  refine ite_keeps State.beyondFwd (s.put_beyondFwd _ _) (ite_keeps State.beyondFwd ?_ (s.put_beyondFwd _ _))
  exact (State.countFwd_beyondFwd _ _ _).trans (s.epRemove_beyondFwd e)

theorem State.visitEntry_beyondFwd (s : State) (e : Nat) : (s.visitEntry e).beyondFwd = s.beyondFwd := by
  have visited : ((s.puts [(F.EP_W3_HIT e, if s.hitNow e then 1 else 0), (F.EP_W2_MOVES e, 0)]).undamp (s.epKey e)).beyondFwd
      = s.beyondFwd := (State.undamp_beyondFwd _ _).trans (s.puts_beyondFwd _)
  unfold State.visitEntry
  refine ite_keeps State.beyondFwd (ite_keeps State.beyondFwd ?_ visited) (ite_keeps State.beyondFwd visited ?_)
  · exact (State.countFwd_beyondFwd _ _ _).trans ((State.epRemove_beyondFwd _ _).trans visited)
  · exact (State.ageEntry_beyondFwd _ _ _).trans visited

theorem State.sweepVisit_beyondFwd (s : State) : s.sweepVisit.beyondFwd = s.beyondFwd := by
  unfold State.sweepVisit
  refine ite_keeps State.beyondFwd rfl (ite_keeps State.beyondFwd ?_ (s.withFwd_beyondFwd _))
  exact (State.visitEntry_beyondFwd _ _).trans (s.withFwd_beyondFwd _)

theorem State.copyRange_beyondFwd (s : State) (src dst len : Nat) : (s.copyRange src dst len).beyondFwd = s.beyondFwd := by
  unfold State.copyRange
  exact (foldl_keeps State.beyondFwd (fun t x => t.setWord_beyondFwd _ _) _ _).trans
    (foldl_keeps State.beyondFwd (fun t x => t.setWord_beyondFwd _ _) _ s)

theorem State.copyBank_beyondFwd (s : State) : s.copyBank.beyondFwd = s.beyondFwd := by
  unfold State.copyBank
  dsimp only
  rw [State.copyRange_beyondFwd, State.copyRange_beyondFwd, State.copyRange_beyondFwd, State.copyRange_beyondFwd]
  exact foldl_keeps State.beyondFwd (fun t e => t.setEpResult_beyondFwd _ e _) _ s

theorem State.epochCopyDone_beyondFwd (s : State) : s.epochCopyDone.beyondFwd = s.beyondFwd :=
  ite_keeps State.beyondFwd ((State.put_beyondFwd _ _ _).trans s.copyBank_beyondFwd) rfl

theorem State.epochDrain_beyondFwd (s : State) : s.epochDrain.beyondFwd = s.beyondFwd :=
  ite_keeps State.beyondFwd ((State.countFwd_beyondFwd _ _ _).trans (s.put_beyondFwd _ _)) rfl

/-! The operations of the policers and the queues of a returning member. -/

theorem State.weirClamp_beyondCis (s : State) (c : Bool) (i : Nat) : (s.weirClamp c i).beyondCis = s.beyondCis :=
  ite_keeps State.beyondCis (State.beyondCis_of_records
    ((State.logReport_beyondRecords _ _ _ _ _ _).trans (State.countIn_beyondRecords _ _ _ _))) rfl

theorem State.weirDiscard_beyondCis (s : State) (d : Bool) : (s.weirDiscard d).beyondCis = s.beyondCis :=
  ite_keeps State.beyondCis (State.beyondCis_of_records (s.countIn_beyondRecords _ _ _)) rfl

theorem State.creditPolicer_beyondCis (s : State) (i : Nat) : (s.creditPolicer i).beyondCis = s.beyondCis := by
  unfold State.creditPolicer
  dsimp only
  rw [State.weirClamp_beyondCis, State.weirClamp_beyondCis, State.weirDiscard_beyondCis, State.weirDiscard_beyondCis]
  rfl

theorem State.debitPolicer_beyondCis (s : State) (i colour bytes : Nat) :
    (s.debitPolicer i colour bytes).beyondCis = s.beyondCis := by
  unfold State.debitPolicer
  dsimp only
  rw [State.weirClamp_beyondCis, State.weirClamp_beyondCis]
  rfl

theorem State.weirEthDebit_beyondCis (s : State) (p : Nat) : (s.weirEthDebit p).beyondCis = s.beyondCis := by
  unfold State.weirEthDebit
  split
  · rfl
  · exact (State.debitPolicer_beyondCis _ _ _ _).trans (State.creditPolicer_beyondCis _ _)

theorem State.markQueue_beyondCis (s : State) (p q : Nat) : (s.markQueue p q).beyondCis = s.beyondCis := by
  unfold State.markQueue
  dsimp only
  split
  · exact ite_keeps State.beyondCis rfl rfl
  · exact ite_keeps State.beyondCis (ite_keeps State.beyondCis rfl rfl) (ite_keeps State.beyondCis rfl rfl)

theorem State.markPort_beyondCis (s : State) (p : Nat) : (s.markPort p).beyondCis = s.beyondCis :=
  foldl_keeps State.beyondCis (fun t q => t.markQueue_beyondCis p q) _ s

theorem State.groupReturn_beyondCis (s : State) (p q : Nat) : (s.groupReturn p q).beyondCis = s.beyondCis :=
  ite_keeps State.beyondCis rfl rfl

/-! The end of a command. -/

/-- What a command leaves behind when it ends: the queue of commands and the core clock as they were. -/
def State.endedFrom (x s : State) : State := { x with pending := s.pending, time := { x.time with core := s.time.core } }

/-- Whether or not the part stands still, a command ends in what it found or in its effect, settled. -/
theorem finish_ends {s u t : State} (h : finish s u = .next t) : ∃ x, (x = s ∨ x = u.settle) ∧ t = x.endedFrom s := by
  unfold finish done at h
  split at h
  · exact ⟨s, .inl rfl, (Host.Outcome.next.inj h).symm⟩
  · exact ⟨u.settle, .inr rfl, (Host.Outcome.next.inj h).symm⟩

theorem finish_beyondFwd {s u t : State} (hu : u.beyondFwd = s.beyondFwd) (h : finish s u = .next t) :
    t.beyondFwd = s.beyondFwd := by
  obtain ⟨x, hx, rfl⟩ := finish_ends h
  have same : x.beyondFwd = s.beyondFwd := by
    obtain rfl | rfl := hx
    · rfl
    · exact (State.beyondFwd_of_records u.settle_beyondRecords).trans hu
  exact (congrArg (fun y : State => y.endedFrom s) same).trans rfl

theorem finish_beyondCis {s u t : State} (hu : u.beyondCis = s.beyondCis) (h : finish s u = .next t) :
    t.beyondCis = s.beyondCis := by
  obtain ⟨x, hx, rfl⟩ := finish_ends h
  have same : x.beyondCis = s.beyondCis := by
    obtain rfl | rfl := hx
    · rfl
    · exact (State.beyondCis_of_records u.settle_beyondRecords).trans hu
  exact (congrArg (fun y : State => y.endedFrom s) same).trans rfl

/-- Whichever of the writer's, the sweeper's and the epochs' events it is, only forwarding state and records change. -/
theorem forwardingEvent_beyondFwd {c : Instr} {s t : State}
    (hc : (∃ p, c = .learnInsert p ∨ c = .learnMove p) ∨ c = .ageSweepVisit ∨ c = .flushDone ∨ c = .epochCopyDone
      ∨ c = .epochDrainExpire) (h : exec c s = .next t) : t.beyondFwd = s.beyondFwd := by
  obtain ⟨p, rfl | rfl⟩ | rfl | rfl | rfl | rfl := hc
  · exact finish_beyondFwd (s.writerNext_beyondFwd p.val false) h
  · exact finish_beyondFwd (s.writerNext_beyondFwd p.val true) h
  · exact finish_beyondFwd s.sweepVisit_beyondFwd h
  · exact finish_beyondFwd (s.put_beyondFwd F.FWDLRN_STATUS_FLUSH_BUSY 0) h
  · exact finish_beyondFwd s.epochCopyDone_beyondFwd h
  · exact finish_beyondFwd s.epochDrain_beyondFwd h

theorem policerEvent_beyondCis {c : Instr} {s t : State}
    (hc : (∃ p, c = .weirEthDebit p) ∨ ∃ p q, c = .groupReturnRelease p q) (h : exec c s = .next t) :
    t.beyondCis = s.beyondCis := by
  obtain ⟨p, rfl⟩ | ⟨p, q, rfl⟩ := hc
  · exact finish_beyondCis (s.weirEthDebit_beyondCis p) h
  · exact finish_beyondCis ((State.markPort_beyondCis _ _).trans (s.groupReturn_beyondCis p q)) h

/-- Settles O24: the components named are parts of the view that each event leaves. -/
theorem forwardingEventsLeaveTheRestAlone : Obligations.ForwardingEventsLeaveTheRestAlone := by
  intro s t
  refine ⟨fun c hc h => ?_, fun c hc h => ?_⟩
  · have same := forwardingEvent_beyondFwd hc h
    exact ⟨congrArg (·.cis) same, congrArg (·.ports) same, congrArg (·.mem) same, congrArg (·.bsn) same, congrArg (·.col) same,
      congrArg (·.glass) same, congrArg (·.time) same, congrArg (·.mgmt) same, congrArg (·.nvm) same, congrArg (·.cages) same,
      congrArg (·.pwr) same, congrArg (·.hlth) same⟩
  · have same := policerEvent_beyondCis hc h
    exact ⟨congrArg (·.fwd) same, congrArg (·.ports) same, congrArg (·.mem) same, congrArg (·.bsn) same, congrArg (·.col) same,
      congrArg (·.glass) same, congrArg (·.time) same, congrArg (·.mgmt) same, congrArg (·.nvm) same, congrArg (·.cages) same,
      congrArg (·.pwr) same, congrArg (·.hlth) same⟩

end Sys2Proof.Machine

namespace Sys2Proof.Machine

/-! ### The end of a command, word by word

What the end of a command keeps of the effect: forwarding state, every word but MSIX_PBA, the log writer's queue, and every
counter but those of RILL_INTR_TX. -/

/-- From its effect `u` to its end `t` a command only signals. -/
structure Settled (u t : State) : Prop where
  fwd : t.fwd = u.fwd
  word : ∀ a, pbaWord a = false → t.word a = u.word a
  logQ : t.obs.logQ = u.obs.logQ
  cnt : ∀ ev, ev ≠ Ev.RILL_INTR_TX → Uncounted ev u t

/-- A command of a part that runs completes, and what its effect and its signals make true holds. -/
theorem completes_of_settled {c : Instr} {s u : State} {Q : State → Prop} (h : s.stopped = false) (hc : exec c s = finish s u)
    (hQ : ∀ t, Settled u t → Q t) : Completes c s Q := by
  refine ⟨_, hc.trans (finish_running h u), hQ _ ⟨?_, fun a ha => u.settle_word ha, ?_, fun ev hev => ?_⟩⟩
  · show u.settle.fwd = u.fwd
    rw [u.settle_only]
  · show u.settle.obs.logQ = u.obs.logQ
    rw [u.settle_only]
  · obtain ⟨sel, cnt⟩ := u.settle_uncounted hev
    exact ⟨sel, cnt⟩

/-- A part that runs lets the SPC island's commands end as any other. -/
theorem finishSpc_running {s : State} (h : s.stopped = false) (u : State) : finishSpc s u = finish s u := by
  have held : s.board.held = false := (Bool.or_eq_false_iff.1 h).2
  unfold finishSpc finish
  simp [held, h]

theorem pbaWord_table {a : Nat} (h : 0x1000000 ≤ a) : pbaWord a = false := by
  have above : ¬ a < 0xe08808 := by omega
  simp [pbaWord, above]

theorem Settled.get {u t : State} (h : Settled u t) {f : FRef} (hf : pbaWord f.addr = false) : t.get f = u.get f :=
  State.get_congr (h.word _ hf)

theorem Settled.getTable {u t : State} (h : Settled u t) {f : FRef} (hf : 0x1000000 ≤ f.addr) : t.get f = u.get f :=
  h.get (pbaWord_table hf)

theorem State.get_countFwd (s : State) (ev n : Nat) (f : FRef) : (s.countFwd ev n).get f = s.get f := rfl

theorem State.word_countFwd (s : State) (ev n a : Nat) : (s.countFwd ev n).word a = s.word a := rfl

theorem State.logReport_room {s : State} (h : s.obs.logQ.length < 64) (code page inst d1 d2 : Nat) :
    s.logReport code page inst d1 d2
      = { s with obs := { s.obs with logQ := s.obs.logQ ++ [⟨code, page, inst, d1, d2, s.time.core⟩] } } := if_pos h

/-- A report changes no register and no forwarding state. -/
theorem State.logReport_keeps (s : State) (code page inst d1 d2 : Nat) :
    (s.logReport code page inst d1 d2).bar = s.bar ∧ (s.logReport code page inst d1 d2).fwd = s.fwd := by
  unfold State.logReport
  dsimp only
  split
  · exact ⟨rfl, rfl⟩
  · split <;> exact ⟨rfl, rfl⟩

theorem State.countPages_uncounted (s : State) (first num : Nat) {ev other : Nat} (n : Nat) (h : ev ≠ other) :
    Uncounted ev s (s.countPages first num other n) := s.countIn_uncounted _ n h

theorem State.logLost_uncounted (s : State) {ev : Nat} (h : ev ≠ Ev.LOG_LOST) : Uncounted ev s s.logLost := by
  have noted : Uncounted ev s { s with obs := { s.obs with lostBefore := true } } := ⟨rfl, fun _ _ _ => rfl⟩
  exact noted.trans (State.countPages_uncounted _ 0xf00 16 1 h)

theorem State.logReport_uncounted (s : State) (code page inst d1 d2 : Nat) {ev : Nat} (h : ev ≠ Ev.LOG_LOST) :
    Uncounted ev s (s.logReport code page inst d1 d2) := by
  have queued : ∀ l : List LogReq, Uncounted ev s { s with obs := { s.obs with logQ := l } } := fun _ => ⟨rfl, fun _ _ _ => rfl⟩
  unfold State.logReport
  dsimp only
  split
  · exact queued _
  · split
    · exact (queued _).trans (State.logLost_uncounted _ h)
    · exact s.logLost_uncounted h

/-! ### Entries of the endpoint table and the stash (R94)

An entry is its four words; every field of it is read from one of them. -/

theorem State.epWords_congr {s t : State} {e : Nat} (h : ∀ i < 4, t.word (0x01000000 + 16 * e + 4 * i) = s.word (0x01000000 + 16 * e + 4 * i)) :
    t.epWords e = s.epWords e := List.map_congr_left fun i hi => h i (List.mem_range.1 hi)

theorem State.word_of_epWords {s t : State} {e : Nat} (h : t.epWords e = s.epWords e) {a i : Nat} (ha : a = 0x01000000 + 16 * e + 4 * i)
    (hi : i < 4) : t.word a = s.word a := by
  subst ha
  exact (List.map_inj_left.1 h) i (List.mem_range.2 hi)

section

variable {s t : State} {e : Nat}

theorem State.get_w0_congr (h : t.epWords e = s.epWords e) : t.get (F.EP_W0_KEY_LO e) = s.get (F.EP_W0_KEY_LO e) :=
  State.get_congr (State.word_of_epWords (i := 0) h (by simp only [F.EP_W0_KEY_LO]; omega) (by decide))

theorem State.get_w1_congr (h : t.epWords e = s.epWords e) : t.get (F.EP_W1_KEY_HI e) = s.get (F.EP_W1_KEY_HI e) :=
  State.get_congr (State.word_of_epWords (i := 1) h (by simp only [F.EP_W1_KEY_HI]; omega) (by decide))

theorem State.get_w2_congr (h : t.epWords e = s.epWords e) {f : FRef} (hf : f.addr = 0x1000008 + e * 0x10) : t.get f = s.get f :=
  State.get_congr (State.word_of_epWords (i := 2) h (by omega) (by decide))

theorem State.get_w3_congr (h : t.epWords e = s.epWords e) {f : FRef} (hf : f.addr = 0x100000c + e * 0x10) : t.get f = s.get f :=
  State.get_congr (State.word_of_epWords (i := 3) h (by omega) (by decide))

theorem State.epValid_congr (h : t.epWords e = s.epWords e) : t.epValid e = s.epValid e :=
  congrArg (· != 0) (State.get_w2_congr h rfl)

theorem State.epKey_congr (h : t.epWords e = s.epWords e) : t.epKey e = s.epKey e := by
  unfold State.epKey
  rw [State.get_w0_congr h, State.get_w1_congr h]

theorem State.epResult_congr (h : t.epWords e = s.epWords e) (bank : Nat) : t.epResult bank e = s.epResult bank e := by
  unfold State.epResult
  rw [State.get_w2_congr h (f := F.EP_W2_RESULT_A e) rfl, State.get_w3_congr h (f := F.EP_W3_RESULT_B e) rfl]

end

theorem State.epWords_of_bar {s t : State} (h : t.bar = s.bar) (e : Nat) : t.epWords e = s.epWords e :=
  State.epWords_congr fun _ _ => State.word_congr h _

theorem Settled.epWords {u t : State} (h : Settled u t) (e : Nat) : t.epWords e = u.epWords e :=
  State.epWords_congr fun i _ => h.word _ (pbaWord_table (by omega))

/-! ### Learned entries: a request taken from its queue (R101, R102) -/

/-- The writer has taken the oldest request of a pipeline. -/
def State.requestTaken (s : State) (pipe : Nat) (rest : List LearnReq) : State :=
  { s with fwd := { s.fwd with learnQ := SMap.set (fun _ => []) s.fwd.learnQ pipe rest } }

theorem State.writerNext_takes {s : State} {pipe : Nat} {r : LearnReq} {rest : List LearnReq}
    (hq : SMap.get (fun _ => []) s.fwd.learnQ pipe = r :: rest) : s.writerNext pipe r.move = (s.requestTaken pipe rest).writerTakes r := by
  unfold State.writerNext
  rw [hq]
  exact if_pos rfl

theorem State.learnQ_requestTaken (s : State) (pipe : Nat) (rest : List LearnReq) :
    SMap.get (fun _ => []) (s.requestTaken pipe rest).fwd.learnQ pipe = rest := SMap.get_set_same _ _ _ _

/-- A key that is found in an entry with neither result equal to that of the request is moved. -/
theorem State.writerTakes_moves {s : State} {r : LearnReq} {e : Nat} (hfind : s.epFind r.key = some e) (ha : s.epResult 0 e ≠ r.res)
    (hb : s.epResult 1 e ≠ r.res) : s.writerTakes r = s.moveEntry e r.res := by
  unfold State.writerTakes
  rw [hfind]
  exact if_neg (not_or.2 ⟨ha, hb⟩)

/-! ### O19: a move (R104) -/

/-- The fields of an entry that a move writes. -/
def State.moveFields (s : State) (e res : Nat) : List (FRef × Nat) :=
  [(F.EP_W2_RESULT_A e, res), (F.EP_W3_RESULT_B e, res), (F.EP_W2_MOVES e, s.get (F.EP_W2_MOVES e) + 1)]

theorem State.moveFields_ok (s : State) (e res : Nat) : ∀ x ∈ s.moveFields e res, x.1.ok := by
  simp [State.moveFields, FRef.ok, F.EP_W2_RESULT_A, F.EP_W3_RESULT_B, F.EP_W2_MOVES]

theorem State.moveFields_apart (s : State) (e res : Nat) : (s.moveFields e res).Pairwise fun x y => y.1.apart x.1 := by
  simp [State.moveFields, FRef.apart, F.EP_W2_RESULT_A, F.EP_W3_RESULT_B, F.EP_W2_MOVES]

/-- The entry with both results replaced and MOVES one more. -/
def State.moved (s : State) (e res : Nat) : State := (s.puts (s.moveFields e res)).countFwd Ev.LEARN_MOVE 1

theorem State.moveEntry_below {s : State} {e : Nat} (hst : s.on (F.EP_W2_STATIC e) = false)
    (hlim : s.get (F.EP_W2_MOVES e) < s.get F.FWDCFG_LOOKUP_MOVE_LIMIT) (res : Nat) : s.moveEntry e res = s.moved e res := by
  unfold State.moveEntry
  rw [if_neg (by simp [hst]), if_neg (by omega)]
  rfl

theorem State.get_moved (s : State) {e res v : Nat} {f : FRef} (h : (f, v) ∈ s.moveFields e res) :
    (s.moved e res).get f = v % 2 ^ f.width := by
  unfold State.moved
  rw [State.get_countFwd, s.get_puts_mem (s.moveFields_ok e res) (s.moveFields_apart e res) h]

theorem State.epResult_moved (s : State) (e : Nat) {res : Nat} (hres : res < 2 ^ 24) (bank : Nat) :
    (s.moved e res).epResult bank e = res := by
  unfold State.epResult
  rw [s.get_moved (f := F.EP_W2_RESULT_A e) List.mem_cons_self,
    s.get_moved (f := F.EP_W3_RESULT_B e) (List.mem_cons_of_mem _ List.mem_cons_self)]
  simp only [FRef.width, F.EP_W2_RESULT_A, F.EP_W3_RESULT_B, ite_self]
  exact Nat.mod_eq_of_lt hres

theorem State.moves_moved {s : State} {e : Nat} (h : s.get (F.EP_W2_MOVES e) < s.get F.FWDCFG_LOOKUP_MOVE_LIMIT) (res : Nat) :
    (s.moved e res).get (F.EP_W2_MOVES e) = s.get (F.EP_W2_MOVES e) + 1 := by
  have limit := s.get_lt F.FWDCFG_LOOKUP_MOVE_LIMIT
  rw [s.get_moved (List.mem_cons_of_mem _ (List.mem_cons_of_mem _ List.mem_cons_self))]
  simp only [FRef.width, F.EP_W2_MOVES, F.FWDCFG_LOOKUP_MOVE_LIMIT] at *
  omega

theorem State.epKey_moved (s : State) (e res : Nat) : (s.moved e res).epKey e = s.epKey e := by
  have word : ∀ a, a = 0x1000000 + e * 0x10 ∨ a = 0x1000004 + e * 0x10 → (s.moved e res).word a = s.word a := fun a ha => by
    unfold State.moved
    rw [State.word_countFwd]
    refine s.word_puts_ne (s.moveFields e res) ?_
    simp only [State.moveFields, List.forall_mem_cons, F.EP_W2_RESULT_A, F.EP_W3_RESULT_B, F.EP_W2_MOVES]
    refine ⟨?_, ?_, ?_, by simp⟩ <;> omega
  unfold State.epKey
  rw [State.get_congr (f := F.EP_W1_KEY_HI e) (word _ (.inr rfl)), State.get_congr (f := F.EP_W0_KEY_LO e) (word _ (.inl rfl))]

/-- It is noted that a refused move of an entry's key has been logged. -/
def State.refusalNoted (s : State) (e : Nat) : State := { s with fwd := { s.fwd with damped := s.epKey e :: s.fwd.damped } }

/-- The first refusal of a move of an entry is noted, and reported. -/
def State.refusalLogged (s : State) (e : Nat) : State := (s.refusalNoted e).logReport Ev.LEARN_MOVE_DAMPED 0x603 e 0 0

/-- A move that is refused is counted, and the first of its entry logged. -/
def State.moveRefused (s : State) (e : Nat) : State :=
  if s.epKey e ∈ s.fwd.damped then s.countFwd Ev.LEARN_MOVE_DAMPED 1 else (s.countFwd Ev.LEARN_MOVE_DAMPED 1).refusalLogged e

theorem State.moveEntry_limited {s : State} {e : Nat} (hst : s.on (F.EP_W2_STATIC e) = false)
    (hlim : s.get (F.EP_W2_MOVES e) = s.get F.FWDCFG_LOOKUP_MOVE_LIMIT) (res : Nat) : s.moveEntry e res = s.moveRefused e := by
  unfold State.moveEntry State.moveRefused
  rw [if_neg (by simp [hst]), if_pos (by omega)]
  simp only [List.contains_iff_mem]
  rfl

theorem State.moveRefused_bar (s : State) (e : Nat) : (s.moveRefused e).bar = s.bar := by
  unfold State.moveRefused
  split
  · rfl
  · exact (State.logReport_keeps _ _ _ _ _ _).1

theorem State.mem_damped_moveRefused (s : State) (e : Nat) : s.epKey e ∈ (s.moveRefused e).fwd.damped := by
  unfold State.moveRefused
  split
  · assumption
  · unfold State.refusalLogged
    rw [(State.logReport_keeps _ _ _ _ _ _).2]
    exact List.mem_cons_self

theorem State.logQ_countIn (s : State) (scope : Nat → Bool) (ev n : Nat) : (s.countIn scope ev n).obs.logQ = s.obs.logQ := by
  rw [State.countIn_only]

theorem State.logQ_countFwd (s : State) (ev n : Nat) : (s.countFwd ev n).obs.logQ = s.obs.logQ := s.logQ_countIn _ ev n

theorem State.logQ_moveRefused_again {s : State} {e : Nat} (h : s.epKey e ∈ s.fwd.damped) :
    (s.moveRefused e).obs.logQ = s.obs.logQ := by
  unfold State.moveRefused
  rw [if_pos h, State.logQ_countFwd]

theorem State.logQ_moveRefused_first {s : State} {e : Nat} (h : s.epKey e ∉ s.fwd.damped) (hroom : s.obs.logQ.length < 64) :
    (s.moveRefused e).obs.logQ = s.obs.logQ ++ [⟨Ev.LEARN_MOVE_DAMPED, 0x603, e, 0, 0, s.time.core⟩] := by
  have queue := s.logQ_countFwd Ev.LEARN_MOVE_DAMPED 1
  unfold State.moveRefused State.refusalLogged
  rw [if_neg h, State.logReport_room (by rw [← queue] at hroom; exact hroom)]
  exact congrArg (· ++ _) queue

/-- After the count of the refusal nothing counts one more. -/
theorem State.moveRefused_uncounted (s : State) (e : Nat) :
    Uncounted Ev.LEARN_MOVE_DAMPED (s.countFwd Ev.LEARN_MOVE_DAMPED 1) (s.moveRefused e) := by
  unfold State.moveRefused
  split
  · exact .of_obs rfl
  · have noted : Uncounted Ev.LEARN_MOVE_DAMPED (s.countFwd Ev.LEARN_MOVE_DAMPED 1) ((s.countFwd Ev.LEARN_MOVE_DAMPED 1).refusalNoted e) :=
      .of_obs rfl
    exact noted.trans (State.logReport_uncounted _ _ _ _ _ _ (by decide))

theorem State.get_requestTaken (s : State) (pipe : Nat) (rest : List LearnReq) (f : FRef) :
    (s.requestTaken pipe rest).get f = s.get f := rfl

section

variable {pipe : Fin 32} {r : LearnReq} {rest : List LearnReq} {e : Nat} {s : State} (hs : s.stopped = false)
  (hq : SMap.get (fun _ => []) s.fwd.learnQ pipe = r :: rest) (hm : r.move = true) (hfind : s.epFind r.key = some e)
  (ha : s.epResult 0 e ≠ r.res) (hb : s.epResult 1 e ≠ r.res) (hst : s.on (F.EP_W2_STATIC e) = false)

include hq hm hfind ha hb

theorem exec_learnMove : exec (.learnMove pipe) s = finish s ((s.requestTaken pipe rest).moveEntry e r.res) := by
  have takes := State.writerNext_takes hq
  rw [hm] at takes
  exact congrArg (finish s) (takes.trans (State.writerTakes_moves (s := s.requestTaken pipe rest) hfind ha hb))

include hs hst

theorem learnMove_moves (hres : r.res < 2 ^ 24) (hlim : s.get (F.EP_W2_MOVES e) < s.get F.FWDCFG_LOOKUP_MOVE_LIMIT) :
    Completes (.learnMove pipe) s fun t => t.epResult 0 e = r.res ∧ t.epResult 1 e = r.res
      ∧ t.get (F.EP_W2_MOVES e) = s.get (F.EP_W2_MOVES e) + 1 ∧ t.epKey e = s.epKey e
      ∧ SMap.get (fun _ => []) t.fwd.learnQ pipe = rest := by
  have effect := exec_learnMove hq hm hfind ha hb
  rw [State.moveEntry_below (s := s.requestTaken pipe rest) hst hlim r.res] at effect
  refine completes_of_settled hs effect fun t ht => ?_
  have entry := ht.epWords e
  refine ⟨?_, ?_, ?_, ?_, ?_⟩
  · exact (State.epResult_congr entry 0).trans (State.epResult_moved _ e hres 0)
  · exact (State.epResult_congr entry 1).trans (State.epResult_moved _ e hres 1)
  · exact (State.get_w2_congr entry rfl).trans (State.moves_moved (s := s.requestTaken pipe rest) hlim r.res)
  · exact (State.epKey_congr entry).trans (State.epKey_moved (s.requestTaken pipe rest) e r.res)
  · rw [ht.fwd]
    exact s.learnQ_requestTaken pipe rest

theorem learnMove_refused (hlim : s.get (F.EP_W2_MOVES e) = s.get F.FWDCFG_LOOKUP_MOVE_LIMIT) :
    Completes (.learnMove pipe) s fun t => t.epWords e = s.epWords e
      ∧ (SMap.wf (fun _ => 0) s.obs.sel = true → Counted s t (fun q => decide (0x600 ≤ q) && decide (q < 0x605)) Ev.LEARN_MOVE_DAMPED 1)
      ∧ s.epKey e ∈ t.fwd.damped ∧ (s.epKey e ∈ s.fwd.damped → t.obs.logQ = s.obs.logQ)
      ∧ (s.epKey e ∉ s.fwd.damped → s.obs.logQ.length < 64 →
        t.obs.logQ = s.obs.logQ ++ [⟨Ev.LEARN_MOVE_DAMPED, 0x603, e, 0, 0, s.time.core⟩]) := by
  have effect := exec_learnMove hq hm hfind ha hb
  rw [State.moveEntry_limited (s := s.requestTaken pipe rest) hst hlim r.res] at effect
  refine completes_of_settled hs effect fun t ht => ⟨?_, fun hw => ?_, ?_, fun h => ?_, fun h hroom => ?_⟩
  · exact (ht.epWords e).trans (State.epWords_of_bar (State.moveRefused_bar _ e) e)
  · exact counted_once (u := s.requestTaken pipe rest) (wider := fun p => decide (0x600 ≤ p) && decide (p < 0x600 + 5)) hw
      (.of_obs rfl) (Part.same_refl .events s) (fun _ h => h)
      ((State.moveRefused_uncounted _ e).trans (ht.cnt _ (by decide)))
  · rw [ht.fwd]
    exact State.mem_damped_moveRefused (s.requestTaken pipe rest) e
  · exact ht.logQ.trans (State.logQ_moveRefused_again (s := s.requestTaken pipe rest) h)
  · exact ht.logQ.trans (State.logQ_moveRefused_first (s := s.requestTaken pipe rest) h hroom)

end

end Sys2Proof.Machine

namespace Sys2Proof.Machine

/-! ### Entries written whole -/

theorem State.setEpWords_four (s : State) (e : Nat) (a b c d : Word) : s.setEpWords e [a, b, c, d]
    = (((s.setWord (0x01000000 + 16 * e + 4 * 0) a).setWord (0x01000000 + 16 * e + 4 * 1) b).setWord
      (0x01000000 + 16 * e + 4 * 2) c).setWord (0x01000000 + 16 * e + 4 * 3) d := rfl

theorem State.word_setEpWords_ne (s : State) {e : Nat} {a b c d : Word} {x : Nat}
    (h : x < 0x01000000 + 16 * e ∨ 0x01000000 + 16 * e + 16 ≤ x) : (s.setEpWords e [a, b, c, d]).word x = s.word x := by
  rw [State.setEpWords_four, State.word_setWord_ne _ _ (by omega), State.word_setWord_ne _ _ (by omega),
    State.word_setWord_ne _ _ (by omega), State.word_setWord_ne _ _ (by omega)]

theorem State.epWords_setEpWords_ne (s : State) {e e' : Nat} {a b c d : Word} (h : e' ≠ e) :
    (s.setEpWords e [a, b, c, d]).epWords e' = s.epWords e' :=
  State.epWords_congr fun i hi => s.word_setEpWords_ne (by omega)

theorem State.epWords_eq (s : State) (e : Nat) : s.epWords e = [s.word (0x01000000 + 16 * e + 4 * 0),
    s.word (0x01000000 + 16 * e + 4 * 1), s.word (0x01000000 + 16 * e + 4 * 2), s.word (0x01000000 + 16 * e + 4 * 3)] := rfl

@[simp] theorem State.epWords_setEpWords_same (s : State) (e : Nat) (a b c d : Word) :
    (s.setEpWords e [a, b, c, d]).epWords e = [a, b, c, d] := by
  rw [State.epWords_eq, State.setEpWords_four]
  congr
  · rw [State.word_setWord_ne _ _ (by omega), State.word_setWord_ne _ _ (by omega), State.word_setWord_ne _ _ (by omega),
      State.word_setWord_same]
  · rw [State.word_setWord_ne _ _ (by omega), State.word_setWord_ne _ _ (by omega), State.word_setWord_same]
  · rw [State.word_setWord_ne _ _ (by omega), State.word_setWord_same]
  · exact State.word_setWord_same _ _ _

/-- Each word of an entry that is known whole. -/
theorem State.words_of_epWords {s : State} {e : Nat} {a b c d : Word} (h : s.epWords e = [a, b, c, d]) :
    s.word (0x1000000 + e * 0x10) = a ∧ s.word (0x1000004 + e * 0x10) = b ∧ s.word (0x1000008 + e * 0x10) = c
      ∧ s.word (0x100000c + e * 0x10) = d := by
  rw [State.epWords_eq] at h
  have at_ : ∀ {x y : Nat} {w : Word}, s.word x = w → y = x → s.word y = w := fun hx e => e ▸ hx
  simp only [List.cons.injEq, and_true] at h
  obtain ⟨h0, h1, h2, h3⟩ := h
  exact ⟨at_ h0 (by omega), at_ h1 (by omega), at_ h2 (by omega), at_ h3 (by omega)⟩

theorem State.get_of_word {s : State} {f : FRef} {w : Word} (h : s.word f.addr = w) : s.get f = f.ofWord w := congrArg f.ofWord h

/-- An entry whose words are all 0 holds no key. -/
theorem State.epValid_of_zero {s : State} {e : Nat} (h : s.epWords e = [0#32, 0#32, 0#32, 0#32]) : s.epValid e = false := by
  obtain ⟨-, -, w2, -⟩ := State.words_of_epWords h
  unfold State.epValid State.on
  rw [State.get_of_word (f := F.EP_W2_VALID e) w2]
  simp [FRef.ofWord]

/-! ### The sweeper (R106, R107) -/

/-- The sweeper's position has moved on. -/
def State.sweepMoved (s : State) : State := { s with fwd := { s.fwd with
  sweepAt := s.now
  sweepPos := if s.fwd.sweepPos + 1 < epCount then s.fwd.sweepPos + 1 else 0
  refusedLogged := if s.fwd.sweepPos = 0 then false else s.fwd.refusedLogged } }

theorem State.sweepVisit_due {s : State} (hper : s.get F.FWDLRN_AGE_PERIOD_S ≠ 0)
    (hdue : s.passed s.fwd.sweepAt (secClocks (s.get F.FWDLRN_AGE_PERIOD_S) / epCount) = true)
    (hv : s.epValid s.fwd.sweepPos = true) : s.sweepVisit = s.sweepMoved.visitEntry s.fwd.sweepPos := by
  unfold State.sweepVisit
  dsimp only
  rw [if_neg (by simp [hper, hdue])]
  exact if_pos hv

/-- The fields of an entry that every visit writes. -/
def State.visitFields (s : State) (e : Nat) : List (FRef × Nat) := [(F.EP_W3_HIT e, if s.hitNow e then 1 else 0), (F.EP_W2_MOVES e, 0)]

/-- The entry has been visited: its hit bit is cleared, unless it was set in this clock, and its moves are forgotten. -/
def State.visited (s : State) (e : Nat) : State := (s.puts (s.visitFields e)).undamp (s.epKey e)

theorem State.visitEntry_pending {s : State} {e : Nat} (hst : s.on (F.EP_W2_STATIC e) = false)
    (hp : s.on (F.EP_W2_PENDING e) = true) : s.visitEntry e = s.visited e := by
  unfold State.visitEntry
  dsimp only
  rw [if_neg (by simp [hst]), if_pos hp]
  rfl

theorem State.visitEntry_learned {s : State} {e : Nat} (hst : s.on (F.EP_W2_STATIC e) = false)
    (hp : s.on (F.EP_W2_PENDING e) = false) : s.visitEntry e = (s.visited e).ageEntry e (s.on (F.EP_W3_HIT e)) := by
  unfold State.visitEntry
  dsimp only
  rw [if_neg (by simp [hst]), if_neg (by simp [hp])]
  rfl

theorem State.get_undamp (s : State) (key : Nat) (f : FRef) : (s.undamp key).get f = s.get f := rfl

theorem State.visitFields_ok (s : State) (e : Nat) : ∀ x ∈ s.visitFields e, x.1.ok := by
  simp [State.visitFields, FRef.ok, F.EP_W3_HIT, F.EP_W2_MOVES]

theorem State.visitFields_apart (s : State) (e : Nat) : (s.visitFields e).Pairwise fun x y => y.1.apart x.1 := by
  simp [State.visitFields, FRef.apart, F.EP_W3_HIT, F.EP_W2_MOVES]

theorem State.moves_visited (s : State) (e : Nat) : (s.visited e).get (F.EP_W2_MOVES e) = 0 := by
  unfold State.visited
  rw [State.get_undamp, s.get_puts_mem (s.visitFields_ok e) (s.visitFields_apart e) (v := 0)
    (List.mem_cons_of_mem _ List.mem_cons_self), Nat.zero_mod]

theorem State.hit_visited (s : State) (e : Nat) : (s.visited e).get (F.EP_W3_HIT e) = if s.hitNow e then 1 else 0 := by
  unfold State.visited
  rw [State.get_undamp, s.get_puts_mem (s.visitFields_ok e) (s.visitFields_apart e) List.mem_cons_self]
  split <;> rfl

/-- A field of disjoint bits is as it was. -/
theorem State.get_visited (s : State) (e : Nat) {f : FRef} (hf : f.ok) (hhit : (F.EP_W3_HIT e).apart f) (hmoves : (F.EP_W2_MOVES e).apart f) :
    (s.visited e).get f = s.get f := by
  unfold State.visited
  rw [State.get_undamp]
  refine s.get_puts_apart _ hf fun x hx => ⟨s.visitFields_ok e x hx, ?_⟩
  simp only [State.visitFields, List.mem_cons, List.not_mem_nil, or_false] at hx
  obtain rfl | rfl := hx
  · exact hhit
  · exact hmoves

theorem State.valid_visited (s : State) (e : Nat) : (s.visited e).epValid e = s.epValid e :=
  congrArg (· != 0) (s.get_visited e (f := F.EP_W2_VALID e) (by simp [FRef.ok, F.EP_W2_VALID])
    (by simp [FRef.apart, F.EP_W2_VALID, F.EP_W3_HIT]) (by simp [FRef.apart, F.EP_W2_VALID, F.EP_W2_MOVES]))

theorem State.age_visited (s : State) (e : Nat) : (s.visited e).on (F.EP_W2_AGE1 e) = s.on (F.EP_W2_AGE1 e) :=
  congrArg (· != 0) (s.get_visited e (f := F.EP_W2_AGE1 e) (by simp [FRef.ok, F.EP_W2_AGE1])
    (by simp [FRef.apart, F.EP_W2_AGE1, F.EP_W3_HIT]) (by simp [FRef.apart, F.EP_W2_AGE1, F.EP_W2_MOVES]))

theorem State.key_visited (s : State) (e : Nat) : (s.visited e).epKey e = s.epKey e := by
  unfold State.epKey
  rw [s.get_visited e (f := F.EP_W1_KEY_HI e) (by simp [FRef.ok, F.EP_W1_KEY_HI])
      (by simp [FRef.apart, F.EP_W1_KEY_HI, F.EP_W3_HIT]) (by simp [FRef.apart, F.EP_W1_KEY_HI, F.EP_W2_MOVES]),
    s.get_visited e (f := F.EP_W0_KEY_LO e) (by simp [FRef.ok, F.EP_W0_KEY_LO])
      (by simp [FRef.apart, F.EP_W0_KEY_LO, F.EP_W3_HIT]) (by simp [FRef.apart, F.EP_W0_KEY_LO, F.EP_W2_MOVES])]

theorem State.damped_visited (s : State) (e : Nat) : s.epKey e ∉ (s.visited e).fwd.damped := by
  simp [State.visited, State.undamp]

/-- An entry that is not removed has been visited, and at most its age set. -/
def State.aged (s : State) (e age : Nat) : State := (s.visited e).put (F.EP_W2_AGE1 e) age

theorem State.age_aged (s : State) (e : Nat) {age : Nat} (h : age < 2) : (s.aged e age).get (F.EP_W2_AGE1 e) = age :=
  (State.get_put_same _ (F.EP_W2_AGE1 e) (by simp [FRef.ok, F.EP_W2_AGE1]) age).trans (Nat.mod_eq_of_lt h)

/-- A field of disjoint bits is as the visit left it. -/
theorem State.get_aged (s : State) (e age : Nat) {f : FRef} (hf : f.ok) (h : (F.EP_W2_AGE1 e).apart f) :
    (s.aged e age).get f = (s.visited e).get f := State.get_put_apart _ (by simp [FRef.ok, F.EP_W2_AGE1]) hf h age

theorem State.valid_aged (s : State) (e age : Nat) : (s.aged e age).epValid e = s.epValid e :=
  (congrArg (· != 0) (s.get_aged e age (f := F.EP_W2_VALID e) (by simp [FRef.ok, F.EP_W2_VALID])
    (by simp [FRef.apart, F.EP_W2_VALID, F.EP_W2_AGE1]))).trans (s.valid_visited e)

theorem State.key_aged (s : State) (e age : Nat) : (s.aged e age).epKey e = s.epKey e := by
  rw [← s.key_visited e]
  unfold State.epKey
  rw [s.get_aged e age (f := F.EP_W1_KEY_HI e) (by simp [FRef.ok, F.EP_W1_KEY_HI]) (by simp [FRef.apart, F.EP_W1_KEY_HI, F.EP_W2_AGE1]),
    s.get_aged e age (f := F.EP_W0_KEY_LO e) (by simp [FRef.ok, F.EP_W0_KEY_LO]) (by simp [FRef.apart, F.EP_W0_KEY_LO, F.EP_W2_AGE1])]

theorem State.moves_aged (s : State) (e age : Nat) : (s.aged e age).get (F.EP_W2_MOVES e) = 0 :=
  (s.get_aged e age (by simp [FRef.ok, F.EP_W2_MOVES]) (by simp [FRef.apart, F.EP_W2_MOVES, F.EP_W2_AGE1])).trans (s.moves_visited e)

theorem State.hit_aged (s : State) (e age : Nat) : (s.aged e age).get (F.EP_W3_HIT e) = if s.hitNow e then 1 else 0 :=
  (s.get_aged e age (by simp [FRef.ok, F.EP_W3_HIT]) (by simp [FRef.apart, F.EP_W3_HIT, F.EP_W2_AGE1])).trans (s.hit_visited e)

theorem State.visitEntry_hit {s : State} {e : Nat} (hst : s.on (F.EP_W2_STATIC e) = false) (hp : s.on (F.EP_W2_PENDING e) = false)
    (hhit : s.on (F.EP_W3_HIT e) = true) : s.visitEntry e = s.aged e 0 := by
  rw [State.visitEntry_learned hst hp, hhit]
  exact if_pos rfl

theorem State.visitEntry_ages {s : State} {e : Nat} (hst : s.on (F.EP_W2_STATIC e) = false) (hp : s.on (F.EP_W2_PENDING e) = false)
    (hhit : s.on (F.EP_W3_HIT e) = false) (hage : s.on (F.EP_W2_AGE1 e) = false) : s.visitEntry e = s.aged e 1 := by
  rw [State.visitEntry_learned hst hp, hhit]
  unfold State.ageEntry
  rw [if_neg Bool.false_ne_true, if_neg (by simp [s.age_visited e, hage])]
  rfl

theorem State.visitEntry_removes {s : State} {e : Nat} (hst : s.on (F.EP_W2_STATIC e) = false) (hp : s.on (F.EP_W2_PENDING e) = false)
    (hhit : s.on (F.EP_W3_HIT e) = false) (hage : s.on (F.EP_W2_AGE1 e) = true) :
    s.visitEntry e = ((s.visited e).epRemove e).countFwd Ev.AGE_REMOVED 1 := by
  rw [State.visitEntry_learned hst hp, hhit]
  unfold State.ageEntry
  rw [if_neg Bool.false_ne_true, if_pos (by simp [s.age_visited e, hage])]

section

variable {s : State} (hs : s.stopped = false) (hper : s.get F.FWDLRN_AGE_PERIOD_S ≠ 0)
  (hdue : s.passed s.fwd.sweepAt (secClocks (s.get F.FWDLRN_AGE_PERIOD_S) / epCount) = true)
  (hv : s.epValid s.fwd.sweepPos = true) (hst : s.on (F.EP_W2_STATIC s.fwd.sweepPos) = false)

include hper hdue hv

theorem exec_ageSweepVisit : exec .ageSweepVisit s = finish s (s.sweepMoved.visitEntry s.fwd.sweepPos) :=
  congrArg (finish s) (State.sweepVisit_due hper hdue hv)

include hs hst

/-- A visit that does not remove the entry leaves it with no move and no refusal on record. -/
theorem ageSweepVisit_resets_moves (h : s.on (F.EP_W2_PENDING s.fwd.sweepPos) = true ∨ s.on (F.EP_W3_HIT s.fwd.sweepPos) = true
      ∨ s.on (F.EP_W2_AGE1 s.fwd.sweepPos) = false) :
    Completes .ageSweepVisit s fun t => t.epValid s.fwd.sweepPos = true ∧ t.epKey s.fwd.sweepPos = s.epKey s.fwd.sweepPos
      ∧ t.get (F.EP_W2_MOVES s.fwd.sweepPos) = 0 ∧ s.epKey s.fwd.sweepPos ∉ t.fwd.damped := by
  generalize he : s.fwd.sweepPos = e at *
  have effect := exec_ageSweepVisit (s := s) hper hdue (he ▸ hv)
  rw [he] at effect
  have outcome : s.sweepMoved.visitEntry e = s.sweepMoved.visited e ∨ ∃ age, s.sweepMoved.visitEntry e = s.sweepMoved.aged e age := by
    cases hp : s.on (F.EP_W2_PENDING e) with
    | true => exact .inl (State.visitEntry_pending (s := s.sweepMoved) hst hp)
    | false =>
      cases hhit : s.on (F.EP_W3_HIT e) with
      | true => exact .inr ⟨0, State.visitEntry_hit (s := s.sweepMoved) hst hp hhit⟩
      | false =>
        have hage : s.on (F.EP_W2_AGE1 e) = false := by simpa [hp, hhit] using h
        exact .inr ⟨1, State.visitEntry_ages (s := s.sweepMoved) hst hp hhit hage⟩
  refine completes_of_settled hs effect fun t ht => ?_
  have entry := ht.epWords e
  have damped := s.sweepMoved.damped_visited e
  rw [State.epValid_congr entry, State.epKey_congr entry, State.get_w2_congr entry (f := F.EP_W2_MOVES e) rfl, ht.fwd]
  obtain same | ⟨age, same⟩ := outcome
  · rw [same]
    exact ⟨(State.valid_visited _ e).trans hv, State.key_visited _ e, State.moves_visited _ e, damped⟩
  · rw [same]
    exact ⟨(State.valid_aged _ e age).trans hv, State.key_aged _ e age, State.moves_aged _ e age, damped⟩

end

/-- Settles O19: a move writes both results below the limit and is refused at it, and the sweeper's visit forgets both. -/
theorem moveSetsBothResultsUntilTheLimit : Obligations.MoveSetsBothResultsUntilTheLimit :=
  ⟨fun _ _ _ _ _ hs hq hm hres hfind ha hb hst =>
      ⟨learnMove_moves hs hq hm hfind ha hb hst hres, learnMove_refused hs hq hm hfind ha hb hst⟩,
    fun _ hs hper hdue _ hv hst h => ageSweepVisit_resets_moves hs hper hdue hv hst h⟩

end Sys2Proof.Machine

namespace Sys2Proof.SMap

variable {α : Type} [DecidableEq α]

/-- In canonical form a listed pair is what its key reads as. -/
theorem get_of_mem (d : Nat → α) {lo : Nat} {m : SMap α} (h : wfFrom d lo m = true) {x : Nat × α} (hx : x ∈ m) :
    get d m x.1 = x.2 := by
  induction m generalizing lo with
  | nil => cases hx
  | cons y m ih =>
    simp only [wfFrom, Bool.and_eq_true, decide_eq_true_eq] at h
    obtain ⟨⟨-, -⟩, hm⟩ := h
    obtain rfl | hx := List.mem_cons.1 hx
    · exact if_pos rfl
    · have above := forall_lt_of_wfFrom d hm x hx
      exact (if_neg (by omega)).trans (ih hm hx)

/-- In canonical form a key that does not read as its default is listed. -/
theorem mem_of_get_ne (d : Nat → α) {lo k : Nat} {m : SMap α} (h : wfFrom d lo m = true) (hk : get d m k ≠ d k) :
    (k, get d m k) ∈ m := by
  obtain ⟨l₁, l₂, e, -⟩ := split_of_wfFrom d h hk
  have listed : (k, get d m k) ∈ l₁ ++ (k, get d m k) :: l₂ := List.mem_append_right _ List.mem_cons_self
  rwa [← e] at listed

end Sys2Proof.SMap

namespace Sys2Proof.Machine

/-! ### The forwarding windows at reset (R14, R128) -/

/-- Every word of the windows below 0x03000000 is 0 at reset. -/
theorem resetWord_forwarding {a : Nat} (h : 0x1000000 ≤ a) (h' : a < 0x3000000) : resetWord a = 0#32 := by
  have windows : ∀ w ∈ Layout.windows, w.base < 0x3000000 → ∀ r ∈ w.words, r.resetVal = 0 := by decide
  have indexed : indexedReset a = none := by
    unfold indexedReset pageLimit
    rw [if_neg (by omega), if_neg (by omega), if_neg (by omega), if_neg (by omega), if_neg (by omega)]
  unfold resetWord
  rw [indexed]
  dsimp only
  split
  · next r hr =>
    unfold regAt at hr
    rw [if_neg (by unfold pageLimit; omega)] at hr
    split at hr
    · cases hr
    · next w hw =>
      have found := List.find?_some hw
      simp only [Bool.and_eq_true, decide_eq_true_eq] at found
      rw [windows w (List.mem_of_find?_eq_some hw) (by omega) r (List.mem_of_find?_eq_some hr)]
  · rfl

/-! ### The valid entries (R94) -/

theorem State.valid_iff (s : State) (e : Nat) : s.epValid e = true ↔ 2 ^ 31 ≤ (s.word (0x1000008 + e * 0x10)).toNat := by
  have lt := (s.word (0x1000008 + e * 0x10)).isLt
  simp only [State.epValid, State.on, State.get, FRef.ofWord, FRef.width, F.EP_W2_VALID, bne_iff_ne]
  omega

/-- With the registers in canonical form, the entries listed are the valid ones. -/
theorem State.mem_epEntries {s : State} (hwf : SMap.wf resetWord s.bar = true) (e : Nat) :
    e ∈ s.epEntries ↔ e < epCount ∧ s.epValid e = true := by
  unfold State.epEntries
  rw [State.valid_iff, List.mem_map]
  constructor
  · rintro ⟨x, hx, rfl⟩
    obtain ⟨hmem, hx⟩ := List.mem_filter.1 hx
    simp only [Bool.and_eq_true, decide_eq_true_eq, beq_iff_eq] at hx
    obtain ⟨⟨⟨low, high⟩, word⟩, valid⟩ := hx
    have address : 0x1000008 + (x.1 - 0x01000000) / 16 * 0x10 = x.1 := by omega
    have reads : s.word x.1 = x.2 := SMap.get_of_mem resetWord hwf hmem
    rw [address, reads]
    exact ⟨by unfold epCount; omega, valid⟩
  · rintro ⟨he, valid⟩
    unfold epCount at he
    have listed : s.word (0x1000008 + e * 0x10) ≠ resetWord (0x1000008 + e * 0x10) := fun same => by
      rw [same, resetWord_forwarding (by omega) (by omega)] at valid
      exact absurd valid (by decide)
    refine ⟨(0x1000008 + e * 0x10, s.word (0x1000008 + e * 0x10)), List.mem_filter.2 ⟨SMap.mem_of_get_ne resetWord hwf listed, ?_⟩, ?_⟩
    · simp only [Bool.and_eq_true, decide_eq_true_eq, beq_iff_eq]
      omega
    · show (0x1000008 + e * 0x10 - 0x01000000) / 16 = e
      omega

/-! ### Where a key stands (R96) -/

theorem find?_only {α : Type} {l : List α} {p : α → Bool} {a : α} (hm : a ∈ l) (hp : p a = true)
    (hne : ∀ x ∈ l, p x = true → x = a) : l.find? p = some a := by
  cases h : l.find? p with
  | none => exact absurd hp (List.find?_eq_none.1 h a hm)
  | some x => exact congrArg some (hne x (List.mem_of_find?_eq_some h) (List.find?_some h))

/-- Whether an entry holds a key. -/
def State.holds (s : State) (key e : Nat) : Prop := s.epValid e = true ∧ s.epKey e = key

theorem State.holds_iff (s : State) (key e : Nat) : (s.epValid e && s.epKey e == key) = true ↔ s.holds key e := by
  simp [State.holds]

theorem State.holds_congr {s t : State} {e : Nat} (h : t.epWords e = s.epWords e) (key : Nat) : t.holds key e ↔ s.holds key e := by
  unfold State.holds
  rw [State.epValid_congr h, State.epKey_congr h]

theorem State.epFind_some {s : State} {key e : Nat} (h : s.epFind key = some e) : e ∈ epPlaces key ∧ s.holds key e := by
  unfold State.epFind at h
  have found := List.find?_some h
  exact ⟨List.mem_of_find?_eq_some h, (s.holds_iff key e).1 found⟩

theorem State.epFind_none {s : State} {key : Nat} : s.epFind key = none ↔ ∀ e ∈ epPlaces key, ¬ s.holds key e := by
  unfold State.epFind
  rw [List.find?_eq_none]
  exact forall₂_congr fun e _ => not_congr (s.holds_iff key e)

/-- A key that one entry alone can hold is found there. -/
theorem State.epFind_only {s : State} {key e : Nat} (hm : e ∈ epPlaces key) (hh : s.holds key e)
    (hne : ∀ x ∈ epPlaces key, s.holds key x → x = e) : s.epFind key = some e :=
  find?_only hm ((s.holds_iff key e).2 hh) fun x hx hp => hne x hx ((s.holds_iff key x).1 hp)

theorem epPlaces_lt {key e : Nat} (h : e ∈ epPlaces key) : e < epCount := by
  have hash : ∀ t, epHash t key < 2 ^ 17 := fun t => Nat.mod_lt _ (by decide)
  have h0 := hash 0
  have h1 := hash 1
  simp only [epPlaces, epWay, stashBase, List.mem_append, List.mem_map, List.mem_range] at h
  unfold epCount
  omega

/-! ### O20: a learned entry (R98, R102) -/

theorem State.writerTakes_inserts {s : State} {r : LearnReq} {e : Nat} (hfind : s.epFind r.key = none)
    (hfree : s.epFreeWay 0 r.key = some e) :
    s.writerTakes r = (s.setEpWords e (epNew r.key false false r.res r.res)).countFwd Ev.LEARN_INSERT 1 := by
  unfold State.writerTakes State.epInsert
  rw [hfind]
  dsimp only
  rw [hfree]

theorem epFreeWay_place {s : State} {key e : Nat} (h : s.epFreeWay 0 key = some e) : e ∈ epPlaces key := by
  unfold State.epFreeWay at h
  exact List.mem_append_left _ (List.mem_append_left _ (List.mem_of_find?_eq_some h))

section

variable {s : State} {key e ra rb : Nat} (h : s.epWords e = epNew key false false ra rb)

include h

theorem State.holds_of_epNew (hkey : key < 2 ^ 64) : s.holds key e := by
  obtain ⟨w0, w1, w2, -⟩ := State.words_of_epWords h
  refine ⟨(s.valid_iff e).2 ?_, ?_⟩
  · rw [w2, BitVec.toNat_ofNat]
    simp only [Bool.false_eq_true, if_false]
    omega
  · unfold State.epKey
    rw [State.get_of_word (f := F.EP_W0_KEY_LO e) w0, State.get_of_word (f := F.EP_W1_KEY_HI e) w1]
    simp only [FRef.ofWord, FRef.width, F.EP_W0_KEY_LO, F.EP_W1_KEY_HI, BitVec.toNat_ofNat]
    omega

theorem State.epResult_of_epNew (hra : ra < 2 ^ 24) (hrb : rb < 2 ^ 24) : s.epResult 0 e = ra ∧ s.epResult 1 e = rb := by
  obtain ⟨-, -, w2, w3⟩ := State.words_of_epWords h
  unfold State.epResult
  rw [State.get_of_word (f := F.EP_W2_RESULT_A e) w2, State.get_of_word (f := F.EP_W3_RESULT_B e) w3]
  simp only [FRef.ofWord, FRef.width, F.EP_W2_RESULT_A, F.EP_W3_RESULT_B, BitVec.toNat_ofNat, Bool.false_eq_true, if_false, if_true,
    one_ne_zero]
  omega

theorem State.static_of_epNew : s.on (F.EP_W2_STATIC e) = false := by
  obtain ⟨-, -, w2, -⟩ := State.words_of_epWords h
  unfold State.on
  rw [State.get_of_word (f := F.EP_W2_STATIC e) w2]
  simp only [FRef.ofWord, FRef.width, F.EP_W2_STATIC, BitVec.toNat_ofNat, Bool.false_eq_true, if_false, bne_eq_false_iff_eq]
  omega

end

theorem learnInsert_inserts (pipe : Fin 32) (r : LearnReq) (rest : List LearnReq) (e : Nat) (s : State) (hs : s.stopped = false)
    (hq : SMap.get (fun _ => []) s.fwd.learnQ pipe = r :: rest) (hm : r.move = false) (hkey : r.key < 2 ^ 64) (hres : r.res < 2 ^ 24)
    (hfind : s.epFind r.key = none) (hfree : s.epFreeWay 0 r.key = some e) : Completes (.learnInsert pipe) s fun t =>
      t.epFind r.key = some e ∧ t.epResult 0 e = r.res ∧ t.epResult 1 e = r.res ∧ t.on (F.EP_W2_STATIC e) = false
        ∧ SMap.get (fun _ => []) t.fwd.learnQ pipe = rest := by
  have takes := State.writerNext_takes hq
  rw [hm, State.writerTakes_inserts (s := s.requestTaken pipe rest) hfind hfree] at takes
  refine completes_of_settled hs (congrArg (finish s) takes) fun t ht => ?_
  have new : t.epWords e = epNew r.key false false r.res r.res :=
    (ht.epWords e).trans ((State.epWords_of_bar rfl e).trans (State.epWords_setEpWords_same _ e _ _ _ _))
  have other : ∀ x, x ≠ e → t.epWords x = s.epWords x := fun x hx =>
    (ht.epWords x).trans ((State.epWords_of_bar rfl x).trans (State.epWords_setEpWords_ne _ hx))
  obtain ⟨ra, rb⟩ := State.epResult_of_epNew new hres hres
  refine ⟨State.epFind_only (epFreeWay_place hfree) (State.holds_of_epNew new hkey) fun x hx hh => ?_, ra, rb,
    State.static_of_epNew new, ?_⟩
  · by_contra hne
    exact State.epFind_none.1 hfind x hx ((State.holds_congr (other x hne) _).1 hh)
  · rw [ht.fwd]
    exact s.learnQ_requestTaken pipe rest

/-! ### O20: a learned entry ages (R106) -/

/-- The sweeper's position after a visit at `pos`, at the clock `now`. -/
def FwdSt.sweptFrom (x : FwdSt) (pos now : Nat) : Prop := x.sweepPos = (if pos + 1 < epCount then pos + 1 else 0) ∧ x.sweepAt = now

/-- An entry of the stash that is removed is empty. -/
theorem State.epWords_epRemove_stash (s : State) {e : Nat} (h : stashBase ≤ e) : (s.epRemove e).epWords e = [0#32, 0#32, 0#32, 0#32] := by
  unfold State.epRemove
  dsimp only
  rw [if_neg (by omega), State.epWords_setEpWords_same]

theorem State.fwd_setEpWords (s : State) (e : Nat) (a b c d : Word) : (s.setEpWords e [a, b, c, d]).fwd = s.fwd := by
  rw [State.setEpWords_four]
  rfl

theorem State.fwd_epRemove_stash (s : State) {e : Nat} (h : stashBase ≤ e) : (s.epRemove e).fwd = (s.undamp (s.epKey e)).fwd := by
  unfold State.epRemove
  dsimp only
  rw [if_neg (by omega), State.fwd_setEpWords]

section

variable {s : State} (hs : s.stopped = false) (hper : s.get F.FWDLRN_AGE_PERIOD_S ≠ 0)
  (hdue : s.passed s.fwd.sweepAt (secClocks (s.get F.FWDLRN_AGE_PERIOD_S) / epCount) = true)
  (hv : s.epValid s.fwd.sweepPos = true) (hst : s.on (F.EP_W2_STATIC s.fwd.sweepPos) = false)
  (hp : s.on (F.EP_W2_PENDING s.fwd.sweepPos) = false)

include hs hper hdue hv hst hp

theorem ageSweepVisit_hit (hhit : s.on (F.EP_W3_HIT s.fwd.sweepPos) = true) : Completes .ageSweepVisit s fun t =>
    t.epValid s.fwd.sweepPos = true ∧ t.get (F.EP_W2_AGE1 s.fwd.sweepPos) = 0
      ∧ t.get (F.EP_W3_HIT s.fwd.sweepPos) = (if s.hitNow s.fwd.sweepPos then 1 else 0) ∧ t.fwd.sweptFrom s.fwd.sweepPos s.now := by
  have effect := exec_ageSweepVisit (s := s) hper hdue hv
  rw [State.visitEntry_hit (s := s.sweepMoved) hst hp hhit] at effect
  refine completes_of_settled hs effect fun t ht => ?_
  have entry := ht.epWords s.fwd.sweepPos
  rw [State.epValid_congr entry, State.get_w2_congr entry (f := F.EP_W2_AGE1 s.fwd.sweepPos) rfl,
    State.get_w3_congr entry (f := F.EP_W3_HIT s.fwd.sweepPos) rfl, ht.fwd]
  exact ⟨(State.valid_aged _ _ 0).trans hv, State.age_aged _ _ (by decide), State.hit_aged s.sweepMoved _ 0, rfl, rfl⟩

theorem ageSweepVisit_ages (hhit : s.on (F.EP_W3_HIT s.fwd.sweepPos) = false) (hage : s.on (F.EP_W2_AGE1 s.fwd.sweepPos) = false) :
    Completes .ageSweepVisit s fun t => t.epValid s.fwd.sweepPos = true ∧ t.get (F.EP_W2_AGE1 s.fwd.sweepPos) = 1
      ∧ t.fwd.sweptFrom s.fwd.sweepPos s.now := by
  have effect := exec_ageSweepVisit (s := s) hper hdue hv
  rw [State.visitEntry_ages (s := s.sweepMoved) hst hp hhit hage] at effect
  refine completes_of_settled hs effect fun t ht => ?_
  have entry := ht.epWords s.fwd.sweepPos
  rw [State.epValid_congr entry, State.get_w2_congr entry (f := F.EP_W2_AGE1 s.fwd.sweepPos) rfl, ht.fwd]
  exact ⟨(State.valid_aged _ _ 1).trans hv, State.age_aged _ _ (by decide), rfl, rfl⟩

theorem ageSweepVisit_removes (hhit : s.on (F.EP_W3_HIT s.fwd.sweepPos) = false) (hage : s.on (F.EP_W2_AGE1 s.fwd.sweepPos) = true)
    (hstash : stashBase ≤ s.fwd.sweepPos) :
    Completes .ageSweepVisit s fun t => t.epValid s.fwd.sweepPos = false ∧ t.fwd.sweptFrom s.fwd.sweepPos s.now := by
  have effect := exec_ageSweepVisit (s := s) hper hdue hv
  rw [State.visitEntry_removes (s := s.sweepMoved) hst hp hhit hage] at effect
  refine completes_of_settled hs effect fun t ht => ⟨State.epValid_of_zero ?_, ?_⟩
  · exact (ht.epWords _).trans ((State.epWords_of_bar rfl _).trans (State.epWords_epRemove_stash _ hstash))
  · have fwd : t.fwd = (((s.sweepMoved).visited s.fwd.sweepPos).epRemove s.fwd.sweepPos).fwd := ht.fwd
    rw [fwd, State.fwd_epRemove_stash _ hstash]
    exact ⟨rfl, rfl⟩

end

/-! ### O20: a flush (R108) -/

/-- One step of a flush: the entry that holds a key is removed. -/
def State.forget (s : State) (key : Nat) : State :=
  match s.epFind key with
  | some e => s.epRemove e
  | none => s

theorem State.flush_eq (s : State) (scope arg : Nat) : s.flush scope arg
    = (((s.epEntries.filter (s.flushCovers scope arg)).map s.epKey).foldl State.forget s).put F.FWDLRN_STATUS_FLUSH_BUSY 1 := rfl

/-- While the stash is empty, a removal empties its entry and no other changes. -/
theorem State.epWords_epRemove {s : State} (hstash : ∀ i < 64, s.epValid (stashBase + i) = false) (e x : Nat) :
    (s.epRemove e).epWords x = if x = e then [0#32, 0#32, 0#32, 0#32] else s.epWords x := by
  have cleared : ∀ y, ((s.undamp (s.epKey e)).setEpWords e [0#32, 0#32, 0#32, 0#32]).epWords y
      = if y = e then [0#32, 0#32, 0#32, 0#32] else s.epWords y := fun y => by
    split
    · next h => rw [h, State.epWords_setEpWords_same]
    · next h => exact State.epWords_setEpWords_ne _ h
  have none_left : ∀ n, ((s.undamp (s.epKey e)).setEpWords e [0#32, 0#32, 0#32, 0#32]).stashReinsert n
      = (s.undamp (s.epKey e)).setEpWords e [0#32, 0#32, 0#32, 0#32] := fun n => by
    have empty : ((List.range 64).map (stashBase + ·)).find?
        ((s.undamp (s.epKey e)).setEpWords e [0#32, 0#32, 0#32, 0#32]).epValid = none := by
      simp only [List.find?_eq_none, List.mem_map, List.mem_range, Bool.not_eq_true]
      rintro _ ⟨i, hi, rfl⟩
      have words := cleared (stashBase + i)
      split at words
      · exact State.epValid_of_zero words
      · exact (State.epValid_congr words).trans (hstash i hi)
    unfold State.stashReinsert
    rw [empty]
  unfold State.epRemove
  dsimp only
  split
  · rw [none_left, cleared]
  · rw [cleared]

/-- From `s` to `t` the entries of the list have been emptied, and no other changed. -/
def State.Forgot (s : State) (es : List Nat) (t : State) : Prop :=
  ∀ x, t.epWords x = if x ∈ es then [0#32, 0#32, 0#32, 0#32] else s.epWords x

namespace State.Forgot

variable {s t : State} {es : List Nat} (h : s.Forgot es t)

include h

theorem holds {key x : Nat} (hh : t.holds key x) : x ∉ es ∧ s.holds key x := by
  have words := h x
  split at words
  · have valid := hh.1
    rw [State.epValid_of_zero words] at valid
    cases valid
  · next hx => exact ⟨hx, (State.holds_congr words key).1 hh⟩

theorem stash (hstash : ∀ i < 64, s.epValid (stashBase + i) = false) (i : Nat) (hi : i < 64) : t.epValid (stashBase + i) = false := by
  have words := h (stashBase + i)
  split at words
  · exact State.epValid_of_zero words
  · exact (State.epValid_congr words).trans (hstash i hi)

/-- A key that stands where it is found is forgotten with its entry, whether that is still there or already gone. -/
theorem step (hfind : ∀ e < epCount, s.epValid e = true → s.epFind (s.epKey e) = some e)
    (hstash : ∀ i < 64, s.epValid (stashBase + i) = false) {e : Nat} (he : e < epCount) (hv : s.epValid e = true) :
    s.Forgot (e :: es) (t.forget (s.epKey e)) := by
  obtain ⟨place, -⟩ := State.epFind_some (hfind e he hv)
  have only : ∀ x ∈ epPlaces (s.epKey e), t.holds (s.epKey e) x → x = e := fun x hx hh => by
    obtain ⟨valid, key⟩ := (h.holds hh).2
    have found := hfind x (epPlaces_lt hx) valid
    rw [key, hfind e he hv] at found
    exact (Option.some.inj found).symm
  by_cases gone : e ∈ es
  · have absent : t.epFind (s.epKey e) = none := State.epFind_none.2 fun x hx hh =>
      (h.holds hh).1 (only x hx hh ▸ gone)
    have same : t.forget (s.epKey e) = t := by
      unfold State.forget
      rw [absent]
    intro x
    rw [same, h x]
    by_cases hx : x = e <;> simp [hx, gone]
  · have words := h e
    rw [if_neg gone] at words
    have found : t.epFind (s.epKey e) = some e := State.epFind_only place ((State.holds_congr words _).2 ⟨hv, rfl⟩) only
    have removed : t.forget (s.epKey e) = t.epRemove e := by
      unfold State.forget
      rw [found]
    intro x
    rw [removed, State.epWords_epRemove (h.stash hstash), h x]
    by_cases hx : x = e <;> simp [hx]

end State.Forgot

theorem State.Forgot.foldl {s : State} (hfind : ∀ e < epCount, s.epValid e = true → s.epFind (s.epKey e) = some e)
    (hstash : ∀ i < 64, s.epValid (stashBase + i) = false) (l : List Nat) (hl : ∀ e ∈ l, e < epCount ∧ s.epValid e = true)
    {t : State} {es : List Nat} (h : s.Forgot es t) : s.Forgot (l ++ es) ((l.map s.epKey).foldl State.forget t) := by
  induction l generalizing t es with
  | nil => exact h
  | cons e l ih =>
    obtain ⟨⟨he, hv⟩, hl⟩ := List.forall_mem_cons.1 hl
    intro x
    have step := ih hl (h.step hfind hstash he hv) x
    rw [List.map_cons, List.foldl_cons, step]
    simp [or_left_comm]

theorem State.flushCovers_congr {s t : State} (h : ∀ e, t.epWords e = s.epWords e) (scope arg e : Nat) :
    t.flushCovers scope arg e = s.flushCovers scope arg e := by
  unfold State.flushCovers State.on
  rw [State.get_w2_congr (h e) (f := F.EP_W2_STATIC e) rfl, State.get_w2_congr (h e) (f := F.EP_W2_PENDING e) rfl,
    State.epResult_congr (h e), State.epKey_congr (h e)]

theorem State.epWords_put_busy (s : State) (v e : Nat) : (s.put F.FWDLRN_STATUS_FLUSH_BUSY v).epWords e = s.epWords e := by
  refine State.epWords_congr fun i _ => ?_
  unfold State.put
  exact State.word_setWord_ne _ _ (by simp only [F.FWDLRN_STATUS_FLUSH_BUSY]; omega)

/-- With the stash empty and every valid entry where its key is found, a flush empties exactly the valid entries in its scope. -/
theorem State.epWords_flush {s : State} (hwf : SMap.wf resetWord s.bar = true)
    (hfind : ∀ e < epCount, s.epValid e = true → s.epFind (s.epKey e) = some e)
    (hstash : ∀ i < 64, s.epValid (stashBase + i) = false) (scope arg : Nat) {e : Nat} (he : e < epCount) :
    (s.flush scope arg).epWords e
      = if s.epValid e = true ∧ s.flushCovers scope arg e = true then [0#32, 0#32, 0#32, 0#32] else s.epWords e := by
  have start : s.Forgot [] s := fun _ => rfl
  have listed : ∀ x ∈ s.epEntries.filter (s.flushCovers scope arg), x < epCount ∧ s.epValid x = true :=
    fun x hx => (State.mem_epEntries hwf x).1 (List.mem_filter.1 hx).1
  have forgot := State.Forgot.foldl hfind hstash _ listed start e
  rw [List.append_nil] at forgot
  rw [State.flush_eq, State.epWords_put_busy, forgot]
  simp only [List.mem_filter, State.mem_epEntries hwf, he, true_and]

/-! ### Accepted writes (R395, R403) -/

theorem State.hostWrite_accepted {s : State} {g a v : Nat} (h : s.accepts g a v) : s.hostWrite g a v = s.busAccept g a v 15 := by
  obtain ⟨place, code⟩ := h
  unfold State.hostWrite State.busWrite
  rw [if_neg place]
  dsimp only
  rw [if_pos code]

/-- Away from EVSEL and WRAP a merged write holds a word at its address. -/
theorem State.mergeAt_setWord (s : State) {a : Nat} (hsel : evselAt a = none) (hwrap : ¬ (a < pageLimit ∧ a % 4096 = 0xe0)) (v be : Nat) :
    ∃ w, s.mergeAt a v be = s.setWord a w := by
  unfold State.mergeAt State.holdWord
  rw [hsel]
  dsimp only
  rw [if_neg hwrap]
  exact ⟨_, rfl⟩

theorem and_byteMask {v : Nat} (h : v < 2 ^ 32) : v &&& byteMask 15 = v := by
  have mask : byteMask 15 = 2 ^ 32 - 1 := by decide
  rw [mask, Nat.and_two_pow_sub_one_eq_mod, Nat.mod_eq_of_lt h]

/-- A whole word accepted at a place other than GLOBAL.RESET, EVSEL and WRAP stands there before what it starts. -/
theorem State.hostWrite_acts {s : State} {g a v : Nat} (h : s.accepts g a v) (hv : v < 2 ^ 32) (hsel : evselAt a = none)
    (hwrap : ¬ (a < pageLimit ∧ a % 4096 = 0xe0)) (hreset : a ≠ 0x160) :
    ∃ w, s.mergeAt a v 15 = s.setWord a w ∧ s.hostWrite g a v = s.act (s.setWord a w) g a v := by
  obtain ⟨w, hw⟩ := s.mergeAt_setWord hsel hwrap v 15
  refine ⟨w, hw, (State.hostWrite_accepted h).trans ?_⟩
  unfold State.busAccept
  dsimp only
  rw [if_neg hreset, hw, and_byteMask hv]

theorem firstCode_zero {c d : Nat} (h : firstCode [c, d] = 0) : d = 0 := by
  unfold firstCode at h
  split at h
  · unfold firstCode at h
    split at h
    · assumption
    · exact h
  · next hc => exact absurd h hc

/-- A write that is accepted passes the checks of its block. -/
theorem State.accepts_ownCheck {s : State} {g a v : Nat} (h : s.accepts g a v) :
    s.ownCheck (s.mergeAt a v 15) none g a (v &&& byteMask 15) (byteMask 15) = 0 := by
  obtain ⟨-, code⟩ := h
  unfold State.busCode at code
  dsimp only at code
  split at code
  · cases code
  · split at code
    · cases code
    · split at code
      · cases code
      · exact firstCode_zero code

theorem codeIf_zero {b : Bool} {c : Nat} (hc : c ≠ 0) (h : codeIf b c = 0) : b = false := by
  cases b with
  | true => exact absurd h hc
  | false => rfl

/-! ### O20: what starts a flush, and its end (R108) -/

/-- GO starts a flush of SCOPE and ARG. -/
theorem State.act_flush (s t : State) (g : Nat) {w : Nat} (go : nbit w 31 = 1) :
    s.act t g 0x603104 w = t.flush (nfield w 30 29) (nfield w 15 0) := by
  unfold State.act State.pageAct
  simp [pageLimit, go]

/-- The word that FLUSH writes, read as its fields. -/
theorem flushWord_fields (scope : Fin 4) (arg : BitVec 16) : let w := 2 ^ 31 + scope.val * 2 ^ 29 + arg.toNat
    w < 2 ^ 32 ∧ nbit w 31 = 1 ∧ nfield w 30 29 = scope.val ∧ nfield w 15 0 = arg.toNat := by
  have hscope := scope.isLt
  have harg := arg.isLt
  unfold nbit nfield
  omega

theorem flush_clears (g : Agent) (scope : Fin 4) (arg : BitVec 16) (s : State) (hs : s.stopped = false)
    (hacc : s.accepts g 0x603104 (2 ^ 31 + scope.val * 2 ^ 29 + arg.toNat)) :
    Completes (.flush g scope arg) s fun t => t.get F.FWDLRN_STATUS_FLUSH_BUSY = 1
      ∧ (SMap.wf resetWord s.bar = true → (∀ e < epCount, s.epValid e = true → s.epFind (s.epKey e) = some e) →
        (∀ i < 64, s.epValid (stashBase + i) = false) → ∀ e < epCount, t.epWords e
          = if s.epValid e = true ∧ s.flushCovers scope.val arg.toNat e = true then [0#32, 0#32, 0#32, 0#32] else s.epWords e) := by
  obtain ⟨range, go, scopeField, argField⟩ := flushWord_fields scope arg
  obtain ⟨w, -, write⟩ := State.hostWrite_acts hacc range (by decide) (by decide) (by decide)
  rw [State.act_flush _ _ _ go, scopeField, argField] at write
  have effect : exec (.flush g scope arg) s = finish s ((s.setWord 0x603104 w).flush scope.val arg.toNat) :=
    (finishSpc_running hs _).trans (congrArg (finish s) write)
  refine completes_of_settled hs effect fun t ht => ⟨?_, fun hwf hfind hstash e he => ?_⟩
  · rw [ht.get (by decide), State.flush_eq, State.get_put_same _ _ ⟨by decide, by decide⟩]
    rfl
  · have words : ∀ x, (s.setWord 0x603104 w).epWords x = s.epWords x := fun x =>
      State.epWords_congr fun i _ => s.word_setWord_ne w (by omega)
    have found : ∀ k, (s.setWord 0x603104 w).epFind k = s.epFind k := fun k => by
      unfold State.epFind
      simp only [State.epValid_congr (words _), State.epKey_congr (words _)]
    rw [ht.epWords, State.epWords_flush (s.setWord_wf _ w hwf) ?_ ?_ _ _ he, State.epValid_congr (words e), State.flushCovers_congr words, words]
    · intro x hx hv
      rw [found, State.epKey_congr (words x)]
      exact hfind x hx ((State.epValid_congr (words x)).symm.trans hv)
    · exact fun i hi => (State.epValid_congr (words _)).trans (hstash i hi)

theorem flushDone_ends (s : State) (hs : s.stopped = false) : Completes .flushDone s fun t =>
    t.get F.FWDLRN_STATUS_FLUSH_BUSY = 0 ∧ t.fwd = s.fwd ∧ ∀ e < epCount, t.epWords e = s.epWords e := by
  refine completes_of_settled hs (u := s.flushDone) rfl fun t ht => ?_
  unfold State.flushDone at ht
  refine ⟨?_, ht.fwd.trans (s.put_fwd _ _), fun e _ => (ht.epWords e).trans (s.epWords_put_busy 0 e)⟩
  rw [ht.get (by decide), State.get_put_same _ _ ⟨by decide, by decide⟩]
  rfl

/-! ### O20: skip counters (R128) -/

section

variable {a : Nat} (ha : 0x2400000 ≤ a) (ha' : a < 0x2480000)

include ha ha'

/-- A write of a skip counter passes its own check only where it leaves the counter 0. -/
theorem State.winCheck_skip {s t : State} {g m : Nat} (h : s.winCheck t none g a m = 0) : t.word a = 0#32 := by
  have plain : resultEntry a = false := by
    unfold resultEntry
    simp only [Bool.or_eq_false_iff, Bool.and_eq_false_iff, decide_eq_false_iff_not]
    omega
  unfold State.winCheck State.tableCheck at h
  rw [if_pos (by omega), plain, if_neg Bool.false_ne_true, if_neg (by omega), if_pos ⟨ha, ha'⟩] at h
  simpa using codeIf_zero (by decide) (firstCode_zero h)

theorem State.act_skip (s t : State) (g w : Nat) : s.act t g a w = t := by
  unfold State.act State.winAct pageLimit
  rw [if_neg (by omega), if_neg (by omega), if_neg (by omega), if_neg (by omega), if_neg (by omega), if_neg (by omega)]

theorem State.hostWrite_skip {s : State} {g v : Nat} (h : s.accepts g a v) (hv : v < 2 ^ 32) : (s.hostWrite g a v).word a = 0#32 := by
  have window : ¬ a < pageLimit := by unfold pageLimit; omega
  obtain ⟨w, merged, write⟩ := State.hostWrite_acts h hv (by unfold evselAt; rw [if_neg (by omega)]) (fun hw => window hw.1) (by omega)
  have own := State.accepts_ownCheck h
  rw [merged] at own
  unfold State.ownCheck at own
  rw [if_neg window] at own
  rw [write, State.act_skip ha ha']
  exact State.winCheck_skip ha ha' own

end

theorem skipCounterClear_clears (g : Agent) (desc : BitVec 16) (nolink : Bool) (v : BitVec 32) (s : State) (hs : s.stopped = false)
    (hacc : s.accepts g (0x2400000 + 8 * desc.toNat + (if nolink then 4 else 0)) v.toNat) :
    Completes (.skipCounterClear g desc nolink v) s fun t =>
      t.get (if nolink then F.SKIP_W1_NOLINK_SKIPS desc.toNat else F.SKIP_W0_FENCE_SKIPS desc.toNat) = 0 := by
  have hdesc := desc.isLt
  have address : (if nolink then F.SKIP_W1_NOLINK_SKIPS desc.toNat else F.SKIP_W0_FENCE_SKIPS desc.toNat).addr
      = 0x2400000 + 8 * desc.toNat + (if nolink then 4 else 0) := by
    cases nolink <;> simp only [F.SKIP_W1_NOLINK_SKIPS, F.SKIP_W0_FENCE_SKIPS, Bool.false_eq_true, if_false, if_true] <;> omega
  have bound : (if nolink then 4 else 0) ≤ 4 := by split <;> decide
  have cleared := State.hostWrite_skip (by omega) (by omega) hacc v.isLt
  refine completes_of_settled hs (finishSpc_running hs _) fun t ht => ?_
  rw [ht.getTable (by rw [address]; omega), State.get_of_word (w := 0#32) (by rw [address]; exact cleared)]
  simp [FRef.ofWord]

/-- Settles O20: each event of learning writes the entries named and no other. -/
theorem learningAgeingAndFlush : Obligations.LearningAgeingAndFlush :=
  ⟨learnInsert_inserts,
    fun _ hs hper hdue _ hv hst hp => ⟨ageSweepVisit_hit hs hper hdue hv hst hp, ageSweepVisit_ages hs hper hdue hv hst hp,
      ageSweepVisit_removes hs hper hdue hv hst hp⟩,
    flush_clears, flushDone_ends, skipCounterClear_clears⟩

end Sys2Proof.Machine

namespace Sys2Proof.Machine

/-! ### Words written in turn -/

/-- A word to which every write in a list gives one value has that value where it had it before, or where one of them writes it. -/
theorem State.word_foldl_setWord {α : Type} (key : α → Nat) (val : α → Word) {a : Nat} {w : Word} (l : List α) (s : State)
    (h : ∀ x ∈ l, key x = a → val x = w) (hw : s.word a = w ∨ ∃ x ∈ l, key x = a) :
    (l.foldl (fun t x => t.setWord (key x) (val x)) s).word a = w := by
  induction l generalizing s with
  | nil => simpa using hw
  | cons y l ih =>
    obtain ⟨hy, hl⟩ := List.forall_mem_cons.1 h
    refine ih (s.setWord (key y) (val y)) hl ?_
    by_cases same : key y = a
    · subst same
      exact .inl ((State.word_setWord_same _ _ _).trans (hy rfl))
    · obtain hw | ⟨x, hx, hk⟩ := hw
      · exact .inl ((State.word_setWord_ne _ _ (Ne.symm same)).trans hw)
      · obtain rfl | hx := List.mem_cons.1 hx
        · exact absurd hk same
        · exact .inr ⟨x, hx, hk⟩

theorem State.word_foldl_setWord_ne {α : Type} (key : α → Nat) (val : α → Word) {a : Nat} (l : List α) (s : State)
    (h : ∀ x ∈ l, key x ≠ a) : (l.foldl (fun t x => t.setWord (key x) (val x)) s).word a = s.word a :=
  State.word_foldl_setWord key val l s (fun x hx hk => absurd hk (h x hx)) (.inl rfl)

theorem State.foldl_wf {α : Type} {f : State → α → State} (l : List α) {s : State} (h : SMap.wf resetWord s.bar = true)
    (hf : ∀ t x, SMap.wf resetWord t.bar = true → SMap.wf resetWord (f t x).bar = true) :
    SMap.wf resetWord (l.foldl f s).bar = true :=
  List.foldlRecOn (motive := fun t : State => SMap.wf resetWord t.bar = true) l f h fun t ht x _ => hf t x ht

/-! ### O21: one bank's table copied (R111) -/

/-- The words listed in a range. -/
def State.listed (s : State) (base len : Nat) : SMap Word :=
  s.bar.filter fun (x : Nat × Word) => decide (base ≤ x.1) && decide (x.1 < base + len)

theorem State.mem_listed {s : State} {base len : Nat} {x : Nat × Word} :
    x ∈ s.listed base len ↔ x ∈ s.bar ∧ base ≤ x.1 ∧ x.1 < base + len := by
  simp [State.listed]

/-- A range with every word at its reset value. -/
def State.rangeReset (s : State) (base len : Nat) : State :=
  (s.listed base len).foldl (fun t (x : Nat × Word) => t.setWord x.1 (resetWord x.1)) s

theorem State.copyRange_eq (s : State) (src dst len : Nat) : s.copyRange src dst len
    = (s.listed src len).foldl (fun t (x : Nat × Word) => t.setWord (x.1 - src + dst) x.2) (s.rangeReset dst len) := rfl

theorem State.copyRange_wf {s : State} (src dst len : Nat) (h : SMap.wf resetWord s.bar = true) :
    SMap.wf resetWord (s.copyRange src dst len).bar = true := by
  rw [State.copyRange_eq]
  exact State.foldl_wf _ (State.foldl_wf _ h fun t x ht => t.setWord_wf _ _ ht) fun t x ht => t.setWord_wf _ _ ht

theorem State.word_copyRange_ne (s : State) {src dst len a : Nat} (h : a < dst ∨ dst + len ≤ a) :
    (s.copyRange src dst len).word a = s.word a := by
  rw [State.copyRange_eq, State.word_foldl_setWord_ne (fun x : Nat × Word => x.1 - src + dst) Prod.snd]
  · exact State.word_foldl_setWord_ne Prod.fst (fun x : Nat × Word => resetWord x.1) _ s fun x hx => by
      obtain ⟨-, low, high⟩ := State.mem_listed.1 hx
      omega
  · intro x hx
    obtain ⟨-, low, high⟩ := State.mem_listed.1 hx
    omega

theorem State.word_rangeReset {s : State} (hwf : SMap.wf resetWord s.bar = true) {base len a : Nat} (h : base ≤ a) (h' : a < base + len) :
    (s.rangeReset base len).word a = resetWord a := by
  refine State.word_foldl_setWord Prod.fst (fun x : Nat × Word => resetWord x.1) _ s (fun x _ hk => congrArg resetWord hk) ?_
  by_cases same : s.word a = resetWord a
  · exact .inl same
  · exact .inr ⟨(a, s.word a), State.mem_listed.2 ⟨SMap.mem_of_get_ne resetWord hwf same, h, h'⟩, rfl⟩

/-- The copy holds the words of its source, where both reset alike. -/
theorem State.word_copyRange {s : State} (hwf : SMap.wf resetWord s.bar = true) {src dst len o : Nat} (ho : o < len)
    (hreset : resetWord (dst + o) = resetWord (src + o)) : (s.copyRange src dst len).word (dst + o) = s.word (src + o) := by
  rw [State.copyRange_eq]
  refine State.word_foldl_setWord (fun x : Nat × Word => x.1 - src + dst) Prod.snd _ _ (fun x hx hk => ?_) ?_
  · obtain ⟨hm, low, -⟩ := State.mem_listed.1 hx
    have address : src + o = x.1 := by omega
    rw [address]
    exact (SMap.get_of_mem resetWord hwf hm).symm
  · by_cases same : s.word (src + o) = resetWord (src + o)
    · rw [State.word_rangeReset hwf (by omega) (by omega), same]
      exact .inl hreset
    · refine .inr ⟨(src + o, s.word (src + o)), State.mem_listed.2 ⟨SMap.mem_of_get_ne resetWord hwf same, ?_, ?_⟩, ?_⟩
      · exact Nat.le_add_right _ _
      · exact Nat.add_lt_add_left ho _
      · show src + o - src + dst = dst + o
        omega

/-! ### O21: the banked tables (R109) -/

/-- The banked windows: where bank 0 starts, and the bytes of a bank. -/
def bankTables : List (Nat × Nat) := [(0x02010000, 0x1000), (0x02100000, 0x40000), (0x02200000, 0x100000), (0x02480000, 0x4000)]

/-- The tables of a list copied from bank `a` into bank `b`. -/
def State.tablesCopied (s : State) (a b : Nat) (l : List (Nat × Nat)) : State :=
  l.foldl (fun t x => t.copyRange (x.1 + a * x.2) (x.1 + b * x.2) x.2) s

/-- Two windows of two banks each share no address. -/
def tablesApart (x y : Nat × Nat) : Prop := x.1 + 2 * x.2 ≤ y.1 ∨ y.1 + 2 * y.2 ≤ x.1

theorem bankTables_apart : bankTables.Pairwise tablesApart := by
  unfold tablesApart
  decide

theorem bankTables_forwarding : ∀ x ∈ bankTables, 0x2010000 ≤ x.1 ∧ x.1 + 2 * x.2 ≤ 0x3000000 := by decide

theorem bank_offset_le {b : Nat} (hb : b < 2) (n : Nat) : b * n + n ≤ 2 * n := by
  obtain rfl | rfl : b = 0 ∨ b = 1 := by omega
  · omega
  · omega

theorem State.word_tablesCopied_ne {a b : Nat} (hb : b < 2) (l : List (Nat × Nat)) (s : State) {x : Nat}
    (h : ∀ y ∈ l, x < y.1 ∨ y.1 + 2 * y.2 ≤ x) : (s.tablesCopied a b l).word x = s.word x := by
  induction l generalizing s with
  | nil => rfl
  | cons y l ih =>
    obtain ⟨hy, hl⟩ := List.forall_mem_cons.1 h
    have offset := bank_offset_le hb y.2
    exact (ih _ hl).trans (s.word_copyRange_ne (by omega))

theorem State.word_tablesCopied {a b : Nat} (ha : a < 2) (hb : b < 2) (hab : a ≠ b) (l : List (Nat × Nat)) (hl : l.Pairwise tablesApart)
    (hfwd : ∀ x ∈ l, 0x2010000 ≤ x.1 ∧ x.1 + 2 * x.2 ≤ 0x3000000) {s : State} (hwf : SMap.wf resetWord s.bar = true) :
    ∀ x ∈ l, ∀ o < x.2, (s.tablesCopied a b l).word (x.1 + b * x.2 + o) = s.word (x.1 + a * x.2 + o)
      ∧ (s.tablesCopied a b l).word (x.1 + a * x.2 + o) = s.word (x.1 + a * x.2 + o) := by
  induction l generalizing s with
  | nil => simp
  | cons y l ih =>
    obtain ⟨apart, hl⟩ := List.pairwise_cons.1 hl
    obtain ⟨hy, hfwd⟩ := List.forall_mem_cons.1 hfwd
    have hya := bank_offset_le ha y.2
    have hyb := bank_offset_le hb y.2
    intro x hx o ho
    obtain rfl | hx := List.mem_cons.1 hx
    · have later : ∀ c < 2, (s.tablesCopied a b (x :: l)).word (x.1 + c * x.2 + o)
          = (s.copyRange (x.1 + a * x.2) (x.1 + b * x.2) x.2).word (x.1 + c * x.2 + o) := fun c hc => by
        have offset := bank_offset_le hc x.2
        refine State.word_tablesCopied_ne hb l _ fun z hz => ?_
        have := apart z hz
        unfold tablesApart at this
        omega
      have other : x.1 + a * x.2 + o < x.1 + b * x.2 ∨ x.1 + b * x.2 + x.2 ≤ x.1 + a * x.2 + o := by
        obtain ⟨rfl, rfl⟩ | ⟨rfl, rfl⟩ : (a = 0 ∧ b = 1) ∨ (a = 1 ∧ b = 0) := by omega
        · omega
        · omega
      refine ⟨(later b hb).trans (State.word_copyRange hwf ho ?_), (later a ha).trans (s.word_copyRange_ne other)⟩
      rw [resetWord_forwarding (by omega) (by omega), resetWord_forwarding (by omega) (by omega)]
    · have offset := bank_offset_le ha x.2
      have source : (s.copyRange (y.1 + a * y.2) (y.1 + b * y.2) y.2).word (x.1 + a * x.2 + o) = s.word (x.1 + a * x.2 + o) := by
        have := apart x hx
        unfold tablesApart at this
        exact s.word_copyRange_ne (by omega)
      have copied := ih hl hfwd (State.copyRange_wf (y.1 + a * y.2) (y.1 + b * y.2) y.2 hwf) x hx o ho
      rw [source] at copied
      exact copied

/-! ### O21: the results of the entries (R109) -/

/-- The field that holds an entry's result in a bank. -/
def resultRef (bank e : Nat) : FRef := if bank = 0 then F.EP_W2_RESULT_A e else F.EP_W3_RESULT_B e

theorem State.epResult_eq (s : State) (bank e : Nat) : s.epResult bank e = s.get (resultRef bank e) := by
  unfold State.epResult resultRef
  split <;> rfl

theorem State.setEpResult_eq (s : State) (bank e r : Nat) : s.setEpResult bank e r = s.put (resultRef bank e) r := by
  unfold State.setEpResult resultRef
  split <;> rfl

theorem resultRef_bits (bank e : Nat) : (resultRef bank e).hi = 23 ∧ (resultRef bank e).lo = 0 := by
  unfold resultRef
  split <;> exact ⟨rfl, rfl⟩

theorem resultRef_addr (bank e : Nat) : (resultRef bank e).addr = 0x1000008 + e * 0x10 + (if bank = 0 then 0 else 4) := by
  unfold resultRef
  split
  · rfl
  · simp only [F.EP_W3_RESULT_B]
    omega

theorem resultRef_ok (bank e : Nat) : (resultRef bank e).ok := by
  obtain ⟨hi, lo⟩ := resultRef_bits bank e
  unfold FRef.ok
  omega

theorem State.epResult_setEpResult_same (s : State) (bank e : Nat) {r : Nat} (hr : r < 2 ^ 24) :
    (s.setEpResult bank e r).epResult bank e = r := by
  obtain ⟨hi, lo⟩ := resultRef_bits bank e
  rw [State.epResult_eq, State.setEpResult_eq, State.get_put_same _ _ (resultRef_ok bank e), FRef.width, hi, lo]
  exact Nat.mod_eq_of_lt hr

theorem State.epResult_setEpResult_ne (s : State) {bank bank' e e' : Nat} (r : Nat) (h : e' ≠ e ∨ (bank = 0) ≠ (bank' = 0)) :
    (s.setEpResult bank e r).epResult bank' e' = s.epResult bank' e' := by
  rw [State.epResult_eq, State.setEpResult_eq, State.epResult_eq]
  refine State.get_put_ne _ _ _ ?_ r
  rw [resultRef_addr, resultRef_addr]
  obtain h | h := h
  · split <;> split <;> omega
  · by_cases h0 : bank = 0 <;> by_cases h1 : bank' = 0 <;> simp [h0, h1] at h ⊢ <;> omega

theorem State.epResult_lt (s : State) (bank e : Nat) : s.epResult bank e < 2 ^ 24 := by
  have bound := s.get_lt (resultRef bank e)
  obtain ⟨hi, lo⟩ := resultRef_bits bank e
  rw [FRef.width, hi, lo] at bound
  rw [State.epResult_eq]
  exact bound

/-- The results of the listed entries copied from bank `a` into bank `b`. -/
def State.resultsCopied (s : State) (a b : Nat) (l : List Nat) : State := l.foldl (fun t e => t.setEpResult b e (t.epResult a e)) s

theorem State.epResult_resultsCopied {a b : Nat} (hab : (b = 0) ≠ (a = 0)) (l : List Nat) (s : State) (e : Nat) :
    (s.resultsCopied a b l).epResult a e = s.epResult a e
      ∧ (s.resultsCopied a b l).epResult b e = if e ∈ l then s.epResult a e else s.epResult b e := by
  induction l generalizing s with
  | nil => exact ⟨rfl, rfl⟩
  | cons x l ih =>
    obtain ⟨source, copy⟩ := ih (s.setEpResult b x (s.epResult a x))
    have kept : (s.setEpResult b x (s.epResult a x)).epResult a e = s.epResult a e := s.epResult_setEpResult_ne _ (.inr hab)
    refine ⟨source.trans kept, copy.trans ?_⟩
    rw [kept]
    by_cases hx : e = x
    · subst hx
      rw [s.epResult_setEpResult_same b e (s.epResult_lt a e)]
      simp
    · rw [s.epResult_setEpResult_ne _ (.inl hx)]
      simp [hx]

theorem State.word_resultsCopied {a b : Nat} (l : List Nat) (hl : ∀ e ∈ l, e < epCount) (s : State) {x : Nat}
    (h : x < 0x1000000 ∨ 0x2000400 ≤ x) : (s.resultsCopied a b l).word x = s.word x := by
  induction l generalizing s with
  | nil => rfl
  | cons e l ih =>
    obtain ⟨he, hl⟩ := List.forall_mem_cons.1 hl
    refine (ih hl _).trans ?_
    dsimp only
    rw [State.setEpResult_eq]
    unfold State.put
    refine State.word_setWord_ne _ _ ?_
    rw [resultRef_addr]
    unfold epCount at he
    split <;> omega

theorem State.resultsCopied_wf {a b : Nat} (l : List Nat) {s : State} (h : SMap.wf resetWord s.bar = true) :
    SMap.wf resetWord (s.resultsCopied a b l).bar = true := by
  refine State.foldl_wf l h fun t e ht => ?_
  rw [State.setEpResult_eq]
  exact t.put_wf _ _ ht

/-! ### O21: the copy whole -/

theorem State.copyBank_eq (s : State) : s.copyBank
    = (s.resultsCopied s.activeBank (1 - s.activeBank) s.epEntries).tablesCopied s.activeBank (1 - s.activeBank) bankTables := rfl

theorem State.activeBank_lt (s : State) : s.activeBank < 2 := s.get_lt F.FWDEPOCH_STATUS_ACTIVE

theorem State.activeBank_congr {s t : State} (h : t.word 0x602104 = s.word 0x602104) : t.activeBank = s.activeBank :=
  State.get_congr (f := F.FWDEPOCH_STATUS_ACTIVE) h

theorem State.activeBank_put_state (s : State) (v : Nat) : (s.put F.FWDEPOCH_STATUS_STATE v).activeBank = s.activeBank :=
  s.get_put_disj F.FWDEPOCH_STATUS_STATE F.FWDEPOCH_STATUS_ACTIVE ⟨by decide, by decide⟩ ⟨by decide, by decide⟩ (by decide) v

theorem State.state_put_state (s : State) {v : Nat} (h : v < 4) : (s.put F.FWDEPOCH_STATUS_STATE v).get F.FWDEPOCH_STATUS_STATE = v :=
  (s.get_put_same F.FWDEPOCH_STATUS_STATE ⟨by decide, by decide⟩ v).trans (Nat.mod_eq_of_lt h)

section

variable {s : State} (hwf : SMap.wf resetWord s.bar = true)

include hwf

theorem State.epEntries_lt (e : Nat) (h : e ∈ s.epEntries) : e < epCount := ((s.mem_epEntries hwf e).1 h).1

/-- The copy writes the endpoint and stash windows and the banked tables only. -/
theorem State.word_copyBank_ne {x : Nat} (h : x < 0x1000000) : s.copyBank.word x = s.word x := by
  have bank := s.activeBank_lt
  rw [State.copyBank_eq, State.word_tablesCopied_ne (by omega)]
  · exact State.word_resultsCopied _ (State.epEntries_lt hwf) s (.inl h)
  · intro y hy
    have := bankTables_forwarding y hy
    omega

theorem State.word_copyBank {x : Nat × Nat} (hx : x ∈ bankTables) {o : Nat} (ho : o < x.2) :
    s.copyBank.word (x.1 + (1 - s.activeBank) * x.2 + o) = s.word (x.1 + s.activeBank * x.2 + o)
      ∧ s.copyBank.word (x.1 + s.activeBank * x.2 + o) = s.word (x.1 + s.activeBank * x.2 + o) := by
  have bank := s.activeBank_lt
  have above := bankTables_forwarding x hx
  have source := State.word_resultsCopied (a := s.activeBank) (b := 1 - s.activeBank) _ (State.epEntries_lt hwf) s
    (x := x.1 + s.activeBank * x.2 + o) (.inr (by omega))
  have copied := State.word_tablesCopied bank (b := 1 - s.activeBank) (by omega) (by omega) bankTables bankTables_apart
    bankTables_forwarding (State.resultsCopied_wf (a := s.activeBank) (b := 1 - s.activeBank) s.epEntries hwf) x hx o ho
  rw [source] at copied
  exact copied

theorem State.epResult_copyBank {e : Nat} (he : e < epCount) (hv : s.epValid e = true) :
    s.copyBank.epResult (1 - s.activeBank) e = s.epResult s.activeBank e
      ∧ s.copyBank.epResult s.activeBank e = s.epResult s.activeBank e := by
  have bank := s.activeBank_lt
  have listed : e ∈ s.epEntries := (s.mem_epEntries hwf e).2 ⟨he, hv⟩
  have other : (1 - s.activeBank = 0) ≠ (s.activeBank = 0) := by
    obtain h | h : s.activeBank = 0 ∨ s.activeBank = 1 := by omega
    · simp [h]
    · simp [h]
  obtain ⟨source, copy⟩ := State.epResult_resultsCopied other s.epEntries s e
  rw [if_pos listed] at copy
  have entry : s.copyBank.epWords e = (s.resultsCopied s.activeBank (1 - s.activeBank) s.epEntries).epWords e :=
    State.epWords_congr fun i hi => State.word_tablesCopied_ne (by omega) bankTables _ fun y hy => by
      have := bankTables_forwarding y hy
      unfold epCount at he
      omega
  exact ⟨(State.epResult_congr entry _).trans copy, (State.epResult_congr entry _).trans source⟩

end

/-- A leaf route of a bank is read from a word of the first banked table. -/
theorem leafRoute_addr (bank leaf : Nat) : (F.LROUTE_W0_RESULT (bank * 1024 + leaf)).addr = 0x02010000 + bank * 0x1000 + 4 * leaf := by
  simp only [F.LROUTE_W0_RESULT]
  omega

theorem epochCopyDone_copies (s : State) (hs : s.stopped = false) (hwf : SMap.wf resetWord s.bar = true)
    (hcopy : s.get F.FWDEPOCH_STATUS_STATE = 2) : Completes .epochCopyDone s fun t =>
      t.get F.FWDEPOCH_STATUS_STATE = 0 ∧ t.activeBank = s.activeBank
        ∧ (∀ leaf < 1024, t.leafRoute (1 - s.activeBank) leaf = s.leafRoute s.activeBank leaf
          ∧ t.leafRoute s.activeBank leaf = s.leafRoute s.activeBank leaf)
        ∧ (∀ e < epCount, s.epValid e = true → t.epResult (1 - s.activeBank) e = s.epResult s.activeBank e
          ∧ t.epResult s.activeBank e = s.epResult s.activeBank e)
        ∧ ∀ base size : Nat, (base, size) ∈ bankTables →
          ∀ o < size, o % 4 = 0 → t.word (base + (1 - s.activeBank) * size + o) = s.word (base + s.activeBank * size + o)
            ∧ t.word (base + s.activeBank * size + o) = s.word (base + s.activeBank * size + o) := by
  have effect : exec .epochCopyDone s = finish s (s.copyBank.put F.FWDEPOCH_STATUS_STATE 0) := congrArg (finish s) (if_pos hcopy)
  refine completes_of_settled hs effect fun t ht => ?_
  have table : ∀ x, 0x1000000 ≤ x → t.word x = s.copyBank.word x := fun x hx =>
    (ht.word x (pbaWord_table hx)).trans (State.word_setWord_ne _ _ (by simp only [F.FWDEPOCH_STATUS_STATE]; omega))
  have tables : ∀ base size : Nat, (base, size) ∈ bankTables → ∀ o < size,
      t.word (base + (1 - s.activeBank) * size + o) = s.word (base + s.activeBank * size + o)
        ∧ t.word (base + s.activeBank * size + o) = s.word (base + s.activeBank * size + o) := fun base size hx o ho => by
    have above := bankTables_forwarding (base, size) hx
    dsimp only at above
    rw [table _ (by omega), table _ (by omega)]
    exact State.word_copyBank hwf hx ho
  have entry : ∀ e, t.epWords e = s.copyBank.epWords e := fun e => State.epWords_congr fun i _ => table _ (by omega)
  refine ⟨?_, ?_, fun leaf hleaf => ?_, fun e he hv => ?_, fun base size hx o ho _ => tables base size hx o ho⟩
  · exact (ht.get (by decide)).trans (State.state_put_state _ (by decide))
  · exact (State.activeBank_congr (ht.word _ (by decide))).trans
      ((State.activeBank_put_state _ 0).trans (State.activeBank_congr (State.word_copyBank_ne hwf (by decide))))
  · have route : ∀ {u v : State} {b c : Nat}, u.word (0x02010000 + b * 0x1000 + 4 * leaf) = v.word (0x02010000 + c * 0x1000 + 4 * leaf) →
        u.leafRoute b leaf = v.leafRoute c leaf := fun h =>
      congrArg (F.LROUTE_W0_RESULT 0).ofWord (by rw [leafRoute_addr, leafRoute_addr, h])
    obtain ⟨free, active⟩ := tables 0x02010000 0x1000 List.mem_cons_self (4 * leaf) (by omega)
    exact ⟨route free, route active⟩
  · obtain ⟨free, active⟩ := State.epResult_copyBank hwf he hv
    exact ⟨(State.epResult_congr (entry e) _).trans free, (State.epResult_congr (entry e) _).trans active⟩

/-! ### O21: the life of a bank (R111) -/

/-- What a write of FWDEPOCH.CTRL starts. -/
theorem State.act_epoch (s t : State) (g w : Nat) : s.act t g 0x602100 w = t.epochAct w := by
  unfold State.act State.pageAct
  simp [pageLimit]

theorem epochCopy_starts (g : Agent) (s : State) (hs : s.stopped = false) (hacc : s.accepts g 0x602100 2) :
    Completes (.epochCopy g) s fun t => t.get F.FWDEPOCH_STATUS_STATE = 2 ∧ t.activeBank = s.activeBank := by
  obtain ⟨w, -, write⟩ := State.hostWrite_acts hacc (by decide) (by decide) (by decide) (by decide)
  have copy : (s.setWord 0x602100 w).epochAct 2 = (s.setWord 0x602100 w).put F.FWDEPOCH_STATUS_STATE 2 := by
    simp [State.epochAct, State.epochCopy, nbit]
  rw [State.act_epoch, copy] at write
  refine completes_of_settled hs ((finishSpc_running hs _).trans (congrArg (finish s) write)) fun t ht => ⟨?_, ?_⟩
  · exact (ht.get (by decide)).trans (State.state_put_state _ (by decide))
  · exact (State.activeBank_congr (ht.word _ (by decide))).trans
      ((State.activeBank_put_state _ 2).trans (State.activeBank_congr (s.word_setWord_ne w (by decide))))

theorem State.epochFree_state (s : State) : s.epochFree.get F.FWDEPOCH_STATUS_STATE = 0 ∧ s.epochFree.activeBank = s.activeBank := by
  unfold State.epochFree
  rw [State.get_countFwd, s.state_put_state (by decide)]
  exact ⟨rfl, s.activeBank_put_state 0⟩

theorem epochDrainExpire_frees (s : State) (hs : s.stopped = false) (hboth : s.get F.FWDEPOCH_STATUS_STATE = 1)
    (hw : SMap.wf (fun _ => 0) s.obs.sel = true) (hdue : s.passed s.fwd.drainFrom (usClocks (s.get F.FWDEPOCH_DRAIN_DRAIN_US)) = true) :
    Completes .epochDrainExpire s fun t => t.get F.FWDEPOCH_STATUS_STATE = 0 ∧ t.activeBank = s.activeBank
      ∧ Counted s t (fun q => decide (0x600 ≤ q) && decide (q < 0x605)) Ev.EPOCH_FREED 1 := by
  have effect : exec .epochDrainExpire s = finish s s.epochFree := congrArg (finish s) (if_pos ⟨hboth, hdue⟩)
  obtain ⟨state, active⟩ := s.epochFree_state
  refine completes_of_settled hs effect fun t ht => ⟨?_, ?_, ?_⟩
  · exact (ht.get (by decide)).trans state
  · exact (State.activeBank_congr (ht.word _ (by decide))).trans active
  · exact counted_once (u := s.put F.FWDEPOCH_STATUS_STATE 0) (wider := fun p => decide (0x600 ≤ p) && decide (p < 0x600 + 5)) hw
      (.of_obs rfl) (Part.same_refl .events s) (fun _ h => h) (ht.cnt _ (by decide))

theorem epochDrainExpire_waits (s : State) (hs : s.stopped = false) (hboth : s.get F.FWDEPOCH_STATUS_STATE = 1)
    (hdue : s.passed s.fwd.drainFrom (usClocks (s.get F.FWDEPOCH_DRAIN_DRAIN_US)) = false) :
    Completes .epochDrainExpire s fun t => t.get F.FWDEPOCH_STATUS_STATE = 1 ∧ t.activeBank = s.activeBank ∧ t.fwd = s.fwd := by
  have waits : s.epochDrain = s := if_neg fun h => by simp [hdue] at h
  refine completes_of_settled hs (congrArg (finish s) waits) fun t ht => ⟨?_, ?_, ht.fwd⟩
  · exact (ht.get (by decide)).trans hboth
  · exact State.activeBank_congr (ht.word _ (by decide))

theorem State.logQ_epochFree (s : State) : s.epochFree.obs.logQ = s.obs.logQ := State.logQ_countFwd _ _ _

theorem epochFreeNow_frees (g : Agent) (s : State) (hs : s.stopped = false) (hacc : s.accepts g 0x602100 4)
    (hroom : s.obs.logQ.length < 64) : Completes (.epochFreeNow g) s fun t => t.get F.FWDEPOCH_STATUS_STATE = 0
      ∧ t.activeBank = s.activeBank ∧ t.obs.logQ = s.obs.logQ ++ [⟨Ev.EPOCH_FREED, 0x602, 0, 0, 0, s.time.core⟩] := by
  obtain ⟨w, -, write⟩ := State.hostWrite_acts hacc (by decide) (by decide) (by decide) (by decide)
  have free : (s.setWord 0x602100 w).epochAct 4 = (s.setWord 0x602100 w).epochFreeNow := by simp [State.epochAct, nbit]
  have queue := (s.setWord 0x602100 w).logQ_epochFree
  rw [State.act_epoch, free, State.epochFreeNow, State.logReport_room (by rw [queue]; exact hroom)] at write
  obtain ⟨state, active⟩ := (s.setWord 0x602100 w).epochFree_state
  refine completes_of_settled hs ((finishSpc_running hs _).trans (congrArg (finish s) write)) fun t ht => ⟨?_, ?_, ?_⟩
  · exact (ht.get (by decide)).trans state
  · exact (State.activeBank_congr (ht.word _ (by decide))).trans (active.trans (State.activeBank_congr (s.word_setWord_ne w (by decide))))
  · exact ht.logQ.trans (congrArg (· ++ _) queue)

/-- Settles O21: the copy gives the free bank every banked word of the active one, and OLD is freed once it is drained or at once. -/
theorem routeEpochsCopyDrainAndFree : Obligations.RouteEpochsCopyDrainAndFree :=
  ⟨epochCopy_starts, epochCopyDone_copies,
    fun s hs hboth hw => ⟨epochDrainExpire_frees s hs hboth hw, epochDrainExpire_waits s hs hboth⟩, epochFreeNow_frees⟩

end Sys2Proof.Machine

namespace Sys2Proof.Machine

/-! ### The scheduler's decision -/

theorem State.creditPort_touches (s : State) (p : Nat) : Touches [.bar, .cis] s (s.creditPort p) :=
  (Touches.refl s).ite ((((s.setSched_touches p _).step (State.weirDiscard_touches _ _) (by decide)).mono (by decide)).step
    (State.weirClamp_touches _ _ _) (by decide))

theorem State.creditQueue_touches (s : State) (p q : Nat) : Touches [.bar, .cis, .queues] s (s.creditQueue p q) := by
  unfold State.creditQueue
  dsimp only
  split
  · exact Touches.refl s
  · have credited := s.setQueue_keeps_ents p q { s.queue p q with shaper := (((s.queue p q).shaper.credit s.now
      (s.get (F.QUEUE_W3_RATE (64 * p + q))) (s.get (F.QUEUE_W2_BURST (64 * p + q)))).1.floor s.maxFrame).1 } rfl rfl
    exact (credited.step (State.weirDiscard_touches _ _) (by decide)).seq (State.weirClamp_touches _ _ _) (by decide)

/-- The state in which a port's shapers have been credited for a decision. -/
def State.credited (s : State) (p : Nat) : State := (s.usedQueues p).foldl (fun t q => t.creditQueue p q) (s.creditPort p)

theorem State.credited_touches (s : State) (p : Nat) : Touches [.bar, .cis, .queues] s (s.credited p) :=
  ((s.creditPort_touches p).mono (by decide)).trans (Touches.foldl _ _ fun t q _ => t.creditQueue_touches p q)

/-- Bytes of the packet at the head of a queue. -/
def State.headBytes (s : State) (p q : Nat) : Nat :=
  match s.headPkt p q with
  | some (_, k) => k.bytes.length
  | none => 0

/-- Weighted queue `q` has its top-up, where its deficit is below its head. -/
def State.toppedUp (s : State) (p q : Nat) : State :=
  if (s.queue p q).deficit < s.headBytes p q then
    s.setQueue p q { s.queue p q with deficit := (s.queue p q).deficit + s.get (F.QUEUE_W0_QUANTUM (64 * p + q)) }
  else s

/-- The state in which weighted queue `q` is picked. -/
def State.weightedPicked (s : State) (p q : Nat) : State :=
  (s.toppedUp p q).setSched p { (s.toppedUp p q).sched p with cursor := q }

/-- A decision picks no queue, or a strict one that may go, or a weighted one that may go. -/
theorem State.select_cases (s : State) (p : Nat) : s.select p = (none, s.credited p)
    ∨ (∃ q, (s.credited p).pickStrict p (s.usedQueues p) = some q ∧ s.select p = (some q, s.credited p))
    ∨ ∃ q, (s.credited p).pickWeighted p (s.usedQueues p) = some q ∧ s.select p = (some q, (s.credited p).weightedPicked p q) := by
  have effect : s.select p =
    if (s.credited p).get (F.PORTENT_W0_RATE p) ≠ 0 ∧ ((s.credited p).sched p).shaper.level < 0 then (none, s.credited p)
    else match (s.credited p).pickStrict p (s.usedQueues p) with
      | some q => (some q, s.credited p)
      | none => match (s.credited p).pickWeighted p (s.usedQueues p) with
        | none => (none, s.credited p)
        | some q => (some q, (s.credited p).weightedPicked p q) := rfl
  rw [effect]
  split
  · exact .inl rfl
  · split
    · next q hq => exact .inr (.inl ⟨q, hq, rfl⟩)
    · split
      · exact .inl rfl
      · next q hq => exact .inr (.inr ⟨q, hq, rfl⟩)

theorem State.toppedUp_touches (s : State) (p q : Nat) : Touches [.cis, .queues] s (s.toppedUp p q) :=
  (s.setQueue_keeps_ents p q { s.queue p q with
    deficit := (s.queue p q).deficit + s.get (F.QUEUE_W0_QUANTUM (64 * p + q)) } rfl rfl).ite (Touches.refl s)

theorem State.select_touches (s : State) (p : Nat) : Touches [.bar, .cis, .queues] s (s.select p).2 := by
  have credited := s.credited_touches p
  obtain e | ⟨q, -, e⟩ | ⟨q, -, e⟩ := s.select_cases p <;> rw [e]
  · exact credited
  · exact credited
  · exact (credited.step (State.toppedUp_touches _ p q) (by decide)).step (State.setSched_touches _ p _) (by decide)

/-- The top-up and the cursor do not bear on whether a queue may go. -/
theorem State.eligible_weightedPicked (s : State) (p q : Nat) : (s.weightedPicked p q).eligible p q = s.eligible p q := by
  have topped : (s.toppedUp p q).eligible p q = s.eligible p q := by
    unfold State.toppedUp
    split
    · unfold State.eligible State.headMayStart State.headPkt
      rw [State.queue_setQueue]
      rfl
    · rfl
  exact Eq.trans rfl topped

theorem State.pickStrict_eligible {s : State} {p q : Nat} {qs : List Nat} (h : s.pickStrict p qs = some q) : s.eligible p q = true := by
  obtain ⟨r, -, found⟩ := List.exists_of_findSome?_eq_some h
  have ok := List.find?_some found
  simp only [Bool.and_eq_true] at ok
  exact ok.2

theorem State.pickWeighted_eligible {s : State} {p q : Nat} {qs : List Nat} (h : s.pickWeighted p qs = some q) :
    s.eligible p q = true := by
  unfold State.pickWeighted at h
  dsimp only at h
  split at h
  · next x found =>
    obtain rfl := Option.some.inj h
    have ok := List.find?_some found
    simp only [Bool.and_eq_true] at ok
    exact ok.2.2
  · have ok := List.find?_some h
    simp only [Bool.and_eq_true] at ok
    exact ok.2.2

theorem select_eligible (p : PortIx) (q : Nat) (s : State) (h : (s.select p).1 = some q) : (s.select p).2.eligible p q = true := by
  obtain e | ⟨x, pick, e⟩ | ⟨x, pick, e⟩ := s.select_cases p <;> rw [e] at h ⊢
  · cases h
  · obtain rfl := Option.some.inj h
    exact State.pickStrict_eligible pick
  · obtain rfl := Option.some.inj h
    exact (State.eligible_weightedPicked _ p x).trans (State.pickWeighted_eligible pick)

theorem State.debitShapers_touches (s : State) (p q bytes : Nat) : Touches [.bar, .cis, .queues] s (s.debitShapers p q bytes) := by
  have debited := s.setQueue_keeps_ents p q { s.queue p q with shaper := ((s.queue p q).shaper.debit bytes s.maxFrame).1 } rfl rfl
  have queue := (Touches.refl (ps := [.bar, .cis, .queues]) s).ite (c := s.get (F.QUEUE_W3_RATE (64 * p + q)) = 0)
    (debited.seq (State.weirClamp_touches _ ((s.queue p q).shaper.debit bytes s.maxFrame).2 (0x10000000 + 64 * p + q)) (by decide))
  exact queue.ite ((queue.step (State.setSched_touches _ p _) (by decide)).step (State.weirClamp_touches _ _ _) (by decide))

/-- The head of a queue is read from its entries and the packets. -/
theorem State.headPkt_congr {s t : State} (he : Part.ents.same s t) (hp : t.cis.pkts = s.cis.pkts) (p q : Nat) :
    t.headPkt p q = s.headPkt p q := by
  unfold State.headPkt
  rw [(he p q).1]
  split
  · rfl
  · rw [State.pkt_congr hp]

/-- The state in which a decision for queue `q` has been made, the shapers debited. -/
def State.decided (s : State) (p q : Nat) : State :=
  (s.select p).2.debitShapers p q ((((s.select p).2.headPkt p q).map fun x => x.2.bytes.length).getD 0)

theorem State.decided_touches (s : State) (p q : Nat) : Touches [.bar, .cis, .queues] s (s.decided p q) :=
  (s.select_touches p).trans (State.debitShapers_touches _ _ _ _)

/-- The scheduler of a port decides. -/
def State.mayDecide (s : State) (p : Nat) : Prop := s.portUp p = true ∧ (s.portSt p).next = none ∧ s.commitDue = false

theorem State.schedule_waits {s : State} {p : Nat} (h : ¬ s.mayDecide p) : s.schedule p = s := if_neg h

section
variable {s : State} {p : Nat} (hd : s.mayDecide p)
include hd

theorem State.schedule_none (h : (s.select p).1 = none) : s.schedule p = (s.select p).2 := by
  refine (if_pos hd).trans ?_
  dsimp only
  rw [h]

theorem State.schedule_starts {q : Nat} (h : (s.select p).1 = some q) (htx : (s.portSt p).tx = none) :
    s.schedule p = (s.decided p q).startFrame p q (s.isStrict p q) := by
  refine (if_pos hd).trans ?_
  dsimp only
  rw [h, htx]
  rfl

theorem State.schedule_follows {q : Nat} (h : (s.select p).1 = some q) (htx : (s.portSt p).tx ≠ none) :
    s.schedule p = (s.decided p q).modPort p fun x => { x with next := some q, nextStrict := s.isStrict p q } := by
  obtain ⟨x, hx⟩ := Option.ne_none_iff_exists'.1 htx
  refine (if_pos hd).trans ?_
  dsimp only
  rw [h, hx]
  rfl

end

/-! ### The start of a frame, field by field -/

theorem State.link_congr {s t : State} (h : t.ports = s.ports) (p : Nat) : t.portSt p = s.portSt p := by
  unfold State.portSt
  rw [h]

theorem State.vcSt_headTaken (s : State) (p q : Nat) (e : QEnt) (r v : Nat) : (s.headTaken p q e).vcSt r v = s.vcSt r v :=
  State.vcSt_congr (((s.setQueue_touches p q _).seq (State.leftQueue_touches _ p q e) (ps := [.cis, .queues, .ents])
    (by decide)).part .ports (by decide)) r v

theorem State.vcSt_sending (s : State) (p q : Nat) (e : QEnt) (k : Pkt) (v : Nat) : (s.sending p q e k).vcSt p v
    = ((s.headTaken p q e).creditSpent p (pVc k.bytes) k.cells.length).vcSt p v :=
  State.vcSt_modPort _ p (fun y => { y with tx := some (e, pVc k.bytes, k.cells.length), next := none }) rfl p v

theorem State.vcSt_creditSpent (s : State) (p v n : Nat) : (s.creditSpent p v n).vcSt p v
    = { s.vcSt p v with started := ((s.vcSt p v).started + n) % 2 ^ 32, credits := (s.vcSt p v).credits - n } := State.vcSt_setVc _ _ _ _

theorem State.ents_sending (s : State) (p q : Nat) (e : QEnt) (k : Pkt) :
    ((s.sending p q e k).queue p q).ents = (s.queue p q).ents.drop 1 := by
  have cis : (s.sending p q e k).cis = (s.headTaken p q e).cis := rfl
  have left := (State.leftQueue_touches (s.setQueue p q { s.queue p q with ents := (s.queue p q).ents.drop 1 }) p q e).part
    .queues (by decide)
  rw [State.queue_congr ((congrArg CisSt.queues cis).trans left), State.queue_setQueue]

/-- One frame leaves with the start of a head. -/
theorem State.startFrame_emits {s : State} {p q : Nat} {e : QEnt} {k : Pkt} (h : s.headPkt p q = some (e, k)) (strict : Bool) :
    ∃ b, Touches [.cis, .queues] (((s.sending p q e k).departs p k).2.emit (.frame p b)) (s.startFrame p q strict) := by
  have effect : ∃ b, s.startFrame p q strict = ((((((s.sending p q e k).departs p k).2.emit (.frame p b)).countCisPort p
      Ev.SCHED_TX 1).afterSend p q k.bytes.length strict).lateHead p q).markPort p := by
    unfold State.startFrame
    rw [h]
    exact ⟨_, rfl⟩
  obtain ⟨b, effect⟩ := effect
  refine ⟨b, ?_⟩
  rw [effect]
  generalize ((s.sending p q e k).departs p k).2.emit (.frame p b) = t
  exact ((((State.countCisPort_touches t p (ev := Ev.SCHED_TX) 1 (by decide)).mono (by decide)).trans
    (State.afterSend_touches _ p q k.bytes.length strict)).step (State.lateHead_touches _ p q) (by decide)).trans
      (State.markPort_touches _ p)

theorem State.out_startFrame {s : State} {p q : Nat} {e : QEnt} {k : Pkt} (h : s.headPkt p q = some (e, k)) (strict : Bool) :
    ∃ b, (s.startFrame p q strict).obs.out = .frame p b :: s.obs.out := by
  obtain ⟨b, emits⟩ := State.startFrame_emits h strict
  have before : ((s.sending p q e k).departs p k).2.obs.out = s.obs.out :=
    Eq.trans (b := (s.sending p q e k).obs.out) ((State.departs_touches _ p k).part .out (by decide))
      ((s.sending_touches p q e k).part .out (by decide))
  exact ⟨b, Eq.trans (emits.part .out (by decide)) (congrArg (Emit.frame p b :: ·) before)⟩

/-! ### O22: what SCHED_SELECT and LAUNCH_DUE do -/

/-- The head `e` of queue `q`, packet `k`, has started on a port. -/
def HeadStarted (p : PortIx) (q : Nat) (e : QEnt) (k : Pkt) (s t : State) : Prop :=
  let v := pVc k.bytes
  (t.portSt p).tx = some (e, v, k.cells.length) ∧ (t.vcSt p v).credits = (s.vcSt p v).credits - k.cells.length
    ∧ (t.vcSt p v).started = ((s.vcSt p v).started + k.cells.length) % 2 ^ 32
    ∧ (t.queue p q).ents = (s.queue p q).ents.drop 1
    ∧ (∀ w, w ≠ v → t.vcSt p w = s.vcSt p w) ∧ ∃ b, Sent s t [.frame p b]

theorem completes_starting {c : Instr} {p : PortIx} {q : Nat} {e : QEnt} {k : Pkt} {s : State} (hs : s.stopped = false)
    (hc : exec c s = finish s (s.schedule p)) (hd : s.mayDecide p) (htx : (s.portSt p).tx = none)
    (hq : (s.select p).1 = some q) (hk : s.headPkt p q = some (e, k)) : Completes c s (HeadStarted p q e k s) := by
  have decided := s.decided_touches p q
  have head : (s.decided p q).headPkt p q = some (e, k) :=
    (State.headPkt_congr (decided.part .ents (by decide)) (decided.part .pkts (by decide)) p q).trans hk
  rw [State.schedule_starts hd hq htx] at hc
  refine completes_of_ended hs hc fun t ht => ?_
  have sends := (State.startFrame_sends head (s.isStrict p q)).seq (ps := [.time, .out, .cis, .queues, .bar]) ht.touches (by decide)
  have vcs : ∀ w, t.vcSt p w = (((s.decided p q).headTaken p q e).creditSpent p (pVc k.bytes) k.cells.length).vcSt p w :=
    fun w => (State.vcSt_congr (sends.part .ports (by decide)) p w).trans (State.vcSt_sending _ p q e k w)
  have before : ∀ w, ((s.decided p q).headTaken p q e).vcSt p w = s.vcSt p w := fun w =>
    (State.vcSt_headTaken _ p q e p w).trans (State.vcSt_congr (decided.part .ports (by decide)) p w)
  have spent := (vcs (pVc k.bytes)).trans (State.vcSt_creditSpent _ p _ _)
  rw [before] at spent
  obtain ⟨b, out⟩ := State.out_startFrame head (s.isStrict p q)
  refine ⟨?_, by rw [spent], by rw [spent], ?_, fun w hw => ?_, b, ?_⟩
  · rw [State.link_congr (ht.touches.part .ports (by decide))]
    exact State.tx_startFrame head _
  · rw [(sends.part .ents (by decide) p q).1, State.ents_sending, (decided.part .ents (by decide) p q).1]
  · exact ((vcs w).trans (State.vcSt_setVc_ne _ p _ _ (.inr hw))).trans (before w)
  · exact ht.sent_of (out.trans (congrArg (Emit.frame p b :: ·) (decided.part .out (by decide))))

theorem schedSelect_follows (p : PortIx) (q : Nat) (s : State) (hs : s.stopped = false) (hd : s.mayDecide p)
    (htx : (s.portSt p).tx ≠ none) (hq : (s.select p).1 = some q) : Completes (.schedSelect p) s fun t =>
      (t.portSt p).next = some q ∧ (t.portSt p).tx = (s.portSt p).tx ∧ (∀ v, t.vcSt p v = s.vcSt p v) ∧ Sent s t [] := by
  have decided := s.decided_touches p q
  refine completes_of_ended hs (congrArg (finish s) (State.schedule_follows hd hq htx)) fun t ht => ?_
  have ports := ht.touches.part .ports (by decide)
  have link := (State.link_congr ports p).trans (State.portSt_setPort _ _ _)
  rw [link]
  refine ⟨rfl, (congrArg PortSt.tx (State.link_congr (decided.part .ports (by decide)) p) :), fun v => ?_,
    ht.sent_of (decided.part .out (by decide))⟩
  exact (State.vcSt_congr ports p v).trans ((State.vcSt_modPort _ p (fun x =>
    { x with next := some q, nextStrict := s.isStrict p q }) rfl p v).trans (State.vcSt_congr (decided.part .ports (by decide)) p v))

theorem schedSelect_starts_nothing (p : PortIx) (s : State) (hs : s.stopped = false)
    (h : (s.select p).1 = none ∨ ¬ s.mayDecide p) : Completes (.schedSelect p) s fun t => t.ports = s.ports ∧ Sent s t [] := by
  have keeps : Touches [.bar, .cis, .queues] s (s.schedule p) := by
    by_cases hd : s.mayDecide p
    · rw [State.schedule_none hd (h.resolve_right fun n => n hd)]
      exact s.select_touches p
    · rw [State.schedule_waits hd]
      exact Touches.refl s
  exact completes_of_ended hs rfl fun t ht => ⟨((keeps.seq (ps := [.bar, .cis, .queues, .out, .time]) ht.touches (by decide)).part
    .ports (by decide)), ht.sent_of (keeps.part .out (by decide))⟩

theorem exec_launchDue_due {p : PortIx} {l : Fin 64} {h : QEnt × Pkt} {s : State} (hl : s.headPkt p l = some h)
    (hon : s.on (F.QUEUE_W0_LAUNCH (64 * p + l)) = true) (hdue : h.2.launch.any s.launchDue = true) :
    exec (.launchDue p l) s = finish s (s.schedule p) := by
  refine congrArg (finish s) ?_
  unfold State.launch
  rw [hl]
  exact if_pos ⟨hon, hdue⟩

theorem launchDue_idles (p : PortIx) (l : Fin 64) (s : State) (hoff : s.on (F.QUEUE_W0_LAUNCH (64 * p + l)) = false) :
    Completes (.launchDue p l) s fun t => t.ports = s.ports ∧ t.cis = s.cis := by
  have same : s.launch p l = s := by
    unfold State.launch
    split
    · exact if_neg fun h => by simp [hoff] at h
    · rfl
  have effect : exec (.launchDue p l) s = finish s s := congrArg (finish s) same
  cases hs : s.stopped with
  | true => exact ⟨_, effect.trans (if_pos hs), rfl, rfl⟩
  | false => exact completes_of_ended hs effect fun t ht => ⟨ht.touches.part .ports (by decide), ht.touches.part .cis (by decide)⟩

/-- Settles O22: a decision picks a queue that may go, and its head starts, follows the packet being sent, or waits. -/
theorem schedulerStartsAnEligibleHead : Obligations.SchedulerStartsAnEligibleHead :=
  ⟨select_eligible, fun _ _ _ _ _ hs hd htx hq hk => completes_starting hs rfl hd htx hq hk, schedSelect_follows,
    schedSelect_starts_nothing, fun _ _ _ _ _ _ _ hs hd htx hl hon hdue hq hk =>
      completes_starting hs (exec_launchDue_due hl hon hdue) hd htx hq hk, launchDue_idles⟩

end Sys2Proof.Machine

namespace Sys2Proof.Machine

/-! ### What the end of a command leaves -/

/-- From its effect `u` to its end `t` a command changes registers, their bits set in this clock, what the part records of
itself, the queue of commands and the core clock; of the words MSIX_PBA alone, of the counters those of RILL_INTR_TX. -/
structure Closed (u t : State) : Prop where
  rest : t = { u with bar := t.bar, setNow := t.setNow, obs := t.obs, pending := t.pending, time := { u.time with core := t.time.core } }
  word : ∀ a, pbaWord a = false → t.word a = u.word a
  cnt : ∀ ev, ev ≠ Ev.RILL_INTR_TX → Uncounted ev u t

theorem completes_of_closed {c : Instr} {s u : State} {Q : State → Prop} (h : s.stopped = false) (hc : exec c s = finish s u)
    (hQ : ∀ t, Closed u t → Q t) : Completes c s Q := by
  refine ⟨_, hc.trans (finish_running h u), hQ _ ⟨?_, fun a ha => u.settle_word ha, fun ev hev => ?_⟩⟩
  · rw [u.settle_only]
  · obtain ⟨sel, cnt⟩ := u.settle_uncounted hev
    exact ⟨sel, cnt⟩

namespace Closed

variable {u t : State} (h : Closed u t)
include h

theorem cis : t.cis = u.cis := (congrArg State.cis h.rest).trans rfl
theorem col : t.col = u.col := (congrArg State.col h.rest).trans rfl
theorem hlth : t.hlth = u.hlth := (congrArg State.hlth h.rest).trans rfl
theorem bsn : t.bsn = u.bsn := (congrArg State.bsn h.rest).trans rfl
theorem get {f : FRef} (hf : pbaWord f.addr = false) : t.get f = u.get f := State.get_congr (h.word _ hf)

end Closed

/-! ### The result writer -/

/-- The accounts of a result's elements are in the context's words, the engine's registers and counters. -/
theorem State.countHist_touches (s : State) (c ofmt : Nat) (h : Int) (l : List (Rounded × Nat)) :
    Touches [.bar, .ctxWords] s (s.countHist c ofmt h l) := by
  have counts : ∀ (t : State) (i n : Nat), Touches [.bar, .ctxWords] t (t.addSat (F.CTX_W96_HIST c i) n) := fun t i n =>
    (t.addSat_touches _ n).mono (wordParts_ctx (by simp [F.CTX_W96_HIST]; omega))
  exact (Touches.foldl _ s fun t x _ => counts t _ 1).trans (counts _ _ _)

theorem State.accountElems_touches (s : State) (c : Nat) (r : Staged) :
    Touches [.bar, .ctxWords, .colCfg, .ctxs] s (s.accountElems c r) := by
  have counted := (s.ctxCount_touches c 6 (nanCount r.elems)).seq (ps := [.bar, .ctxWords, .colCfg, .ctxs])
    (State.modCtx_keeps _ c (fun x => { x with
      nan := x.nan || nanCount r.elems != 0, sat := x.sat || (r.elems.filter fun x => x.1.sat).length != 0 })
        ⟨rfl, rfl, rfl, fun _ _ => rfl⟩) (by decide)
  have flagged := counted.step (State.orBits_touches _ (wordRef 0x903100) ((if nanCount r.elems ≠ 0 then 1 else 0)
    + (if (r.elems.filter fun x => x.1.sat).length ≠ 0 then 2 else 0)
    + (if (r.elems.filter fun x => x.1.inf).length ≠ 0 then 4 else 0))) (by decide)
  exact (((flagged.step (State.countBasin_touches _ r.basin (ev := Ev.NUM_NAN_OUT) _ (by decide)) (by decide)).step
    (State.countBasin_touches _ r.basin (ev := Ev.NUM_SAT) _ (by decide)) (by decide)).step
    (State.countBasin_touches _ r.basin (ev := Ev.NUM_INF_OUT) _ (by decide)) (by decide)).step
    (State.countHist_touches _ _ _ _ _) (by decide)

theorem State.handed_touches (s : State) (o : ColOut) : Touches [.bar, .ctxWords, .colCfg, .ctxs, .path] s (s.handed o) := by
  have result := ((s.ctxCount_touches o.ctx 0 1).mono (ps := [.bar, .ctxWords, .colCfg, .ctxs, .path]) (by decide)).step
    (State.countCol_touches _ (ev := Ev.COL_RESULT) 1 (by decide)) (by decide)
  have recorded := result.step (State.modCtx_keeps _ o.ctx (fun x => { x with recordsSent := x.recordsSent + 1 })
    ⟨rfl, rfl, rfl, fun _ _ => rfl⟩) (by decide)
  exact ((State.countCol_touches s (ev := Ev.COL_COMPLETE) 1 (by decide)).mono (by decide)).ite
    ((result.step (State.accountElems_touches _ _ _) (by decide)).ite
      (recorded.step (State.closeIfComplete_touches _ _) (by decide)))

/-- The packet that the writer makes of a staged one, which has no cells yet. -/
def State.outPkt (s : State) (o : ColOut) : Pkt := { bytes := s.outBytes o, acct := .vc5, cells := [], bank := s.activeBank }

/-- The oldest staged packet stands in its cells and waits for the replicator, and the writer goes on to the rest. -/
def State.outPlaced (s : State) (o : ColOut) (rest : List ColOut) (cells : SMap Cell) : State :=
  let u : State := { s.withPkt (s.outPkt o) cells with col := { s.col with outQ := rest } }
  { u with cis := { u.cis with mcQ := s.cis.mcQ ++ [⟨s.cis.nextPkt, s.get (F.COMM_W2_RDESC (s.ctxComm o.ctx)), none⟩] } }

theorem State.pkt_outPlaced (s : State) (o : ColOut) (rest : List ColOut) (cells : SMap Cell) :
    (s.outPlaced o rest cells).pkt? s.cis.nextPkt
      = some { s.outPkt o with cells := s.freeCells (cellsOf (s.outBytes o).length) } := s.pkt_withPkt (s.outPkt o) cells

/-- The writer keeps the oldest staged packet, which has waited. -/
def State.outKept (s : State) (o : ColOut) (rest : List ColOut) : State :=
  { s with col := { s.col with outQ := { o with waited := true } :: rest } }

section
variable {s : State} {o : ColOut} {rest : List ColOut} (hq : s.col.outQ = o :: rest)
  (hclk : o.sub ≠ 0x9 → s.clkHeld o.body.basin = false)
include hq hclk

theorem State.handoff_places (hpool : s.chargedSeen .vc5 + cellsOf (s.outBytes o).length ≤ s.get F.CISCFG_POOL_VC5_CELLS)
    (hcells : s.hasCells (cellsOf (s.outBytes o).length) = true) :
    ∃ cells, s.handoff = (s.outPlaced o rest cells).handed o := by
  obtain ⟨cells, placed⟩ := State.newPkt_some (k := s.outPkt o) hcells
  refine ⟨cells, ?_⟩
  unfold State.handoff
  rw [hq]
  dsimp only
  rw [if_neg (fun h => by simp [hclk h.1] at h), if_neg (Nat.not_lt.2 hpool)]
  unfold State.outPkt at placed
  rw [placed]
  rfl

theorem State.handoff_waits (hpool : s.get F.CISCFG_POOL_VC5_CELLS < s.chargedSeen .vc5 + cellsOf (s.outBytes o).length) :
    s.handoff = if o.waited then s else (s.outKept o rest).countCis Ev.CIS_VC5_WAIT 1 := by
  unfold State.handoff
  rw [hq]
  dsimp only
  rw [if_neg (fun h => by simp [hclk h.1] at h), if_pos hpool]
  rfl

end

theorem resultHandoff_hands (o : ColOut) (rest : List ColOut) (s : State) (hs : s.stopped = false) (hq : s.col.outQ = o :: rest)
    (hclk : o.sub ≠ 0x9 → s.clkHeld o.body.basin = false)
    (hpool : s.chargedSeen .vc5 + cellsOf (s.outBytes o).length ≤ s.get F.CISCFG_POOL_VC5_CELLS)
    (hcells : s.hasCells (cellsOf (s.outBytes o).length) = true) : Completes .resultHandoff s fun t => t.col.outQ = rest
      ∧ (t.pkt? s.cis.nextPkt).map (fun k => (k.bytes, k.acct)) = some (s.outBytes o, Account.vc5)
      ∧ t.cis.mcQ = s.cis.mcQ ++ [⟨s.cis.nextPkt, s.get (F.COMM_W2_RDESC (s.ctxComm o.ctx)), none⟩]
      ∧ (o.sub = 0x9 → SMap.wf (fun _ => 0) s.obs.sel = true →
        Counted s t (fun q => decide (0x900 ≤ q) && decide (q < 0x904)) Ev.COL_COMPLETE 1) := by
  obtain ⟨cells, effect⟩ := State.handoff_places hq hclk hpool hcells
  refine completes_of_closed hs (congrArg (finish s) effect) fun t ht => ?_
  have handed := (s.outPlaced o rest cells).handed_touches o
  refine ⟨?_, ?_, ?_, fun h9 hw => ?_⟩
  · rw [ht.col]
    exact handed.part .outQ (by decide)
  · rw [State.pkt_congr (congrArg CisSt.pkts ht.cis), State.pkt_congr (handed.part .pkts (by decide)), s.pkt_outPlaced]
    rfl
  · rw [ht.cis]
    exact handed.part .mcQ (by decide)
  · have counts : (s.outPlaced o rest cells).handed o = (s.outPlaced o rest cells).countCol Ev.COL_COMPLETE 1 := if_pos h9
    rw [counts] at ht
    exact counted_once (u := s.outPlaced o rest cells) (wider := fun p => decide (0x900 ≤ p) && decide (p < 0x900 + 4)) hw
      (.of_obs rfl) (Part.same_refl .events s) (fun _ h => h) (ht.cnt Ev.COL_COMPLETE (by decide))

theorem resultHandoff_waits (o : ColOut) (rest : List ColOut) (s : State) (hs : s.stopped = false) (hq : s.col.outQ = o :: rest)
    (hclk : o.sub ≠ 0x9 → s.clkHeld o.body.basin = false)
    (hpool : s.get F.CISCFG_POOL_VC5_CELLS < s.chargedSeen .vc5 + cellsOf (s.outBytes o).length)
    (hw : SMap.wf (fun _ => 0) s.obs.sel = true) (hcnt : o.waited = true → ∀ k, SMap.get (fun _ => 0) s.obs.cnt k < 2 ^ 48) :
    Completes .resultHandoff s fun t => t.col.outQ = { o with waited := true } :: rest ∧ t.cis = s.cis
      ∧ Counted s t (fun q => decide (0x700 ≤ q) && decide (q < 0x702)) Ev.CIS_VC5_WAIT (if o.waited then 0 else 1) := by
  refine completes_of_closed hs (congrArg (finish s) (State.handoff_waits hq hclk hpool)) fun t ht => ?_
  cases hwaited : o.waited with
  | true =>
    rw [hwaited, if_pos rfl] at ht
    have same : o = { o with waited := true } := by rw [← hwaited]
    refine ⟨by rw [ht.col, ← same, hq], ht.cis, fun k hk _ _ => ?_⟩
    rw [(ht.cnt _ (by decide)).cnt hw k hk]
    exact (Nat.mod_eq_of_lt (hcnt hwaited k)).symm
  | false =>
    rw [hwaited, if_neg (by decide)] at ht
    exact ⟨congrArg ColSt.outQ ht.col, ht.cis, counted_once (u := s.outKept o rest)
      (wider := fun p => decide (0x700 ≤ p) && decide (p < 0x700 + 2)) hw (.of_obs rfl) (Part.same_refl .events s) (fun _ h => h) (ht.cnt Ev.CIS_VC5_WAIT (by decide))⟩

/-! The second half of O29 fails where a packet has waited before and a counter that selects CIS_VC5_WAIT holds 2^48 or more,
which no run reaches: nothing is counted then, and `Counted` asks of such a counter that it be reduced modulo 2^48. -/

/-- A completion record that has waited once. -/
def waitedRecord : ColOut := ⟨0, 0x9, 0, { bytes := [] }, true⟩

/-- After reset it waits for a VC5 pool of no cells, and counter 0 of page 0x700 selects CIS_VC5_WAIT and holds 2^48. -/
def overfullCounter : State :=
  let s : State := State.reset.put F.CISCFG_POOL_VC5_CELLS 0
  { s with col := { s.col with outQ := [waitedRecord] }
           obs := { s.obs with sel := [(0x3800, 0x80000000 + Ev.CIS_VC5_WAIT)], cnt := [(0x3800, 2 ^ 48)] } }

theorem overfullCounter_waits : overfullCounter.get F.CISCFG_POOL_VC5_CELLS
    < overfullCounter.chargedSeen .vc5 + cellsOf (overfullCounter.outBytes waitedRecord).length := by decide +kernel

/-- Refutes O29: a hand-off that waits again counts nothing, so a counter of CIS_VC5_WAIT that holds 2^48 keeps it, where the
statement asks for 0. Both halves hold of counters of 48 bits (`resultHandoff_hands`, `resultHandoff_waits`). -/
theorem not_resultsAreHandedWithinThePools : ¬ Obligations.ResultsAreHandedWithinThePools := by
  intro h
  obtain ⟨t, next, -, -, counted⟩ := h.2 waitedRecord [] overfullCounter rfl rfl (fun h9 => absurd rfl h9) overfullCounter_waits rfl
  have stays : Completes .resultHandoff overfullCounter fun u => SMap.get (fun _ => 0) u.obs.cnt 0x3800 = 2 ^ 48 :=
    completes_of_closed rfl (congrArg (finish overfullCounter) (State.handoff_waits rfl (fun h9 => absurd rfl h9)
      overfullCounter_waits)) fun u hu => (hu.cnt Ev.CIS_VC5_WAIT (by decide)).cnt rfl 0x3800 rfl
  obtain ⟨u, next', kept⟩ := stays
  obtain rfl := Host.Outcome.next.inj (next.symm.trans next')
  have asked := counted 0x3800 rfl rfl rfl
  rw [kept] at asked
  exact absurd asked (by decide)

end Sys2Proof.Machine

namespace Sys2Proof.Machine

/-! ### What freezing and unfreezing a block leave alone -/

/-- The words CTRL and STATUS of the register pages. -/
def sluiceWord (a : Nat) : Bool := decide (a < 0x1000000) && (a % 4096 == 0x10 || a % 4096 == 0x14)

theorem sluiceWord_window {a : Nat} (h : 0x1000000 ≤ a) : sluiceWord a = false := by
  simp [sluiceWord]; omega

theorem sluiceWord_page {a : Nat} (h : 0x100 ≤ a % 4096) : sluiceWord a = false := by
  simp [sluiceWord]; omega

/-- From `s` to `t` no block's CTRL or STATUS changed, no core, and no counter of SLUICE_FREEZE. -/
structure Spares (s t : State) : Prop where
  word : ∀ a, sluiceWord a = true → t.word a = s.word a
  count : Uncounted Ev.SLUICE_FREEZE s t
  cores : t.bsn.cores = s.bsn.cores

namespace Spares

variable {s t u : State}

theorem of_kept (bar : t.bar = s.bar) (obs : t.obs = s.obs) (cores : t.bsn.cores = s.bsn.cores) : Spares s t :=
  ⟨fun a _ => State.word_congr bar a, .of_obs obs, cores⟩

theorem refl (s : State) : Spares s s := of_kept rfl rfl rfl

theorem trans (h : Spares s t) (k : Spares t u) : Spares s u :=
  ⟨fun a ha => (k.word a ha).trans (h.word a ha), h.count.trans k.count, k.cores.trans h.cores⟩

theorem ite {c : Prop} [Decidable c] (h : Spares s t) (k : Spares s u) : Spares s (if c then t else u) := by
  split <;> assumption

theorem foldl {α : Type} {f : State → α → State} (l : List α) (s : State) (h : ∀ t, ∀ x ∈ l, Spares t (f t x)) :
    Spares s (l.foldl f s) :=
  List.foldlRecOn (motive := Spares s) l f (refl s) fun t ht x hx => ht.trans (h t x hx)

end Spares

/-! The operations that they are made of. -/

theorem State.put_spares (s : State) (f : FRef) (v : Nat) (h : sluiceWord f.addr = false) : Spares s (s.put f v) where
  word a ha := s.word_setWord_ne _ fun e => by rw [e, h] at ha; cases ha
  count := .of_obs rfl
  cores := rfl

theorem State.orBits_spares (s : State) (f : FRef) (v : Nat) (h : sluiceWord f.addr = false) : Spares s (s.orBits f v) :=
  (s.put_spares f _ h).trans (.of_kept rfl rfl rfl)

theorem State.countIn_spares (s : State) (scope : Nat → Bool) {ev : Nat} (n : Nat) (h : Ev.SLUICE_FREEZE ≠ ev) :
    Spares s (s.countIn scope ev n) where
  word a _ := State.word_congr (by rw [State.countIn_only]) a
  count := s.countIn_uncounted scope n h
  cores := by rw [State.countIn_only]

theorem State.countAt_spares (s : State) (page : Nat) {ev : Nat} (n : Nat) (h : Ev.SLUICE_FREEZE ≠ ev) :
    Spares s (s.countAt page ev n) := s.countIn_spares _ n h
theorem State.countPort_spares (s : State) (p : Nat) {ev : Nat} (n : Nat) (h : Ev.SLUICE_FREEZE ≠ ev) :
    Spares s (s.countPort p ev n) := s.countAt_spares _ n h
theorem State.countMgmt_spares (s : State) {ev : Nat} (n : Nat) (h : Ev.SLUICE_FREEZE ≠ ev) :
    Spares s (s.countMgmt ev n) := s.countIn_spares (fun p => decide (0xe00 ≤ p) && decide (p < 0xe00 + 16)) n h

theorem State.logReport_spares (s : State) (code page inst d1 d2 : Nat) : Spares s (s.logReport code page inst d1 d2) where
  word a _ := State.word_congr ((s.logReport_touches code page inst d1 d2).part .bar (by decide)) a
  count := s.logReport_uncounted code page inst d1 d2 (by decide)
  cores := by
    unfold State.logReport
    dsimp only
    split
    · rfl
    · split <;> rfl

/-! Updates of a component in which none of the three lies. -/

theorem State.setPort_spares (s : State) (p : Nat) (v : PortSt) : Spares s (s.setPort p v) := .of_kept rfl rfl rfl
theorem State.modPort_spares (s : State) (p : Nat) (f : PortSt → PortSt) : Spares s (s.modPort p f) := s.setPort_spares p _
theorem State.setQueue_spares (s : State) (p q : Nat) (v : QueueSt) : Spares s (s.setQueue p q v) := .of_kept rfl rfl rfl
theorem State.setLeaf_spares (s : State) (l : Nat) (v : LeafSt) : Spares s (s.setLeaf l v) := .of_kept rfl rfl rfl
theorem State.autoCause_spares (s : State) (l c : Nat) : Spares s (s.autoCause l c) := .of_kept rfl rfl rfl
theorem State.dropCause_spares (s : State) (l c : Nat) : Spares s (s.dropCause l c) := .of_kept rfl rfl rfl

/-! ### A port -/

theorem State.markQueue_spares (s : State) (p q : Nat) : Spares s (s.markQueue p q) := by
  have unblocked : Spares s (if (s.queue p q).blockedSince = none then s
      else s.setQueue p q { s.queue p q with blockedSince := none, blockedHead := 0 }) :=
    (Spares.refl s).ite (s.setQueue_spares p q _)
  unfold State.markQueue
  dsimp only
  split
  · exact unblocked
  · exact unblocked.ite ((Spares.refl s).ite (s.setQueue_spares p q _))

theorem State.spliceQueues_spares (s : State) (p q : Nat) : Spares s (s.spliceQueues p q) :=
  Spares.foldl _ s fun t _ _ => ((t.setQueue_spares _ _ _).trans (State.setQueue_spares _ _ _ _)).trans
    (State.markQueue_spares _ _ _)

theorem State.leaveQueues_spares (s : State) (g i : Nat) : Spares s (s.leaveQueues g i) := by
  unfold State.leaveQueues
  split
  · exact .of_kept rfl rfl rfl
  · exact (s.spliceQueues_spares _ _).trans (State.countAt_spares _ _ _ (by decide))

theorem State.takeOrphans_spares (s : State) (g p : Nat) : Spares s (s.takeOrphans g p) := by
  have noted : Spares s { s with fwd := { s.fwd with lastDown := s.fwd.lastDown.filter fun x => x.1 != g } } := .of_kept rfl rfl rfl
  exact noted.trans (Spares.foldl _ _ fun t _ _ =>
    ((t.spliceQueues_spares _ _).trans (State.countAt_spares _ _ _ (by decide))).ite (.refl t))

/-- GRPSTAT lies among a group page's own registers. -/
theorem sluiceWord_grpstat (g : Nat) : sluiceWord (F.GROUP_GRPSTAT_LIVE g).addr = false :=
  sluiceWord_page (by simp only [F.GROUP_GRPSTAT_LIVE]; omega)

theorem State.memberUp_spares (s : State) (g i : Nat) : Spares s (s.memberUp g i) := by
  have shown := s.orBits_spares (F.GROUP_GRPSTAT_LIVE g) (2 ^ i) (sluiceWord_grpstat g)
  unfold State.memberUp
  dsimp only
  split
  · exact shown.trans (Spares.foldl _ _ fun t _ _ => t.setQueue_spares _ _ _)
  · exact shown.trans (State.takeOrphans_spares _ _ _)

theorem State.refreshPort_spares (s : State) (p : Nat) : Spares s (s.refreshPort p) := by
  unfold State.refreshPort
  split
  · next g i _ =>
    exact Spares.ite (Spares.ite (.refl s) (s.memberUp_spares g i)) (Spares.ite
      ((s.put_spares (F.GROUP_GRPSTAT_LIVE g) _ (sluiceWord_grpstat g)).trans (State.leaveQueues_spares _ _ _)) (.refl s))
  · exact .refl s

theorem State.judgeWarn_spares (s : State) (l : Nat) : Spares s (s.judgeWarn l) :=
  Spares.ite (((s.setLeaf_spares l _).trans (State.orBits_spares _ F.HLTH_ISTAT_ISTAT _ rfl)).trans
    (State.logReport_spares _ _ _ _ _ _)) (s.setLeaf_spares l _)

theorem State.withdraw_spares (s : State) (l c : Nat) : Spares s (s.withdraw l c) := by
  have dropped := s.dropCause_spares l c
  refine Spares.ite ?_ dropped
  have reported := (dropped.trans (State.setLeaf_spares _ l { (s.dropCause l c).leaf l with rec_ := none, cause := 0 })).trans
    (State.logReport_spares _ Ev.HLTH_REC_WITHDRAWN 0xe06 l c 0)
  exact (reported.trans (State.countMgmt_spares _ _ (by decide))).trans (State.put_spares _ F.HLTH_STAT_RECS _ rfl)

theorem State.judgeScore_spares (s : State) (l : Nat) : Spares s (s.judgeScore l) := by
  refine Spares.ite (.refl s) ?_
  have judged := s.setLeaf_spares l { s.leaf l with low := decide ((s.leaf l).score ≤ s.get F.HLTH_SCORE_FENCE) }
  exact Spares.ite ((judged.trans (State.autoCause_spares _ _ _)).ite judged) ((judged.trans (State.withdraw_spares _ _ _)).ite judged)

theorem State.penalty_spares (s : State) (l n : Nat) : Spares s (s.penalty l n) :=
  ((s.setLeaf_spares _ _).trans (State.judgeWarn_spares _ l)).trans (State.judgeScore_spares _ l)

theorem State.portPenalty_spares (s : State) (p n : Nat) : Spares s (s.portPenalty p n) := by
  unfold State.portPenalty
  split
  · exact s.penalty_spares _ n
  · exact .refl s

theorem State.setPortState_spares (s : State) (p st : Nat) : Spares s (s.setPortState p st) :=
  (s.put_spares (F.LANE_PORTSTAT_STATE p) st (sluiceWord_page (by simp only [F.LANE_PORTSTAT_STATE]; omega))).trans
    (State.modPort_spares _ _ _)

theorem State.portFailed_spares (s : State) (p : Nat) : Spares s (s.portFailed p) :=
  (((s.setPortState_spares p 7).trans (State.logReport_spares _ Ev.LINK_FAILED (0x100 + p) p 0 0)).trans
    (State.countPort_spares _ p (ev := Ev.LINK_FAILED) 1 (by decide))).trans (State.portPenalty_spares _ p 128)

theorem State.countRetries_spares (s : State) (p : Nat) (l : List Nat) : Spares s (s.countRetries p l) :=
  (s.modPort_spares p fun x => { x with entries := l }).trans (State.put_spares _ (F.LANE_PORTSTAT_RETRIES p) _
    (sluiceWord_page (by simp only [F.LANE_PORTSTAT_RETRIES]; omega)))

theorem State.enterDown_spares (s : State) (p reason : Nat) : Spares s (s.enterDown p reason) := by
  have down := (s.setPortState_spares p 1).trans (State.put_spares _ (F.LANE_PORTSTAT_LASTDOWN p) reason
    (sluiceWord_page (by simp only [F.LANE_PORTSTAT_LASTDOWN]; omega)))
  have peer : ∀ t : State, Spares t (t.put (F.LANE_PORTPEER_VALID p) 0) := fun t =>
    t.put_spares _ 0 (sluiceWord_page (by simp only [F.LANE_PORTPEER_VALID]; omega))
  unfold State.enterDown
  dsimp only
  have counted := fun f l => ((down.trans (State.modPort_spares _ p f)).trans (peer _)).trans (State.countRetries_spares _ p l)
  exact Spares.ite ((counted _ _).trans (State.portFailed_spares _ p)) (counted _ _)

theorem State.failAttempt_spares (s : State) (p reason : Nat) : Spares s (s.failAttempt p reason) :=
  (s.enterDown_spares p reason).ite (.refl s)


/-! ### A Basin's contexts -/

theorem State.setCtx_spares (s : State) (c : Nat) (v : CtxSt) : Spares s (s.setCtx c v) := .of_kept rfl rfl rfl
theorem State.modCtx_spares (s : State) (c : Nat) (f : CtxSt → CtxSt) : Spares s (s.modCtx c f) := s.setCtx_spares c _
theorem State.setPath_spares (s : State) (b : Nat) (l : List BasinItem) : Spares s (s.setPath b l) := .of_kept rfl rfl rfl

theorem State.setPhase_spares (s : State) (c ph : Nat) : Spares s (s.setPhase c ph) :=
  (s.modCtx_spares c _).trans (State.put_spares _ (F.CTX_W10_STATE c) _
    (sluiceWord_window (by simp only [F.CTX_W10_STATE]; omega)))

theorem State.closeCtx_spares (s : State) (c : Nat) (status : Option Nat) : Spares s (s.closeCtx c status) :=
  Spares.ite (.refl s) (((s.setPhase_spares c 4).trans (State.modCtx_spares _ c _)).trans
    (Spares.foldl _ _ fun t b _ => t.setPath_spares b _))

theorem State.ctx_closing_ne (s : State) {c d : Nat} (status : Option Nat) (h : d ≠ c) : (s.closing c status).ctx d = s.ctx d :=
  Eq.trans (State.ctx_modCtx_ne (s.setPhase c 4) _ h) (Eq.trans
    (State.ctx_congr ((State.put_touches (s.modCtx c fun x => { x with phase := 4 }) (F.CTX_W10_STATE c)
      (if s.tearing (s.ctxComm c) then 6 else 4)).mono (ps := wordsParts) (wordParts_words _) |>.part .ctxs (by decide)) d)
    (s.ctx_modCtx_ne (fun x => { x with phase := 4 }) h))

/-- A context that is closed, or was not OPEN, is not OPEN. -/
theorem State.closeCtx_notOpen (s : State) (c d : Nat) (status : Option Nat) (h : d = c ∨ (s.ctx d).phase ≠ 2) :
    ((s.closeCtx c status).ctx d).phase ≠ 2 := by
  by_cases open_ : (s.ctx c).phase = 2
  · by_cases e : d = c
    · rw [e, (State.closeCtx_closes open_ status).1]
      exact Nat.succ_ne_succ_iff.2 (by decide)
    · rw [State.closeCtx_eq open_, State.ctx_congr ((State.markAll_touches _ _ _).part .ctxs (by decide)),
        State.ctx_closing_ne s status e]
      exact h.resolve_left e
  · rw [State.closeCtx, if_pos open_]
    obtain rfl | h := h
    · exact open_
    · exact h

theorem State.closeCtxs_notOpen (status : Option Nat) (l : List Nat) (s : State) {d : Nat} (h : d ∈ l ∨ (s.ctx d).phase ≠ 2) :
    ((l.foldl (fun t c => t.closeCtx c status) s).ctx d).phase ≠ 2 := by
  induction l generalizing s with
  | nil => exact h.resolve_left List.not_mem_nil
  | cons c l ih =>
    refine ih _ ?_
    rw [List.mem_cons, or_assoc] at h
    obtain h | h | h := h
    · exact .inr (s.closeCtx_notOpen c d status (.inl h))
    · exact .inl h
    · exact .inr (s.closeCtx_notOpen c d status (.inr h))

/-- The OPEN contexts of a Basin are read from the contexts and their words. -/
theorem State.ctxsOn_congr {s t : State} (hctx : t.col.ctxs = s.col.ctxs) (hword : ∀ a, 0x5000000 ≤ a → t.word a = s.word a)
    (b : Nat) : t.ctxsOn b = s.ctxsOn b := by
  have params : ∀ c, t.params c = s.params c := fun c => List.map_congr_left fun i _ => by rw [hword _ (by omega)]
  unfold State.ctxsOn State.openCtxs
  simp only [hctx, params]

/-! ### A stack's arbiters -/

theorem State.setArb_spares (s : State) (i : Nat) (v : ArbSt) : Spares s (s.setArb i v) := .of_kept rfl rfl rfl

theorem State.arbFreeze_bar (s : State) (i : Nat) (on : Bool) : (s.arbFreeze i on).bar = s.bar := by
  unfold State.arbFreeze
  dsimp only
  split
  · split <;> rfl
  · split <;> rfl

theorem State.arbFreeze_spares (s : State) (i : Nat) (on : Bool) : Spares s (s.arbFreeze i on) := by
  unfold State.arbFreeze
  dsimp only
  split
  · exact (s.setArb_spares i _).ite (.refl s)
  · split
    · exact .refl s
    · exact s.setArb_spares i _

theorem State.freezeArb_spares (s : State) (i : Nat) (on : Bool) : Spares s (s.freezeArb i on) :=
  (s.put_spares (F.ARB_CTRL_FREEZE i) _ (sluiceWord_window (by simp only [F.ARB_CTRL_FREEZE]; omega))).trans
    (State.arbFreeze_spares _ i on)

theorem State.on_freezeArb (s : State) (i : Nat) (on : Bool) : (s.freezeArb i on).on (F.ARB_CTRL_FREEZE i) = on := by
  have ok : (F.ARB_CTRL_FREEZE i).ok := ⟨Nat.le_refl 31, Nat.lt_succ_self 31⟩
  unfold State.on State.freezeArb
  rw [State.get_congr (State.word_congr (State.arbFreeze_bar _ i on) _), s.get_put_same _ ok]
  cases on <;> rfl

theorem State.on_freezeArb_ne (s : State) {i j : Nat} (on : Bool) (h : j ≠ i) :
    (s.freezeArb i on).on (F.ARB_CTRL_FREEZE j) = s.on (F.ARB_CTRL_FREEZE j) := by
  unfold State.on State.freezeArb
  rw [State.get_congr (State.word_congr (State.arbFreeze_bar _ i on) _), s.get_put_ne]
  simp only [F.ARB_CTRL_FREEZE]
  omega

theorem State.on_freezeArbs (on : Bool) (l : List Nat) (s : State) {j : Nat} (h : j ∈ l ∨ s.on (F.ARB_CTRL_FREEZE j) = on) :
    (l.foldl (fun t i => t.freezeArb i on) s).on (F.ARB_CTRL_FREEZE j) = on := by
  induction l generalizing s with
  | nil => exact h.resolve_left List.not_mem_nil
  | cons i l ih =>
    refine ih _ ?_
    by_cases e : j = i
    · rw [e]
      exact .inr (s.on_freezeArb i on)
    · rw [s.on_freezeArb_ne on e]
      exact h.imp_left fun h => (List.mem_cons.1 h).resolve_left e

theorem mem_stackChans {i : Nat} (j : Nat) (h : i < 32) : 16 * i + j ∈ stackChans j := List.mem_map.2 ⟨i, List.mem_range.2 h, rfl⟩

/-! ### A port's state -/

theorem State.portStat_other (s : State) (p : PortIx) {f : FRef} (hf : f.ok) (h : f.apart (F.LANE_PORTSTAT_STATE p)) (v : Nat) :
    (s.put f v).portState p = s.portState p := s.get_put_apart hf ⟨Nat.le_add_right 29 2, Nat.lt_succ_self 31⟩ h v

theorem State.portFailed_state (s : State) (p : PortIx) : (s.portFailed p).portState p = 7 := by
  have reported := (State.logReport_touches (s.setPortState p 7) Ev.LINK_FAILED (0x100 + p) p 0 0).seq (ps := [.bar, .hlth])
    ((State.countPort_touches _ p (ev := Ev.LINK_FAILED) 1 (by decide)).trans (.refl _)) (by decide)
  have penalised := reported.step (State.portPenalty_touches _ p 128) (by decide)
  exact (State.portState_congr (penalised.part .portStat (by decide)) p).trans (s.portState_setPortState p 7 (by decide))

theorem State.put_lastDown_state (s : State) (p : PortIx) (v : Nat) : (s.put (F.LANE_PORTSTAT_LASTDOWN p) v).portState p = s.portState p :=
  s.portStat_other p ⟨Nat.le_add_right 20 3, by simp [F.LANE_PORTSTAT_LASTDOWN]⟩
    (.inr (.inl (by simp [F.LANE_PORTSTAT_LASTDOWN, F.LANE_PORTSTAT_STATE]))) v

theorem State.put_peerValid_state (s : State) (p : PortIx) (v : Nat) : (s.put (F.LANE_PORTPEER_VALID p) v).portState p = s.portState p :=
  s.portStat_other p ⟨Nat.le_refl 31, Nat.lt_succ_self 31⟩ (.inl (by simp [F.LANE_PORTPEER_VALID, F.LANE_PORTSTAT_STATE])) v

theorem State.modPort_state (s : State) (p : Nat) (f : PortSt → PortSt) (q : Nat) : (s.modPort p f).portState q = s.portState q := rfl

theorem State.countRetries_state (s : State) (p : PortIx) (l : List Nat) : (s.countRetries p l).portState p = s.portState p :=
  (State.portStat_other (s.modPort p fun x => { x with entries := l }) p (f := F.LANE_PORTSTAT_RETRIES p)
    ⟨Nat.le_add_right 16 3, by simp [F.LANE_PORTSTAT_RETRIES]⟩
    (.inr (.inl (by simp [F.LANE_PORTSTAT_RETRIES, F.LANE_PORTSTAT_STATE]))) _).trans (s.modPort_state p _ p)

/-- An attempt or link that ends leaves its port in DOWN or FAILED. -/
theorem State.enterDown_notUp (s : State) (p : PortIx) (reason : Nat) : (s.enterDown p reason).portState p ≠ 5 := by
  unfold State.enterDown
  dsimp only
  split
  · rw [State.portFailed_state]
    decide
  · rw [State.countRetries_state, State.put_peerValid_state, State.modPort_state, State.put_lastDown_state,
      s.portState_setPortState p 1 (by decide)]
    decide

theorem State.failAttempt_notUp (s : State) (p : PortIx) (reason : Nat) (h : s.portState p ≠ 5) :
    (s.failAttempt p reason).portState p ≠ 5 := by
  unfold State.failAttempt
  split
  · exact s.enterDown_notUp p reason
  · exact h

theorem State.leafPortDown_touches (s : State) (p : Nat) : Touches [.hlth] s (s.leafPortDown p) := by
  unfold State.leafPortDown
  split
  · exact .refl s
  · exact (Touches.refl s).ite (s.setLeaf_touches _ _)

theorem State.linkDowned_touches (s : State) (p reason : Nat) : Touches (.hlth :: refreshParts) s (s.linkDowned p reason) := by
  have spliced := ((State.countPort_touches s p (ev := Ev.LINK_DOWN) 1 (by decide)).seq (ps := .hlth :: refreshParts)
    (State.refreshPort_touches _ p) (by decide)).step (State.markPort_touches _ p) (by decide)
  have told := spliced.step (State.leafPortDown_touches _ p) (by decide)
  exact (told.step (State.portPenalty_touches _ p 32) (by decide)).ite told

theorem State.leaveUp_notUp (s : State) (p : PortIx) (reason : Nat) : (s.leaveUp p reason).portState p ≠ 5 := by
  unfold State.leaveUp
  split
  · assumption
  · rw [State.portState_congr ((State.linkDowned_touches _ p reason).part .portStat (by decide)) p]
    exact State.enterDown_notUp _ p reason


/-! ### Packets released -/

theorem State.setPkt_spares (s : State) (i : Nat) (v : Option Pkt) : Spares s (s.setPkt i v) := .of_kept rfl rfl rfl
theorem State.setCell_spares (s : State) (c : Nat) (v : Cell) : Spares s (s.setCell c v) := .of_kept rfl rfl rfl
theorem State.setFreed_spares (s : State) (v : Freed) : Spares s (s.setFreed v) := .of_kept rfl rfl rfl

theorem State.culletAppend_spares (s : State) (kind reason i : Nat) : Spares s (s.culletAppend kind reason i) := by
  unfold State.culletAppend
  split
  · exact .refl s
  · refine Spares.ite ?_ ?_
    · exact (s.logReport_spares _ _ _ _ _).trans (.of_kept rfl rfl rfl)
    · have kept : ∀ (t : State) (l : List (Nat × Nat)), Spares t { t with nvm := { t.nvm with volatileCullet := l } } :=
        fun _ _ => .of_kept rfl rfl rfl
      exact ((s.logReport_spares _ _ _ _ _).trans (kept _ _)).trans (State.put_spares _ F.NVM_STAT_CULLET_FULL 1 rfl)

theorem State.retireCell_spares (s : State) (c : Nat) : Spares s (s.retireCell c) := by
  have retired := (s.setCell_spares c { st := .retired, bad := true }).trans (State.culletAppend_spares _ 1 1 c)
  have lossy : ∀ (t : State) (n : Nat), Spares t (t.setLossy n) := fun t n =>
    (t.put_spares F.CISCFG_LOSSY_LOSSY_CELLS n rfl).trans (State.put_spares _ F.CISCFG_LOSSY_LOW (if n < 4096 then 1 else 0) rfl)
  unfold State.retireCell
  dsimp only
  split
  · exact retired.trans (lossy _ _)
  · refine Spares.ite ?_ ?_
    · exact retired.trans (State.put_spares _ F.CISCFG_POOL_VC5_CELLS _ rfl)
    · exact (retired.trans (State.put_spares _ F.CISCFG_DEBT_CELLS _ rfl)).trans (State.logReport_spares _ _ _ _ _ _)

theorem State.freeCell_spares (s : State) (c : Nat) : Spares s (s.freeCell c) :=
  (s.retireCell_spares c).ite ((s.setCell_spares c {}).trans (State.setFreed_spares _ _))

theorem State.returnCredit_spares (s : State) (p v n : Nat) : Spares s (s.returnCredit p v n) :=
  (Spares.refl s).ite (s.setPort_spares p _)

theorem State.noteAccount_spares (s : State) (a : Account) (n : Nat) : Spares s (s.noteAccount a n) := by
  cases a with
  | port p v => exact .refl s
  | lossy => exact s.setFreed_spares _
  | vc5 => exact s.setFreed_spares _
  | origin => exact s.setFreed_spares _

theorem State.releasePkt_spares (s : State) (i : Nat) : Spares s (s.releasePkt i) := by
  unfold State.releasePkt
  split
  · exact .refl s
  · next k _ =>
    have freed : Spares s (k.cells.foldl State.freeCell (s.setPkt i none)) :=
      (s.setPkt_spares i none).trans (Spares.foldl _ _ fun t c _ => t.freeCell_spares c)
    dsimp only
    split
    · exact freed.trans (State.returnCredit_spares _ _ _ _)
    · exact freed.trans (State.noteAccount_spares _ _ _)

theorem State.unref_spares (s : State) (i : Nat) : Spares s (s.unref i) := by
  unfold State.unref
  split
  · exact .refl s
  · exact ((s.setPkt_spares i _).trans (State.releasePkt_spares _ i)).ite (s.setPkt_spares i _)

/-! ### Cores stopped -/

theorem State.setArray_spares (s : State) (b : Nat) (v : ArraySt) : Spares s (s.setArray b v) := .of_kept rfl rfl rfl
theorem State.setDma_spares (s : State) (b : Nat) (v : DmaSt) : Spares s (s.setDma b v) := .of_kept rfl rfl rfl

theorem State.queuePkt_spares (s : State) (stop r : Nat) (p : RingPkt) : Spares s (s.queuePkt stop r p) := by
  have queued : ∀ (t : State) (i : Nat) (l : List RingPkt), Spares t (t.setStopPkts i r l) := fun _ _ _ => .of_kept rfl rfl rfl
  have raised : ∀ (t : State) (i : Nat), Spares t (t.arbRaise i r) := fun t i => Spares.ite (t.setArb_spares i _) (.refl t)
  unfold State.queuePkt
  dsimp only
  generalize stopInst stop p.ring p.cls = i
  exact (queued _ _ _).trans (raised _ _)

/-- As for `State.memIssue_touches`, `State.memIssue` is unfolded by a name of its own. -/
theorem State.memIssue_spares {s t : State} {b r : Nat} {q : MemReq} : s.memIssue b r q = some t → Spares s t := by
  generalize hf : @State.memIssue = f
  delta State.memIssue at hf
  subst hf
  beta_reduce
  generalize s.locate q.addr = place
  intro h
  cases place with
  | none => cases h
  | some l =>
    cases h
    exact s.queuePkt_spares _ _ _

theorem State.dmaIssue_spares (s : State) (b : Nat) (q : MemReq) : Spares s (s.dmaIssue b q) := by
  unfold State.dmaIssue
  cases h : s.memIssue b 24 q with
  | none => exact .refl s
  | some t => exact State.memIssue_spares h

theorem State.dmaBegin_spares (s : State) (b : Nat) : Spares s (s.dmaBegin b) := by
  unfold State.dmaBegin
  split
  · exact .refl s
  · split
    · exact .refl s
    · refine Spares.ite (.refl s) ?_
      exact (s.setDma_spares b _).trans (Spares.foldl _ _ fun t _ _ => t.dmaIssue_spares b _)

/-- What a core leaves behind, apart from its own state. -/
theorem State.core_released (s : State) (b k : Nat) : Spares s ((s.freeArray b k).dropDescs b k) :=
  ((s.setArray_spares b _).ite (.refl s)).trans ((State.setDma_spares _ b _).trans (State.dmaBegin_spares _ b))

theorem State.stopCore_word (s : State) (b k : Nat) {a : Nat} (ha : sluiceWord a = true) : (s.stopCore b k).word a = s.word a :=
  (s.core_released b k).word a ha

theorem State.core_congr {s t : State} (h : t.bsn.cores = s.bsn.cores) (b k : Nat) : t.core b k = s.core b k := by
  unfold State.core
  rw [h]

/-- A core that is stopped, or runs nothing, runs nothing. -/
theorem State.stopCore_idle (s : State) (b k j : Nat) (h : j = k ∨ (s.core b j).inv = none) : ((s.stopCore b k).core b j).inv = none := by
  unfold State.stopCore State.setCore
  by_cases e : j = k
  · subst e
    unfold State.core
    rw [SMap.get_set_same]
    rfl
  · unfold State.core
    rw [SMap.get_set_ne _ _ _ (by omega)]
    exact (congrArg CoreSt.inv (State.core_congr (s.core_released b k).cores b j)).trans (h.resolve_left e)

theorem State.stopCores_idle (b : Nat) (l : List Nat) (s : State) {j : Nat} (h : j ∈ l ∨ (s.core b j).inv = none) :
    ((l.foldl (fun t k => t.stopCore b k) s).core b j).inv = none := by
  induction l generalizing s with
  | nil => exact h.resolve_left List.not_mem_nil
  | cons k l ih =>
    refine ih _ ?_
    rw [List.mem_cons, or_assoc] at h
    obtain h | h | h := h
    · exact .inr (s.stopCore_idle b k j (.inl h))
    · exact .inl h
    · exact .inr (s.stopCore_idle b k j (.inr h))

theorem State.stopCores_word (b : Nat) (l : List Nat) (s : State) {a : Nat} (ha : sluiceWord a = true) :
    (l.foldl (fun t k => t.stopCore b k) s).word a = s.word a :=
  List.foldlRecOn (motive := fun t : State => t.word a = s.word a) l _ rfl fun t ht k _ => (State.stopCore_word t b k ha).trans ht

/-! ### Staging cleared -/

theorem State.setIndex_spares (s : State) (c idx half : Nat) (y : IdxSt) : Spares s (s.setIndex c idx half y) := s.modCtx_spares c _

theorem State.dropSpills_spares (s : State) (b : Nat) : Spares s (s.dropSpills b) :=
  Spares.foldl _ s fun t x _ => Spares.foldl _ t fun u _ _ => u.setIndex_spares x.1 _ _ _

theorem State.dropSpills_touches (s : State) (b : Nat) : Touches [.ctxs, .arrived] s (s.dropSpills b) :=
  Touches.foldl _ s fun t x _ => Touches.foldl _ t fun u _ _ => u.setIndex_touches x.1 _ _ _

theorem State.clearStaging_spares (s : State) (b : Nat) : Spares s (s.clearStaging b) := by
  unfold State.clearStaging
  dsimp only
  refine Spares.trans ?_ (Spares.foldl _ _ fun t i _ => t.unref_spares i)
  exact .of_kept rfl rfl rfl

/-- No chunk is left on the path whose staging was cleared. -/
theorem State.clearStaging_path (s : State) (b : Nat) {i : BasinItem} (hi : i ∈ (s.clearStaging b).path b) (p j y x : Nat) :
    i ≠ .chunk p j y x := by
  rintro rfl
  unfold State.clearStaging at hi
  dsimp only at hi
  rw [State.path_congr ((Touches.foldl (ps := [.bar, .cis, .cells, .pkts, .ports]) _ _ fun t i _ => t.unref_touches i).part .path
    (by decide))] at hi
  have kept : ∀ (t : State) (finQ : SMap (List (Nat × Nat × Nat))) kernQ retired,
      ({ t with col := { t.col with finQ := finQ, kernQ := kernQ, retired := retired } } : State).path b = t.path b :=
    fun _ _ _ _ => rfl
  rw [kept, State.path_setPath] at hi
  exact absurd (List.mem_filter.1 hi).2 Bool.false_ne_true


/-! ### CTRL and STATUS -/

theorem sluiceWord_common {page o : Nat} (h : page < 4096) (ho : o = 0x10 ∨ o = 0x14) : sluiceWord (o + page * 0x1000) = true := by
  simp only [sluiceWord, Bool.and_eq_true, Bool.or_eq_true, decide_eq_true_eq, beq_iff_eq]
  omega

theorem pbaWord_of_sluiceWord {a : Nat} (h : sluiceWord a = true) : pbaWord a = false := by
  simp only [sluiceWord, Bool.and_eq_true, Bool.or_eq_true, decide_eq_true_eq, beq_iff_eq] at h
  simp only [pbaWord, Bool.and_eq_false_iff, decide_eq_false_iff_not]
  omega

theorem pbaWord_below {a : Nat} (h : a < 0xe08800) : pbaWord a = false := by
  have below : ¬ 0xe08800 ≤ a := by omega
  simp [pbaWord, below]

theorem State.on_congr {s t : State} {f : FRef} (h : t.word f.addr = s.word f.addr) : t.on f = s.on f := by
  unfold State.on
  rw [State.get_congr h]

theorem Closed.on {u t : State} (h : Closed u t) {f : FRef} (hf : pbaWord f.addr = false) : t.on f = u.on f :=
  State.on_congr (h.word _ hf)

section
variable (page : Nat)

theorem ctrlFreeze_ok : (F.COMMON_CTRL_FREEZE page).ok := ⟨Nat.le_refl 0, by simp [F.COMMON_CTRL_FREEZE]⟩
theorem statusFrozen_ok : (F.COMMON_STATUS_FROZEN page).ok := ⟨Nat.le_refl 31, Nat.lt_succ_self 31⟩
theorem statusDraining_ok : (F.COMMON_STATUS_DRAINING page).ok := ⟨Nat.le_refl 30, by simp [F.COMMON_STATUS_DRAINING]⟩

end

/-- Two fields that share no bits, given values in turn. -/
theorem State.on_puts_pair (s : State) {f g : FRef} {v w : Nat} (hf : f.ok) (hg : g.ok) (h : g.apart f) :
    (s.puts [(f, v), (g, w)]).on f = (v % 2 ^ f.width != 0) ∧ (s.puts [(f, v), (g, w)]).on g = (w % 2 ^ g.width != 0) := by
  have oks : ∀ x ∈ [(f, v), (g, w)], x.1.ok := by simp [hf, hg]
  have pair : [(f, v), (g, w)].Pairwise fun x y => y.1.apart x.1 := by simp [h]
  unfold State.on
  rw [s.get_puts_mem oks pair (f := f) (v := v) (by simp), s.get_puts_mem oks pair (f := g) (v := w) (by simp)]
  exact ⟨rfl, rfl⟩

/-! ### FROZEN (R451) -/

/-- A block's page shows it FROZEN, and the health service's status shows the bit for it. -/
def State.FrozenBy (t : State) (page bit : Nat) : Prop := t.on (F.COMMON_STATUS_FROZEN page) = true
  ∧ t.on (F.COMMON_STATUS_DRAINING page) = false ∧ nbit (t.get F.HLTH_ISTAT_ISTAT) bit = 1

/-- A block becomes FROZEN, with its bit of the health service's status. -/
def State.frozen (s : State) (page bit : Nat) : State := (s.sluiceFrozen page).istat F.HLTH_ISTAT_ISTAT bit

theorem State.FrozenBy.congr {u t : State} {page bit : Nat} (h : u.FrozenBy page bit) (hp : page < 4096)
    (hw : ∀ a, pbaWord a = false → t.word a = u.word a) : t.FrozenBy page bit := by
  obtain ⟨frozen, draining, istat⟩ := h
  have status := hw _ (pbaWord_of_sluiceWord (sluiceWord_common hp (.inr rfl)))
  refine ⟨?_, ?_, ?_⟩
  · rw [State.on_congr (f := F.COMMON_STATUS_FROZEN page) status, frozen]
  · rw [State.on_congr (f := F.COMMON_STATUS_DRAINING page) status, draining]
  · rw [State.get_congr (f := F.HLTH_ISTAT_ISTAT) (hw _ rfl), istat]

theorem State.frozen_frozenBy (s : State) {page bit : Nat} (hp : page < 4096) (hb : bit < 11) : (s.frozen page bit).FrozenBy page bit := by
  obtain ⟨draining, frozen⟩ := State.on_puts_pair ({ s with hlth := { s.hlth with
    freezeAt := SMap.set (fun _ => 0) s.hlth.freezeAt page 0 } }) (f := F.COMMON_STATUS_DRAINING page)
    (g := F.COMMON_STATUS_FROZEN page) (v := 0) (w := 1) (statusDraining_ok page) (statusFrozen_ok page) (.inr (.inr (Nat.lt_succ_self 30)))
  have status := ((s.sluiceFrozen page).orBits_spares F.HLTH_ISTAT_ISTAT (2 ^ bit) rfl).word _ (sluiceWord_common hp (.inr rfl))
  refine ⟨?_, ?_, ?_⟩
  · exact (State.on_congr (f := F.COMMON_STATUS_FROZEN page) status).trans frozen
  · exact (State.on_congr (f := F.COMMON_STATUS_DRAINING page) status).trans draining
  · unfold State.frozen State.istat
    rw [State.get_orBits _ F.HLTH_ISTAT_ISTAT ⟨Nat.zero_le _, by simp [F.HLTH_ISTAT_ISTAT]⟩, Nat.lor_comm]
    refine (nbit_mod _ 11 hb).trans (nbit_or _ _ _ ?_)
    rw [nbit, Nat.div_self (Nat.two_pow_pos bit)]

/-- Words other than the block's STATUS and the health service's status are kept. -/
theorem State.word_frozen (s : State) (page bit : Nat) {a : Nat} (ha : a % 4096 ≠ 0x14) (hi : a ≠ 0xe0611c) :
    (s.frozen page bit).word a = s.word a := by
  have orBits : ∀ u : State, (u.orBits F.HLTH_ISTAT_ISTAT (2 ^ bit)).word a = u.word a := fun u => u.word_setWord_ne _ hi
  unfold State.frozen State.istat State.sluiceFrozen
  rw [orBits]
  refine State.word_puts_ne _ _ ?_
  simp only [List.forall_mem_cons, F.COMMON_STATUS_DRAINING, F.COMMON_STATUS_FROZEN]
  exact ⟨by omega, by omega, List.forall_mem_nil _⟩

theorem State.portState_frozen (s : State) (page bit : Nat) (p : PortIx) : (s.frozen page bit).portState p = s.portState p := by
  have hp := p.isLt
  exact State.get_congr (f := F.LANE_PORTSTAT_STATE p) (s.word_frozen page bit
    (by simp only [F.LANE_PORTSTAT_STATE]; omega) (by simp only [F.LANE_PORTSTAT_STATE]; omega))

theorem State.puts_cores (s : State) (l : List (FRef × Nat)) : (s.puts l).bsn.cores = s.bsn.cores :=
  List.foldlRecOn (motive := fun t : State => t.bsn.cores = s.bsn.cores) l _ rfl fun _ ht _ _ => ht

theorem State.frozen_cores (s : State) (page bit : Nat) : (s.frozen page bit).bsn.cores = s.bsn.cores :=
  ((s.sluiceFrozen page).orBits_spares F.HLTH_ISTAT_ISTAT (2 ^ bit) rfl).cores.trans (State.puts_cores _ _)

/-! ### Draining (R451) -/

/-- The flush of a Basin leaves each of its cores idle. -/
theorem State.flushBlock_idle (s : State) (n : Nat) {k : Nat} (hk : k < 24) : ((s.flushBlock (.basin n)).core n k).inv = none := by
  have flushed := State.stopCores_idle n (List.range 24) s (.inl (List.mem_range.2 hk))
  have kept : Spares ((List.range 24).foldl (fun t k => t.stopCore n k) s) (s.flushBlock (.basin n)) :=
    (State.setArray_spares _ n _).trans (State.dropSpills_spares _ n)
  rw [State.core_congr kept.cores]
  exact flushed

theorem State.blockOf_port {s : State} {page p : Nat} (h : s.blockOf page = some (.port p)) : p < 1024 := by
  unfold State.blockOf State.isPort at h
  split at h
  · split at h
    · next hp =>
      rw [← Block.port.inj (Option.some.inj h)]
      simp only [Bool.and_eq_true, decide_eq_true_eq] at hp
      exact hp.1
    · simp at h
  · split at h
    · simp at h
    · split at h
      · simp at h
      · split at h <;> simp at h

/-- A port's state is kept by a command's end. -/
theorem Closed.portState {u t : State} (h : Closed u t) (p : PortIx) : t.portState p = u.portState p := by
  have hp := p.isLt
  exact h.get (f := F.LANE_PORTSTAT_STATE p) (pbaWord_below (by simp only [F.LANE_PORTSTAT_STATE]; omega))

theorem Closed.portHeld {u t : State} (h : Closed u t) (p : Nat) : t.portHeld p = u.portHeld p := by
  unfold State.portHeld
  rw [h.cis]

theorem Closed.frozenBy {u t : State} (h : Closed u t) {page bit : Nat} (hp : page < 4096) (hu : u.FrozenBy page bit) :
    t.FrozenBy page bit := hu.congr hp h.word

/-- The flush of a block is logged and counted. -/
def State.flushReported (s : State) (page n : Nat) : State :=
  (s.logReport Ev.SLUICE_FLUSH 0xe06 0 page n).countMgmt Ev.SLUICE_FLUSH 1

theorem State.flushReported_spares (s : State) (page n : Nat) : Spares s (s.flushReported page n) :=
  (s.logReport_spares _ _ _ _ _).trans (State.countMgmt_spares _ 1 (by decide))

theorem State.flushReported_word (s : State) (page n a : Nat) : (s.flushReported page n).word a = s.word a :=
  State.word_congr (((s.logReport_touches _ _ _ _ _).trans (State.countMgmt_touches _ 1 (by decide))).part .bar (by decide)) a

/-- What the end of a block's drain leaves: a port leaves UP, and is FROZEN once its account is empty. -/
def State.drainEnded (s : State) (page : Nat) : Block → State
  | .port p => if (s.leaveUp p 8).portHeld p ≠ 0 then s.leaveUp p 8 else (s.leaveUp p 8).frozen page 10
  | .plane k => (if k = 8 then s else s.holdUnlit).frozen page 10
  | _ => s.frozen page 10

section
variable {s : State} {page : Nat} {b : Block} (hb : s.blockOf page = some b)
include hb

theorem State.sluiceDrained_stays (h : s.drained b = false) : s.sluiceDrained page = s := by
  unfold State.sluiceDrained
  rw [hb]
  dsimp only
  rw [if_pos (.inr (by rw [h]; rfl))]

theorem State.sluiceDrained_acts (hd : s.on (F.COMMON_STATUS_DRAINING page) = true) (h : s.drained b = true) :
    s.sluiceDrained page = s.drainEnded page b := by
  unfold State.sluiceDrained
  rw [hb]
  dsimp only
  rw [if_neg (by simp [hd, h])]
  cases b with
  | port p => simp only [bne_iff_ne, State.drainEnded]; rfl
  | basin n => rfl
  | stack j => rfl
  | plane k => rfl

theorem State.sluiceTimeout_acts (hd : s.on (F.COMMON_STATUS_DRAINING page) = true) {since : Nat}
    (hat : SMap.get (fun _ => 0) s.hlth.freezeAt page = since + 1)
    (h : s.passed since (msClocks (s.get F.HLTH_SLUICE_TIMEOUT_MS)) = true) : s.sluiceTimeout page
      = ((s.flushBlock b).frozen page 8).flushReported page (s.flushWork b) := by
  unfold State.sluiceTimeout
  rw [hb]
  dsimp only
  rw [if_neg (by simp [hd, hat, h])]
  rfl

end

/-- A block whose drain has ended is FROZEN, a port once it has left UP and its account is empty. -/
def State.AfterDrain (t : State) (page : Nat) : Block → Prop
  | .port p => t.portState p ≠ 5 ∧ (t.portHeld p = 0 → t.FrozenBy page 10)
  | _ => t.FrozenBy page 10

theorem sluiceDrained_waits (page : Fin 4096) (b : Block) (s : State) (hs : s.stopped = false) (hb : s.blockOf page = some b)
    (hd : s.on (F.COMMON_STATUS_DRAINING page) = true) (h : s.drained b = false) : Completes (.sluiceDrained page) s fun t =>
      t.hlth = s.hlth ∧ t.on (F.COMMON_STATUS_DRAINING page) = true
        ∧ t.on (F.COMMON_STATUS_FROZEN page) = s.on (F.COMMON_STATUS_FROZEN page) := by
  have status := pbaWord_of_sluiceWord (sluiceWord_common page.isLt (.inr rfl))
  refine completes_of_closed hs (congrArg (finish s) (State.sluiceDrained_stays hb h)) fun t ht => ⟨ht.hlth, ?_, ?_⟩
  · exact (ht.on (f := F.COMMON_STATUS_DRAINING page) status).trans hd
  · exact ht.on (f := F.COMMON_STATUS_FROZEN page) status

theorem sluiceDrained_freezes (page : Fin 4096) (b : Block) (s : State) (hs : s.stopped = false) (hb : s.blockOf page = some b)
    (hd : s.on (F.COMMON_STATUS_DRAINING page) = true) (h : s.drained b = true) :
    Completes (.sluiceDrained page) s fun t => t.AfterDrain page b := by
  have effect := congrArg (finish s) (State.sluiceDrained_acts hb hd h)
  have frozen : ∀ u t : State, Closed (u.frozen page 10) t → t.FrozenBy page 10 := fun u t ht =>
    ht.frozenBy page.isLt (u.frozen_frozenBy page.isLt (by decide))
  cases b with
  | port p =>
    let q : PortIx := ⟨p, State.blockOf_port hb⟩
    have left : (s.leaveUp p 8).portState p ≠ 5 := s.leaveUp_notUp q 8
    unfold State.drainEnded at effect
    dsimp only at effect
    split at effect
    · next held =>
      refine completes_of_closed hs effect fun t ht => ⟨?_, fun empty => ?_⟩
      · rw [ht.portState q]
        exact left
      · exact absurd ((ht.portHeld p).symm.trans empty) held
    · refine completes_of_closed hs effect fun t ht => ⟨?_, fun _ => frozen _ t ht⟩
      rw [ht.portState q, State.portState_frozen _ _ _ q]
      exact left
  | basin n => exact completes_of_closed hs effect (frozen _)
  | stack j => exact completes_of_closed hs effect (frozen _)
  | plane k => exact completes_of_closed hs effect (frozen _)

theorem sluiceTimeout_freezes (page : Fin 4096) (b : Block) (s : State) (hs : s.stopped = false) (hb : s.blockOf page = some b)
    (hd : s.on (F.COMMON_STATUS_DRAINING page) = true) (since : Nat)
    (hat : SMap.get (fun _ => 0) s.hlth.freezeAt page = since + 1)
    (h : s.passed since (msClocks (s.get F.HLTH_SLUICE_TIMEOUT_MS)) = true) : Completes (.sluiceTimeout page) s fun t =>
      t.FrozenBy page 8 ∧ (∀ p, b = .port p → t.portState p ≠ 5)
        ∧ ∀ n, b = .basin n → ∀ k, k < 24 → (t.core n k).inv = none := by
  refine completes_of_closed hs (congrArg (finish s) (State.sluiceTimeout_acts hb hd hat h)) fun t ht => ⟨?_, ?_, ?_⟩
  · exact ht.frozenBy page.isLt ((State.frozen_frozenBy _ page.isLt (by decide)).congr page.isLt fun a _ =>
      State.flushReported_word _ page _ a)
  · rintro p rfl
    let q : PortIx := ⟨p, State.blockOf_port hb⟩
    rw [ht.portState q, State.portState, State.get_congr (State.flushReported_word _ page _ _)]
    exact ((State.portState_frozen _ _ _ q).trans_ne (State.leaveUp_notUp _ q 8))
  · rintro n rfl k hk
    have cores := (congrArg BsnSt.cores ht.bsn).trans (State.flushReported_spares _ page _).cores
    rw [State.core_congr cores]
    exact (congrArg CoreSt.inv (State.core_congr (State.frozen_cores _ page 8) n k)).trans (s.flushBlock_idle n hk)


/-! ### A write of CTRL (R451, R452) -/

/-- The address of a page's CTRL. -/
def ctrlAt (page : Nat) : Nat := page * 4096 + 0x10

theorem ctrlAt_addr (page : Nat) : (F.COMMON_CTRL_FREEZE page).addr = ctrlAt page := Nat.add_comm _ _

/-- On a page of the layout, CTRL holds FREEZE and nothing else. -/
theorem fldsAt_ctrl {page : Nat} (hp : page < 4096) (h : (pageDef page).isSome = true) :
    fldsAt (ctrlAt page) = [⟨31, 1, .rsv, 0, [], false⟩, ⟨0, 0, .rw, 0, [], false⟩] := by
  obtain ⟨d, hd⟩ := Option.isSome_iff_exists.1 h
  have limit : ctrlAt page < pageLimit := by unfold ctrlAt pageLimit; omega
  have index : ctrlAt page / 4096 = page := by unfold ctrlAt; omega
  have offset : ctrlAt page % 4096 = 0x10 := by unfold ctrlAt; omega
  have cap : ctrlAt page ≠ 8 := by omega
  unfold fldsAt regAt
  rw [if_pos limit, index, hd]
  dsimp only
  rw [if_neg cap, offset]
  rfl

/-- A whole word written to CTRL gives FREEZE its lowest bit. -/
theorem mergeWord_ctrl (now old v : Nat) (hold : old < 2 ^ 32) (hv : v < 2) :
    mergeWord now [⟨31, 1, .rsv, 0, [], false⟩, ⟨0, 0, .rw, 0, [], false⟩] old v (byteMask 15) = v := by
  have word : v < 2 ^ 32 := by omega
  simp only [mergeWord, List.foldl_cons, List.foldl_nil, mergeFld, and_byteMask hold, and_byteMask word, nfield]
  omega

theorem evselAt_ctrl (page : Nat) : evselAt (ctrlAt page) = none := by
  unfold evselAt
  rw [if_neg]
  unfold ctrlAt
  omega

theorem not_wrap_ctrl (page : Nat) : ¬ (ctrlAt page < pageLimit ∧ ctrlAt page % 4096 = 0xe0) := by
  unfold ctrlAt
  omega

theorem State.heldWord_ctrl (s : State) (page : Nat) : s.heldWord (ctrlAt page) = (s.word (ctrlAt page)).toNat := by
  unfold State.heldWord
  rw [evselAt_ctrl page]
  exact if_neg (not_wrap_ctrl page)

theorem State.mergeAt_ctrl (s : State) {page v : Nat} (hp : page < 4096) (hdef : (pageDef page).isSome = true) (hv : v < 2) :
    s.mergeAt (ctrlAt page) v 15 = s.setWord (ctrlAt page) (BitVec.ofNat 32 v) := by
  unfold State.mergeAt State.holdWord
  rw [evselAt_ctrl page, fldsAt_ctrl hp hdef, s.heldWord_ctrl page, mergeWord_ctrl _ _ v (s.word (ctrlAt page)).isLt hv]
  exact if_neg (not_wrap_ctrl page)

/-- A page whose CTRL takes a write is one of the layout. -/
theorem State.accepts_page {s : State} {g page v : Nat} (hp : page < 4096) (h : s.accepts g (ctrlAt page) v) :
    (pageDef page).isSome = true := by
  obtain ⟨-, code⟩ := h
  have aligned : ctrlAt page / 4 * 4 = ctrlAt page := by unfold ctrlAt; omega
  have limit : ctrlAt page < pageLimit := by unfold ctrlAt pageLimit; omega
  have index : ctrlAt page / 4096 = page := by unfold ctrlAt; omega
  by_contra missing
  have place : placeAt (ctrlAt page) = .unmapped := by
    unfold placeAt
    rw [if_pos limit, index]
    simp [missing]
  unfold State.busCode at code
  dsimp only at code
  rw [aligned, place] at code
  exact absurd (show Rej.UNMAPPED = 0 from code) (by decide)

theorem State.on_ctrl (s : State) (page : Nat) {v : Nat} (hv : v < 2) :
    (s.setWord (ctrlAt page) (BitVec.ofNat 32 v)).on (F.COMMON_CTRL_FREEZE page) = (v == 1) := by
  unfold State.on State.get
  rw [ctrlAt_addr, State.word_setWord_same]
  have : v = 0 ∨ v = 1 := by omega
  obtain rfl | rfl := this <;> simp [F.COMMON_CTRL_FREEZE, FRef.ofWord, FRef.width]

/-- CTRL written and then as it was. -/
def State.ctrlKept (s : State) (page : Nat) (w : Word) : State := (s.setWord (ctrlAt page) w).setWord (ctrlAt page) (s.word (ctrlAt page))

theorem State.word_ctrlKept (s : State) (page : Nat) (w : Word) (a : Nat) : (s.ctrlKept page w).word a = s.word a := by
  unfold State.ctrlKept
  by_cases e : a = ctrlAt page
  · rw [e, State.word_setWord_same]
  · rw [State.word_setWord_ne _ _ e, State.word_setWord_ne _ _ e]

theorem State.blockOf_congr {s t : State} (h : ∀ a, t.word a = s.word a) (page : Nat) : t.blockOf page = s.blockOf page := by
  have get : ∀ f, t.get f = s.get f := fun f => State.get_congr (h _)
  unfold State.blockOf State.isPort
  simp only [get]

/-- A write of FREEZE that is accepted passes the check of R452, and freezes, unfreezes or leaves the block. -/
theorem State.hostWrite_ctrl {s : State} {g page v : Nat} (hp : page < 4096) (hv : v < 2) (h : s.accepts g (ctrlAt page) v) :
    s.freezeCheck page (v == 1) = 0
      ∧ s.hostWrite g (ctrlAt page) v = (s.ctrlKept page (BitVec.ofNat 32 v)).freezeWrite page (v == 1) := by
  have limit : ctrlAt page < pageLimit := by unfold ctrlAt pageLimit; omega
  have index : ctrlAt page / 4096 = page := by unfold ctrlAt; omega
  have offset : ctrlAt page % 4096 = 0x10 := by unfold ctrlAt; omega
  have reset : ctrlAt page ≠ 0x160 := by unfold ctrlAt; omega
  have merged := s.mergeAt_ctrl hp (State.accepts_page hp h) hv
  have freeze := s.on_ctrl page hv
  constructor
  · have own := State.accepts_ownCheck h
    rw [merged] at own
    unfold State.ownCheck State.pageCheck at own
    rw [if_pos limit] at own
    dsimp only at own
    rwa [index, offset, if_pos rfl, freeze] at own
  · rw [State.hostWrite_accepted h]
    unfold State.busAccept
    dsimp only
    rw [if_neg reset, merged]
    unfold State.act State.pageAct
    rw [if_pos limit]
    dsimp only
    rw [index, offset, if_pos rfl, freeze]
    rfl

/-! ### FREEZE written 1 -/

/-- Writes of registers leave what the part records of itself and the collectives. -/
theorem State.puts_obs_col (s : State) (l : List (FRef × Nat)) : (s.puts l).obs = s.obs ∧ (s.puts l).col = s.col :=
  List.foldlRecOn (motive := fun t : State => t.obs = s.obs ∧ t.col = s.col) l _ ⟨rfl, rfl⟩ fun _ ht _ _ => ht

/-- When a page's FREEZE was written. -/
def State.freezeNoted (s : State) (page n : Nat) : State :=
  { s with hlth := { s.hlth with freezeAt := SMap.set (fun _ => 0) s.hlth.freezeAt page n } }

theorem State.freezeNoted_bar (s : State) (page n : Nat) : (s.freezeNoted page n).bar = s.bar := rfl
theorem State.freezeNoted_obs_col (s : State) (page n : Nat) : (s.freezeNoted page n).obs = s.obs ∧ (s.freezeNoted page n).col = s.col :=
  ⟨rfl, rfl⟩

/-- FREEZE and DRAINING are set, and when. -/
def State.sluiceMarked (s : State) (page : Nat) : State :=
  (s.puts [(F.COMMON_CTRL_FREEZE page, 1), (F.COMMON_STATUS_DRAINING page, 1)]).freezeNoted page (s.now + 1)

theorem State.sluiceMarked_bar (s : State) (page : Nat) : (s.sluiceMarked page).bar
    = (s.puts [(F.COMMON_CTRL_FREEZE page, 1), (F.COMMON_STATUS_DRAINING page, 1)]).bar := by
  unfold State.sluiceMarked
  rw [State.freezeNoted_bar]

theorem State.sluiceMarked_obs_col (s : State) (page : Nat) : (s.sluiceMarked page).obs = s.obs ∧ (s.sluiceMarked page).col = s.col := by
  unfold State.sluiceMarked
  rw [(State.freezeNoted_obs_col _ page _).1, (State.freezeNoted_obs_col _ page _).2]
  exact s.puts_obs_col _

theorem State.freezeBlock_spares (s : State) (b : Block) : Spares s (s.freezeBlock b) := by
  cases b with
  | port p => exact (s.refreshPort_spares p).trans (State.failAttempt_spares _ p 8)
  | basin n => exact Spares.foldl _ s fun t c _ => t.closeCtx_spares c _
  | stack j => exact Spares.foldl _ s fun t i _ => t.freezeArb_spares i true
  | plane k => exact .refl s

theorem State.freezeBlock_port (s : State) (p : PortIx) (h : s.portState p ≠ 5) : (s.freezeBlock (.port p)).portState p ≠ 5 :=
  State.failAttempt_notUp _ p 8 (by rwa [State.portState_congr ((s.refreshPort_touches p).part .portStat (by decide))])

theorem State.freezeBlock_basin (s : State) (n : Nat) {c : Nat} (h : c ∈ s.ctxsOn n) : ((s.freezeBlock (.basin n)).ctx c).phase ≠ 2 :=
  State.closeCtxs_notOpen (some stAborted) _ s (.inl h)

theorem State.freezeBlock_stack (s : State) (j : Nat) {i : Nat} (h : i < 32) :
    (s.freezeBlock (.stack j)).on (F.ARB_CTRL_FREEZE (16 * i + j)) = true := State.on_freezeArbs true _ s (.inl (mem_stackChans j h))

/-- A block begins to drain, which is counted. -/
def State.drainBegun (s : State) (page : Nat) : State := (s.sluiceMarked page).countMgmt Ev.SLUICE_FREEZE 1

theorem State.sluiceFreeze_eq {s : State} {page : Nat} {b : Block} (hb : s.blockOf page = some b) :
    s.sluiceFreeze page = (s.drainBegun page).freezeBlock b := by
  unfold State.sluiceFreeze
  rw [hb]
  rfl

theorem State.drainBegun_word (s : State) (page a : Nat) : (s.drainBegun page).word a
    = (s.puts [(F.COMMON_CTRL_FREEZE page, 1), (F.COMMON_STATUS_DRAINING page, 1)]).word a := by
  have counted := (State.countMgmt_touches (s.sluiceMarked page) (ev := Ev.SLUICE_FREEZE) 1 (by decide)).part .bar (by decide)
  exact (State.word_congr counted a).trans (State.word_congr (s.sluiceMarked_bar page) a)

theorem State.drainBegun_on (s : State) (page : Nat) : (s.drainBegun page).on (F.COMMON_CTRL_FREEZE page) = true
    ∧ (s.drainBegun page).on (F.COMMON_STATUS_DRAINING page) = true := by
  rw [State.on_congr (s.drainBegun_word page _), State.on_congr (s.drainBegun_word page _)]
  exact s.on_puts_pair (ctrlFreeze_ok page) (statusDraining_ok page) (.inl (by simp [F.COMMON_STATUS_DRAINING, F.COMMON_CTRL_FREEZE]))

/-- Words other than CTRL and STATUS are kept where a block begins to drain. -/
theorem State.drainBegun_other (s : State) {page a : Nat} (h : sluiceWord a = false) (hp : page < 4096) :
    (s.drainBegun page).word a = s.word a := by
  have other : ∀ o, o = 0x10 ∨ o = 0x14 → o + page * 0x1000 ≠ a := fun o ho e => by
    rw [← e, sluiceWord_common hp ho] at h
    cases h
  rw [s.drainBegun_word]
  refine State.word_puts_ne s _ ?_
  simp only [List.forall_mem_cons]
  exact ⟨other 0x10 (.inl rfl), other 0x14 (.inr rfl), List.forall_mem_nil _⟩

theorem State.drainBegun_ctxs (s : State) (page : Nat) : (s.drainBegun page).col.ctxs = s.col.ctxs := by
  have counted := (State.countMgmt_touches (s.sluiceMarked page) (ev := Ev.SLUICE_FREEZE) 1 (by decide)).part .ctxs (by decide)
  exact Eq.trans counted (congrArg ColSt.ctxs (s.sluiceMarked_obs_col page).2)

theorem State.drainBegun_counted {s t : State} {page : Nat} (hw : SMap.wf (fun _ => 0) s.obs.sel = true)
    (ht : Uncounted Ev.SLUICE_FREEZE (s.drainBegun page) t) :
    Counted s t (fun q => decide (0xe00 ≤ q) && decide (q < 0xe10)) Ev.SLUICE_FREEZE 1 := by
  have obs := (s.sluiceMarked_obs_col page).1
  exact counted_once (u := s.sluiceMarked page) (wider := fun p => decide (0xe00 ≤ p) && decide (p < 0xe00 + 16)) hw
    (.of_obs obs) ⟨congrArg ObsSt.sel obs, fun k => by rw [obs]⟩ (fun _ h => h) ht

theorem pbaWord_ctrl {page : Nat} (hp : page < 4096) : pbaWord (F.COMMON_CTRL_FREEZE page).addr = false :=
  pbaWord_of_sluiceWord (sluiceWord_common hp (.inl rfl))

theorem State.ctrlKept_obs (s : State) (page : Nat) (w : Word) : (s.ctrlKept page w).obs = s.obs := rfl
theorem State.ctrlKept_ctxs (s : State) (page : Nat) (w : Word) : (s.ctrlKept page w).col.ctxs = s.col.ctxs := rfl

/-- An accepted FREEZE on a block in service names one, and that block begins to drain. -/
theorem sluiceFreeze_effect (g : Agent) (page : Fin 4096) {s : State} (hs : s.stopped = false) (hacc : s.accepts g (ctrlAt page) 1)
    (hoff : s.on (F.COMMON_CTRL_FREEZE page) = false) : ∃ b, s.blockOf page = some b
      ∧ exec (.sluiceFreeze g page) s = finish s (((s.ctrlKept page 1#32).drainBegun page).freezeBlock b) := by
  obtain ⟨check, write⟩ := State.hostWrite_ctrl page.isLt (by decide) hacc
  have uword := s.word_ctrlKept page 1#32
  unfold State.freezeCheck at check
  rw [hoff, if_neg (by decide), if_pos (by decide)] at check
  cases hb : s.blockOf page with
  | none =>
    rw [hb] at check
    cases check
  | some b =>
    refine ⟨b, rfl, (finishSpc_running hs _).trans (congrArg (finish s) (write.trans ?_))⟩
    have off : (s.ctrlKept page 1#32).on (F.COMMON_CTRL_FREEZE page) = false := (State.on_congr (uword _)).trans hoff
    unfold State.freezeWrite
    rw [off, if_neg (by decide), if_pos (by decide)]
    exact State.sluiceFreeze_eq ((State.blockOf_congr uword page).trans hb)

/-- From `s` to `m` the block of a page began to drain, which is counted; other words, and contexts, are as they were. -/
structure BeginsDrain (page : Nat) (s m : State) : Prop where
  freeze : m.on (F.COMMON_CTRL_FREEZE page) = true
  draining : m.on (F.COMMON_STATUS_DRAINING page) = true
  kept : ∀ a, sluiceWord a = false → m.word a = s.word a
  ctxs : m.col.ctxs = s.col.ctxs
  counted : ∀ t, SMap.wf (fun _ => 0) s.obs.sel = true → Uncounted Ev.SLUICE_FREEZE m t →
    Counted s t (fun q => decide (0xe00 ≤ q) && decide (q < 0xe10)) Ev.SLUICE_FREEZE 1

theorem State.ctrlKept_begins (s : State) {page : Nat} (hp : page < 4096) (w : Word) :
    BeginsDrain page s ((s.ctrlKept page w).drainBegun page) where
  freeze := (State.drainBegun_on _ page).1
  draining := (State.drainBegun_on _ page).2
  kept a ha := (State.drainBegun_other _ ha hp).trans (s.word_ctrlKept page w a)
  ctxs := (State.drainBegun_ctxs _ page).trans (s.ctrlKept_ctxs page w)
  counted t hw ht := by
    have obs := s.ctrlKept_obs page w
    have once := State.drainBegun_counted (by rwa [obs]) ht
    unfold Counted at once ⊢
    rwa [obs] at once

namespace BeginsDrain

variable {page : Nat} {s m t : State} (h : BeginsDrain page s m)
include h

theorem portState (p : PortIx) : m.portState p = s.portState p :=
  State.get_congr (f := F.LANE_PORTSTAT_STATE p) (h.kept _ (sluiceWord_page (by simp only [F.LANE_PORTSTAT_STATE]; omega)))

theorem ctxsOn (n : Nat) : m.ctxsOn n = s.ctxsOn n := State.ctxsOn_congr h.ctxs (fun a ha => h.kept a (sluiceWord_window (by omega))) n

/-- What the block does at once leaves both bits. -/
theorem on_freezeBlock {b : Block} (hp : page < 4096) (ht : Closed (m.freezeBlock b) t) :
    t.on (F.COMMON_CTRL_FREEZE page) = true ∧ t.on (F.COMMON_STATUS_DRAINING page) = true := by
  have spared := m.freezeBlock_spares b
  have status := sluiceWord_common hp (.inr rfl)
  rw [ht.on (pbaWord_ctrl hp), State.on_congr (spared.word _ (sluiceWord_common hp (.inl rfl))), h.freeze,
    ht.on (f := F.COMMON_STATUS_DRAINING page) (pbaWord_of_sluiceWord status),
    State.on_congr (f := F.COMMON_STATUS_DRAINING page) (spared.word _ status), h.draining]
  exact ⟨rfl, rfl⟩

end BeginsDrain

theorem pbaWord_arb (i : Nat) : pbaWord (F.ARB_CTRL_FREEZE i).addr = false :=
  pbaWord_table (by simp only [F.ARB_CTRL_FREEZE]; omega)

theorem sluiceFreeze_drains (g : Agent) (page : Fin 4096) (s : State) (hs : s.stopped = false) (hacc : s.accepts g (ctrlAt page) 1)
    (hoff : s.on (F.COMMON_CTRL_FREEZE page) = false) : ∃ b, s.blockOf page = some b ∧ Completes (.sluiceFreeze g page) s fun t =>
      t.on (F.COMMON_CTRL_FREEZE page) = true ∧ t.on (F.COMMON_STATUS_DRAINING page) = true
      ∧ (SMap.wf (fun _ => 0) s.obs.sel = true → Counted s t (fun q => decide (0xe00 ≤ q) && decide (q < 0xe10)) Ev.SLUICE_FREEZE 1)
      ∧ (∀ p, b = .port p → s.portState p ≠ 5 → t.portState p ≠ 5)
      ∧ (∀ n, b = .basin n → ∀ c ∈ s.ctxsOn n, (t.ctx c).phase ≠ 2)
      ∧ (∀ j, b = .stack j → ∀ i, i < 32 → t.on (F.ARB_CTRL_FREEZE (16 * i + j)) = true) := by
  obtain ⟨b, hb, effect⟩ := sluiceFreeze_effect g page hs hacc hoff
  have begun := s.ctrlKept_begins page.isLt 1#32
  refine ⟨b, hb, completes_of_closed hs effect fun t ht => ?_⟩
  obtain ⟨freeze, draining⟩ := begun.on_freezeBlock page.isLt ht
  refine ⟨freeze, draining, fun hw => ?_, ?_, ?_, ?_⟩
  · exact begun.counted t hw ((State.freezeBlock_spares _ b).count.trans (ht.cnt Ev.SLUICE_FREEZE (by decide)))
  · rintro p rfl up
    let q : PortIx := ⟨p, State.blockOf_port hb⟩
    rw [ht.portState q]
    exact State.freezeBlock_port _ q (by rwa [begun.portState q])
  · rintro n rfl c hc
    rw [State.ctx_congr (congrArg ColSt.ctxs ht.col)]
    exact State.freezeBlock_basin _ n (by rwa [begun.ctxsOn])
  · rintro j rfl i hi
    rw [ht.on (pbaWord_arb _)]
    exact State.freezeBlock_stack _ j hi

theorem sluiceFreeze_stays (g : Agent) (page : Fin 4096) (s : State) (hs : s.stopped = false) (hacc : s.accepts g (ctrlAt page) 1)
    (hon : s.on (F.COMMON_CTRL_FREEZE page) = true) : Completes (.sluiceFreeze g page) s fun t =>
      t.on (F.COMMON_CTRL_FREEZE page) = true ∧ t.on (F.COMMON_STATUS_DRAINING page) = s.on (F.COMMON_STATUS_DRAINING page)
        ∧ t.on (F.COMMON_STATUS_FROZEN page) = s.on (F.COMMON_STATUS_FROZEN page) ∧ t.hlth = s.hlth := by
  have hp := page.isLt
  have write := (State.hostWrite_ctrl hp (by decide) hacc).2
  let u := s.ctrlKept page (BitVec.ofNat 32 1)
  have uword : ∀ a, u.word a = s.word a := s.word_ctrlKept page _
  have effect : exec (.sluiceFreeze g page) s = finish s u := by
    refine (finishSpc_running hs _).trans (congrArg (finish s) (write.trans (if_pos ?_)))
    rw [State.on_congr (uword _), hon]
    rfl
  have status := pbaWord_of_sluiceWord (sluiceWord_common hp (.inr rfl))
  refine completes_of_closed hs effect fun t ht => ⟨?_, ?_, ?_, ht.hlth⟩
  · rw [ht.on (pbaWord_ctrl hp), State.on_congr (uword _), hon]
  · rw [ht.on (f := F.COMMON_STATUS_DRAINING page) status, State.on_congr (uword _)]
  · rw [ht.on (f := F.COMMON_STATUS_FROZEN page) status, State.on_congr (uword _)]

/-! ### FREEZE written 0 -/

/-- FREEZE and FROZEN are cleared. -/
def State.sluiceReturned (s : State) (page : Nat) : State := s.puts [(F.COMMON_CTRL_FREEZE page, 0), (F.COMMON_STATUS_FROZEN page, 0)]

theorem State.sluiceUnfreeze_basin {s : State} {page n : Nat} (h : s.blockOf page = some (.basin n)) :
    s.sluiceUnfreeze page = (s.sluiceReturned page).basinReset n := by
  unfold State.sluiceUnfreeze
  rw [h]
  rfl

theorem State.sluiceUnfreeze_stack {s : State} {page j : Nat} (h : s.blockOf page = some (.stack j)) :
    s.sluiceUnfreeze page = (stackChans j).foldl (fun t i => t.freezeArb i false) (s.sluiceReturned page) := by
  unfold State.sluiceUnfreeze
  rw [h]
  rfl

/-- What a Basin's reset leaves once its cores have stopped. -/
theorem State.basinReset_spares (s : State) (n : Nat) :
    Spares ((List.range 24).foldl (fun t k => t.stopCore n k) s) (s.basinReset n) :=
  (State.clearStaging_spares _ n).trans (State.dropSpills_spares _ n)

theorem State.basinReset_idle (s : State) (n : Nat) {k : Nat} (hk : k < 24) : ((s.basinReset n).core n k).inv = none := by
  rw [State.core_congr (s.basinReset_spares n).cores]
  exact State.stopCores_idle n _ s (.inl (List.mem_range.2 hk))

theorem State.basinReset_path (s : State) (n : Nat) {i : BasinItem} (hi : i ∈ (s.basinReset n).path n) (p j y x : Nat) :
    i ≠ .chunk p j y x := by
  unfold State.basinReset at hi
  dsimp only at hi
  rw [State.path_congr ((State.dropSpills_touches _ n).part .path (by decide))] at hi
  exact State.clearStaging_path _ n hi p j y x

/-- No return to service changes CTRL or STATUS beyond the two bits. -/
theorem State.sluiceUnfreeze_word (s : State) (page : Nat) {a : Nat} (ha : sluiceWord a = true) :
    (s.sluiceUnfreeze page).word a = (s.sluiceReturned page).word a := by
  cases h : s.blockOf page with
  | none => unfold State.sluiceUnfreeze; rw [h]; rfl
  | some b =>
    cases b with
    | port p =>
      unfold State.sluiceUnfreeze
      rw [h]
      have since : Spares (s.sluiceReturned page) (if (s.sluiceReturned page).portState p = 1
          then (s.sluiceReturned page).modPort p fun x => { x with since := s.now } else s.sluiceReturned page) :=
        (State.modPort_spares _ p _).ite (.refl _)
      exact (since.trans (State.refreshPort_spares _ p)).word a ha
    | basin n =>
      rw [State.sluiceUnfreeze_basin h, (State.basinReset_spares _ n).word a ha, State.stopCores_word n _ _ ha]
    | stack j =>
      rw [State.sluiceUnfreeze_stack h]
      exact (Spares.foldl _ _ fun t i _ => t.freezeArb_spares i false).word a ha
    | plane k => unfold State.sluiceUnfreeze; rw [h]; rfl

theorem sluiceUnfreeze_returns (g : Agent) (page : Fin 4096) (s : State) (hs : s.stopped = false) (hacc : s.accepts g (ctrlAt page) 0)
    (hon : s.on (F.COMMON_CTRL_FREEZE page) = true) : s.on (F.COMMON_STATUS_DRAINING page) = false
      ∧ Completes (.sluiceUnfreeze g page) s fun t =>
        t.on (F.COMMON_CTRL_FREEZE page) = false ∧ t.on (F.COMMON_STATUS_FROZEN page) = false
        ∧ (∀ n, s.blockOf page = some (.basin n) → (∀ k, k < 24 → (t.core n k).inv = none)
          ∧ ∀ i ∈ t.path n, ∀ p j y x, i ≠ .chunk p j y x)
        ∧ ∀ j, s.blockOf page = some (.stack j) → ∀ i, i < 32 → t.on (F.ARB_CTRL_FREEZE (16 * i + j)) = false := by
  have hp := page.isLt
  obtain ⟨check, write⟩ := State.hostWrite_ctrl hp (by decide) hacc
  let u := s.ctrlKept page (BitVec.ofNat 32 0)
  have uword : ∀ a, u.word a = s.word a := s.word_ctrlKept page _
  have ublock := State.blockOf_congr uword page
  have effect : exec (.sluiceUnfreeze g page) s = finish s (u.sluiceUnfreeze page) := by
    refine (finishSpc_running hs _).trans (congrArg (finish s) (write.trans ?_))
    have on : u.on (F.COMMON_CTRL_FREEZE page) = true := (State.on_congr (uword _)).trans hon
    unfold State.freezeWrite
    rw [on, if_neg (by decide), if_neg (by decide)]
  obtain ⟨freeze, frozen⟩ := u.on_puts_pair (v := 0) (w := 0) (ctrlFreeze_ok page) (statusFrozen_ok page)
    (.inl (by simp [F.COMMON_STATUS_FROZEN, F.COMMON_CTRL_FREEZE]))
  constructor
  · unfold State.freezeCheck at check
    rw [hon, if_neg (by decide), if_neg (by decide)] at check
    split at check
    · cases check
    · next h => exact Bool.not_eq_true _ ▸ h
  · refine completes_of_closed hs effect fun t ht => ⟨?_, ?_, fun n hn => ⟨fun k hk => ?_, fun i hi => ?_⟩, fun j hj i hi => ?_⟩
    · rw [ht.on (pbaWord_ctrl hp), State.on_congr (u.sluiceUnfreeze_word page (sluiceWord_common hp (.inl rfl)))]
      exact freeze
    · have status := sluiceWord_common hp (.inr rfl)
      rw [ht.on (f := F.COMMON_STATUS_FROZEN page) (pbaWord_of_sluiceWord status),
        State.on_congr (f := F.COMMON_STATUS_FROZEN page) (u.sluiceUnfreeze_word page status)]
      exact frozen
    · rw [State.sluiceUnfreeze_basin (ublock.trans hn)] at ht
      rw [State.core_congr (congrArg BsnSt.cores ht.bsn)]
      exact State.basinReset_idle _ n hk
    · rw [State.sluiceUnfreeze_basin (ublock.trans hn)] at ht
      rw [State.path_congr (congrArg ColSt.path ht.col)] at hi
      exact State.basinReset_path _ n hi
    · rw [State.sluiceUnfreeze_stack (ublock.trans hj)] at ht
      rw [ht.on (pbaWord_arb _)]
      exact State.on_freezeArbs false _ _ (.inl (mem_stackChans j hi))

/-- Settles O53: a write of CTRL is read through its check and what it starts (`State.hostWrite_ctrl`), and nothing that a block
does when it freezes or returns writes CTRL or STATUS (`Spares`). -/
theorem theSluiceFreezesDrainsAndReturns : Obligations.TheSluiceFreezesDrainsAndReturns :=
  ⟨fun g page s hs hacc => ⟨sluiceFreeze_drains g page s hs hacc, sluiceFreeze_stays g page s hs hacc⟩,
    fun page b s hs hb hd => ⟨sluiceDrained_waits page b s hs hb hd,
      fun h => (sluiceDrained_freezes page b s hs hb hd h).mono fun t ht => by cases b <;> exact ht,
      sluiceTimeout_freezes page b s hs hb hd⟩,
    fun g page s hs hacc hon => sluiceUnfreeze_returns g page s hs hacc hon⟩

end Sys2Proof.Machine

namespace Sys2Proof.Machine

/-! ### Commands of a queue: rejected, or applied (R190)

Each command is rejected with a code and changes nothing, or is applied, with code 0. What it then leaves is said once for each. -/

/-- A command is rejected, or applied with an OUT and a state as `P` says. -/
def CmdOut.Does (s : State) (r : CmdOut) (P : Nat → State → Prop) : Prop :=
  (∃ code, code ≠ 0 ∧ r = .no s code) ∨ r.code = 0 ∧ P r.out r.st

namespace CmdOut

variable {s : State} {r : CmdOut} {P : Nat → State → Prop}

theorem Does.no {code : Nat} (hcode : code ≠ 0) : (CmdOut.no s code).Does s P := .inl ⟨code, hcode, rfl⟩

theorem Does.applied {out : Nat} {t : State} (h : P out t) : (CmdOut.mk 0 out t).Does s P := .inr ⟨rfl, h⟩

theorem Does.ite {c : Prop} [Decidable c] {r' : CmdOut} (h : c → r.Does s P) (h' : ¬ c → r'.Does s P) :
    (if c then r else r').Does s P := by
  split
  · exact h ‹_›
  · exact h' ‹_›

theorem Does.mono {Q : Nat → State → Prop} (h : r.Does s P) (hPQ : ∀ out t, P out t → Q out t) : r.Does s Q :=
  h.imp_right fun ⟨hc, hP⟩ => ⟨hc, hPQ _ _ hP⟩

/-- What is applied does what it does. -/
theorem Does.of_applied (h : r.Does s P) (hc : r.code = 0) : P r.out r.st := by
  obtain ⟨code, hcode, rfl⟩ | ⟨-, does⟩ := h
  · exact absurd hc hcode
  · exact does

/-- What is rejected changes nothing. -/
theorem Does.of_rejected (h : r.Does s P) (hc : r.code ≠ 0) : r.st = s := by
  obtain ⟨code, -, rfl⟩ | ⟨hc', -⟩ := h
  · rfl
  · exact absurd hc' hc

end CmdOut

/-- Words written in turn from an address on. -/
def State.writeWords (s : State) (a : Nat) (l : List Nat) : State :=
  l.zipIdx.foldl (fun t (x : Nat × Nat) => t.setWord (a + 4 * x.2) (BitVec.ofNat 32 x.1)) s

theorem State.word_writeWords (s : State) (a : Nat) {l : List Nat} {i v : Nat} (h : l[i]? = some v) :
    (s.writeWords a l).word (a + 4 * i) = BitVec.ofNat 32 v := by
  refine State.word_foldl_setWord (fun x : Nat × Nat => a + 4 * x.2) (fun x => BitVec.ofNat 32 x.1) _ s (fun x hx hk => ?_)
    (.inr ⟨(v, i), List.mk_mem_zipIdx_iff_getElem?.2 h, rfl⟩)
  have index : x.2 = i := by omega
  have value : l[x.2]? = some x.1 := List.mk_mem_zipIdx_iff_getElem?.1 hx
  rw [index, h] at value
  rw [Option.some.inj value]

/-! ### CTX_ALLOC, CTX_ABORT and MEMBER_FENCE -/

theorem State.fenceMember_touches (s : State) (c i : Nat) : Touches [.ctxs, .path] s (s.fenceMember c i) := by
  have noted : Touches [.ctxs, .path] s (s.modCtx c fun x => { x with fenced := i :: x.fenced }) :=
    (s.modCtx_keeps c _ ⟨rfl, rfl, rfl, fun _ _ => rfl⟩).mono (by decide)
  exact (Touches.refl s).ite ((noted.step (State.markAll_touches _ _ _) (by decide)).ite noted)

/-- A fence leaves every context in its phase. -/
theorem State.phase_fenceMember (s : State) (c i d : Nat) : ((s.fenceMember c i).ctx d).phase = (s.ctx d).phase := by
  have noted : ((s.modCtx c fun x => { x with fenced := i :: x.fenced }).ctx d).phase = (s.ctx d).phase := by
    by_cases e : d = c
    · rw [e, s.ctx_modCtx]
    · rw [s.ctx_modCtx_ne _ e]
  unfold State.fenceMember
  split
  · rfl
  · dsimp only
    split
    · rw [State.ctx_congr ((State.markAll_touches _ c _).part .ctxs (by decide)) d, noted]
    · exact noted

/-- The last steps of an opening: the phase and the times shown, and the members fenced that were so before. -/
theorem State.openCtx_ends (s : State) (m c : Nat) (p : Params) (slots : List (Nat × Nat)) (blocks : Nat) :
    ∃ (u : State) (l : List (FRef × Nat)), s.openCtx m c p slots blocks
      = (s.fencedNow m).foldl (fun t i => t.fenceMember c i) ((((u.setPhase c 2).stampOpen c).puts l).countCol Ev.COL_OPEN 1) :=
  ⟨_, _, rfl⟩

/-- A context that opens is OPEN. -/
theorem State.phase_openCtx (s : State) (m c : Nat) (p : Params) (slots : List (Nat × Nat)) (blocks : Nat) :
    ((s.openCtx m c p slots blocks).ctx c).phase = 2 := by
  obtain ⟨u, l, effect⟩ := s.openCtx_ends m c p slots blocks
  have shown : (((u.setPhase c 2).stampOpen c).puts l).col = (u.setPhase c 2).col :=
    (State.puts_obs_col _ l).2.trans (State.puts_obs_col _ _).2
  have opened : (((((u.setPhase c 2).stampOpen c).puts l).countCol Ev.COL_OPEN 1).ctx c).phase = 2 := by
    refine (congrArg CtxSt.phase (State.ctx_congr (s := u.setPhase c 2) (congrArg ColSt.ctxs shown) c)).trans ?_
    rw [State.ctx_setPhase]
  rw [effect]
  exact List.foldlRecOn (motive := fun t : State => (t.ctx c).phase = 2) _ _ opened fun t ht i _ => (t.phase_fenceMember c i c).trans ht

/-- CTX_ALLOC applied: the position awaited the CSEQ, and opens. -/
theorem State.ctxAlloc_does (s : State) (q m part cseq : Nat) : (s.ctxAlloc q m part cseq).Does s fun _ t =>
    ∃ c, s.seqPos m cseq = some c ∧ (s.ctx c).phase = 1 ∧ s.tryOpen m c (s.stagedParams q) = some t := by
  generalize hf : @State.ctxAlloc = f
  delta State.ctxAlloc at hf
  subst hf
  beta_reduce
  cases hpos : s.seqPos m cseq with
  | none => exact .no (by decide)
  | some c =>
    refine .ite (fun _ => .no (by decide)) fun _ => .ite (fun _ => .no (by decide)) fun free => ?_
    cases opened : s.tryOpen m c (s.stagedParams q) with
    | some t => exact .applied ⟨c, rfl, by_contra fun hph => free (.inr (.inl hph)), opened⟩
    | none => exact .no (by decide)

theorem State.ctxAlloc_opens {s : State} {q m part cseq c : Nat} (hpos : s.seqPos m cseq = some c)
    (h : (s.ctxAlloc q m part cseq).code = 0) :
    ((s.ctxAlloc q m part cseq).st.ctx c).phase = 2 ∧ (s.ctx c).phase = 1 := by
  obtain ⟨d, hd, awaited, opened⟩ := (s.ctxAlloc_does q m part cseq).of_applied h
  obtain rfl := Option.some.inj (hpos.symm.trans hd)
  unfold State.tryOpen at opened
  obtain ⟨u, -, effect⟩ := Option.map_eq_some_iff.1 opened
  rw [← effect]
  exact ⟨u.phase_openCtx _ _ _ _ _, awaited⟩

theorem State.ctxAbort_closes {s : State} {m cseq : Nat} (h2 : (s.ctx (s.posCtx m (cseq % s.get (F.COMM_W3_WIN m)))).phase = 2)
    (hseq : s.get (F.CTX_W11_CSEQ (s.posCtx m (cseq % s.get (F.COMM_W3_WIN m)))) = cseq) :
    (s.ctxAbort m cseq).code = 0 ∧ ((s.ctxAbort m cseq).st.ctx (s.posCtx m (cseq % s.get (F.COMM_W3_WIN m)))).phase = 4
      ∧ ((s.ctxAbort m cseq).st.ctx (s.posCtx m (cseq % s.get (F.COMM_W3_WIN m)))).close = some stAborted := by
  unfold State.ctxAbort
  dsimp only
  rw [if_neg (not_not_intro hseq), if_pos h2, (State.closeCtx_closes h2 (some stAborted)).1]
  exact ⟨rfl, rfl, rfl⟩

theorem State.ctxAbort_does (s : State) (m cseq : Nat) : (s.ctxAbort m cseq).Does s fun _ _ => True :=
  .ite (fun _ => .no (by decide)) fun _ => .ite (fun _ => .applied trivial) fun _ =>
    .ite (fun _ => .applied trivial) fun _ => .no (by decide)

theorem State.memberFence_does (s : State) (m arg : Nat) : (s.memberFence m arg).Does s fun _ t =>
    nfield arg 9 0 ∈ (t.comm m).fenced ↔ nbit arg 31 = 1 := by
  refine .ite (fun _ => .no (by decide)) fun _ => .ite (fun fence => .applied (iff_of_true ?_ fence)) fun unfence =>
    .applied (iff_of_false ?_ unfence)
  · have members : ∀ u : State, Touches [.ctxs, .path] u ((s.commCtxs m).foldl (fun t c => t.fenceMember c (nfield arg 9 0)) u) :=
      fun u => Touches.foldl _ u fun t c _ => t.fenceMember_touches c _
    rw [State.comm_congr ((members _).part .comms (by decide)), State.comm_setComm]
    dsimp only
    split
    · next held => exact List.contains_iff_mem.1 held
    · exact List.mem_cons_self
  · rw [State.comm_setComm]
    simp

/-- A member's fence for later contexts is set by bit 31 of the argument, and ended without it. -/
theorem State.memberFence_fences {s : State} {m arg : Nat} (h : nfield arg 9 0 < s.nmemb m) : (s.memberFence m arg).code = 0
    ∧ (nfield arg 9 0 ∈ ((s.memberFence m arg).st.comm m).fenced ↔ nbit arg 31 = 1) := by
  have applied : (s.memberFence m arg).code = 0 := by
    unfold State.memberFence
    dsimp only
    rw [if_neg (Nat.not_le.2 h)]
    split <;> rfl
  exact ⟨applied, (s.memberFence_does m arg).of_applied applied⟩

/-! ### TEMPLATE_SET -/

/-- The staged parameters are ten words of 32 bits. -/
theorem State.stagedParams_words (s : State) (q : Nat) :
    (s.stagedParams q).length = 10 ∧ ∀ w ∈ s.stagedParams q, w < 2 ^ 32 := by
  have word : ∀ i, Params.w ((List.range 10).map fun i => (s.word (colqBase q + 0x1000 + 4 * i)).toNat) i < 2 ^ 32 := by
    intro i
    unfold Params.w
    obtain h | h := Nat.lt_or_ge i 10
    · rw [List.getD_eq_getElem _ _ (by simpa using h), List.getElem_map]
      exact (s.word _).isLt
    · rw [List.getD_eq_default _ _ (by simpa using h)]
      decide
  have masked : ∀ i mask, Params.w ((List.range 10).map fun i => (s.word (colqBase q + 0x1000 + 4 * i)).toNat) i &&& mask < 2 ^ 32 :=
    fun i _ => Nat.and_le_left.trans_lt (word i)
  refine ⟨rfl, ?_⟩
  unfold State.stagedParams Params.clean
  simp only [List.forall_mem_cons]
  exact ⟨masked 0 _, word 1, masked 2 _, word 3, masked 4 _, word 5, masked 6 _, masked 7 _, word 8, word 9, List.forall_mem_nil _⟩

/-- A template written whole reads as it was written. -/
theorem State.template_writeWords (s : State) (m : Nat) {p : Params} (hlen : p.length = 10) (hp : ∀ w ∈ p, w < 2 ^ 32) :
    (s.writeWords (0x04000018 + 64 * m) p).template m = p := by
  unfold State.template
  refine List.ext_getElem (by simp [hlen]) fun i _ hi => ?_
  rw [List.getElem_map, List.getElem_range, s.word_writeWords _ (List.getElem?_eq_getElem hi), BitVec.toNat_ofNat]
  exact Nat.mod_eq_of_lt (hp _ (List.getElem_mem hi))

/-- TEMPLATE_SET applied ends with the staged block written. -/
theorem State.templateSet_does (s : State) (q m part : Nat) : (s.templateSet q m part).Does s fun _ t =>
    ∃ u : State, t = u.writeWords (0x04000018 + 64 * m) (s.stagedParams q) := by
  generalize hf : @State.templateSet = f
  delta State.templateSet at hf
  subst hf
  beta_reduce
  extract_lets p x win place need blocks grown
  refine .ite (fun _ => .no (by decide)) fun _ => .ite (fun _ => .applied ⟨s, rfl⟩) fun _ => ?_
  cases s.reserveSlots (16384 + m) (timesAll (needBeyond need x.posSlots) win) grown with
  | none => exact .no (by decide)
  | some t => exact .applied ⟨_, rfl⟩

theorem State.templateSet_places {s : State} {q m part : Nat} (h : (s.templateSet q m part).code = 0) :
    (s.templateSet q m part).st.template m = s.stagedParams q := by
  obtain ⟨t, effect⟩ := (s.templateSet_does q m part).of_applied h
  obtain ⟨len, words⟩ := s.stagedParams_words q
  rw [effect, t.template_writeWords m len words]

/-! ### COMM_TEARDOWN -/

theorem State.finishCtx_touches (s : State) (c : Nat) : Touches [.bar, .ctxWords, .ctxs, .outQ, .colCfg] s (s.finishCtx c) := by
  rw [State.finishCtx_eq]
  exact ((s.ctxDone_touches c).seq (State.stageOut_touches _ _) (by decide)).step (State.statusEvents_touches _ _ _ _) (by decide)

/-- What the end of a communicator's contexts may change. -/
def closingParts : List Part := [.bar, .ctxWords, .ctxs, .path, .outQ, .colCfg]

/-- Teardown shows every context of the communicator DRAINING. -/
theorem State.drain_touches (s : State) (l : List Nat) :
    Touches closingParts s (l.foldl (fun t c => t.put (F.CTX_W10_STATE c) 6) s) :=
  Touches.foldl _ _ fun t c _ => (t.put_touches (F.CTX_W10_STATE c) 6).mono
    (List.Subset.trans (wordParts_ctx (show 0x5000000 ≤ 0x5000028 + c * 0x400 by omega)) (by decide))

/-- An OPEN or NORES context that teardown ends. -/
theorem State.endCtx_touches (s : State) (c : Nat) : Touches closingParts s
    (if (s.ctx c).phase = 2 then s.closeCtx c (some stAborted) else if (s.ctx c).phase = 3 then s.finishCtx c else s) :=
  Touches.ite ((s.closeCtx_touches c _).mono (by decide)) (Touches.ite ((s.finishCtx_touches c).mono (by decide)) (Touches.refl s))

theorem State.tearing_congr {s t : State} {m : Nat} (hm : m < 4096) (h : Part.tables.same s t) : t.tearing m = s.tearing m := by
  have covered : Part.covers .tables (F.COMM_W1_STATE m).addr = true := by
    show (decide (0x1000000 ≤ 0x4000004 + m * 0x40) && decide (0x4000004 + m * 0x40 < 0x5000000)) = true
    rw [Bool.and_eq_true, decide_eq_true_eq, decide_eq_true_eq]
    omega
  unfold State.tearing State.on
  rw [State.get_congr (h _ covered)]

/-- COMM_TEARDOWN applied: the communicator was ACTIVE, and its contexts end after it shows TEARING. -/
theorem State.commTeardown_does (s : State) (m arg : Nat) : (s.commTeardown m arg).Does s fun _ t =>
    s.tearing m = false ∧ Touches closingParts (s.put (F.COMM_W1_STATE m) 1) t := by
  refine .ite (fun _ => .no (by decide)) fun active => .applied ⟨eq_false_of_ne_true active, ?_⟩
  have drained := (s.put (F.COMM_W1_STATE m) 1).drain_touches (s.commCtxs m)
  exact (drained.step (Touches.foldl (s.commCtxs m) _ fun t c _ => t.endCtx_touches c) (List.Subset.refl _)).ite drained

theorem State.commTeardown_tears {s : State} {m arg : Nat} (hm : m < 4096) (h : (s.commTeardown m arg).code = 0) :
    s.tearing m = false ∧ (s.commTeardown m arg).st.tearing m = true := by
  obtain ⟨active, ended⟩ := (s.commTeardown_does m arg).of_applied h
  refine ⟨active, (State.tearing_congr hm (ended.part .tables (by decide))).trans ?_⟩
  unfold State.tearing State.on
  rw [s.get_put_same (F.COMM_W1_STATE m) ⟨Nat.le_refl 30, by simp [F.COMM_W1_STATE]⟩]
  simp [F.COMM_W1_STATE, FRef.width]

end Sys2Proof.Machine

namespace Sys2Proof.Machine

/-! ### COMM_ADMIT (R167) -/

/-- A gap that is found lies below the limit. -/
theorem firstGap_le {used : List (Nat × Nat)} {n limit a : Nat} (h : firstGap used n limit = some a) : a + n ≤ limit := by
  revert a
  unfold firstGap
  refine List.foldlRecOn (motive := fun r : Option Nat => ∀ {a}, r = some a → a + n ≤ limit) _ _ (fun h => by cases h) fun r hr a ha => ?_
  have fits : a + n ≤ limit := by
    have := (List.mem_filter.1 ha).2
    simp only [Bool.and_eq_true, decide_eq_true_eq] at this
    exact this.1
  cases r with
  | none =>
    rintro _ ⟨rfl⟩
    exact fits
  | some x =>
    rintro _ ⟨rfl⟩
    show min x a + n ≤ limit
    exact (Nat.add_le_add_right (Nat.min_le_right x a) n).trans fits

/-- A reservation on the part's Basins changes no window. -/
theorem State.reserveSlots_word {s t : State} {owner blocks : Nat} {need : List (Nat × Nat)}
    (h : s.reserveSlots owner need blocks = some t) (hneed : ∀ x ∈ need, x.1 < 50) {a : Nat} (ha : 0x1000000 ≤ a) :
    t.word a = s.word a := by
  unfold State.reserveSlots at h
  split at h
  · obtain rfl := Option.some.inj h
    refine List.foldlRecOn (motive := fun t : State => t.word a = s.word a) _ _ rfl fun t ht r hr => ?_
    obtain ⟨x, hx, rfl⟩ := List.mem_map.1 hr
    have basin := hneed x (List.mem_filter.1 hx).1
    refine (State.word_setWord_ne _ _ ?_).trans ht
    simp only [F.BASIN_RESV_BYTES]
    omega
  · cases h

/-- A parameter block asks for slots on Basins of the part alone. -/
theorem State.slotNeeds_basin (s : State) (p : Params) : ∀ x ∈ s.slotNeeds p, x.1 < 50 := by
  intro x hx
  obtain ⟨y, hy, rfl⟩ := List.mem_map.1 hx
  have basin : y.1 ∈ p.basins := List.fst_mem_of_mem_zipIdx hy
  exact List.mem_range.1 (List.mem_filter.1 basin).1

/-- The entry of an admitted communicator, word by word (R167). -/
def State.commEntry (s : State) (q key base cb mb : Nat) : List Nat :=
  [key, 2 ^ 31 + (s.stagedComm q 1 &&& 0x3f8007ff), nfield (s.stagedComm q 2) 31 16 * 65536 + cb,
    mb * 2 ^ 14 + nfield (s.stagedComm q 3) 8 0, nfield (s.stagedComm q 4) 19 0, base] ++ s.stagedParams q

theorem State.writeComm_eq (s : State) (q m key base cb mb : Nat) :
    s.writeComm q m key base cb mb = s.writeWords (0x04000000 + 64 * m) (s.commEntry q key base cb mb) := rfl

/-- The resources that each position of a staged communicator holds: those of its template, where it reserves. -/
def State.stagedHold (s : State) (q : Nat) : CommSt where
  posSlots := if nbit (s.stagedComm q 1) 29 == 1 then s.slotNeeds (s.stagedParams q) else []
  posBlocks := if nbit (s.stagedComm q 1) 29 == 1 then (s.stagedParams q).blockNeeds (nfield (s.stagedComm q 1) 10 0) else 0

/-- The tables of an admitted communicator written, and its window's positions IDLE. -/
def State.admitted (s : State) (q m key base cb mb : Nat) (x : CommSt) : State :=
  (List.range (nfield (s.stagedComm q 3) 8 0)).foldl (fun u k => u.initPos m (nfield (s.stagedComm q 3) 8 0) base (cb + k) k)
    (((s.writeComm q m key base cb mb).writeMap q mb (nfield (s.stagedComm q 1) 10 0)).setComm m x)

/-- COMM_ADMIT applied to entry `m`: it was free, the window has room among the contexts, and with what it reserved its tables are written. -/
structure Admits (s : State) (q part comm arg m : Nat) (r t : State) (cb mb : Nat) : Prop where
  free : m < 4096 ∧ s.on (F.COMM_W1_VALID m) = false
  window : cb + nfield (s.stagedComm q 3) 8 0 ≤ 16384 ∧ 0 < nfield (s.stagedComm q 3) 8 0
  staged : ∀ i, t.stagedComm q i = s.stagedComm q i
  state : r = t.admitted q m (part * 65536 + comm) arg cb mb (s.stagedHold q)

theorem State.stagedComm_congr {s t : State} (h : ∀ a, 0x1000000 ≤ a → t.word a = s.word a) (q i : Nat) :
    t.stagedComm q i = s.stagedComm q i := by
  unfold State.stagedComm
  rw [h _ (by unfold colqBase; omega)]

/-- A window that R167 admits holds a position. -/
theorem State.admitRangeOk_window {s : State} {q part nm win : Nat} (h : s.admitRangeOk q part nm win = true) : 0 < win := by
  unfold State.admitRangeOk at h
  simp only [Bool.and_eq_true] at h
  obtain ⟨⟨⟨⟨⟨⟨sizes, -⟩, -⟩, -⟩, -⟩, -⟩, -⟩ := h
  by_contra none
  rw [Nat.eq_zero_of_not_pos none] at sizes
  exact absurd sizes (by decide)

theorem State.commAdmit_does (s : State) (q part comm arg : Nat) : (s.commAdmit q part comm arg).Does s fun m r =>
    ∃ t cb mb, Admits s q part comm arg m r t cb mb := by
  refine .ite (fun _ => .no (by decide)) fun _ => .ite (fun _ => .no (by decide)) fun _ => .ite (fun _ => .no (by decide)) fun ranged => ?_
  split
  · next m cb mb hm hcb _ =>
    dsimp only
    split
    · exact .no (by decide)
    · next t reserved =>
      have basins : ∀ y ∈ timesAll (s.stagedHold q).posSlots (nfield (s.stagedComm q 3) 8 0), y.1 < 50 := by
        intro y hy
        obtain ⟨z, hz, rfl⟩ := List.mem_map.1 hy
        unfold State.stagedHold at hz
        dsimp only at hz
        split at hz
        · exact s.slotNeeds_basin _ z hz
        · cases hz
      have staged := State.stagedComm_congr (fun a => State.reserveSlots_word reserved basins) q
      refine .applied ⟨t, cb, mb, ⟨List.mem_range.1 (List.mem_of_find?_eq_some hm), by simpa using List.find?_some hm⟩,
        ⟨firstGap_le hcb, State.admitRangeOk_window (not_not.1 ranged)⟩, staged, ?_⟩
      unfold State.admitted
      rw [staged, staged]
      rfl
  · exact .no (by decide)

section
variable (s : State) (q m key base cb mb : Nat) (x : CommSt)

/-- The positions of a window are IDLE once each is initialised. -/
theorem State.phase_initPoss (u : State) (win : Nat) (l : List Nat) {c : Nat}
    (h : (∃ k ∈ l, cb + k = c) ∨ (u.ctx c).phase = 1) :
    ((l.foldl (fun u k => u.initPos m win base (cb + k) k) u).ctx c).phase = 1 := by
  induction l generalizing u with
  | nil => simpa using h
  | cons k l ih =>
    refine ih (u.initPos m win base (cb + k) k) ?_
    have ctx : ∀ d, ((u.initPos m win base (cb + k) k).ctx d)
        = (u.setCtx (cb + k) { phase := 1, instances := (u.ctx (cb + k)).instances }).ctx d := fun d =>
      State.ctx_congr (congrArg ColSt.ctxs (State.puts_obs_col _ _).2) d
    by_cases here : cb + k = c
    · refine .inr ?_
      rw [ctx, ← here, State.ctx_setCtx]
    · obtain ⟨j, hj, hc⟩ | idle := h
      · obtain rfl | hj := List.mem_cons.1 hj
        · exact absurd hc here
        · exact .inl ⟨j, hj, hc⟩
      · exact .inr (by rw [ctx, State.ctx_setCtx_ne _ _ (Ne.symm here), idle])

variable {m} (hm : m < 4096)
include hm

/-- The words of a communicator's entry, once it is admitted. -/
theorem State.word_admitted {i v : Nat} (h : (s.commEntry q key base cb mb)[i]? = some v) :
    (s.admitted q m key base cb mb x).word (0x04000000 + 64 * m + 4 * i) = BitVec.ofNat 32 v := by
  have hi : i < 16 := (List.getElem?_eq_some_iff.1 h).1
  have entry := s.word_writeWords (0x04000000 + 64 * m) h
  rw [← State.writeComm_eq] at entry
  have mapped : ((s.writeComm q m key base cb mb).writeMap q mb (nfield (s.stagedComm q 1) 10 0)).word (0x04000000 + 64 * m + 4 * i)
      = BitVec.ofNat 32 v := (State.word_foldl_setWord_ne (fun j => 0x04100000 + 4 * (mb + j)) _ _ _ fun j _ => by omega).trans entry
  unfold State.admitted
  refine List.foldlRecOn (motive := fun t : State => t.word (0x04000000 + 64 * m + 4 * i) = BitVec.ofNat 32 v) _ _ mapped fun t ht k _ => ?_
  refine (State.word_puts_ne _ _ ?_).trans ht
  simp only [List.forall_mem_cons, F.CTX_W10_COMMIDX, F.CTX_W10_STATE, F.CTX_W11_CSEQ]
  exact ⟨by omega, by omega, by omega, List.forall_mem_nil _⟩

theorem State.get_admitted (i : Nat) {lo hi v : Nat} (h : (s.commEntry q key base cb mb)[i]? = some v) :
    (s.admitted q m key base cb mb x).get ⟨0x04000000 + 4 * i + m * 0x40, hi, lo⟩ = v % 2 ^ 32 / 2 ^ lo % 2 ^ (hi - lo + 1) := by
  have word := s.word_admitted q key base cb mb x hm h
  rw [show 0x04000000 + 64 * m + 4 * i = 0x04000000 + 4 * i + m * 0x40 by omega] at word
  rw [State.get_of_word word, FRef.ofWord, BitVec.toNat_ofNat]
  rfl

theorem State.admitted_valid : (s.admitted q m key base cb mb x).on (F.COMM_W1_VALID m) = true := by
  unfold State.on F.COMM_W1_VALID
  have flags := Nat.and_le_right (n := s.stagedComm q 1) (m := 0x3f8007ff)
  rw [s.get_admitted q key base cb mb x hm 1 rfl, bne_iff_ne]
  omega

theorem State.admitted_key {part comm : Nat} (hpart : part < 65536) (hcomm : comm < 65536) :
    (s.admitted q m (part * 65536 + comm) base cb mb x).get (F.COMM_W0_PART m) = part
      ∧ (s.admitted q m (part * 65536 + comm) base cb mb x).get (F.COMM_W0_COMM m) = comm := by
  unfold F.COMM_W0_PART F.COMM_W0_COMM
  rw [s.get_admitted q _ base cb mb x hm 0 rfl, s.get_admitted q _ base cb mb x hm 0 rfl]
  omega

theorem State.admitted_base (hbase : base < 2 ^ 32) : (s.admitted q m key base cb mb x).get (F.COMM_W5_BASE m) = base := by
  unfold F.COMM_W5_BASE
  rw [s.get_admitted q key base cb mb x hm 5 rfl]
  omega

theorem State.admitted_nmemb : (s.admitted q m key base cb mb x).nmemb m = nfield (s.stagedComm q 1) 10 0 := by
  have members : (s.stagedComm q 1 &&& 0x3f8007ff) % 2 ^ 11 = nfield (s.stagedComm q 1) 10 0 := by
    rw [Nat.and_mod_two_pow, show 0x3f8007ff % 2 ^ 11 = 2 ^ 11 - 1 from rfl, Nat.and_two_pow_sub_one_eq_mod, Nat.mod_mod]
    simp [nfield]
  unfold State.nmemb F.COMM_W1_NMEMB
  rw [s.get_admitted q key base cb mb x hm 1 rfl, ← members]
  omega

theorem State.admitted_ctxs (hcb : cb < 16384) :
    (s.admitted q m key base cb mb x).commCtxs m = (List.range (nfield (s.stagedComm q 3) 8 0)).map (cb + ·) := by
  have winLt : nfield (s.stagedComm q 3) 8 0 < 2 ^ 9 := Nat.mod_lt _ (by decide)
  have window : (s.admitted q m key base cb mb x).get (F.COMM_W3_WIN m) = nfield (s.stagedComm q 3) 8 0 := by
    unfold F.COMM_W3_WIN
    rw [s.get_admitted q key base cb mb x hm 3 rfl]
    omega
  have first : (s.admitted q m key base cb mb x).get (F.COMM_W2_CTXBASE m) = cb := by
    unfold F.COMM_W2_CTXBASE
    rw [s.get_admitted q key base cb mb x hm 2 rfl]
    omega
  unfold State.commCtxs State.posCtx
  rw [window, first]

theorem State.admitted_idle (hcb : cb < 16384) : ∀ c ∈ (s.admitted q m key base cb mb x).commCtxs m,
    ((s.admitted q m key base cb mb x).ctx c).phase = 1 := by
  intro c hc
  rw [s.admitted_ctxs q key base cb mb x hm hcb] at hc
  obtain ⟨k, hk, position⟩ := List.mem_map.1 hc
  exact State.phase_initPoss m base cb _ _ _ (.inl ⟨k, hk, position⟩)

end

theorem State.commAdmit_admits {s : State} {q part comm arg : Nat} (hpart : part < 65536) (hcomm : comm < 65536) (harg : arg < 2 ^ 32)
    (h : (s.commAdmit q part comm arg).code = 0) : let r := s.commAdmit q part comm arg
    r.out < 4096 ∧ s.on (F.COMM_W1_VALID r.out) = false ∧ r.st.on (F.COMM_W1_VALID r.out) = true
      ∧ r.st.get (F.COMM_W0_PART r.out) = part ∧ r.st.get (F.COMM_W0_COMM r.out) = comm
      ∧ r.st.get (F.COMM_W5_BASE r.out) = arg ∧ r.st.nmemb r.out = nfield (s.stagedComm q 1) 10 0
      ∧ ∀ c ∈ r.st.commCtxs r.out, (r.st.ctx c).phase = 1 := by
  obtain ⟨t, cb, mb, ⟨hm, free⟩, ⟨hcb, hwin⟩, staged, state⟩ := (s.commAdmit_does q part comm arg).of_applied h
  dsimp only
  rw [state]
  obtain ⟨hpart, hcomm⟩ := t.admitted_key q arg cb mb (s.stagedHold q) hm hpart hcomm
  exact ⟨hm, free, t.admitted_valid q _ arg cb mb _ hm, hpart, hcomm, t.admitted_base q _ arg cb mb _ hm harg,
    (t.admitted_nmemb q _ arg cb mb _ hm).trans (by rw [staged]), t.admitted_idle q _ arg cb mb _ hm (by omega)⟩

/-- Settles O26: each operation, where it is applied, leaves what the statement says of it. -/
theorem appliedCommandsActOnTheTables : Obligations.AppliedCommandsActOnTheTables :=
  ⟨fun _ _ _ _ _ _ hpart hcomm harg h => State.commAdmit_admits hpart hcomm harg h, fun _ _ _ _ _ _ => State.ctxAlloc_opens,
    fun _ _ _ => State.ctxAbort_closes, fun _ _ _ => State.memberFence_fences, fun _ _ _ _ _ => State.templateSet_places,
    fun _ _ _ => State.commTeardown_tears⟩

end Sys2Proof.Machine

namespace Sys2Proof.Machine

/-! ### Any command of a queue (R190) -/

theorem State.colCommand_does (s : State) (q op part comm arg : Nat) : (s.colCommand q op part comm arg).Does s fun _ _ => True := by
  refine .ite (fun _ => .no (by decide)) fun _ => .ite (fun _ => .no (by decide)) fun _ =>
    .ite (fun _ => (s.commAdmit_does q part comm arg).mono fun _ _ _ => trivial) fun _ => ?_
  split
  · exact .no (by decide)
  · next m _ =>
    split
    · exact (s.commTeardown_does m arg).mono fun _ _ _ => trivial
    · exact (s.ctxAlloc_does q m part arg).mono fun _ _ _ => trivial
    · exact s.ctxAbort_does m arg
    · exact (s.memberFence_does m arg).mono fun _ _ _ => trivial
    · exact (s.templateSet_does q m part).mono fun _ _ _ => trivial

/-- An opcode outside R190 is rejected with REJ_RANGE. -/
theorem State.colCommand_unknown (s : State) (q part comm arg : Nat) {op : Nat} (h : op = 0 ∨ 6 < op) :
    (s.colCommand q op part comm arg).code = Rej.RANGE := by
  unfold State.colCommand
  rw [if_pos h]
  rfl

/-! ### A visit of a queue (R188, R189) -/

/-- The outcome of the command at the head of a queue. -/
def State.headOutcome (s : State) (q : Nat) : CmdOut :=
  s.colCommand q (nfield (s.word (s.headEntry q)).toNat 31 24) ((s.word (s.headEntry q + 4)).toNat / 65536)
    ((s.word (s.headEntry q + 4)).toNat % 65536) (s.word (s.headEntry q + 8)).toNat

/-- HEAD and DONE_COUNT as a visit leaves them. -/
def State.headMoved (s : State) (q : Nat) : List (FRef × Nat) :=
  [(F.COLQ_HEAD_HEAD (q / 128) (q % 128), (s.get (F.COLQ_HEAD_HEAD (q / 128) (q % 128)) + 1) % 64),
    (F.COLQ_DONE_DONE_COUNT (q / 128) (q % 128), s.get (F.COLQ_DONE_DONE_COUNT (q / 128) (q % 128)) + 1)]

/-- The cursor of the round robin behind a queue. -/
def State.turnedPast (s : State) (q : Nat) : State := { s with col := { s.col with cursor := (q + 1) % 256 } }

theorem State.word_turnedPast (s : State) (q a : Nat) : (s.turnedPast q).word a = s.word a := rfl

theorem State.col_turnedPast (s : State) (q : Nat) : (s.turnedPast q).col = { s.col with cursor := (q + 1) % 256 } := rfl

theorem State.col_writeOutcome (s : State) (a op : Nat) (r : CmdOut) : (s.writeOutcome a op r).col = r.st.col :=
  (State.countIn_col _ _ _ _).trans ((State.setWord_col _ _ _).trans (State.setWord_col _ _ _))

theorem State.visit_eq (s : State) (q : Nat) : s.visit q = ((s.writeOutcome (s.headEntry q)
    (nfield (s.word (s.headEntry q)).toNat 31 24) (s.headOutcome q)).turnedPast q).puts (s.headMoved q) := rfl

theorem State.headMoved_ok (s : State) (q : Nat) : ∀ x ∈ s.headMoved q, x.1.ok := by
  simp [State.headMoved, FRef.ok, F.COLQ_HEAD_HEAD, F.COLQ_DONE_DONE_COUNT]

theorem State.headMoved_apart (s : State) (q : Nat) : (s.headMoved q).Pairwise fun x y => y.1.apart x.1 := by
  simp [State.headMoved, FRef.apart, F.COLQ_HEAD_HEAD, F.COLQ_DONE_DONE_COUNT]

section
variable (s : State) (q : Fin 256)

theorem State.head_visit : (s.visit q).get (F.COLQ_HEAD_HEAD (q / 128) (q % 128))
    = (s.get (F.COLQ_HEAD_HEAD (q / 128) (q % 128)) + 1) % 64 := by
  rw [State.visit_eq, State.get_puts_mem _ (s.headMoved_ok q) (s.headMoved_apart q) (v := (s.get (F.COLQ_HEAD_HEAD (q / 128) (q % 128)) + 1) % 64)
    (by simp [State.headMoved])]
  exact Nat.mod_mod _ _

theorem State.done_visit : (s.visit q).get (F.COLQ_DONE_DONE_COUNT (q / 128) (q % 128))
    = (s.get (F.COLQ_DONE_DONE_COUNT (q / 128) (q % 128)) + 1) % 2 ^ 16 := by
  rw [State.visit_eq, State.get_puts_mem _ (s.headMoved_ok q) (s.headMoved_apart q) (v := s.get (F.COLQ_DONE_DONE_COUNT (q / 128) (q % 128)) + 1)
    (by simp [State.headMoved])]
  rfl

/-- Above the register pages a visit writes what the outcome wrote. -/
theorem State.word_visit {a : Nat} (ha : 0x1000000 ≤ a) : (s.visit q).word a
    = (s.writeOutcome (s.headEntry q) (nfield (s.word (s.headEntry q)).toNat 31 24) (s.headOutcome q)).word a := by
  rw [State.visit_eq]
  refine (State.word_puts_ne _ _ ?_).trans (State.word_turnedPast _ _ _)
  have := q.isLt
  simp only [State.headMoved, List.forall_mem_cons, F.COLQ_HEAD_HEAD, F.COLQ_DONE_DONE_COUNT]
  exact ⟨by omega, by omega, List.forall_mem_nil _⟩

theorem State.entry_visit : (s.visit q).word (s.headEntry q) = BitVec.ofNat 32 (nfield (s.word (s.headEntry q)).toNat 31 24 * 2 ^ 24 + 2 ^ 23
    + if (s.headOutcome q).code = 0 then 2 ^ 22 else (s.headOutcome q).code) := by
  rw [State.word_visit s q (by unfold State.headEntry colqBase; omega)]
  refine (State.word_countIn _ _ _ _ _).trans ((State.word_setWord_ne _ _ (by omega)).trans ?_)
  exact State.word_setWord_same _ _ _

theorem State.out_visit : (s.visit q).word (s.headEntry q + 12)
    = if (s.headOutcome q).code = 0 then BitVec.ofNat 32 (s.headOutcome q).out else s.word (s.headEntry q + 12) := by
  rw [State.word_visit s q (by unfold State.headEntry colqBase; omega)]
  refine (State.word_countIn _ _ _ _ _).trans ((State.word_setWord_same _ _ _).trans ?_)
  split
  · rfl
  · exact BitVec.ofNat_toNat _ _

theorem State.col_visit : (s.visit q).col = { (s.headOutcome q).st.col with cursor := (q.val + 1) % 256 } := by
  rw [State.visit_eq, (State.puts_obs_col _ _).2, State.col_turnedPast, State.col_writeOutcome]

end

/-- What a command at the head of a queue leaves of the queue, and of the engine where it is rejected. -/
def QueueAnswered (q : Fin 256) (s t : State) : Prop :=
  let op := nfield (s.word (s.headEntry q)).toNat 31 24
  let r := s.headOutcome q
  t.word (s.headEntry q) = BitVec.ofNat 32 (op * 2 ^ 24 + 2 ^ 23 + if r.code = 0 then 2 ^ 22 else r.code)
    ∧ t.word (s.headEntry q + 12) = (if r.code = 0 then BitVec.ofNat 32 r.out else s.word (s.headEntry q + 12))
    ∧ t.get (F.COLQ_HEAD_HEAD (q / 128) (q % 128)) = (s.get (F.COLQ_HEAD_HEAD (q / 128) (q % 128)) + 1) % 64
    ∧ t.get (F.COLQ_DONE_DONE_COUNT (q / 128) (q % 128)) = (s.get (F.COLQ_DONE_DONE_COUNT (q / 128) (q % 128)) + 1) % 2 ^ 16
    ∧ (r.code ≠ 0 → t.col = { s.col with cursor := (q.val + 1) % 256 }) ∧ (op = 0 ∨ 6 < op → r.code = Rej.RANGE)

/-- No register of a queue's page is MSIX_PBA. -/
theorem pbaWord_colq {a : Nat} (h : a < 0xe08000) : pbaWord a = false := by
  have below : ¬ 0xe08800 ≤ a := by omega
  simp [pbaWord, below]

theorem queueAnswered_of_visit {q : Fin 256} {s t : State} (h : Closed (s.visit q) t) : QueueAnswered q s t := by
  have hq := q.isLt
  have window : ∀ {a}, 0x1000000 ≤ a → t.word a = (s.visit q).word a := fun ha => h.word _ (pbaWord_table ha)
  have entry : 0x1000000 ≤ s.headEntry q := by unfold State.headEntry colqBase; omega
  refine ⟨(window entry).trans (s.entry_visit q), (window (by omega)).trans (s.out_visit q),
    (h.get (pbaWord_colq ?_)).trans (s.head_visit q), (h.get (pbaWord_colq ?_)).trans (s.done_visit q), fun rejected => ?_,
    State.colCommand_unknown s q _ _ _⟩
  · simp only [F.COLQ_HEAD_HEAD]; omega
  · simp only [F.COLQ_DONE_DONE_COUNT]; omega
  · have unchanged : (s.headOutcome q).st = s := (s.colCommand_does _ _ _ _ _).of_rejected rejected
    rw [h.col, s.col_visit q, unchanged]

/-- In its turn, a queue with a command of the kind at its head is answered. -/
theorem visitQueue_answers {mk : Fin 256 → Instr} {ok : Nat → Bool} (hexec : ∀ q s, exec (mk q) s = finish s (s.visitQueue q ok))
    (q : Fin 256) (s : State) (hs : s.stopped = false) (turn : s.nextQueue = some q.val)
    (kind : ok (nfield (s.word (s.headEntry q)).toNat 31 24) = true) : Completes (mk q) s (QueueAnswered q s) := by
  have visited : s.visitQueue q ok = s.visit q := if_pos ⟨turn, kind⟩
  exact completes_of_closed hs ((hexec q s).trans (by rw [visited])) fun _ => queueAnswered_of_visit

/-! ### A write of TAIL -/

/-- The address of a queue's TAIL. -/
def tailAt (q : Fin 256) : Nat := 0x901104 + 0x1000 * (q / 128) + 16 * (q % 128)

theorem tailAt_place (q : Fin 256) : (tailAt q / 4096 = 0x901 ∨ tailAt q / 4096 = 0x902) ∧ 0x104 ≤ tailAt q % 4096 ∧ tailAt q < pageLimit := by
  unfold tailAt pageLimit
  omega

theorem fldsAt_tail : ∀ q : Fin 256, fldsAt (tailAt q) = [⟨31, 6, .rsv, 0, [], false⟩, ⟨5, 0, .rw, 0, [], false⟩] := by
  decide +kernel

theorem mergeWord_tail (now old v : Nat) (hold : old < 2 ^ 32) (hv : v < 2 ^ 32) :
    mergeWord now [⟨31, 6, .rsv, 0, [], false⟩, ⟨5, 0, .rw, 0, [], false⟩] old v (byteMask 15) = v % 64 := by
  simp only [mergeWord, List.foldl_cons, List.foldl_nil, mergeFld, and_byteMask hold, and_byteMask hv, nfield]
  omega

/-- A whole word written to TAIL leaves its lowest six bits, and starts nothing. -/
theorem State.hostWrite_tail {s : State} {g : Nat} {q : Fin 256} {v : Nat} (hv : v < 2 ^ 32) (h : s.accepts g (tailAt q) v) :
    s.hostWrite g (tailAt q) v = s.setWord (tailAt q) (BitVec.ofNat 32 (v % 64)) := by
  obtain ⟨page, offset, limit⟩ := tailAt_place q
  have evsel : evselAt (tailAt q) = none := if_neg (by omega)
  have wrap : ¬ (tailAt q < pageLimit ∧ tailAt q % 4096 = 0xe0) := by omega
  have merged : s.mergeAt (tailAt q) v 15 = s.setWord (tailAt q) (BitVec.ofNat 32 (v % 64)) := by
    have held : s.heldWord (tailAt q) = (s.word (tailAt q)).toNat := by
      unfold State.heldWord
      rw [evsel]
      exact if_neg wrap
    unfold State.mergeAt State.holdWord
    rw [evsel, fldsAt_tail, held, mergeWord_tail _ _ v (s.word (tailAt q)).isLt hv]
    exact if_neg wrap
  obtain ⟨w, hw, acts⟩ := State.hostWrite_acts h hv evsel wrap (by omega)
  rw [acts, ← hw, merged]
  unfold State.act State.pageAct
  rw [if_pos limit]
  dsimp only
  rw [if_neg (by omega), if_neg (by omega), if_neg (by omega), if_neg (by omega), if_neg (by omega), if_neg (by omega),
    if_neg (by omega), if_neg (by omega), if_neg (by omega), if_neg (by omega), if_neg (by omega)]

theorem colqTailWrite_writes (g : Agent) (q : Fin 256) (tail : BitVec 32) (s : State) (hs : s.stopped = false)
    (h : s.accepts g (tailAt q) tail.toNat) : Completes (.colqTailWrite g q tail) s fun t =>
      t.get (F.COLQ_TAIL_TAIL (q / 128) (q % 128)) = tail.toNat % 64 := by
  have effect : exec (.colqTailWrite g q tail) s = finish s (s.setWord (tailAt q) (BitVec.ofNat 32 (tail.toNat % 64))) :=
    (finishSpc_running hs _).trans (congrArg (finish s) (State.hostWrite_tail tail.isLt h))
  have address : (F.COLQ_TAIL_TAIL (q / 128) (q % 128)).addr = tailAt q := by
    simp only [F.COLQ_TAIL_TAIL, tailAt]
    omega
  refine completes_of_closed hs effect fun t ht => ?_
  rw [ht.get (pbaWord_colq (by rw [address]; unfold tailAt; omega)), State.get, address, State.word_setWord_same]
  simp [FRef.ofWord, FRef.width, F.COLQ_TAIL_TAIL]

/-- Settles O25: a visit writes the outcome into the entry and moves HEAD and DONE_COUNT on (`queueAnswered_of_visit`), and what
is rejected changes nothing (`State.colCommand_does`). -/
theorem commandQueuesAnswerEachEntryInTurn : Obligations.CommandQueuesAnswerEachEntryInTurn := by
  have kind : ∀ (k : Nat) {op : Nat}, op = k → (op == k) = true := fun _ _ h => beq_iff_eq.2 h
  have unknown : ∀ {op : Nat}, op = 0 ∨ 6 < op → (op == 0 || decide (6 < op)) = true := fun h => by simpa using h
  exact ⟨fun q s hs turn op => visitQueue_answers (fun _ _ => rfl) q s hs turn (kind 1 op),
    fun q s hs turn op => visitQueue_answers (fun _ _ => rfl) q s hs turn (kind 2 op),
    fun q s hs turn op => visitQueue_answers (fun _ _ => rfl) q s hs turn (kind 3 op),
    fun q s hs turn op => visitQueue_answers (fun _ _ => rfl) q s hs turn (kind 4 op),
    fun q s hs turn op => visitQueue_answers (fun _ _ => rfl) q s hs turn (kind 5 op),
    fun q s hs turn op => visitQueue_answers (fun _ _ => rfl) q s hs turn (kind 6 op),
    fun q s hs turn op => visitQueue_answers (ok := fun o => o == 0 || decide (6 < o)) (fun _ _ => rfl) q s hs turn (unknown op),
    colqTailWrite_writes⟩

end Sys2Proof.Machine

namespace Sys2Proof.Machine

/-! ### CTX_ALLOC of an UPDATE block asks a channel (R259)

The frame fails for the memory: a context of type UPDATE that opens has the read of its hyperparameters sent to a channel. -/

theorem Closed.mem {u t : State} (h : Closed u t) : t.mem = u.mem := (congrArg State.mem h.rest).trans rfl

/-- A part with an ACTIVE communicator of partition 1 whose IDLE position awaits CSEQ 0, a window of one page for the partition,
and in command queue 0 a CTX_ALLOC of CSEQ 0 beside a parameter block of type UPDATE. -/
def updateStaged : State :=
  (State.reset.puts
    [(F.COMM_W1_VALID 0, 1), (F.COMM_W0_PART 0, 1), (F.COMM_W0_COMM 0, 2), (F.COMM_W1_NMEMB 0, 2), (F.COMM_W3_WIN 0, 1),
      (F.PWIN_W0_VALID 0, 1), (F.PWIN_W0_PART 0, 1), (F.PWIN_W2_NPAGES 0, 1),
      (F.COLQ_CTL_EN 0 0, 1), (F.COLQ_CTL_PART 0 0, 1), (F.COLQ_TAIL_TAIL 0 0, 1),
      (wordRef 0x4200000, 3 * 2 ^ 24), (wordRef 0x4200004, 0x10002),
      (wordRef 0x4201000, 4 * 2 ^ 29), (wordRef 0x4201004, 1), (wordRef 0x4201008, 0x40004), (wordRef 0x420100c, 1),
      (wordRef 0x4201014, 7), (wordRef 0x4201020, 2 ^ 16)]).setCtx 0 { phase := 1 }

/-- The visit of its queue leaves a request at channel 0. -/
theorem chanReqs_updateStaged : updateStaged.chanReqs 0 = [] ∧ (updateStaged.visitQueue 0 (· == 3)).chanReqs 0 ≠ [] := by
  decide +kernel

/-- Refutes O31: CTX_ALLOC that opens an UPDATE context queues the read of its hyperparameters at a channel, and so changes
`mem.chanQ`, which the statement has no command change. -/
theorem not_collectiveEventsLeaveTheRestAlone : ¬ Obligations.CollectiveEventsLeaveTheRestAlone := by
  intro h
  obtain ⟨idle, asked⟩ := chanReqs_updateStaged
  have sends : Completes (.ctxAlloc 0) updateStaged fun t => t.mem = (updateStaged.visitQueue 0 (· == 3)).mem :=
    completes_of_closed rfl rfl fun _ => Closed.mem
  obtain ⟨t, next, mem⟩ := sends
  obtain ⟨-, -, -, same, -⟩ := h _ _ t rfl next
  have kept : (updateStaged.visitQueue 0 (· == 3)).mem = updateStaged.mem := mem.symm.trans (same fun b hb => by cases hb)
  refine asked (Eq.trans ?_ idle)
  unfold State.chanReqs
  rw [kept]

end Sys2Proof.Machine

namespace Sys2Proof.Machine

/-! ### A chunk of no cells at the matcher

A packet of no cells returns no credit, so the VC's count of what was returned stays as it is, where the statement asks that it be
reduced modulo 2^32. -/

/-- A chunk that port 0 is charged for on VC 4, of no cells. -/
def cellless : Pkt := { bytes := [], acct := .port 0 4, cells := [] }

/-- The engine is disabled, the chunk is the oldest, and the VC's count of cells returned holds 2^32. -/
def overfullReturned : State :=
  let s : State := State.reset.put F.COLCFG_CTRL_EN 0
  { s with cis := { s.cis with chunkQ := [0], pkts := [(0, some cellless)] }
           ports := [(0, { vcs := [(4, { returned := 2 ^ 32 })] })]
           obs := { s.obs with sel := [] }, col := { s.col with path := [] } }

theorem returned_overfullReturned : overfullReturned.on F.COLCFG_CTRL_EN = false
    ∧ (overfullReturned.colMatch.vcSt 0 4).returned = 2 ^ 32 := by decide +kernel

/-- Refutes O27: a drop of a chunk of no cells leaves a count of 2^32 returned cells, where the statement asks for 0. -/
theorem not_matcherAcceptsOnceAndDropsTheRest : ¬ Obligations.MatcherAcceptsOnceAndDropsTheRest := by
  intro h
  obtain ⟨disabled, stays⟩ := returned_overfullReturned
  obtain ⟨t, next, -, -, -, -, returned⟩ := (h 0 [] cellless overfullReturned rfl rfl rfl rfl rfl).1 disabled
  have keeps : Completes .colMatch overfullReturned fun u => (u.vcSt 0 4).returned = 2 ^ 32 :=
    completes_of_closed rfl rfl fun u hu => by
      rw [State.vcSt_congr ((congrArg State.ports hu.rest).trans rfl)]
      exact stays
  obtain ⟨u, next', kept⟩ := keeps
  obtain rfl := Host.Outcome.next.inj (next.symm.trans next')
  have asked := returned 0 4 rfl
  rw [kept] at asked
  exact (Nat.mod_lt _ (by decide)).ne' asked

end Sys2Proof.Machine

namespace Sys2Proof.Machine

/-! ### O32: what an instruction of a core may change beside the core

A compute instruction changes its core's registers (R237). What issuing it changes besides is said by a frame: a view of the
state without the records, the draws and the cores is as it was, and so are every other core and every word that tagging does not
write. -/

/-- All but the registers and tables, what the part records of itself, and how many free values were drawn. -/
def State.beyondDraws (s : State) : State := { s.beyondRecords with freeCtr := 0 }

/-- All but these and the cores. -/
def State.beyondCores (s : State) : State := { s.beyondDraws with bsn := { s.bsn with cores := [] } }

/-- A state is its view, with what the view leaves out put back. -/
theorem State.eq_of_beyondCores {s t : State} (h : t.beyondCores = s.beyondCores) :
    t = { s with bsn := { s.bsn with cores := t.bsn.cores }, bar := t.bar, obs := t.obs, setNow := t.setNow, freeCtr := t.freeCtr } :=
  congrArg (fun u : State => { u with
    bsn := { u.bsn with cores := t.bsn.cores }, bar := t.bar, obs := t.obs, setNow := t.setNow, freeCtr := t.freeCtr }) h

/-- From `s` to `t` only tagging in Basin `b`, the part's records of itself and the draws changed. -/
structure TagFrame (b : Nat) (s t : State) : Prop where
  view : t.beyondDraws = s.beyondDraws
  word : ∀ a, tagWord b a = false → t.word a = s.word a

/-- From `s` to `t` only these and core `k` of Basin `b` changed. -/
structure CoreFrame (b k : Nat) (s t : State) : Prop where
  view : t.beyondCores = s.beyondCores
  others : ∀ j, j ≠ b * 24 + k → SMap.get (fun _ => {}) t.bsn.cores j = SMap.get (fun _ => {}) s.bsn.cores j
  word : ∀ a, tagWord b a = false → t.word a = s.word a

section

variable {b k : Nat} {s t u : State}

theorem TagFrame.refl (s : State) : TagFrame b s s := ⟨rfl, fun _ _ => rfl⟩

theorem TagFrame.trans (h : TagFrame b s t) (g : TagFrame b t u) : TagFrame b s u :=
  ⟨g.view.trans h.view, fun a ha => (g.word a ha).trans (h.word a ha)⟩

theorem TagFrame.foldl {α : Type} {f : State → α → State} (l : List α) (s : State) (h : ∀ t, ∀ x ∈ l, TagFrame b t (f t x)) :
    TagFrame b s (l.foldl f s) :=
  List.foldlRecOn (motive := TagFrame b s) l f (.refl s) fun t ht x hx => ht.trans (h t x hx)

theorem TagFrame.bsn (h : TagFrame b s t) : t.bsn = s.bsn := congrArg (·.bsn) h.view

theorem TagFrame.core (h : TagFrame b s t) (k : Nat) : t.core b k = s.core b k := State.core_congr (congrArg BsnSt.cores h.bsn) b k

theorem TagFrame.coreFrame (h : TagFrame b s t) (k : Nat) : CoreFrame b k s t :=
  ⟨congrArg (fun u : State => { u with bsn := { u.bsn with cores := [] } }) h.view, fun _ _ => by rw [h.bsn], h.word⟩

theorem CoreFrame.refl (s : State) : CoreFrame b k s s := ⟨rfl, fun _ _ => rfl, fun _ _ => rfl⟩

theorem CoreFrame.trans (h : CoreFrame b k s t) (g : CoreFrame b k t u) : CoreFrame b k s u :=
  ⟨g.view.trans h.view, fun j hj => (g.others j hj).trans (h.others j hj), fun a ha => (g.word a ha).trans (h.word a ha)⟩

end

theorem State.setCore_coreFrame (s : State) (b k : Nat) (c : CoreSt) : CoreFrame b k s (s.setCore b k c) :=
  ⟨rfl, fun _ hj => SMap.get_set_ne _ _ _ hj, fun _ _ => rfl⟩

theorem State.modCore_coreFrame (s : State) (b k : Nat) (f : CoreSt → CoreSt) : CoreFrame b k s (s.modCore b k f) :=
  s.setCore_coreFrame b k _

theorem State.core_modCore (s : State) (b k : Nat) (f : CoreSt → CoreSt) : (s.modCore b k f).core b k = f (s.core b k) :=
  s.core_setCore b k _

theorem State.freshFree_tagFrame (s : State) (b : Nat) : TagFrame b s s.freshFree := ⟨rfl, fun _ _ => rfl⟩

theorem State.countBasin_tagFrame (s : State) (b n ev m : Nat) : TagFrame b s (s.countBasin n ev m) :=
  ⟨congrArg (fun u : State => { u with freeCtr := 0 }) (s.countIn_beyondRecords _ ev m), fun _ _ => rfl⟩

theorem State.countSr_tagFrame (s : State) (b n : Nat) (l : List (Rounded × Nat)) : TagFrame b s (s.countSr n l) :=
  (s.countBasin_tagFrame b _ _ _).trans (State.countBasin_tagFrame _ b _ _ _)

theorem State.setWord_tagFrame (s : State) {b a : Nat} (w : Word) (h : tagWord b a = true) : TagFrame b s (s.setWord a w) :=
  ⟨rfl, fun x hx => s.word_setWord_ne w fun e => by rw [e, h] at hx; cases hx⟩

theorem State.put_tagFrame (s : State) {b : Nat} {f : FRef} (v : Nat) (h : tagWord b f.addr = true) : TagFrame b s (s.put f v) :=
  s.setWord_tagFrame _ h

theorem State.settle_tagFrame (s : State) (b : Nat) : TagFrame b s s.settle where
  view := congrArg (fun u : State => { u with freeCtr := 0 }) s.settle_beyondRecords
  word _ ha := s.settle_word (Bool.or_eq_false_iff.1 ha).2

/-! ### Tagging (R269, R270) -/

theorem tagWord_tagstat (b : Nat) : tagWord b (0xa0012c + b * 0x1000) = true := by
  simp [tagWord, Nat.mul_comm]

/-- The eight words of a Basin's tag record `n`. -/
theorem tagWord_record (b : Nat) {n i : Nat} (hn : n < 256) (hi : i < 8) :
    tagWord b (0x06100000 + b * 0x2000 + n * 32 + 4 * i) = true := by
  have low : 0x06100000 + 0x2000 * b ≤ 0x06100000 + b * 0x2000 + n * 32 + 4 * i := by omega
  have high : 0x06100000 + b * 0x2000 + n * 32 + 4 * i < 0x06102000 + 0x2000 * b := by omega
  simp only [tagWord, low, high, decide_true, Bool.and_self, Bool.or_true, Bool.true_or]

theorem State.tagRecord_tagFrame (s : State) (b k : Nat) (f : Follow) (kernel ctx : Nat) (mem : Bool) :
    TagFrame b s (s.tagRecord b k f kernel ctx mem) := by
  have wptr : s.get (F.BASIN_TAGSTAT_WPTR b) < 256 := s.get_lt _
  refine TagFrame.trans ?_ (State.countBasin_tagFrame _ b _ _ _)
  refine TagFrame.trans ?_ (State.put_tagFrame _ _ (tagWord_tagstat b))
  refine (s.freshFree_tagFrame b).trans (TagFrame.foldl _ _ fun t x hx => ?_)
  exact t.setWord_tagFrame _ (tagWord_record b wptr (List.snd_lt_of_mem_zipIdx hx))

theorem State.tagTake_coreFrame (s : State) (b k : Nat) (f : Follow) (kernel ctx : Nat) (awaits mem : Bool) :
    CoreFrame b k s (s.tagTake b k f kernel ctx awaits mem) := by
  unfold State.tagTake
  split
  · exact ((s.put_tagFrame _ (tagWord_tagstat b)).trans (State.countBasin_tagFrame _ b _ _ _)).coreFrame k
  · split
    · exact s.modCore_coreFrame b k _
    · exact (s.tagRecord_tagFrame b k f kernel ctx mem).coreFrame k

theorem State.core_tagTake (s : State) (b k : Nat) (f : Follow) (kernel ctx : Nat) (awaits mem : Bool) :
    ∃ g, (s.tagTake b k f kernel ctx awaits mem).core b k = { s.core b k with follow := g } := by
  unfold State.tagTake
  split
  · exact ⟨_, rfl⟩
  · split
    · exact ⟨_, s.core_modCore b k _⟩
    · exact ⟨_, (s.tagRecord_tagFrame b k f kernel ctx mem).core k⟩

theorem State.tagStep_coreFrame (s : State) (b k : Nat) : CoreFrame b k s (s.tagStep b k).2 := s.setCore_coreFrame b k _

theorem State.core_tagStep (s : State) (b k : Nat) : ∃ l, (s.tagStep b k).2.core b k = { s.core b k with lfsr := l } :=
  ⟨_, s.core_setCore b k _⟩

theorem State.tagIssue_coreFrame (s : State) (b k : Nat) (f : Follow) (kernel ctx : Nat) (awaits mem : Bool) :
    CoreFrame b k s (s.tagIssue b k f kernel ctx awaits mem) := by
  have stepped := s.tagStep_coreFrame b k
  unfold State.tagIssue
  dsimp only
  split
  · exact stepped.trans (State.tagTake_coreFrame _ b k f kernel ctx awaits mem)
  · exact stepped

/-- Tagging changes of a core its LFSR and what it follows, and nothing else. -/
theorem State.core_tagIssue (s : State) (b k : Nat) (f : Follow) (kernel ctx : Nat) (awaits mem : Bool) :
    ∃ l g, (s.tagIssue b k f kernel ctx awaits mem).core b k = { s.core b k with lfsr := l, follow := g } := by
  obtain ⟨l, stepped⟩ := s.core_tagStep b k
  unfold State.tagIssue
  dsimp only
  split
  · obtain ⟨g, taken⟩ := State.core_tagTake (s.tagStep b k).2 b k f kernel ctx awaits mem
    exact ⟨l, g, by rw [taken, stepped]⟩
  · exact ⟨l, _, stepped⟩

/-! ### Issue (R234, R236) -/

/-- An instruction that makes no access completes in `u`, and the core goes on at `pc`; `next` is the address behind it. -/
def InsnRes.completesAt (r : InsnRes) (next : Nat) (u : State) (pc : Nat) : Prop :=
  r = .done_ u 0 ∧ pc = next ∨ r = .goto u pc

/-- An instruction that issues and completes is retired. -/
theorem State.issues.execInsn {s u : State} {b k cls w pc : Nat} {v : Inv} {body : Inv → Nat → InsnRes}
    (h : s.issues b k cls w v) (known : classKnown cls = true) (hbody : (body v w).completesAt ((s.core b k).pc + 8) u pc) :
    s.execInsn b k cls true body = s.retire u b k w v 0 pc := by
  obtain ⟨inv, user, clocked, free, fetched, rfl, -⟩ := h
  have user' : ¬ v.kernel < 0x100 := by omega
  obtain ⟨done, rfl⟩ | goes := hbody
  · simp [State.execInsn, State.userInsn, inv, user', clocked, free, fetched, known, done]
  · simp [State.execInsn, State.userInsn, inv, user', clocked, free, fetched, known, goes]

/-- Below BUDGET an issued instruction is counted, and that is all. -/
theorem State.spend_within {s : State} {b k : Nat} (h : (s.core b k).issued + 1 < s.get (F.BASIN_KBUDGET_BUDGET b)) :
    s.spend b k = s.modCore b k fun c => { c with issued := (s.core b k).issued + 1 } := by
  unfold State.spend
  exact if_neg (by omega)

/-- BUDGET is no word of tagging. -/
theorem tagWord_budget {b : Nat} (hb : b < 50) : tagWord b (F.BASIN_KBUDGET_BUDGET b).addr = false := by
  have stat : ¬ 0xa00110 + b * 0x1000 = 0xa0012c + 0x1000 * b := by omega
  have records : ¬ 0x06100000 + 0x2000 * b ≤ 0xa00110 + b * 0x1000 := by omega
  have pba : ¬ 0xe08800 ≤ 0xa00110 + b * 0x1000 := by omega
  simp [tagWord, F.BASIN_KBUDGET_BUDGET, stat, records, pba]

/-- What the body of a compute instruction leaves: core `k` of Basin `b` is `c`, which runs on as before. -/
structure Computes (b k : Nat) (c : CoreSt) (s u : State) : Prop where
  frame : CoreFrame b k s u
  core : u.core b k = c
  inv : c.inv = (s.core b k).inv
  issued : c.issued = (s.core b k).issued

/-- An instruction that is retired within BUDGET leaves its core as its body does, but for the pc, the count and tagging. -/
theorem Computes.retire {s u : State} {b k cls w : Nat} {v : Inv} {c : CoreSt} (h : Computes b k c s u) (hb : b < 50)
    (hi : s.issues b k cls w v) (pc : Nat) : CoreFrame b k s (s.retire u b k w v 0 pc) ∧
      ∃ l f, (s.retire u b k w v 0 pc).core b k
        = { c with pc := pc, issued := (s.core b k).issued + 1, lfsr := l, follow := f } := by
  obtain ⟨hinv, -, -, -, -, -, budget⟩ := hi
  unfold State.retire
  dsimp only
  generalize (⟨iClass w, iOp w, (s.core b k).pc, 0, (s.core b k).nextTag⟩ : Follow) = f
  generalize ((s.core b k).nextTag != (u.core b k).nextTag) = awaits
  have frame := h.frame.trans (u.tagIssue_coreFrame b k f v.kernel v.ctx awaits (0 != 0))
  obtain ⟨l, g, tagged⟩ := u.core_tagIssue b k f v.kernel v.ctx awaits (0 != 0)
  generalize u.tagIssue b k f v.kernel v.ctx awaits (0 != 0) = t at frame tagged ⊢
  rw [h.core] at tagged
  have count : (t.core b k).issued = (s.core b k).issued := by rw [tagged]; exact h.issued
  have runs : (t.core b k).inv.isSome = true := by rw [tagged]; exact Option.isSome_iff_exists.2 ⟨v, h.inv.trans hinv⟩
  rw [State.spend_within (by rw [count, State.get_congr (frame.word _ (tagWord_budget hb))]; exact budget)]
  refine ⟨(frame.trans (t.modCore_coreFrame b k _)).trans (State.modCore_coreFrame _ b k _), l, g, ?_⟩
  rw [State.core_modCore, State.core_modCore, if_pos runs, count, tagged]

/-- A compute instruction completes: its core is as the body leaves it and goes on at `pc`. -/
theorem Computes.completes {mk : Instr} {s u : State} {b k cls w pc : Nat} {v : Inv} {body : Inv → Nat → InsnRes} {c : CoreSt}
    (h : Computes b k c s u) (hb : b < 50) (hs : s.stopped = false) (hi : s.issues b k cls w v) (known : classKnown cls = true)
    (hexec : exec mk s = finish s (s.execInsn b k cls true body))
    (hbody : (body v w).completesAt ((s.core b k).pc + 8) u pc) {Q : State → Prop} (hQ : ∀ t, CoreAfter s t b k c pc → Q t) :
    Completes mk s Q := by
  obtain ⟨frame, l, f, core⟩ := h.retire hb hi pc
  rw [hi.execInsn known hbody] at hexec
  generalize s.retire u b k w v 0 pc = r at hexec frame core
  have settled := frame.trans ((r.settle_tagFrame b).coreFrame k)
  have kept := State.eq_of_beyondCores settled.view
  refine ⟨_, hexec.trans (finish_running hs r), hQ _ ⟨⟨l, f, ?_⟩, ⟨r.settle.bsn.cores, r.settle.bar, r.settle.obs,
    r.settle.setNow, r.settle.freeCtr, ?_⟩, settled.others, settled.word⟩⟩
  · exact ((r.settle_tagFrame b).core k).trans core
  · generalize r.settle = x at kept
    rw [kept]

/-! ### Registers (R227, R236) -/

/-- Lane `i` of bytes put together, least significant first, is byte `i`. -/
theorem laneOf_leNat (l : List Byte) (i : Nat) : laneOf 8 (leNat l) i = (l.getD i 0#8).toNat := by
  induction l generalizing i with
  | nil => simp [leNat, laneOf]
  | cons x l ih =>
    have byte := x.isLt
    cases i with
    | zero =>
      simp only [leNat, laneOf, List.getD_cons_zero]
      omega
    | succ i =>
      have above : leNat (x :: l) / 2 ^ (8 * (i + 1)) = leNat l / 2 ^ (8 * i) := by
        rw [Nat.mul_succ, Nat.add_comm, pow_add, ← Nat.div_div_eq_div_mul]
        congr 1
        simp only [leNat]
        omega
      rw [List.getD_cons_succ, ← ih i]
      unfold laneOf
      rw [above]

/-- Merging takes byte lane `i` of the new value where the mask says so, else of the old (R236). -/
theorem laneOf_mergeBytes (mask old new i : Nat) (hi : i < 64) :
    laneOf 8 (mergeBytes mask old new) i = laneOf 8 (if nbit mask i = 1 then new else old) i := by
  unfold mergeBytes
  rw [laneOf_leNat, List.getD_eq_getElem _ _ (by simpa using hi), List.getElem_map, List.getElem_range, BitVec.toNat_ofNat]
  rfl

/-- Between `c` and `d` only registers differ: the core runs what it ran, and has issued as much. -/
structure CoreSt.Runs (c d : CoreSt) : Prop where
  inv : d.inv = c.inv
  issued : d.issued = c.issued

theorem CoreSt.Runs.trans {c d e : CoreSt} (h : c.Runs d) (g : d.Runs e) : c.Runs e :=
  ⟨g.inv.trans h.inv, g.issued.trans h.issued⟩

theorem CoreSt.runs_setSM (c : CoreSt) (r v sat nan : Nat) : c.Runs (c.setSM r v sat nan) := by
  unfold CoreSt.setSM
  split <;> exact ⟨rfl, rfl⟩

theorem CoreSt.runs_setS (c : CoreSt) (r v : Nat) : c.Runs (c.setS r v) := c.runs_setSM r v 0 0

theorem CoreSt.runs_setK (c : CoreSt) (r v : Nat) : c.Runs (c.setK r v) := ⟨rfl, rfl⟩

theorem CoreSt.runs_setMark (c : CoreSt) (r kind mask m : Nat) : c.Runs (c.setMark r kind mask m) := ⟨rfl, rfl⟩

theorem CoreSt.runs_setVM (c : CoreSt) (r mask v sat nan : Nat) : c.Runs (c.setVM r mask v sat nan) := by
  unfold CoreSt.setVM
  generalize mergeBytes mask (c.vreg r) v = x
  have written : c.Runs { c with v := SMap.set (fun _ => 0) c.v r x } := ⟨rfl, rfl⟩
  exact (written.trans (CoreSt.runs_setMark _ _ _ _ _)).trans (CoreSt.runs_setMark _ _ _ _ _)

theorem CoreSt.runs_setKV (c : CoreSt) (p : Bool) (k x r mask v : Nat) : c.Runs (if p then c.setK k x else c.setV r mask v) := by
  split
  · exact c.runs_setK k x
  · exact c.runs_setVM r mask v 0 0

theorem CoreSt.runs_cvtWrite (c : CoreSt) (w sf df blk : Nat) (xs : List Num) (sr : Bool) (draw : Nat → Nat) (ovf : Bool) :
    c.Runs (c.cvtWrite w sf df blk xs sr draw ovf).1 := by
  unfold CoreSt.cvtWrite
  dsimp only
  split
  · exact (c.runs_setVM _ _ _ _ _).trans (CoreSt.runs_setS _ _ _)
  · exact c.runs_setVM _ _ _ _ _

/-! ### The bodies of compute instructions (R237 to R242) -/

namespace Computes

variable {b k : Nat} {c : CoreSt} {s u : State}

theorem refl (s : State) : Computes b k (s.core b k) s s := ⟨.refl s, rfl, rfl, rfl⟩

theorem setCore (h : (s.core b k).Runs c) : Computes b k c s (s.setCore b k c) :=
  ⟨s.setCore_coreFrame b k c, s.core_setCore b k c, h.inv, h.issued⟩

/-- An operation that draws a free value. -/
theorem draws (h : (s.core b k).Runs c) : Computes b k c s (s.freshFree.setCore b k c) :=
  ⟨((s.freshFree_tagFrame b).coreFrame k).trans (State.setCore_coreFrame _ b k c), State.core_setCore _ b k c, h.inv, h.issued⟩

theorem countSr (h : Computes b k c s u) (l : List (Rounded × Nat)) : Computes b k c s (u.countSr b l) :=
  have counted := u.countSr_tagFrame b b l
  ⟨h.frame.trans (counted.coreFrame k), (counted.core k).trans h.core, h.inv, h.issued⟩

end Computes

/-- A branch that a condition decides goes to its target, or on behind itself. -/
theorem completesAt_ite {p : Prop} [Decidable p] (s : State) (target next : Nat) :
    (if p then InsnRes.goto s target else .done_ s 0).completesAt next s (if p then target else next) := by
  split
  · exact .inr rfl
  · exact .inl ⟨rfl, rfl⟩

/-- Settles O32: each body writes its core as the statement says, and issuing it does the rest. -/
theorem coresExecuteComputeInstructions : Obligations.CoresExecuteComputeInstructions := by
  unfold Obligations.CoresExecuteComputeInstructions
  refine ⟨fun mask old new i hi => laneOf_mergeBytes mask old new i hi, fun b k =>
    ⟨fun o imm w v s hs hi => ?bin, fun w v s hs hi => ?not_, fun w v s hs hi => ?movi, fun o w v s hs hi => ?vfp,
      fun o w v s hs hi => ?vint, fun w v s hs hi => ?vcvt, fun o w v s hs hi => ?vperm, fun w v s hs hi => ?jump,
      fun w v s hs hi => ?ifZero, fun w v s hs hi => ?ifNonzero, fun w v s hs hi => ?call, fun w v s hs hi => ?back⟩⟩
  case bin =>
    exact (Computes.draws (CoreSt.runs_setS _ _ _)).completes b.isLt hs hi rfl rfl (.inl ⟨rfl, rfl⟩)
      fun t after => ⟨_, ⟨(Config.freeBits s.freeCtr 0).toNat, rfl⟩, after⟩
  case not_ | movi =>
    exact (Computes.draws (CoreSt.runs_setS _ _ _)).completes b.isLt hs hi rfl rfl (.inl ⟨rfl, rfl⟩)
      fun t after => ⟨_, rfl, after⟩
  case vfp =>
    exact (Computes.setCore (CoreSt.runs_setKV _ _ _ _ _ _ _)).completes b.isLt hs hi rfl rfl (.inl ⟨rfl, rfl⟩)
      fun t after => ⟨_, rfl, after⟩
  case vint =>
    exact (Computes.draws (CoreSt.runs_setKV _ _ _ _ _ _ _)).completes b.isLt hs hi rfl rfl (.inl ⟨rfl, rfl⟩)
      fun t after => ⟨_, ⟨fun i => (Config.freeBits s.freeCtr i).toNat, rfl⟩, after⟩
  case vcvt =>
    intro c sf df blk reserved hsf hdf
    have legal : ¬ (nfield (iExt w) 3 0 ≠ 0 ∨ 0xa < sf ∨ 0xa < df) := by omega
    refine ⟨fun same => ?_, fun differ room => ?_⟩
    · have copies : s.vcvtBody b k w = _ := (if_neg legal).trans (if_pos same)
      exact (Computes.setCore (CoreSt.runs_setVM _ _ _ _ _ _)).completes b.isLt hs hi rfl rfl (.inl ⟨copies, rfl⟩)
        fun t after => after
    · have converts : s.vcvtBody b k w = _ := (if_neg legal).trans ((if_neg differ).trans (if_neg (Nat.not_le.2 room)))
      exact ((Computes.setCore (CoreSt.runs_cvtWrite _ _ _ _ _ _ _ _ _)).countSr _).completes b.isLt hs hi rfl rfl
        (.inl ⟨converts, rfl⟩) fun t after => after
  case vperm =>
    cases o with
    | extract =>
      exact (Computes.setCore (CoreSt.runs_setSM _ _ _ _ _)).completes b.isLt hs hi rfl rfl (.inl ⟨rfl, rfl⟩)
        fun t after => ⟨_, rfl, after⟩
    | permute =>
      -- The body lists the indices once; the statement asks for each lane's own.
      refine (Computes.setCore (CoreSt.runs_setVM _ _ _ _ _ _)).completes b.isLt hs hi rfl rfl (.inl ⟨rfl, rfl⟩)
        fun t after => ⟨_, ?_, after⟩
      simp only [List.map_map]
      rfl
    | broadcast | insert | hadd | hmin =>
      exact (Computes.setCore (CoreSt.runs_setVM _ _ _ _ _ _)).completes b.isLt hs hi rfl rfl (.inl ⟨rfl, rfl⟩)
        fun t after => ⟨_, rfl, after⟩
  case jump | back => exact (Computes.refl s).completes b.isLt hs hi rfl rfl (.inr rfl) fun t after => after
  case ifZero | ifNonzero =>
    exact (Computes.refl s).completes b.isLt hs hi rfl rfl (completesAt_ite s _ _) fun t after => after
  case call =>
    exact (Computes.setCore (CoreSt.runs_setS _ _ _)).completes b.isLt hs hi rfl rfl (.inr rfl) fun t after => after

end Sys2Proof.Machine
